-- ==== Sys2Proof/Word.lean ====
section
/-! DEFINITION. Word.lean: the machine word, the byte and the sparse maps, as types only. -/

namespace Sys2Proof

/-- A parameter word (R8: every parameter is 32 bits). -/
abbrev Word := BitVec 32

/-- A byte of engine memory. -/
abbrev Byte := BitVec 8

/-- A sparse map from parameter addresses to words, addresses strictly rising. -/
abbrev PMap := List (Nat × Word)

end Sys2Proof
end

