-- ==== Sys2Proof/Syntax.lean ====
section
/-! DEFINITION. Syntax.lean: the commands of the block, one constructor per row of the opcode table, and their operand
types. -/

namespace Sys2Proof

/-- The two masters (ch. 04): the SPI port and the Spine host port. -/
inductive Master where
  | spi | host
  deriving DecidableEq, Repr, Inhabited

/-- How a control request arrives. An SPI frame brings the SCK rising edges counted, the CRC-8 byte received (R137,
R138), and how many core clocks have passed since CS_N fell (R143, R252); a CTRL packet brings its tag (R170). -/
inductive Via where
  | spi (sck : Nat) (crc : Byte) (early : Nat)
  | ctrl (tag : Byte)
  deriving DecidableEq, Repr, Inhabited

/-- One control request: address field and data field (R138, R170). -/
structure Req where
  via  : Via
  addr : BitVec 16 := 0
  data : Word := 0
  deriving DecidableEq, Repr, Inhabited

/-- One slice's trim coefficients (R305, R315): o_n in 1/64 raw LSB, g_n in 2^-20, tau_n in 2^-16 of the slice clock
period. -/
structure Coef where
  o : Int := 0
  g : Int := 0
  t : Int := 0
  deriving DecidableEq, Repr, Inhabited

/-- What the rail monitors saw in a beat interval (R104, R117): for each rail the latest and the lowest sample, in mV. -/
structure RailObs where
  rail : Fin 9
  mv   : Nat
  low  : Nat
  deriving DecidableEq, Repr, Inhabited

/-- What the outside supplies at a beat: rail samples of the closing interval (R104, R117); the slices' reference current check
of R362; the expert addresses whose recomputation cannot complete (R763); the masters whose sealed commit or staging area holds an
uncorrectable error (R762); whether a certificate annex that a landing `CAL.SEAL` reads holds an uncorrectable word (R696);
the teller channels whose held slip reads with one (R507); the offsets of Vault words that an insert read in step 2 finds uncorrectable
(R216); the symbols that the FEC corrected in the interval, by port and lane (R544, R856); the words that DDR5 and Vault reads
corrected in it (R248, R467); the outputs clamped in it with no quire running (R426); and, where a calibration measurement ends at this
boundary, each slice's averaged result with its standard error, both 0 for a slice not listed (R297, R298). (DESIGN CHOICE, log 99) -/
structure BeatObs where
  rails     : List RailObs := []
  mintBias  : Bool := false
  recompBad : List Nat := []
  badStage  : List Master := []
  annexBad  : Bool := false
  slipBad   : List (Fin 16) := []
  symbols   : List (Fin 3 × Fin 4 × Nat) := []
  ddrFixed  : Nat := 0
  vaultBad  : List Nat := []
  vaultFixed : Nat := 0
  clamped   : Nat := 0
  measured  : List (Fin 256 × Int × Nat) := []
  deriving DecidableEq, Repr, Inhabited

/-- One sample seen by the trigger (R369, R383): input k (0 for IN1), its sample number d, the trimmed samples y(d+1), y(d), y(d-1), ... in
that order, and those that follow, y(d+2), y(d+3), ... Or one AUX comparator transition (R376, R387): the differential voltage in pV
that the pair then sees, and the instant in core clocks of this beat interval or of the one before, and 1/1,024 core clock.
(DESIGN CHOICE, log 99) (DESIGN CHOICE, log 39) -/
inductive Obs where
  | sample (k : Fin 4) (d : Nat) (ys : List Int) (ahead : List Int)
  | aux (v : Int) (before : Bool) (clk : Nat) (frac : Fin 1024)
  deriving DecidableEq, Repr, Inhabited

/-- The measured figures of one slice in a foreground calibration (R299). (DESIGN CHOICE, log 99) -/
structure SliceObs where
  n     : Fin 256
  ofs   : BitVec 16 := 0
  gain  : BitVec 16 := 0
  noise : BitVec 8 := 0
  lin   : BitVec 8 := 0
  deriving DecidableEq, Repr, Inhabited

/-- What the estimator found at a block end (ch. 09, Estimation in blocks): coefficients by slice, pilot words by input, and the mean
square of each input's trimmed samples, in 2^-16 of a squared slice code (R314). (DESIGN CHOICE, log 35) (DESIGN CHOICE, log 99) -/
structure BlockObs where
  coefs : List (Fin 256 × Coef) := []
  pamp  : Vector Word 4 := Vector.replicate 4 0
  ms    : Vector Nat 4 := Vector.replicate 4 0
  deriving DecidableEq, Repr, Inhabited

/-- What DDR5 training found (R463, R465): the failing step and subchannels, if it failed, and the words of
`QRE.TRN_s_w` its steps gave, by subchannel and word. (DESIGN CHOICE, log 99) -/
structure TrainObs where
  fail  : Option (Nat × BitVec 4) := none
  words : List (Fin 4 × Fin 15 × Word) := []
  deriving DecidableEq, Repr, Inhabited

/-- How a Volume message arrives (R713): the port (1 east, 2 west), its origin and target positions, and whether it is a
broadcast. -/
structure VMsg where
  port   : Fin 3
  origin : Fin 8
  target : Fin 8 := 0
  bcast  : Bool := false
  deriving DecidableEq, Repr, Inhabited

/-- A training frame on one lane (R548): the lane, whether its polarity is inverted, and its request and status words.
(DESIGN CHOICE, log 99) -/
structure FrameObs where
  lane     : Fin 4
  inverted : Bool := false
  request  : Word := 0
  status   : Word := 0
  deriving DecidableEq, Repr, Inhabited

/-- The fields of a HELLO flit (R552). -/
structure HelloObs where
  version : Byte := 1
  part    : BitVec 16
  build   : BitVec 16
  role    : Byte
  pos     : Byte := 0
  p       : BitVec 16
  n       : BitVec 16
  c       : BitVec 16
  serial  : BitVec 64 := 0
  deriving DecidableEq, Repr, Inhabited

/-- What the engine reads from a DisplayPort sink on connection (R625, R626): maximum lanes, maximum link rate code (as
`DSP.DPSTAT`[3:2]), DPCD 0x00007 bit 6, EDID blocks read, the modes the EDID declares and its minimum vertical rate.
(DESIGN CHOICE, log 99) -/
structure SinkObs where
  lanes     : Nat
  maxRate   : Nat
  ignoreMsa : Bool := false
  edid      : BitVec 3 := 0
  modes     : BitVec 8 := 0
  minRate   : BitVec 8 := 0
  deriving DecidableEq, Repr, Inhabited

/-- What the end of an Assay conversion supplies: its nominal value u (ch. 20, Requests), and for a chain conversion at the
Mint the number of the first trimmed sample in its integration interval and how many lie in it (R685), and whether one has clipped since
the conversion before (R690 cause 13). (DESIGN CHOICE, log 99) -/
structure ConvObs where
  u    : Int
  first : Int := 0
  count : Nat := 0
  clip : Bool := false
  deriving DecidableEq, Repr, Inhabited

/-- How a Vault operation ends (R225 check 12, R226, R245): as its checks promise, with a readback that differs, or on an
uncorrectable DDR5 word. -/
inductive VaultEnd where
  | good | readback | uncorrectable
  deriving DecidableEq, Repr, Inhabited

/-- What the end of a Vault operation brings: how it ends, and the Vault words that its reads found uncorrectable (R216).
(DESIGN CHOICE, log 99) -/
structure VaultObs where
  how : VaultEnd := .good
  bad : List Nat := []
  deriving DecidableEq, Repr, Inhabited

/-- What the release of reset brings: the rails listed stand at these voltages in mV, the others at nominal (R100, R130), and the level of
TESTMODE (R800). (DESIGN CHOICE, log 99) -/
structure ReleaseObs where
  rails : List (Fin 9 × Nat) := []
  test  : Bool := false
  deriving DecidableEq, Repr, Inhabited

/-- The input, 0 for IN1, whose comparator changes, and the voltages in pV of its two balls against ground that the comparator then
sees (R281). (DESIGN CHOICE, log 99) -/
structure OverloadObs where
  k : Fin 4
  p : Int
  n : Int
  deriving DecidableEq, Repr, Inhabited

/-- A write acknowledged (R511): by a WRITE_ACK packet, or by the memory controller. -/
inductive AckObs where
  | packet (p : Fin 3) (tag : BitVec 16) (status : BitVec 3)
  | store (c : Fin 16)
  deriving DecidableEq, Repr, Inhabited

/-- The commands of the block: one constructor per row of the opcode table, in its order.
(DESIGN CHOICE, log 97) (DESIGN CHOICE, log 99) -/
inductive Instr where
  /-- `RESET_RELEASE` (R100, R130, R800). -/
  | resetRelease (o : ReleaseObs)
  /-- `BROWNOUT_RESET`: of a Vault program in progress, the first `words` 64-bit words are complete (R101). -/
  | brownoutReset (words : Nat)
  /-- `RESET_N_ASSERT`: as BROWNOUT_RESET, with its own cause (R253, R255). -/
  | resetNAssert (words : Nat)
  /-- `VAULT_READ_IN`: `bad` lists the Vault offsets of words found uncorrectable (R216, R232). -/
  | vaultReadIn (bad : List Nat)
  /-- `READY_RISE` (R251). -/
  | readyRise
  /-- `BASE_CONFIG_TAKE_INTO_USE` (R257). -/
  | baseConfigTakeIntoUse
  /-- `ACQ_READY_RISE` (R263). -/
  | acqReadyRise
  /-- `BEAT` (R15). -/
  | beat (o : BeatObs)
  /-- `NOP` (R145). -/
  | nop (q : Req)
  /-- `READ` (R157). -/
  | read (q : Req)
  /-- `STAGE` (R147). -/
  | stage (q : Req)
  /-- `COMMIT`: `bad`: the staging area holds an uncorrectable error (R148, R762). -/
  | commit (q : Req) (bad : Bool)
  /-- `ABORT` (R150). -/
  | abort (q : Req)
  /-- `INSERT` (R236). -/
  | insert (q : Req)
  /-- `ESC_TAKE` (R192). -/
  | escTake (q : Req)
  /-- `ESC_RENEW` (R194). -/
  | escRenew (q : Req)
  /-- `ESC_GIVE` (R195). -/
  | escGive (q : Req)
  /-- `STATUS` (R153). -/
  | status (q : Req)
  /-- `COMMIT_LAND`: the sealed commit of master k (R176). -/
  | commitLand (k : Master) (o : BeatObs)
  /-- `DEFERRED_RELEASE`: the oldest deferred commit of master k (R180). -/
  | deferredRelease (k : Master) (o : BeatObs)
  /-- `LEASE_EXPIRY`: lock n (R196). -/
  | leaseExpiry (n : Fin 8) (o : BeatObs)
  /-- `PARAM_WRITE`: v lands at address a, written by master k (R9). -/
  | paramWrite (k : Master) (a : BitVec 16) (v : Word)
  /-- `UNPIN`: v lands in `ID.UNPIN` (R42). -/
  | unpin (k : Master) (v : Word)
  /-- `SESSION_RESET_SPI` (R198). -/
  | sessionResetSpi
  /-- `SESSION_RESET_HOST` (R198). -/
  | sessionResetHost
  /-- `WINDOW_READ`: len + 1 words (R166). -/
  | windowRead (len : Fin 16)
  /-- `WINDOW_WRITE`: len + 1 words (R166). -/
  | windowWrite (len : Fin 16)
  /-- `WINDOW_DONE`: `ecc`: the first word whose read met an uncorrectable error (R167). -/
  | windowDone (ecc : Option Nat)
  /-- `QUIRE_BOUND_TAKE_INTO_USE` (R24). -/
  | quireBoundTakeIntoUse
  /-- `TIME_SET_REQUEST` (R82). -/
  | timeSetRequest
  /-- `TIME_ACTION_CANCEL` (R84). -/
  | timeActionCancel
  /-- `TIME_STEP_REQUEST`: v in ns, signed (R83). -/
  | timeStepRequest (v : Word)
  /-- `TIME_STEP` (R83). -/
  | timeStep
  /-- `RELOCK_RETRY` (R69). -/
  | relockRetry
  /-- `REF_LOST`: a missing edge, or excess phase error (R52). -/
  | refLost (phase : Bool)
  /-- `QUALIFICATION_WINDOW_END`: whether an edge was missing, and the nominal frequency met over the window, 100 MHz or not
(R869). -/
  | qualificationWindowEnd (missing : Bool) (met : Option Bool)
  /-- `REF_LOCKED` (R55). -/
  | refLocked
  /-- `REF_ABSENT` (R54). -/
  | refAbsent
  /-- `CORE_PLL_UNLOCK` (R57). -/
  | corePllUnlock
  /-- `CORE_PLL_LOCK` (R59). -/
  | corePllLock
  /-- `CORE_RELOCK_SWITCHBACK` (R59). -/
  | coreRelockSwitchback
  /-- `RELOCK_FAIL`: a core relock, or a synthesizer relock (R69). -/
  | relockFail (core : Bool)
  /-- `SYNTH_UNLOCK` (R68). -/
  | synthUnlock
  /-- `SYNTH_LOCK` (R67). -/
  | synthLock
  /-- `SLICE_CLOCK_RESTART` (R67). -/
  | sliceClockRestart
  /-- `PPS_EDGE` (R80). -/
  | ppsEdge
  /-- `SHED_ENTER`: the last samples of rail r in mV, newest first (R104, R109). -/
  | shedEnter (r : Fin 9) (samples : List Nat)
  /-- `SHED_EXIT` (R117). -/
  | shedExit
  /-- `PWR_RECOVER` (R119). -/
  | pwrRecover
  /-- `PWR_DOMEN_WRITE`: v written by master k (R93). -/
  | pwrDomenWrite (k : Master) (v : Word)
  /-- `DOMAIN_USABLE`: domain d, in the order of `PWR.DOMEN` (R94). -/
  | domainUsable (d : Fin 8)
  /-- `RAIL_RETURN` (R131). -/
  | railReturn
  /-- `DDR5_TRAINING_START` (R258). -/
  | ddr5TrainingStart
  /-- `DDR5_TRAINING_END` (R465). -/
  | ddr5TrainingEnd (o : TrainObs)
  /-- `QRE_MEMRETRAIN` (R463). -/
  | qreMemretrain
  /-- `FOREGROUND_CAL_START` (R260). -/
  | foregroundCalStart
  /-- `FOREGROUND_CAL_END`: the measured figures; a slice not listed measured zero (R299). -/
  | foregroundCalEnd (obs : List SliceObs)
  /-- `OVERLOAD_FIRE` (R281). -/
  | overloadFire (o : OverloadObs)
  /-- `OVERLOAD_END`: input k, 0 for IN1 (R282). -/
  | overloadEnd (k : Fin 4)
  /-- `SETTLING_END` (R285). -/
  | settlingEnd
  /-- `MODE_CHANGE_CLOCK_RESTART` (R291). -/
  | modeChangeClockRestart
  /-- `TRIM_BLOCK_END` (R313). -/
  | trimBlockEnd (o : BlockObs)
  /-- `TRIM_EPOCH_LAND` (R319). -/
  | trimEpochLand (o : BeatObs)
  /-- `TRIM_GAP_OPEN` (R322). -/
  | trimGapOpen
  /-- `MINT_APPLY` (R336). -/
  | mintApply
  /-- `SPAN_CHANGE_HOLD_END` (R348). -/
  | spanChangeHoldEnd
  /-- `SPAN_CHANGE_CODE` (R348). -/
  | spanChangeCode
  /-- `PLAYBACK_LOAD_DONE`: `bad`: an uncorrectable word was read (R345). -/
  | playbackLoadDone (bad : Bool)
  /-- `PLAYBACK_START` (R346). -/
  | playbackStart
  /-- `PLAYBACK_ADVANCE` (R346). -/
  | playbackAdvance
  /-- `MINT_COMPLY`: the points out of range, as `MNT.COMPLY`[3:1] (R359). -/
  | mintComply (points : BitVec 3)
  /-- `MINT_DISCONNECT` (R360). -/
  | mintDisconnect
  /-- `MNT_COMPLY_CLEAR`: v written (R363). -/
  | mntComplyClear (v : Word)
  /-- `MNT_FAULT_CLEAR`: v written (R363). -/
  | mntFaultClear (v : Word)
  /-- `AUX_HOLD_END` (R377). -/
  | auxHoldEnd
  /-- `CLEARING_ROUND`: what the trigger saw in one core clock (R388, R401). -/
  | clearingRound (obs : List Obs)
  /-- `RATE_CREDIT` (R416). -/
  | rateCredit
  /-- `DEC_FIRDEF`: the sets named (R429). -/
  | decFirdef (v : BitVec 4)
  /-- `QRE_ARM` (R447). -/
  | qreArm
  /-- `PENDING_ARM` (R447). -/
  | pendingArm
  /-- `QRE_STOP` (R450). -/
  | qreStop
  /-- `QRE_FINISH` (R450). -/
  | qreFinish
  /-- `QRE_RELEASE`: v written (R456). -/
  | qreRelease (v : Word)
  /-- `FOLIO_END` (R451). -/
  | folioEnd
  /-- `FOLIO_HEADER_WRITE` (R453). -/
  | folioHeaderWrite
  /-- `QRE_OVERFLOW`: grid samples of the open folio that the buffer kept (R473). -/
  | qreOverflow (held : Nat)
  /-- `DDR5_REFRESH`: MR4 asks for the doubled rate (R466). -/
  | ddr5Refresh (fast : Bool)
  /-- `PRECHARGE_POWER_DOWN`: subchannel c (R468). -/
  | prechargePowerDown (c : Fin 4)
  /-- `SELF_REFRESH_ENTER` (R470). -/
  | selfRefreshEnter
  /-- `SELF_REFRESH_EXIT` (R470). -/
  | selfRefreshExit
  /-- `LEDGER_TAKE`: uncorrectable words met: in the slot, and in the Ledger SRAM (R482). -/
  | ledgerTake (bad : Bool) (ecc : Option Nat)
  /-- `LEDGER_FOLIO_DONE`: an uncorrectable word met in the Ledger SRAM (R484). -/
  | ledgerFolioDone (ecc : Option Nat)
  /-- `LDG_CLOSE` (R485). -/
  | ldgClose
  /-- `LDG_FREE`: the pages named (R487). -/
  | ldgFree (v : BitVec 2)
  /-- `PAGE_CLEAR_DONE`: page p (R487). -/
  | pageClearDone (p : Fin 2)
  /-- `DECAY_PASS` (R495). -/
  | decayPass
  /-- `DECAY_PASS_END` (R495). -/
  | decayPassEnd
  /-- `LDG_HCLEAR` (R496). -/
  | ldgHclear
  /-- `HISTOGRAM_CLEAR_DONE` (R496). -/
  | histogramClearDone
  /-- `TELLER_GO`: channel c (R505). -/
  | tellerGo (c : Fin 16)
  /-- `TELLER_ABORT`: channel c (R531). -/
  | tellerAbort (c : Fin 16)
  /-- `SLIP_FETCH`: `bad`: a word of the slip is uncorrectable (R506, R467). -/
  | slipFetch (c : Fin 16) (bad : Bool)
  /-- `HOLD_REREAD`: `bad`: a word of the slip is uncorrectable (R507). -/
  | holdReread (c : Fin 16) (bad : Bool)
  /-- `FOLIO_CLAIM`: channel c (R514). -/
  | folioClaim (c : Fin 16)
  /-- `TELLER_WRITE_ISSUE`: `bad`: a source word is uncorrectable (R509, R513). -/
  | tellerWriteIssue (bad : Bool)
  /-- `WRITE_ACK` (R511). -/
  | writeAck (a : AckObs)
  /-- `TELLER_TIMEOUT`: channel c (R512). -/
  | tellerTimeout (c : Fin 16)
  /-- `SLIP_POSTED`: channel c (R527). -/
  | slipPosted (c : Fin 16)
  /-- `TRAINING_START`: port p: 0 host, 1 east, 2 west (R268). -/
  | trainingStart (p : Fin 3)
  /-- `TRAINING_FRAME` (R548). -/
  | trainingFrame (p : Fin 3) (f : FrameObs)
  /-- `TRAINING_STEP_FAIL` (R551). -/
  | trainingStepFail (p : Fin 3)
  /-- `TRAINING_RESTART` (R551). -/
  | trainingRestart (p : Fin 3)
  /-- `SPN_NOPARTNER` (R550). -/
  | spnNopartner (p : Fin 3)
  /-- `HELLO` (R554). -/
  | hello (p : Fin 3) (h : HelloObs)
  /-- `SYNC`: the flit's fields, and the instants of leaving and detection in 2^-48 s (R717). -/
  | sync (p : Fin 3) (echo : Bool) (count : BitVec 64) (time : BitVec 96) (sent : Int) (seen : Int)
  /-- `IDLE` (R545). -/
  | idle (p : Fin 3)
  /-- `ALIGN`: the lanes' skews in 1/8 ns (R546). -/
  | align (p : Fin 3) (skews : Vector Byte 4)
  /-- `ALIGN_MISSING` (R546). -/
  | alignMissing (p : Fin 3)
  /-- `CREDIT`: cumulative counts by class (R568). -/
  | credit (p : Fin 3) (fp : BitVec 16) (fn : BitVec 16) (fc : BitVec 16)
  /-- `LINKACK` (R565). -/
  | linkack (p : Fin 3) (nak : Bool) (next : BitVec 12)
  /-- `DOWN` (R575). -/
  | down (p : Fin 3)
  /-- `WRITE` (R569). -/
  | write (p : Fin 3) (tag : BitVec 16) (addr : BitVec 64) (data : List Byte)
  /-- `READ_REQ`: n bytes; `ecc`: the first byte read of a word that is uncorrectable (R570). -/
  | readReq (p : Fin 3) (tag : BitVec 16) (addr : BitVec 64) (n : Nat) (ecc : Option Nat)
  /-- `FOLIO` (R594). -/
  | folio (p : Fin 3) (tag : BitVec 16) (data : List Byte) (first : Bool) (last : Bool)
  /-- `KEY_REQUEST` (R590). -/
  | keyRequest (p : Fin 3) (qid : Word)
  /-- `UNCORRECTABLE_CODEWORD` (R544). -/
  | uncorrectableCodeword (p : Fin 3)
  /-- `NAK_REPEAT` (R562). -/
  | nakRepeat (p : Fin 3)
  /-- `REPLAY_TIMEOUT` (R565). -/
  | replayTimeout (p : Fin 3)
  /-- `LOSS_OF_SIGNAL`: on one port, or of SPN_REFCLK (R575). -/
  | lossOfSignal (p : Option (Fin 3))
  /-- `RETRAIN_AFTER_DOWN` (R577). -/
  | retrainAfterDown (p : Fin 3)
  /-- `SPN_RETRAIN`: the ports named (R870). -/
  | spnRetrain (v : BitVec 3)
  /-- `SPN_CTL_WRITE`: the value written (R870). -/
  | spnCtlWrite (v : BitVec 3)
  /-- `EVENT_SEND` (R574). -/
  | eventSend
  /-- `SCANOUT_START` (R639). -/
  | scanoutStart
  /-- `VBLANK`: `bad`: a colour map word read is uncorrectable (R616). -/
  | vblank (bad : Bool)
  /-- `FRAME_END` (R628). -/
  | frameEnd
  /-- `N0_START`: as VBLANK (R631). -/
  | n0Start (bad : Bool)
  /-- `FLIP_REQUEST`: v written to `DSP.FB_HI` or `DSP.FB_LO` (R618). -/
  | flipRequest (hi : Bool) (v : Word)
  /-- `DSI_START` (R622). -/
  | dsiStart
  /-- `DSI_START_DONE` (R622). -/
  | dsiStartDone
  /-- `TE_EDGE`: whether the edge stands where the lock wants it (R623). -/
  | teEdge (locked : Bool)
  /-- `DSP_TELOST` (R623). -/
  | dspTelost
  /-- `DP_CONNECT` (R625). -/
  | dpConnect (o : SinkObs)
  /-- `DP_IRQ_HPD`: the link status read shows loss of clock recovery or equalisation (R627). -/
  | dpIrqHpd (lost : Bool)
  /-- `DP_DISCONNECT` (R625). -/
  | dpDisconnect
  /-- `DP_TRAINING_DONE`: none: trained; else the failure cause (R627). -/
  | dpTrainingDone (cause : Option Byte)
  /-- `DSP_DPRETRAIN` (R627). -/
  | dspDpretrain
  /-- `DSP_UNDERRUN`: the address of an uncorrectable word that made it (R637). -/
  | dspUnderrun (ecc : Option Nat)
  /-- `ASSAY_START`: `ASY.CTL` written with bit 0 set, or none where its other conditions come to hold (R676). -/
  | assayStart (v : Option Word)
  /-- `ASSAY_STOP`: `ASY.CTL` written with bit 0 clear (R675). -/
  | assayStop (v : Word)
  /-- `ASSAY_REQUEST`: the accumulators whose source starts (R646). -/
  | assayRequest (js : BitVec 32)
  /-- `PWM_PERIOD_START` (R669). -/
  | pwmPeriodStart
  /-- `PWM_HIGH_END` (R647). -/
  | pwmHighEnd
  /-- `CONVERSION_END`: converter c: 0 SAR1, 1 SAR2, 2 INT (R655). -/
  | conversionEnd (c : Fin 3) (o : ConvObs)
  /-- `ASY_KICK`: the accumulators named (R649). -/
  | asyKick (v : Word)
  /-- `ASY_TRKCLR`: the trackers named (R657). -/
  | asyTrkclr (v : Word)
  /-- `ASY_CFG_WRITE`: v written to `ASY.CFG_j` or `ASY.TIME_j` (R658). -/
  | asyCfgWrite (j : Fin 32) (time : Bool) (v : Word)
  /-- `ASY_CAL_ZERO`: set and k of `ASY.CALCMD` (R661). -/
  | asyCalZero (set : Fin 8) (k : Fin 17)
  /-- `ASY_CAL_FULL`: set and k of `ASY.CALCMD` (R662). -/
  | asyCalFull (set : Fin 8) (k : Fin 17)
  /-- `OPEN_WIRE_CHECK`: external input e (R665). -/
  | openWireCheck (e : Fin 4)
  /-- `OPEN_WIRE_SETTLED` (R665). -/
  | openWireSettled
  /-- `ISO_CTL_WRITE`: the value written (R671). -/
  | isoCtlWrite (v : Word)
  /-- `ISO_STALE` (R672). -/
  | isoStale
  /-- `CAL_RUN`: the value written (R680). -/
  | calRun (v : Word)
  /-- `CAL_POINT_START` (R684). -/
  | calPointStart
  /-- `CAL_SETTLE_END` (R684). -/
  | calSettleEnd
  /-- `CAL_COMPUTE` (R686). -/
  | calCompute
  /-- `CAL_ABORT` (R690). -/
  | calAbort
  /-- `CAL_DRAFTCLR` (R691). -/
  | calDraftclr
  /-- `CAL_SEAL`: `bad`: an annex word is uncorrectable (R696). -/
  | calSeal (slot : Fin 16) (bad : Bool)
  /-- `CERT_SEAL`: `bad`: the readback differs (R697). -/
  | certSeal (bad : Bool)
  /-- `JOIN`: the sender's position and size (R709). -/
  | join (p : Fin 3) (pos : Fin 8) (size : BitVec 4)
  /-- `VTURN`: the count answered and t3 - t2 (R717). -/
  | vturn (p : Fin 3) (count : BitVec 16) (turn : Word)
  /-- `VHOP`: the sender's offset in 2^-42 s, and x + d (R718). -/
  | vhop (p : Fin 3) (theta : BitVec 16) (xd : Word)
  /-- `DIGEST` (R728). -/
  | digest (v : VMsg) (d : Word)
  /-- `ARMREQ` (R732). -/
  | armreq (v : VMsg) (qid : Word)
  /-- `READY` (R733). -/
  | ready (v : VMsg) (bits : BitVec 16) (d : Word)
  /-- `ARMGO`: the positions left out and the arm beat (R735). -/
  | armgo (v : VMsg) (left : BitVec 8) (a : Word)
  /-- `ARMCANCEL` (R734). -/
  | armcancel (v : VMsg) (qid : Word)
  /-- `VTRIG`: folio index and time (R738). -/
  | vtrig (v : VMsg) (idx : BitVec 16) (t : Word)
  /-- `VSTOP` (R741). -/
  | vstop (v : VMsg) (atOnce : Bool) (beat : Word)
  /-- `RCAL` (R725). -/
  | rcal (v : VMsg) (beat : Word)
  /-- `VOLUME_ALIGN`: the west neighbour counts Volume beats (R719, R720). -/
  | volumeAlign (near : Bool)
  /-- `VSYNC_MARK`: the mark's arrival less where it is due (R720). -/
  | vsyncMark (diff : Int)
  /-- `ARM_WAIT_EXPIRY` (R734). -/
  | armWaitExpiry
  /-- `VOLUME_ARM` (R735). -/
  | volumeArm
  /-- `VOLUME_STOP` (R740). -/
  | volumeStop
  /-- `VOL_RINGCAL` (R724). -/
  | volRingcal
  /-- `RING_CAL_ALIGN` (R725). -/
  | ringCalAlign
  /-- `VOL_CONFIG_WRITE`: v written to `VOL.CTL`, `VOL.POS` or `VOL.SIZE` (R712). -/
  | volConfigWrite (r : Fin 3) (v : Word)
  /-- `LOG_RECORD_WRITE` (R753). -/
  | logRecordWrite
  /-- `LOG_TOKEN` (R755). -/
  | logToken
  /-- `FLT_TEST`: the classes named, by master k (R749). -/
  | fltTest (k : Master) (v : BitVec 11)
  /-- `ALERT_CLEAR`: bits written, and the classes raised since the commit was sealed (R746). -/
  | alertClear (v : BitVec 11) (raised : BitVec 11)
  /-- `VAULT_PROGRAM` (R225). -/
  | vaultProgram (kind : Fin 16) (slot : Fin 32)
  /-- `VAULT_ERASE` (R228). -/
  | vaultErase (kind : Fin 16) (slot : Fin 32)
  /-- `VAULT_EXPORT` (R245). -/
  | vaultExport
  /-- `VAULT_OP_DONE` (R227). -/
  | vaultOpDone (o : VaultObs)
  /-- `VAULT_SCRUB_START` (R215). -/
  | vaultScrubStart
  /-- `VLT_SCRUBNOW` (R215). -/
  | vltScrubnow
  /-- `VAULT_SCRUB`: words corrected, and offsets of uncorrectable words (R215). -/
  | vaultScrub (corrected : Nat) (bad : List Nat)
  /-- `POWERED_SECOND` (R214). -/
  | poweredSecond
  /-- `INS_APPLY_REQUEST`: by master k (R236). -/
  | insApplyRequest (k : Master) (slot : Fin 32)
  /-- `INS_REMOVE_REQUEST`: by master k (R236). -/
  | insRemoveRequest (k : Master) (slot : Fin 32)
  /-- `INSERT_APPLY` (R239). -/
  | insertApply (o : BeatObs)
  /-- `INSERT_REMOVE` (R240). -/
  | insertRemove (o : BeatObs)
  /-- `UNDEFINED_OPCODE`: opcode op, 0x0A to 0xFF (R146). -/
  | undefinedOpcode (q : Req) (op : Byte)
  /-- `MALFORMED_PACKET`: the packet's type (R560). -/
  | malformedPacket (p : Fin 3) (type : Byte)
  /-- `DISCARDED_PACKET` (R562). -/
  | discardedPacket (p : Fin 3)
  /-- `IGNORED_CONTROL_FLIT` (R552). -/
  | ignoredControlFlit (p : Fin 3)
  /-- `UNKNOWN_VOLUME_MESSAGE` (R714). -/
  | unknownVolumeMessage (v : VMsg)
  /-- `DETECTOR_CHANGE`: what the trigger saw, reporting no detection (R371). -/
  | detectorChange (obs : List Obs)
  /-- `RX_ADAPTATION_END` (R547). -/
  | rxAdaptationEnd (p : Fin 3)
  deriving DecidableEq, Repr, Inhabited

end Sys2Proof
end

