-- ==== Sys2Proof/Decode.lean ====
section
/-! DEFINITION. Decode.lean: the commands that words spell by the opcode table's bits, and the request that an SPI frame or a CTRL body
spells (R138, R145, R170). -/

namespace Sys2Proof

/-- The command of a request's opcode (R145, R146). -/
def requestCommand (op : Byte) (q : Req) : Instr :=
  match op.toNat with
  | 0x00 => .nop q
  | 0x01 => .read q
  | 0x02 => .stage q
  | 0x03 => .commit q false
  | 0x04 => .abort q
  | 0x05 => .insert q
  | 0x06 => .escTake q
  | 0x07 => .escRenew q
  | 0x08 => .escGive q
  | 0x09 => .status q
  | _ => .undefinedOpcode q op

/-- The command that a request frame of 64 bits spells (R138), received with so many SCK rising edges and CS_N low for so many core
clocks: opcode [63:56], address [55:40], data [39:8], CRC-8 [7:0]. -/
def frameCommand (sck early : Nat) (w : BitVec 64) : Instr :=
  requestCommand (w.extractLsb' 56 8) { via := .spi sck (w.extractLsb' 0 8) early, addr := w.extractLsb' 40 16, data := w.extractLsb' 8 32 }

/-- The command that a CTRL request body spells (R170): tag, opcode, address and data, least significant byte first (R5). -/
def ctrlCommand : List Byte → Option Instr
  | [t, op, a0, a1, d0, d1, d2, d3] => some (requestCommand op { via := .ctrl t, addr := a1 ++ a0, data := d3 ++ d2 ++ d1 ++ d0 })
  | _ => none

/-- The table gives no row any bits: no word spells a command. (DESIGN CHOICE, log 3) -/
def decodeTableWord (_nbits _w : Nat) : Option Instr := none

end Sys2Proof
end

