-- ==== Sys2Proof/Config.lean ====
section
/-! DEFINITION. Config.lean: what the spec leaves open or the model does not hold, as constants with no body. -/

namespace Sys2Proof.Config

/-- FREE VALUE: the factory coefficient of tap t of set s (R429 gives no values; R432 gives their sum and response). -/
opaque factoryTap : Nat → Nat → Word

/-- FREE VALUE: the differential voltage in pV at the balls of an input at the nominal instant of a sample, by the count of slice clock
starts, the input (0 for IN1) and the sample number since that start (R289): the signal. -/
opaque inputVoltage : Nat → Nat → Int → Int

/-- FREE VALUE: the slice code (R278) that a slice delivers after foreground correction, by the slice, the count of slice clock starts, the
sample number and the ideal slice code: the slice's own departure from it, and any code at all in overload (R282). -/
opaque sliceCode : Nat → Nat → Int → Int → BitVec 16

/-- FREE VALUE: the latency tolerance in ns that scan-out reports in a frame (ch. 19 gives no number). -/
opaque scanTolerance : Nat → BitVec 16

/-- FREE VALUE: how many bin updates of the folio in progress the Ledger has done when stage 3 stops it (R497), by quire
and folio index. (DESIGN CHOICE, log 42) -/
opaque binsDone : Word → Nat → Nat

/-- FREE VALUE: the code that a teller interrupt's raise of TELLER leaves in `FLT.LAST` (R530, R745: it has no event
code), by the interrupt. -/
opaque tellerCode : Nat → BitVec 16

/-- FREE VALUE: a colour map entry before any colour map is loaded (R614 gives none). -/
opaque colourMap : Nat → BitVec 32

/-- FREE VALUE: the measurement that `FE.CALSTAT`[8:4] shows once a calibration has ended or been abandoned, by the boundary at which it
started (R303 gives no value then). (DESIGN CHOICE, log 83) -/
opaque measurement : Nat → Nat

/-- FREE VALUE: the 58 bits that the scrambler of a port's transmitter has sent last when its stream starts (R542 gives none), by port.
(DESIGN CHOICE, log 124) -/
opaque scramblerSeed : Nat → BitVec 58

/-- FREE VALUE: bit n of the PRBS13 sequence that a port's training frames carry (R548 gives neither its polynomial nor its start), by
port and lane. (DESIGN CHOICE, log 124) -/
opaque prbsBit : Nat → Nat → Nat → Bool

end Sys2Proof.Config
end

