-- ==== Sys2Proof/Machine/State.lean ====
section
/-! DEFINITION. Machine/State.lean: every piece of state the spec gives the engine, as plain data, and State.reset. -/

namespace Sys2Proof.Machine

/-! ### Outcomes -/

/-- Faults of the block. The spec names no event that stops the engine itself; the one fault keeps the type
inhabited and no meaning raises it (safe: nothing stops). -/
inductive Fault where
  /-- Raised by no meaning: the engine never stops. Safe. -/
  | none
  deriving DecidableEq, Repr, Inhabited

/-- Refusals of the block. -/
inductive Refusal where
  /-- A command whose meaning is not in the model yet, by its mnemonic. Safe: the machine stops. -/
  | notModelled (mnemonic : String)
  deriving DecidableEq, Repr, Inhabited

/-! ### Control plane: sessions, commits, escrow, the SPI port and CTRL responses (ch. 04, 05) -/

/-- A commit result word, `ST.CRES_S` or `ST.CRES_H` (R154). -/
structure CRes where
  code   : BitVec 4 := 0
  busy   : Bool := false
  landed : BitVec 9 := 0
  lost   : BitVec 9 := 0
  deriving DecidableEq, Repr, Inhabited

/-- A sealed commit (R148, R175): its changes, the number of its landing beat, its ordinal among its master's
sealed commits, and the alert classes raised since it was sealed (R746). -/
structure Commit where
  changes : PMap
  landing : Nat
  num     : Nat
  raised  : BitVec 11 := 0
  deriving DecidableEq, Repr, Inhabited

/-- Everything the engine holds for one master (ch. 05, Sessions), with that master's PRT words (R210) and its
read shadows (R87): `shadow` maps a word's address to the value its group's word 0 last copied. `commit` is the sealed commit that has
not reached its landing beat, `due` the one whose landing beat's work is in progress. -/
structure Session where
  staging  : PMap := []
  commit   : Option Commit := none
  due      : Option Commit := none
  count    : Nat := 0
  deferred : List Commit := []
  refused  : BitVec 8 := 0
  cres     : CRes := {}
  land     : Word := 0
  lost     : Word := 0
  disc     : BitVec 16 := 0
  shadow   : PMap := []
  deriving DecidableEq, Repr, Inhabited

/-- The three states of an escrow lock (ch. 05, Escrow locks). -/
inductive LockSt where
  | free | held | forfeit
  deriving DecidableEq, Repr, Inhabited

/-- One escrow lock: `ESC.STAT_n` and `ESC.LEASE_n` (R210). -/
structure Lock where
  st    : LockSt := .free
  owner : Option Master := none
  cause : BitVec 4 := 0
  lease : Nat := 0
  deriving DecidableEq, Repr, Inhabited

/-- The SPI port: what the previous frame left to be answered (R139), the response frame shifted out during the last
frame, the three state bits of R143 at the end of each core clock since that frame, the latest first and equal ones counted together,
and `ST.SPIERR`. -/
structure SpiPort where
  code    : BitVec 4 := 1
  addr    : BitVec 16 := 0
  data    : Word := 0
  sdo     : BitVec 64 := 0
  bits    : List (Nat × BitVec 3) := []
  crcErr  : BitVec 16 := 0
  frmErr  : BitVec 16 := 0
  deriving DecidableEq, Repr, Inhabited

/-- One CTRL response of the Spine host port (R170 to R172). `wait` marks the response of a sealed COMMIT, which
is sent at the end of its landing beat's work, by that boundary's number and the commit's ordinal, and `res` the commit's result so far;
`addr` and `data` are as R139. -/
structure CtrlResp where
  tag  : Byte
  stat : Byte
  addr : BitVec 16
  data : Word
  wait : Option (Nat × Nat) := none
  res  : BitVec 4 := 4
  deriving DecidableEq, Repr, Inhabited

/-- The memory window: `WIN.STAT` and the operation in progress (R165 to R167). -/
structure Win where
  st    : BitVec 2 := 0
  words : BitVec 4 := 0
  cause : BitVec 4 := 0
  write : Bool := false
  addr  : Nat := 0
  len   : Nat := 0
  deriving DecidableEq, Repr, Inhabited

/-- The control plane. `locksStep1` holds the locks as they stood at the end of step 1 of the latest beat work
(R187); `keep` is the keep staging area and `inKeep` whether the SPI port works on it (R115); `ctrlOut` holds the
CTRL responses in arrival order (R171). `basicsLanded` lists the basic parameters written in steps 2 to 4 of the
beat work in progress, each with the master that wrote it, and `unpinned` the addresses that `ID.UNPIN` named
(R839, R42, R207); `restored` the addresses an insert
removal restored from base records (R240); `useRecomp` says that a value R841 names was taken into use since the last step 5,
`digestDue` that a commit landed or a value was taken into use since the last step 9 (R727), and `spiWrote` lists what the SPI
port's commit of the work in progress wrote (R183). -/
structure Ctl where
  spi          : Session := {}
  host         : Session := {}
  locks        : Vector Lock 8 := Vector.replicate 8 {}
  locksStep1   : Vector Lock 8 := Vector.replicate 8 {}
  forfeits     : Word := 0
  port         : SpiPort := {}
  keep         : PMap := []
  inKeep       : Bool := false
  ctrlOut      : List CtrlResp := []
  win          : Win := {}
  basicsLanded : List (Nat × Option Master) := []
  unpinned     : List Nat := []
  restored     : List Nat := []
  useRecomp    : Bool := false
  digestDue    : Bool := false
  spiWrote     : List Nat := []
  deriving DecidableEq, Repr, Inhabited

/-- The parameter space (R8, R9): `landed` lists the addresses whose current value is not their reset value;
`quire` and `frame` list the addresses whose landed value waits for its landing point, each with the value still
in use (R23 to R26); `pins` lists the pinned addresses, rising (R39, R40). `clampAddr` and `clamps` are `ACQ.CLAMP`
(R843). -/
structure Params where
  landed    : PMap := []
  quire     : PMap := []
  frame     : PMap := []
  pins      : List Nat := []
  clampAddr : BitVec 16 := 0
  clamps    : BitVec 16 := 0
  deriving DecidableEq, Repr, Inhabited

/-! ### Timebase (ch. 02) -/

/-- The four states of the reference PLL (ch. 02, Reference states). -/
inductive RefState where
  | freerun | locking | locked | holdover
  deriving DecidableEq, Repr, Inhabited

/-- A relock: in progress or not, whether the lock detector has reported lock, the consecutive failed attempts, and whether an attempt
has failed and the next one starts at the next beat (R59, R67, R69). -/
structure Relock where
  active : Bool := false
  lock   : Bool := false
  fails  : Nat := 0
  again  : Bool := false
  deriving DecidableEq, Repr, Inhabited

/-- The pending time action of R84. -/
inductive TimeAction where
  | set
  | adj (ns : Int)
  deriving DecidableEq, Repr, Inhabited

/-- How time has run from one core clock of the beat interval on (R78, R79): that core clock, time and the phase of REFCLEAN there, and
the clock source. -/
structure Regime where
  clk     : Nat
  mono    : Nat
  phase   : Nat
  holding : Bool
  stopped : Bool
  deriving DecidableEq, Repr, Inhabited

/-- The timebase. `beats` counts the beat boundaries since reset, so that the beat counter (R75) is `beats - 1`;
`clk` is the core clock within the beat interval, 0 to 1,023. Instants are in units of 2^-48 / 5^9 s, in which 1 ns,
2.5 ns and 2^-48 s are whole numbers: `mono` advances as R78 states and is never set, `off` is what time sets, time
steps and Volume alignments added, and the 96-bit time is their sum; `boundary` is `mono` at the latest beat boundary and `regimes`
how time ran in the interval since, the latest clock source first, `earlier` how it ran in the interval before; `win` is the boundary
at which the qualification window in progress starts (R868, R869) and `qualClean` whether it has shown no missing edge;
`refPhase` is the time since the last REFCLEAN edge (R78). `since` is the elapsed time since the previous PPS_IN edge in half nanoseconds
(R80). -/
structure Tim where
  ref        : RefState := .freerun
  everLocked : Bool := false
  ref100     : Bool := false
  holding    : Bool := true
  core       : Relock := {}
  coreCause  : BitVec 2 := 0
  synthAfter : Bool := false
  synth      : Relock := {}
  synthLock  : Bool := false
  exhausted  : Bool := false
  slices     : Bool := false
  ckoParked  : Bool := true
  refStopped : Bool := false
  timeValid  : Bool := false
  action     : Option TimeAction := none
  actBy      : Option Master := none
  ppsValid   : Bool := false
  win        : Option Nat := none
  qualClean  : Bool := false
  absentDone : Bool := false
  beats      : Nat := 0
  clk        : Nat := 0
  mono       : Nat := 0
  off        : Int := 0
  boundary   : Nat := 0
  regimes    : List Regime := []
  earlier    : List Regime := []
  refPhase   : Nat := 0
  since      : Option Nat := none
  ppsCap     : Nat := 0
  ppsCnt     : Word := 0
  ppsBad     : Word := 0
  relocks    : Word := 0
  deriving DecidableEq, Repr, Inhabited

/-! ### Power (ch. 03) -/

/-- A power domain: off, switching on (waiting to become usable) or usable (R94). -/
inductive DomSt where
  | off | switching | usable
  deriving DecidableEq, Repr, Inhabited

/-- One rail monitor: latest sample and, for each master, the lowest sample since its last read (`PWR.RAIL_r`);
for each stage, how many consecutive whole beat intervals (up to 64) the rail has exceeded that stage's recovery
level (R117); the lowest sample of the beat interval in progress; whether it is excluded from shedding because it was absent at
start-up (R130). -/
structure Rail where
  mv     : Nat := 0
  lowS   : Nat := 0
  lowH   : Nat := 0
  above  : Vector Nat 6 := Vector.replicate 6 0
  lowNow : Nat := 0
  absent : Bool := false
  deriving DecidableEq, Repr, Inhabited

/-- The shedding controller. `stage` is the stage in force; `entered` the stages entered since it was last 0, as a
mask; `entryTime` the time at each stage's entry; `low` the lowest sample of each rail since stage 1;
`switchQ` the domains still to be switched on, in the order of R121; `checked` those whose rails have been checked before their first
switch-on, and `heldOff` those that this keeps off (R130, R131). `shedOk` tells the valid entries of the shed record ring, and `record`
is the record being written: its first 22 bytes and those from byte 28 to 59 (R124). -/
structure Pwr where
  stage     : Nat := 0
  hold      : Bool := false
  dom       : Vector DomSt 8 := Vector.ofFn fun i => if i.val < 1 then .usable else if i.val = 1 then .switching else .off
  in34Down  : Bool := false
  rails     : Vector Rail 9 := Vector.replicate 9 {}
  switchQ   : List Nat := []
  cnt       : Word := 0
  lastRail  : BitVec 4 := 0
  lastStage : BitVec 3 := 0
  stgCnt    : Vector Word 6 := Vector.replicate 6 0
  entered   : BitVec 6 := 0
  entryTime : Vector Nat 6 := Vector.replicate 6 0
  low       : Vector Nat 9 := Vector.replicate 9 0
  checked   : BitVec 8 := 0
  heldOff   : BitVec 8 := 0
  shedOk    : BitVec 8 := 0
  record    : Option (List Byte × List Byte) := none
  fromStage6 : Bool := false
  deriving DecidableEq, Repr, Inhabited

/-! ### Start-up (ch. 07) -/

/-- Start-up: in reset or not and the reset cause (R253), whether the engine is in factory test (R800), how far the Vault read-in has
come, the base values read but not yet in use (R257), whether the core has run from the core PLL (R258), whether the base values
are in use, READY and ACQ_READY (`ST.STATE`). -/
structure Boot where
  inReset   : Bool := true
  factory   : Bool := false
  cause     : BitVec 2 := 1
  step4     : Bool := false
  readIn    : Bool := false
  base      : PMap := []
  onPll     : Bool := false
  baseInUse : Bool := false
  ready     : Bool := false
  acqReady  : Bool := false
  deriving DecidableEq, Repr, Inhabited

/-! ### Vault and inserts (ch. 06) -/

/-- One directory copy: whether its CRC-32C holds, its generation count, and for each section that has banks the
active bank (`none`: no valid bank, `some true`: bank B). Section 0 is the base configuration, 1 to 31 the insert
slots, 32 the shedding policy, 33 the Mint power-up code. (DESIGN CHOICE, log 74) -/
structure DirCopy where
  ok     : Bool := true
  gen    : Nat := 0
  active : Vector (Option Bool) 34 := Vector.replicate 34 none
  deriving DecidableEq, Repr, Inhabited

/-- What the Vault holds beside its byte image: the directory copies, the saved powered time and scrub state, the highest epoch sealed (R697),
the factory trims (R213, R214, R215, R856), and the shed record ring's oldest entry (R124). It survives every reset. (DESIGN CHOICE, log 74) (DESIGN CHOICE, log 79) -/
structure Nv where
  dirA     : DirCopy := {}
  dirB     : DirCopy := {}
  powered  : Nat := 0
  corrected : BitVec 16 := 0
  scrubs   : BitVec 16 := 0
  scrubEnd : Nat := 0
  lastEp   : Nat := 0
  segTrim  : Vector (BitVec 8) 63 := Vector.replicate 63 0
  shedNext : Nat := 0
  deriving DecidableEq, Repr, Inhabited

/-- The Vault operation in progress (R224 to R228, R245): its section, its image, or an export's bytes as they stood at its start. -/
inductive VaultOp where
  | program (sec : Nat) (bytes : List Byte)
  | erase (sec : Nat)
  | exporting (dst : Nat) (bytes : List Byte)
  deriving DecidableEq, Repr, Inhabited

/-- One record of the base configuration image (R220). -/
structure BaseRec where
  addr  : Nat
  value : Word
  pin   : Bool
  deriving DecidableEq, Repr, Inhabited

/-- The Vault controller: `VLT.*` (R248) and the values read in (R232). -/
structure Vlt where
  nv       : Nv := {}
  base     : List BaseRec := []
  baseBank : Option Bool := none
  polBank  : Option Bool := none
  mintBank : Option Bool := none
  copyB    : Bool := false
  mintCode : Option (BitVec 14) := none
  slots    : BitVec 32 := 0
  gen      : Word := 0
  st       : BitVec 2 := 0
  lastOp   : BitVec 4 := 0
  cause    : BitVec 8 := 0
  op       : Option VaultOp := none
  len      : Word := 0
  powered  : Nat := 0
  scrubbing : Bool := false
  eccCorr  : BitVec 16 := 0
  eccUnc   : BitVec 16 := 0
  serial   : BitVec 64 := 0
  deriving DecidableEq, Repr, Inhabited

/-- One insert request (R236): apply or remove, slot, requesting master (none for `INS.BOOT`, R235), the number of the beat boundary it
was queued after, and for an INSERT frame or packet the core clock of that interval. -/
structure InsReq where
  apply  : Bool
  slot   : Nat
  master : Option Master
  after  : Nat
  clk    : Option Nat := none
  deriving DecidableEq, Repr, Inhabited

/-- The insert controller: `INS.*` (R248), the request queue and the address list copied into KEEP (R239). -/
structure Ins where
  active  : Nat := 0
  list    : List Nat := []
  queue   : List InsReq := []
  result  : BitVec 4 := 0
  written : BitVec 9 := 0
  skipped : BitVec 9 := 0
  lastBeat : Word := 0
  ops     : Word := 0
  deriving DecidableEq, Repr, Inhabited

/-! ### Alerts and the event log (ch. 23) -/

/-- The three planes (R12). -/
inductive Plane where
  | management | control | data
  deriving DecidableEq, Repr, Inhabited

/-- One event log record, before its CRC-16 (R750). `num` is 0 while the log position is not known (R760);
`cls` is the class its event raised; `inst` tells records of one core clock from those of another (R38). -/
structure LogRec where
  num     : Nat
  plane   : Plane
  origin  : BitVec 2
  holdover : Bool
  valid   : Bool
  code    : BitVec 16
  beat    : Nat
  time    : Nat
  a       : Word
  b       : BitVec 16
  cls     : Option Nat
  inst    : Nat := 0
  deriving DecidableEq, Repr, Inhabited

/-- One EVENT packet waiting on a Spine port (R573, R574). -/
structure EventPkt where
  source : BitVec 8
  code   : BitVec 16
  arg    : Word
  beat   : Nat
  deriving DecidableEq, Repr, Inhabited

/-- Alerts and the event log: `ST.ALERT`, `FLT.*` and `LOG.*` (R744 to R765, R856). `eventSent` marks the classes
whose EVENT of this beat interval is queued (R748); `sinceDrop` counts the records dropped since the last LOG_DROPPED
record (R756). `step` is the step of a beat's work in progress, and 11 after one: events of one instant and step arise in one
core clock (R38). `origin` is the master on whose behalf the engine acts at the moment (R751). -/
structure Flt where
  alert     : BitVec 11 := 0
  lastCode  : BitVec 16 := 0
  lastClass : BitVec 4 := 0
  count     : Vector Word 11 := Vector.replicate 11 0
  lastBeat  : Vector Word 11 := Vector.replicate 11 0
  lastSeq   : Vector Word 11 := Vector.replicate 11 0
  eventSent : BitVec 11 := 0
  queue     : List LogRec := []
  tokens    : Nat := 2000
  found     : Bool := false
  next      : Nat := 1
  written   : Nat := 0
  dropped   : Word := 0
  sinceDrop : Nat := 0
  badRec    : Nat := 0
  step      : Nat := 0
  origin    : Option Master := none
  deriving DecidableEq, Repr, Inhabited

/-! ### Hallmark flag words (ch. 01, 14) -/

/-- The hallmark flag latch (R31, R33): conditions noted in the beat interval in progress, the word of the latest closed interval,
the latest latched word, the kept history of words since the quire began, newest first, and the OR of the older ones. -/
structure Hall where
  seen    : BitVec 16 := 0
  closed  : BitVec 16 := 0
  latched : BitVec 16 := 0
  history : List (BitVec 16) := []
  older   : BitVec 16 := 0
  deriving DecidableEq, Repr, Inhabited

/-! ### Front end and slices (ch. 08) -/

/-- One front end (R276 to R290, R303): comparator firing, in overload (R282), and settling. `ovlS` and `ovlH` hold bit [1] of
`FE.OVLSTAT_k` for each master; `settle` is the number of the beat boundary at which the settling window ends, and
`settled` the instant at which the last window ended; `lastLog` the beat of the last FE_OVERLOAD record. -/
structure Front where
  firing  : Bool := false
  isOver    : Bool := false
  ovlS    : Bool := false
  ovlH    : Bool := false
  cnt     : Word := 0
  settle  : Option Nat := none
  settled : Nat := 0
  powered : Bool := false
  lastLog : Option Nat := none
  deriving DecidableEq, Repr, Inhabited

/-- The measured figures of one slice (R299, R304). -/
structure SliceFig where
  ofs   : BitVec 16 := 0
  gain  : BitVec 16 := 0
  noise : BitVec 8 := 0
  lin   : BitVec 8 := 0
  deriving DecidableEq, Repr, Inhabited

/-- Foreground calibration states, `FE.CALSTAT`[1:0]. -/
inductive CalSt where
  | notRun | running | passed | failed
  deriving DecidableEq, Repr, Inhabited

/-- The front end and slice array. `gating` is mode-change gating (R291), `restartAt` the beat boundary of its clock
restart; `run` counts the slice clock starts, `t0` is the instant of sample 0 of the latest (R289), `clkGroups` and `clkFreq` the groups
per input and N of the sample clock since it. Of a running calibration `meas` is the current measurement (25 after the last), `measFrom`
the beat at which it started, `repeated` whether it is being repeated, `results` the averaged results by measurement and slice, `prior`
those of the calibration before (R297, R298). `figs` and `failFig` are the `SLC` words by slice;
`corr` holds the corrections in use (R302). `dacAt` is the boundary of R287 when no front end is powered. -/
structure Fe where
  front     : Vector Front 4 := Vector.replicate 4 {}
  mode      : Nat := 0
  gating    : Bool := false
  run       : Nat := 0
  restartAt : Nat := 0
  t0        : Nat := 0
  clkGroups : Nat := 1
  clkFreq   : Nat := 60
  cal       : CalSt := .notRun
  calStart  : Nat := 0
  meas      : Nat := 0
  measFrom  : Nat := 0
  repeated  : Bool := false
  results   : List (Nat × List (Nat × Int)) := []
  prior     : List (Nat × List (Nat × Int)) := []
  calBeat   : Word := 0
  failing   : Nat := 0
  lowest    : Nat := 0
  figs      : List (Nat × SliceFig) := []
  corr      : List (Nat × SliceFig) := []
  failFig   : List (Nat × Nat) := []
  settleRej : Word := 0
  dacAt     : Option Nat := none
  deriving DecidableEq, Repr, Inhabited

/-! ### Live trim (ch. 09) -/

/-- The trim states (R324). -/
inductive TrimSt where
  | idle | unsettled | settled | held
  deriving DecidableEq, Repr, Inhabited

/-- A coefficient set (ch. 09, Sets and epochs): coefficients by slice (unlisted slices 0), the pilot amplitude and
phase words by input, pilot subtraction, whether the set is settled (R316), the clamped-coefficient masks by
slice (R315), and the qualifying skew blocks by input that it was computed from (R333). -/
structure TrimSet where
  coefs   : List (Nat × Coef) := []
  pamp    : Vector Word 4 := Vector.replicate 4 0
  sub     : Bool := false
  settled : Bool := false
  clamped : List (Nat × BitVec 3) := []
  skews   : Vector Nat 4 := Vector.replicate 4 0
  deriving DecidableEq, Repr, Inhabited

/-- A pending set with what its landing does: whether its epoch start is 16 beats later (R320). -/
structure Pending where
  set   : TrimSet
  late  : Bool := false
  deriving DecidableEq, Repr, Inhabited

/-- Live trim. `inUse` is the epoch in use, numbered `epoch`; `startBeat` is the boundary of its epoch start and
`startT` its instant when it has come; `blocks` and `skewBlocks` count since the restart (R313, R314, R316);
`bad` marks the running block as one to discard; `wait` is R322's count, started at boundary `waitFrom`; `kept`
holds the last settled set of each mode since the last passed foreground calibration (R323); `models` the pilot
models by input and range (R312); `lost` marks a pilot loss (R327) and `back` the pilot's return at this boundary (R323); `clampLogged`
that TRIM_CLAMP was logged since the restart; `last` is the set that the latest block or restart formed, from which coefficients that a
block does not update carry over (R314, R328); `landedAt` is the boundary of the latest landing; `fresh` says that no slice clock edge has come since the restart. -/
structure Trm where
  st         : TrimSt := .idle
  inUse      : TrimSet := {}
  last       : TrimSet := {}
  landedAt   : Option Nat := none
  epoch      : Nat := 0
  epochBeat  : Word := 0
  startBeat  : Nat := 0
  startT     : Nat := 0
  pending    : Option Pending := none
  gap        : Bool := false
  blocks     : Nat := 0
  skewBlocks : Vector Nat 4 := Vector.replicate 4 0
  bad        : Bool := false
  wait       : Nat := 0
  waiting    : Bool := false
  kept       : Vector (Option TrimSet) 3 := Vector.replicate 3 none
  models     : Vector Word 12 := Vector.replicate 12 0
  lost       : Bool := false
  back       : Bool := false
  fresh      : Bool := false
  clampLogged : Bool := false
  epochRej   : Word := 0
  gapRej     : Word := 0
  deriving DecidableEq, Repr, Inhabited

/-! ### Mint (ch. 10) -/

/-- The Mint states, in the coding of `MNT.STAT`[2:0]. -/
inductive MintSt where
  | off | powerup | forced | pilot | static | play
  deriving DecidableEq, Repr, Inhabited

/-- A span change in progress (R348): holding differential zero, or switched and waiting 100 ns. -/
inductive SpanPhase where
  | none | hold | switched
  deriving DecidableEq, Repr, Inhabited

/-- The Mint. `held` says that the latest code transition was deglitched (R351). `code`, `span` and `route` are those at the converter; the applied values are those R336 has applied
(`aMode` to `aRoute`); `released` says POWERUP was released since switch-on (R337), `due` that what a landed value calls for is
to be driven when R336 applies it, `pu` is the power-up code it took when it last went there (R229); `opened` is the route opened by
R360. `ram` is the playback RAM as loaded, `index` the playback index; `stopped` says that the Mint clock does not run (R353). -/
structure Mnt where
  st       : MintSt := .off
  code     : BitVec 14 := 0x2000
  span     : BitVec 2 := 0
  route    : BitVec 6 := 0
  phase    : SpanPhase := .none
  aMode    : BitVec 2 := 0
  aCode    : BitVec 14 := 0x2000
  aSpan    : BitVec 2 := 0
  aRoute   : BitVec 6 := 0
  released : Bool := false
  due      : Bool := false
  pu       : Option (BitVec 14) := none
  opened   : Bool := false
  comply   : BitVec 5 := 0
  fault    : BitVec 2 := 0
  trips    : Word := 0
  ram      : List (BitVec 14) := []
  loaded   : Bool := false
  loading  : Bool := false
  playing  : Bool := false
  index    : Nat := 0
  held     : Bool := false
  stopped  : Bool := true
  deriving DecidableEq, Repr, Inhabited

/-! ### Trigger detection and clearing table (ch. 11, 12) -/

/-- The three states of a level detector (R371). -/
inductive Det where
  | undecided | low | high
  deriving DecidableEq, Repr, Inhabited

/-- An entry as it stood when its detectors last became UNDECIDED, for the samples and transitions before that instant that are still on
their way to the clearing table (R373, R388): the instant, the detectors, the pending measurement and the entry's words. -/
structure PastDet where
  at_   : Nat
  a     : Det
  b     : Det
  pend  : Option Nat
  words : List Word
  deriving DecidableEq, Repr, Inhabited

/-- The running part of one clearing entry: detectors A and B, the pending measurement of R374 (a position in 2^-12
sample periods for an input, an instant in time units for AUX), `CLR.HITS_e`, and the entry before its latest resets, the oldest first. -/
structure Entry where
  a    : Det := .undecided
  b    : Det := .undecided
  pend : Option Nat := none
  hits : Word := 0
  past : List PastDet := []
  deriving DecidableEq, Repr, Inhabited

/-- The trigger and clearing table. `aux` is the AUX comparator and `auxHold` the boundary at which its hold ends
(R377); `seq` holds each sequencer's t_arm while ARMED (R407); `lastAcc` is the detection time of the quire's last
accepted trigger (R415). -/
structure Trg where
  entries  : Vector Entry 64 := Vector.replicate 64 {}
  aux      : Det := .undecided
  auxHold  : Option Nat := none
  detCnt   : Word := 0
  fallback : Word := 0
  lastDet  : Word := 0
  lastTs   : BitVec 96 := 0
  seq      : Vector (Option (BitVec 96)) 4 := Vector.replicate 4 none
  accept   : Word := 0
  busyRej  : Word := 0
  holdRej  : Word := 0
  rateRej  : Word := 0
  armRej   : Word := 0
  lastWin  : Word := 0
  lastMask : BitVec 64 := 0
  credits  : Nat := 64
  marks    : Word := 0
  markTs   : BitVec 96 := 0
  holdCnt  : Nat := 0
  lastAcc  : Option (BitVec 96) := none
  deriving DecidableEq, Repr, Inhabited

/-! ### Decimator (ch. 13) -/

/-- The decimator. `taps` lists the written taps (R428) in the parameter space and `use` those in use; `sums` are
`DEC.FIRSUM_s`; `anchor` is `DEC.ANCHOR`; `counted` is how many outputs of the running quire's grid have been judged for
`DEC.CLAMPS`. -/
structure Dec where
  taps    : PMap := []
  use     : PMap := []
  waiting : Bool := false
  sums    : Vector Word 4 := Vector.replicate 4 131072
  clamps  : Word := 0
  counted : Nat := 0
  anchor  : BitVec 96 := 0
  deriving DecidableEq, Repr, Inhabited

/-! ### Quires, folios and the DDR5 Store (ch. 14) -/

/-- Quire states, in the coding of `QRE.STAT`[1:0]. -/
inductive QSt where
  | idle | running | finishing | closed
  deriving DecidableEq, Repr, Inhabited

/-- A quire's settings, latched when it arms (R442 to R446, R420, R433): stored inputs, granules, pre-trigger granules,
count, region, ring policy, preset and peak-detect, whether a replaced coefficient set is used, the groups per input
G, N of the sample clock, and the sample number of grid point 0 with the input samples per grid point. -/
structure QCfg where
  inputs : BitVec 4 := 1
  gran   : Nat := 16
  pre    : Nat := 4
  count  : Nat := 1
  base   : Nat := 0
  slots  : Nat := 1024
  wrap   : Bool := false
  preset : Nat := 0
  peak   : Bool := false
  repl   : Bool := false
  groups : Nat := 1
  nfreq  : Nat := 60
  origin : Nat := 0
  ratio  : Nat := 1
  t0     : Nat := 0
  run    : Nat := 0
  armT   : Nat := 0
  volume : Bool := false
  deriving DecidableEq, Repr, Inhabited

/-- One folio whose header is not yet written: its index, first grid sample, what its trigger handed over (R417), the
trim and certificate epochs, marks, samples held, the beat interval of its first sample, and whether its last sample is
stored. -/
structure Folio where
  qid     : Word := 0
  idx     : Nat := 0
  first   : Nat := 0
  stamp   : BitVec 96 := 0
  mask    : BitVec 64 := 0
  winner  : BitVec 6 := 0
  source  : BitVec 3 := 0
  trim    : BitVec 16 := 0
  cert    : BitVec 16 := 0
  overlap : Bool := false
  marks   : Nat := 0
  mark1   : Option Nat := none
  held    : Nat := 0
  trunc   : Bool := false
  beat1   : Nat := 0
  beat2   : Nat := 0
  stored  : Bool := false
  shed    : Bool := false
  cfg     : QCfg := {}
  deriving DecidableEq, Repr, Inhabited

/-- DDR5 training states, `QRE.MEMSTAT`[1:0]. -/
inductive MemSt where
  | untrained | training | trained | failed
  deriving DecidableEq, Repr, Inhabited

/-- The quire writer. `lastEnd` is the grid index after the last sample of the quire's previous folio (R414). `endCause` is the cause with which a FINISHING quire closes (R451). `armDue` is an arm landed in the work in progress (R447), `armBy` the master whose commit asked for the arm (R751). `armGen` and `gen` count the takings into use of quire-bound values (R483); `closes` keeps the
count at each recent quire's close. `releasable` lists folios marked releasable and not yet released (R527). -/
structure Qre where
  st         : QSt := .idle
  armPending : Bool := false
  armDue     : Bool := false
  armBy      : Option Master := none
  volPending : Bool := false
  closeCause : BitVec 4 := 0
  endCause   : BitVec 4 := 3
  armCause   : BitVec 4 := 0
  qid        : Word := 0
  cfg        : QCfg := {}
  folios     : Nat := 0
  headers    : Nat := 0
  released   : Nat := 0
  claimed    : Nat := 0
  releasable : List Nat := []
  overwrites : Word := 0
  lastEnd    : Int := 0
  armBeat    : Word := 0
  hiFill     : Bool := false
  cur        : Option Folio := none
  pend       : List Folio := []
  gen        : Nat := 0
  armGen     : Nat := 0
  closes     : List (Word × Nat) := []
  deriving DecidableEq, Repr, Inhabited

/-- The memory controller (R460 to R471): training, `QRE.TRN_s_w` (R856), self-refresh, power-down by subchannel, and
whether DDR5 contents were kept at STORE switch-off (R471). `size` in GiB and `speed` are those of the configuration last trained, 0 before. -/
structure Store where
  st       : MemSt := .untrained
  full     : Bool := true
  failStep : BitVec 4 := 0
  failSub  : BitVec 4 := 0
  selfRef  : Bool := false
  kept     : Bool := false
  eccCor   : Word := 0
  eccUnc   : Word := 0
  srCnt    : Word := 0
  trn      : PMap := []
  down     : Vector Bool 4 := Vector.replicate 4 false
  accessed : Bool := false
  fast     : Bool := false
  refreshes : Nat := 0
  size     : Nat := 0
  speed    : Nat := 0
  deriving DecidableEq, Repr, Inhabited

/-! ### Ledger (ch. 15) -/

/-- Page states, in the coding of `LDG.STAT`. -/
inductive PageSt where
  | empty | accumulating | closed | clearing
  deriving DecidableEq, Repr, Inhabited

/-- One Ledger page: state, binding and page words (R500). -/
structure Page where
  st      : PageSt := .empty
  qid     : Word := 0
  qlast   : Word := 0
  count   : Nat := 0
  flags   : BitVec 16 := 0
  cert    : BitVec 16 := 0
  preset  : Nat := 0
  peak    : Bool := false
  inputs  : BitVec 4 := 0
  cause   : BitVec 4 := 0
  damaged : Bool := false
  first   : Nat := 0
  bins    : Nat := 0
  openB   : Word := 0
  closeB  : Word := 0
  trim1   : BitVec 16 := 0
  trim2   : BitVec 16 := 0
  deriving DecidableEq, Repr, Inhabited

/-- One folio offered to the Ledger (R481): quire, index, slot address and slot size, and the counts R483 needs. -/
structure LdgRef where
  qid    : Word
  idx    : Nat
  addr   : Nat
  size   : Nat
  armGen : Nat
  deriving DecidableEq, Repr, Inhabited

/-- The folio in progress (R482, R484): the page it goes to, if any, its slot as read, and the histogram settings it was
taken with (R496): `LDG.HSRC`, `LDG.HFIRST`, `LDG.HSTEP`, `LDG.VLOW` and `LDG.VSHIFT`, or none with the histogram off. -/
structure LdgBusy where
  ref  : LdgRef
  page : Option Nat
  slot : List Byte
  hist : Option (Nat × Nat × Nat × Int × Nat) := none
  deriving DecidableEq, Repr, Inhabited

/-- The Ledger. `busy` is the folio in progress; `closeReq` a landed `LDG.CLOSE` waiting for it
(R485); `ends` names the quires whose last folio closes their page (cause 4); `decayCnt` counts beats since the last
decay pass started. -/
structure Ldg where
  pages    : Vector Page 2 := Vector.replicate 2 {}
  backlog  : List LdgRef := []
  busy     : Option LdgBusy := none
  closeReq : Bool := false
  ends     : List Word := []
  skip     : Vector Word 7 := Vector.replicate 7 0
  decaying : Bool := false
  decayCnt : Nat := 0
  clearing : Bool := false
  hfolios  : Word := 0
  deriving DecidableEq, Repr, Inhabited

/-! ### Tellers (ch. 16) -/

/-- Channel states, in the coding of `TEL.STAT_c`[2:0]. -/
inductive TelSt where
  | idle | fetch | waiting | moving | draining | posting | halted
  deriving DecidableEq, Repr, Inhabited

/-- One slip as read (R501, R502). -/
structure Slip where
  ctl   : Word := 0
  count : Nat := 0
  src   : Nat := 0
  dst   : Nat := 0
  crcAt : Nat := 0
  next  : Nat := 0
  tag   : Word := 0
  deriving DecidableEq, Repr, Inhabited

/-- One write issued and not yet acknowledged (R510): its tag (R572), destination address, bytes, beats waited. -/
structure TelWrite where
  tag   : BitVec 16
  addr  : Nat
  bytes : List Byte
  acked : Bool := false
  age   : Nat := 0
  deriving DecidableEq, Repr, Inhabited

/-- One teller channel. `out` lists its outstanding writes in order of issue, `writes` counts all issued, from which their
tags are formed; `bytes` counts the bytes issued, `acked` those acknowledged from byte 0, `crc` the running
CRC-32C register over them; `claims` the claimed folios of the slip, `folio` the bytes of the folio being moved that
are not yet issued; `doneFolios` the folios whose bytes are all acknowledged; `ends` the byte index at which each
claimed folio ends. `credit` is the RATE credit of R519 in 1/640 byte at the instant `creditAt`. -/
structure Tel where
  st       : TelSt := .idle
  slip     : Slip := {}
  cur      : Nat := 0
  result   : BitVec 4 := 0
  cause    : BitVec 4 := 0
  done     : Word := 0
  total    : BitVec 64 := 0
  tag      : Word := 0
  irq      : BitVec 4 := 0
  errs     : Word := 0
  out      : List TelWrite := []
  writes   : Nat := 0
  bytes    : Nat := 0
  acked    : Nat := 0
  crc      : Word := 0xFFFFFFFF
  claims   : List Nat := []
  bound    : Option Word := none
  folio    : List Byte := []
  ends     : List Nat := []
  doneFolios : Nat := 0
  half     : Bool := false
  aborting : Bool := false
  crcPend  : Bool := false
  short    : Bool := false
  credit   : Nat := 163840
  creditAt : Nat := 0
  endCode  : BitVec 4 := 0
  endCause : BitVec 4 := 0
  slipRead : Bool := false
  deriving DecidableEq, Repr, Inhabited

/-- The tellers (R513, R521): the channels, the channel served last and the shared stage-2 credits by destination (host
port, DDR5, east, west), in 1/640 byte, as they stood at the instant `sharedAt`. -/
structure Tels where
  ch       : Vector Tel 16 := Vector.replicate 16 {}
  last     : Nat := 15
  shared   : Vector Nat 4 := Vector.replicate 4 163840
  sharedAt : Nat := 0
  deriving DecidableEq, Repr, Inhabited

/-! ### Spine link and transfer records (ch. 17, 18) -/

/-- Port states, in the coding of `SPN.STAT_p`[2:0]. -/
inductive PortSt where
  | off | idle | train | hello | up | down
  deriving DecidableEq, Repr, Inhabited

/-- The packets the engine sends (R557). `tag` of a WRITE or FOLIO is the teller channel that issued it. -/
inductive Packet where
  | write (tag : BitVec 16) (addr : Nat) (data : List Byte)
  | writeAck (tag : BitVec 16) (status : BitVec 3)
  | readData (tag : BitVec 16) (addr : Nat) (data : List Byte) (last : Bool) (status : BitVec 2)
  | ctrl (response : Bool) (body : List Byte)
  | event (e : EventPkt)
  | folio (tag : BitVec 16) (addr : Nat) (data : List Byte) (first last : Bool)
  | keyRequest (qid : Word)
  deriving DecidableEq, Repr, Inhabited

/-- Counts for the three credit classes P, N and C, in 8-byte words (R566). -/
structure Words where
  p : Nat := 0
  n : Nat := 0
  c : Nat := 0
  deriving DecidableEq, Repr, Inhabited

/-- One lane: polarity inverted, transmit taps (R549) as magnitudes, inter-lane skew, corrected symbols, and whether the
partner's frames have been seen and its receiver reported ready in this attempt. -/
structure Lane where
  inv   : Bool := false
  pre   : Nat := 4
  main  : Nat := 52
  post  : Nat := 8
  skew  : BitVec 8 := 0
  corr  : Word := 0
  seen  : Bool := false
  ready : Bool := false
  deriving DecidableEq, Repr, Inhabited

/-- The sender state of a port (ch. 18, Sender state; R586, R587, R590). -/
structure Sender where
  qid    : Option Word := none
  key    : Nat := 0
  held   : Bool := false
  deltas : Nat := 0
  force  : Bool := false
  deriving DecidableEq, Repr, Inhabited

/-- A key a receiver holds: its folio index, slot address and slot size (R594, R597). -/
structure WinKey where
  idx  : Nat
  addr : Nat
  size : Nat
  deriving DecidableEq, Repr, Inhabited

/-- One quire of a receiver window: its keys, newest first (R597). -/
structure WinQ where
  qid  : Word
  keys : List WinKey
  deriving DecidableEq, Repr, Inhabited

/-- A record being received (R593 to R595): the base address and slot count latched at its first byte, its bytes not yet
consumed, the header fields once checked, the next block or data byte to write, the carried folio header of a delta, and
whether it is dropped, which ends it as nothing more than acknowledged packets. -/
structure RxRec where
  base   : Nat
  slots  : Nat
  buf    : List Byte := []
  checked : Bool := false
  drop   : Bool := false
  delta  : Bool := false
  qid    : Word := 0
  idx    : Nat := 0
  len    : Nat := 0
  size   : Nat := 0
  addr   : Nat := 0
  keyAt  : Nat := 0
  hdr    : List Byte := []
  pos    : Nat := 0
  count  : Nat := 40
  bad    : Bool := false
  deriving DecidableEq, Repr, Inhabited

/-- One Spine port. `sentAck` is the latest LINKACK sent (NAK, number named) and `sentDown` the cause in the latest DOWN
flit sent. `joinTold` says that a join failure is logged for this time UP (R710). `hold` is the electrical idle of R551 or R870; `told` says that SPN_NOPARTNER is logged for this
attempt; `attempts8` that SPN_TRAINFAIL is logged. `expect` is the next number to accept, `discarding` says that R562
discards until it arrives. `next` is the next number to send, `txq` the packets waiting, `unacked` the replay buffer,
`replays` how often its oldest packet has been replayed without progress; `avail` are the credits held, `given` the last
cumulative counts of the partner's CREDIT flits, `freed` the engine's own cumulative counts. `rxRec`, `window`,
`missed` (quires already logged), `asked` (the last KEY_REQUEST of each quire, R601) and the `XFR` words belong to
ch. 18. -/
structure Port where
  st       : PortSt := .off
  step     : Nat := 0
  hold     : Bool := false
  cause    : BitVec 4 := 0
  fails    : Nat := 0
  told     : Bool := false
  lanes    : Vector Lane 4 := Vector.replicate 4 {}
  unc      : Word := 0
  badPkt   : BitVec 16 := 0
  badCtl   : BitVec 16 := 0
  replayed : Word := 0
  downs    : Word := 0
  part     : BitVec 16 := 0
  build    : BitVec 16 := 0
  role     : BitVec 3 := 0
  joinTold : Bool := false
  sentAck  : Option (Bool × BitVec 12) := none
  sentDown : Option (BitVec 4) := none
  pos      : BitVec 3 := 0
  credit   : Words := {}
  expect   : BitVec 12 := 0
  discarding : Bool := false
  next     : BitVec 12 := 0
  txq      : List Packet := []
  unacked  : List (BitVec 12 × Packet) := []
  replays  : Nat := 0
  avail    : Words := {}
  given    : Words := {}
  freed    : Words := {}
  sender   : Sender := {}
  recBy    : Option Nat := none
  rxRec    : Option RxRec := none
  window   : List WinQ := []
  missed   : List Word := []
  asked    : List (Word × Nat) := []
  rxRecs   : Word := 0
  rxBad    : Word := 0
  missQid  : Word := 0
  missIdx  : Nat := 0
  keyReqTx : Word := 0
  deriving DecidableEq, Repr, Inhabited

/-- The Spine link: ports 0 host, 1 east and 2 west, EVENT packets waiting (R574), `SPN.REFSTAT`, `SPN.DROP` and the
global `XFR` counters (R606). -/
structure Spn where
  port     : Vector Port 3 := Vector.replicate 3 {}
  evq      : List EventPkt := []
  refclk   : Bool := false
  drop     : BitVec 16 := 0
  dropCtrl : BitVec 16 := 0
  keys     : Word := 0
  deltas   : Word := 0
  forced   : Word := 0
  keyMiss  : Word := 0
  keyReqOk : BitVec 16 := 0
  keyReqNo : BitVec 16 := 0
  deriving DecidableEq, Repr, Inhabited

/-! ### Scan-out (ch. 19) -/

/-- Scan-out states, in the coding of `DSP.STAT`[13:12]. -/
inductive ScanSt where
  | off | starting | running | changing
  deriving DecidableEq, Repr, Inhabited

/-- Refresh levels, in the coding of `DSP.STAT`[5:4]. -/
inductive Level where
  | full | half | low20
  deriving DecidableEq, Repr, Inhabited

/-- The DSI output: off, in its start sequence (R622), sending frames, or held (R640). -/
inductive DsiSt where
  | off | starting | on | held
  deriving DecidableEq, Repr, Inhabited

/-- The DisplayPort sink: `DSP.DPSTAT`, `DSP.DPMODES`, `DSP.DPMIN` and the sink's limits (R625). -/
structure DpSt where
  connected : Bool := false
  training  : Bool := false
  trained   : Bool := false
  rate      : BitVec 2 := 0
  ignoreMsa : Bool := false
  cause     : BitVec 8 := 0
  edid      : BitVec 3 := 0
  modes     : BitVec 8 := 0
  minRate   : BitVec 8 := 0
  lanes     : Nat := 0
  maxRate   : Nat := 0
  failed    : Bool := false
  deriving DecidableEq, Repr, Inhabited

/-- Scan-out. `landedNow` lists the frame-bound addresses landed in the beat work in progress (R616), `newMode` says
that a DSP.MODE differing from the mode in use waits (R630), `change` counts the steps of R631 begun and `retrain` that the
DP link trains again at step 2. `underLog` and `underAt` are the beat and the line count of the last DSP_UNDERRUN record. `busy` says that
the frame in progress is not static, `statics` counts static frames at the level; `flipNow`, `under` and `dark`
describe the frame in progress. `cmap` is the colour map in use and `invalid` the host plane's validity (R613). -/
structure Dsp where
  st        : ScanSt := .off
  mode      : Nat := 1
  level     : Level := .full
  landedNow : List Nat := []
  newMode   : Bool := false
  change    : Nat := 0
  frame     : Nat := 0
  dark      : Bool := false
  flipNow   : Bool := false
  under     : Bool := false
  busy      : Bool := false
  statics   : Nat := 0
  flipWait  : Bool := false
  dsi       : DsiSt := .off
  dsiJoin   : Bool := false
  dp        : DpSt := {}
  dpJoin    : Bool := false
  teLock    : Bool := false
  teLost    : Bool := false
  invalid   : Bool := false
  cmap      : List Word := []
  cmapBad   : Bool := false
  badMode   : Word := 0
  fstat     : Word := 0
  flipTs    : BitVec 96 := 0
  flipCnt   : Word := 0
  flipDrop  : Word := 0
  flipNum   : Word := 0
  underrun  : Word := 0
  underLog  : Option Nat := none
  underAt   : Word := 0
  retrain   : Bool := false
  dcs       : List (BitVec 8) := []
  deriving DecidableEq, Repr, Inhabited

/-! ### Assay and Isotherm (ch. 20) -/

/-- Who a conversion serves: an accumulator, the calibration point, an open-wire check or the calibration chain. -/
inductive Job where
  | acc (j : Nat)
  | point
  | wire
  | chain
  deriving DecidableEq, Repr, Inhabited

/-- One pending request (R646 to R650), in issue order: its job, class (0 SAR, 1 INT, 2 burst), input and urgency. -/
structure AsyReq where
  job    : Job
  cls    : Nat
  input  : Nat
  urgent : Bool := false
  deriving DecidableEq, Repr, Inhabited

/-- One running conversion. `drop` says that its result is discarded (R658), `short` that it is the first integrating
conversion after a start (R677), `left` how many results of its burst are still to end, this one included, `urgent` that its
request was urgent (R653), `clocks` how many holding oscillator clocks the conversion lasts and `lead` how many pass from the start of
its request to the start of its first conversion (R643, R651, R668, R677). -/
structure Conv where
  job   : Job
  cls   : Nat
  input : Nat
  drop  : Bool := false
  short : Bool := false
  left  : Nat := 1
  urgent : Bool := false
  clocks : Nat := 400
  lead  : Nat := 0
  deriving DecidableEq, Repr, Inhabited

/-- One accumulator: the starts whose delay still runs (R646), window sum and count, window flags (R659), the mean and flags of the window completed in this
beat interval (`done`) and in the one that the latest boundary closed (`due`), the words
of R655 and R656, the tracker and its copy. -/
structure Accu where
  starts   : Nat := 0
  sum      : Int := 0
  n        : Nat := 0
  flags    : BitVec 4 := 0
  done     : Option (Int × BitVec 4) := none
  due      : Option (Int × BitVec 4) := none
  mean     : Int := 0
  latched  : Bool := false
  means    : BitVec 16 := 0
  lastFlags : BitVec 4 := 0
  dropped  : Nat := 0
  replaced : Nat := 0
  lo       : Option Int := none
  hi       : Option Int := none
  loCopy   : Int := 0x7FFFFFFF
  hiCopy   : Int := -0x80000000
  deriving DecidableEq, Repr, Inhabited

/-- The calibration point in progress (R661): set, point 1 or 2, conversions left, k, sum of nominal values, whether an
open wire was found during it, and whether a boundary has followed its last conversion. -/
structure CalPoint where
  set   : Nat
  point : Nat
  left  : Nat
  k     : Nat
  sum   : Int := 0
  wire  : Bool := false
  isOver  : Bool := false
  deriving DecidableEq, Repr, Inhabited

/-- The open-wire check in progress on input e (R665): waiting for the input, current applied, or conversion requested. -/
inductive Wire where
  | none
  | waiting (e : Nat)
  | current (e : Nat)
  | converting (e : Nat)
  deriving DecidableEq, Repr, Inhabited

/-- The Assay. `held1` and `held2` are the rest of a burst that gave way to an urgent request (R653); `u0` holds each set's zero point, scaled by 2^16;
`trkClr` names the trackers to clear at step 7, `kick` the requests that `ASY.KICK` issues at the end of the beat work; `wireDue` the
checks that have fallen due; `susp` names the calibration sets whose accumulators are suspended (R661, R662). -/
structure Asy where
  started  : Bool := false
  firstInt : Bool := false
  low      : Bool := false
  reqs     : List AsyReq := []
  sar1     : Option Conv := none
  sar2     : Option Conv := none
  int      : Option Conv := none
  held1    : Option Conv := none
  held2    : Option Conv := none
  accs     : Vector Accu 32 := Vector.replicate 32 {}
  point    : Option CalPoint := none
  calSt    : BitVec 2 := 0
  calSet   : BitVec 3 := 0
  calPt    : BitVec 2 := 0
  calCause : BitVec 4 := 0
  susp     : BitVec 8 := 0
  u0       : Vector (Option Int) 8 := Vector.replicate 8 none
  wire     : Wire := .none
  wireDue  : BitVec 4 := 0
  fresh    : Word := 0
  owStat   : BitVec 4 := 0
  limStat  : BitVec 4 := 0
  missed   : Word := 0
  convs    : Word := 0
  trkClr   : Word := 0
  kick     : Word := 0
  deriving DecidableEq, Repr, Inhabited

/-- Isotherm states, in the coding of `ISO.STAT`[2:0]. -/
inductive IsoSt where
  | off | warming | locked | ool | fault
  deriving DecidableEq, Repr, Inhabited

/-- The Isotherm loop. `integ` is I in units of 2^-80 / 5^9, in which every term of R670 is whole; `inBand` counts
consecutive updates in band; `last` is the instant of the previous update since WARMING was entered; `hot` is cause 2
and `stale` cause 3, `causes` the causes that hold (bit cause - 1); `duty` is D as computed, `dutyUse` D in use and `high` whether the PWM high time runs,
`period` and `highLen` the length and high time in holding oscillator clocks of the period that runs (R647, R669). -/
structure Iso where
  st      : IsoSt := .off
  cause   : BitVec 4 := 0
  integ   : Nat := 0
  inBand  : Nat := 0
  last    : Option Nat := none
  lastBeat : Nat := 0
  temp    : Int := 0
  hot     : Bool := false
  stale   : Bool := false
  causes  : BitVec 4 := 0
  duty    : Nat := 0
  dutyUse : Nat := 0
  high    : Bool := false
  period  : Nat := 65536
  highLen : Nat := 0
  deriving DecidableEq, Repr, Inhabited

/-! ### Calibration chain and certificates (ch. 21) -/

/-- Chain states, in the coding of `CAL.STAT`[1:0]. -/
inductive ChainSt where
  | idle | running | done | failed
  deriving DecidableEq, Repr, Inhabited

/-- One draft entry (R687, R693): O, gamma and beta in the record's units, and the node voltages. -/
structure CalEntry where
  o     : Int
  gamma : Int
  beta  : Int
  vp    : Int
  vm    : Int
  deriving DecidableEq, Repr, Inhabited

/-- What one chain point gave (R684, R685): the sum of its nominal values, and the sum and count of trimmed samples. -/
structure PointRes where
  u     : Int := 0
  sum   : Int := 0
  count : Nat := 0
  deriving DecidableEq, Repr, Inhabited

/-- The run's settings a certificate records (R692): `CAL.VSTD`, the standard's input, the Isotherm override, n, k and
`ASY.MAINS`. -/
structure RunInfo where
  vstd   : Word := 0
  ref2   : Bool := false
  isOver   : Bool := false
  n      : Nat := 10
  k      : Nat := 2
  mains  : Bool := false
  deriving DecidableEq, Repr, Inhabited

/-- The calibration chain, the draft and the certificate slots. `run` is the value of `CAL.RUN` of the run in progress,
`point` the number of the point in progress, `settle` its `CAL.SETTLE`, `settling` the settling period, `left` the conversions still to end, `res`
the results of the points completed, newest first; `fail` is a cause of R690 that has arisen. `draft` lists entries by
index; `info` comes from the run that first filled it and `overAny` says that any run used the override. `sealing` is the
slot, epoch and bytes of a seal in progress. `useHdr` and `useEnt` are the certificate copy of R699, `useSlot` its slot
when it is valid; `epoch`, `slot` and `ents` belong to the running or last quire. -/
structure Cal where
  st       : ChainSt := .idle
  cause    : BitVec 5 := 0
  run      : Word := 0
  point    : Nat := 0
  points   : Nat := 0
  settling : Bool := false
  settle   : Nat := 1024
  startAt  : Nat := 0
  left     : Nat := 0
  cur      : PointRes := {}
  res      : List PointRes := []
  nowInfo  : RunInfo := {}
  fail     : Option Nat := none
  draft    : List (Nat × CalEntry) := []
  info     : RunInfo := {}
  overAny  : Bool := false
  sealing  : Option (Nat × Nat × List Byte) := none
  sealSt   : BitVec 2 := 0
  sealCause : BitVec 4 := 0
  lastEp   : Nat := 0
  valid    : BitVec 16 := 0
  slotEp   : Vector (BitVec 16) 16 := Vector.replicate 16 0
  useHdr   : List Byte := []
  useEnt   : List Byte := []
  useSlot  : Option Nat := none
  epoch    : BitVec 16 := 0
  slot     : Nat := 0
  validTo  : Nat := 0
  limit    : Nat := 0
  sealedAt : Nat := 0
  expLogged : Bool := false
  deriving DecidableEq, Repr, Inhabited

/-! ### Volumes (ch. 22) -/

/-- Volume states, in the coding of `VOL.STAT`[1:0]. -/
inductive VolSt where
  | off | forming | formed | broken
  deriving DecidableEq, Repr, Inhabited

/-- What the principal holds of one position (R856, R733): latest digest and READY, with their Volume beats. -/
structure Posn where
  digest  : Word := 0
  ready   : BitVec 16 := 0
  digBeat : Word := 0
  rdyBeat : Word := 0
  deriving DecidableEq, Repr, Inhabited

/-- An alignment in progress (R720): the boundary k, u in time units (R720 step 1, the principal's time at k) and c, whether the hold of
step 2 is over, and whether step 3 is done so that the next mark is to be checked. -/
structure Align where
  k    : Nat
  u    : Int
  c    : Nat
  theta : Int
  ring : Bool := false
  held : Bool := false
  set  : Bool := false
  deriving DecidableEq, Repr, Inhabited

/-- A Volume arm on the principal (R731): the Volume beat k and the quire ID. -/
structure VolArm where
  k   : Nat
  qid : Word
  deriving DecidableEq, Repr, Inhabited

/-- A Volume. Instants, delays and offsets are signed, in 2^-48 s. `sentAt` is the count and time of the last SYNC sent
east, `echo` the count, t1 and t4 of its echo, `turn` the count and t3 - t2 of a VTURN; `got` the count, T_W(N) and t2 of
the last SYNC detected west, and `hopUp` its count with T_W(N) on the principal's scale. `ests` are the estimates of R718, newest first, at most 256, and `ring` those of a ring
calibration. `goBeat` is the arm beat A low word, the quire ID and the positions left out; `stopBeat` the stop beat. -/
structure Vol where
  st       : VolSt := .off
  east     : Bool := false
  west     : Bool := false
  aligned  : Bool := false
  everAligned : Bool := false
  adrift   : Bool := false
  markBad  : Bool := false
  ringDone : Bool := false
  exch     : Nat := 0
  lastExch : Nat := 0
  ests     : List Int := []
  rcal     : Option Nat := none
  ring     : List Int := []
  sentAt   : Option (Nat × Nat) := none
  echo     : Option (Nat × Int × Int) := none
  turn     : Option (Nat × Nat) := none
  got      : Option (Nat × Int × Int) := none
  align    : Option Align := none
  beatOfs  : Int := 0
  offset   : Int := 0
  hopDly   : Word := 0
  closure  : Word := 0
  hopUp    : Option (Nat × Int) := none
  mismatch : BitVec 8 := 0
  present  : BitVec 8 := 0
  absent   : BitVec 8 := 0
  armSt    : BitVec 2 := 0
  rdyMask  : BitVec 8 := 0
  notMask  : BitVec 8 := 0
  arm      : Option VolArm := none
  req      : Option Word := none
  sentReady : Option (BitVec 16) := none
  goBeat   : Option (Word × Word × BitVec 8) := none
  stopBeat : Option Word := none
  digest   : Word := 0
  posn     : Vector Posn 8 := Vector.replicate 8 {}
  missLog  : Bool := false
  trigMiss : Word := 0
  localTrg : Word := 0
  aligns   : Word := 0
  adrifts  : Word := 0
  badMsg   : Word := 0
  deriving DecidableEq, Repr, Inhabited


/-! ### The whole engine -/

/-- The engine. -/
structure Mach where
  ctl   : Ctl := {}
  par   : Params := {}
  tim   : Tim := {}
  pwr   : Pwr := {}
  boot  : Boot := {}
  vlt   : Vlt := {}
  ins   : Ins := {}
  flt   : Flt := {}
  hall  : Hall := {}
  fe    : Fe := {}
  trm   : Trm := {}
  mnt   : Mnt := {}
  trg   : Trg := {}
  dec   : Dec := {}
  qre   : Qre := {}
  store : Store := {}
  ldg   : Ldg := {}
  tels  : Tels := {}
  spn   : Spn := {}
  dsp   : Dsp := {}
  asy   : Asy := {}
  iso   : Iso := {}
  cal   : Cal := {}
  vol   : Vol := {}
  mem   : List Host.Cell := []
  deriving DecidableEq, Repr, Inhabited

/-- The state: the commands waiting, first in, first out; the engine; how many steps of the latest beat boundary's work
(R15) are done, 9 when none is in progress; and the engine as it stood before the work in progress (R157). -/
structure State where
  pending : List Instr := []
  m       : Mach := {}
  work    : Nat := 9
  before  : Option Mach := none
  deriving DecidableEq, Repr, Inhabited

/-- The engine at power-on, held in reset, with no command waiting.
(DESIGN CHOICE, log 3) (DESIGN CHOICE, log 79) (DESIGN CHOICE, log 91) -/
def State.reset : State := {}

end Sys2Proof.Machine
end

