-- ==== Sys2Proof/Machine/Params.lean ====
section
/-! DEFINITION. Machine/Params.lean: the parameter map: every defined address with its access, reset value, value check,
landing class and insert behaviour (R835 to R838, R848 to R856 and the field tables of the chapters). -/

namespace Sys2Proof.Machine

/-- The access codes (R9). -/
inductive Acc where
  | rw | ro | wo | w1c | rwp
  deriving DecidableEq, Repr, Inhabited

/-- When a landed value is taken into use (R23). -/
inductive Cls where
  | beat | quire | frame
  deriving DecidableEq, Repr, Inhabited

/-- The value check of a STAGE (check 7 of R147) that the value alone decides: bits outside `mask` are reserved (R160);
a field may also be limited to a range, signed or not, or to listed values. -/
inductive Chk where
  | mask (m : Nat)
  | rng (lo hi : Nat)
  | srng (lo hi : Int)
  | oneOf (vs : List Nat)
  | fields (m : Nat) (fs : List (Nat × Nat × Nat × Nat))
  | orZero (lo hi : Nat)
  | clrCtl
  | memCfg
  | escRng
  deriving DecidableEq, Repr, Inhabited

/-- One row of the parameter map: `n` addresses from `base`, `stride` apart. -/
structure PRow where
  base   : Nat
  n      : Nat := 1
  stride : Nat := 1
  acc    : Acc := .ro
  reset  : Nat := 0
  chk    : Chk := .mask 0xFFFFFFFF
  cls    : Cls := .beat
  ins    : Bool := false
  deriving DecidableEq, Repr, Inhabited

/-- Whether row r holds address a. -/
def PRow.holds (r : PRow) (a : Nat) : Bool :=
  r.base ≤ a && (a - r.base) % r.stride == 0 && (a - r.base) / r.stride < r.n

/-- A row of n parameters from b, s apart. -/
def row (b n s : Nat) (acc : Acc) (reset : Nat) (chk : Chk) (ins : Bool) (cls : Cls := .beat) : PRow :=
  { base := b, n, stride := s, acc, reset, chk, cls, ins }

/-- n read-only parameters from b, s apart. -/
def ro (b n : Nat) (s : Nat := 1) (reset : Nat := 0) : PRow :=
  { base := b, n, stride := s, acc := .ro, reset }

/-- Identity, status and window (R174, R835). -/
def rowsId : List PRow := [
  ro 0x0000 1 1 0x4810, ro 0x0001 1 1 1, ro 0x0002 2,
  row 0x0004 1 1 .rw 0 (.mask 1) false, row 0x0005 1 1 .wo 0 (.mask 0xFFFF) false,
  ro 0x0006 1 1 6214, ro 0x0007 1, ro 0x0010 4, row 0x0014 1 1 .w1c 0 (.mask 0x7FF) false, ro 0x0015 3,
  row 0x0040 1 1 .rw 0 (.mask 0xFFFFFFFC) false, row 0x0041 1 1 .rw 0 (.mask 0xFFFF) false,
  row 0x0042 1 1 .wo 0 (.fields 0xF3 [(0, 2, 1, 2)]) false, ro 0x0043 1,
  row 0x0050 16 1 .rw 0 (.mask 0xFFFFFFFF) false]

/-- Basic parameters (R837, R838). -/
def rowsBasic : List PRow := [
  row 0x0100 4 16 .rw 1000 (.oneOf [250, 500, 1000]) true, row 0x0101 4 16 .rw 0 (.srng (-1000000) 1000000) true,
  row 0x0102 4 16 .rw 26000 (.oneOf [4000, 8000, 13000, 26000]) true, row 0x0103 4 16 .rw 1 (.mask 1) true,
  row 0x0140 1 1 .rw 0 (.rng 0 2) true,
  row 0x0141 1 1 .rw 16000 (.oneOf ((List.range 61).map fun i => 10000 + 100 * i)) true,
  row 0x0142 1 1 .rw 1 (.mask 0xF) true, row 0x0143 1 1 .rw 0 (.rng 0 5) true, row 0x0144 1 1 .rw 0 (.mask 1) true,
  row 0x0145 1 1 .rw 1024 (.mask 0xFFFFFFC0) true, row 0x0146 1 1 .rw 25 (.rng 0 99) true,
  row 0x0147 1 1 .rw 1 (.rng 1 1048576) true, row 0x0148 1 1 .rw 0 (.rng 0 2) true,
  row 0x0149 1 1 .rw 0 (.mask 3) true, row 0x014A 1 1 .rw 0 (.rng 0 68719476) true,
  row 0x014B 1 1 .rw 0 (.mask 0xFFFFFF) true, ro 0x014C 1,
  row 0x0150 1 1 .rw 0 (.srng (-1100000) 1100000) true, row 0x0151 1 1 .rw 3906 (.rng 0 62012) true,
  row 0x0160 1 1 .rw 0xB (.mask 0xF) true, row 0x0161 1 1 .rw 0 (.mask 0xFFFFFFFF) true,
  row 0x0162 1 1 .rw 262144 (.rng 0 262144) true, row 0x0163 1 1 .rw 0 (.mask 0xFFFFFFFF) true,
  row 0x0170 1 1 .rw 1 (.mask 7) true,
  row 0x0180 1 1 .rw 6000 (.rng 4500 9000) true, row 0x0181 1 1 .rw 0 (.mask 1) true,
  row 0x0182 1 1 .rw 0 (.mask 7) true, row 0x0183 1 1 .rw 0 (.rng 0 8) true,
  row 0x0184 1 1 .rw 31 (.oneOf (31 :: List.range 16)) true,
  row 0x0200 56 8 .rw 2 .clrCtl true, row 0x0201 56 8 .rw 0 (.srng (-2000000) 2000000) true,
  row 0x0202 56 8 .rw 0 (.rng 0 1000000) true, row 0x0203 56 8 .rw 0 (.srng (-2000000) 2000000) true,
  row 0x0204 56 8 .rw 0 (.mask 0xFFFFFFFF) true, row 0x0205 56 8 .rw 0 (.mask 0xFFFFFFFF) true,
  row 0x0206 56 8 .rw 0 (.mask 0xFFFFFFFF) true]

/-- TIM (R90). -/
def rowsTim : List PRow := [
  ro 0x0400 1, row 0x0401 1 1 .rw 0 (.rng 0 2) true, row 0x0402 1 1 .rw 0 (.mask 1) true,
  row 0x0403 1 1 .rwp 1 (.rng 0 2) true, row 0x0404 1 1 .rwp 60 (.rng 0 60) true .quire,
  row 0x0405 1 1 .rw 0 (.rng 0 2) true, ro 0x0406 5,
  row 0x040B 1 1 .rw 0 (.mask 0xFFFFFFFF) false, row 0x040C 1 1 .rw 0 (.mask 0xFFFF) false,
  row 0x040D 1 1 .wo 0 (.rng 1 2) false, ro 0x040E 5, row 0x0413 1 1 .wo 0 (.mask 0xFFFFFFFF) false,
  ro 0x0414 1, row 0x0415 1 1 .wo 0 (.mask 1) false]

/-- PWR (R128) and its readback arrays (R856). -/
def rowsPwr : List PRow := [
  ro 0x0500 1, row 0x0501 1 1 .rw 0xFF (.mask 0xFF) false, row 0x0502 1 1 .rw 0x1FF (.mask 0x1FF) false,
  row 0x0503 1 1 .rw 0x3F (.mask 0x3F) false, row 0x0504 1 1 .rw 30 (.rng 10 120) false,
  row 0x0505 1 1 .rw 40 (.rng 10 120) false, row 0x0506 1 1 .rw 50 (.rng 10 120) false,
  row 0x0507 1 1 .rw 60 (.rng 10 120) false, row 0x0508 1 1 .rw 80 (.rng 10 120) false,
  row 0x0509 1 1 .rw 100 (.rng 10 120) false, row 0x050A 1 1 .rw 10 (.rng 2 20) false,
  row 0x050B 1 1 .rw 16 (.rng 4 256) false, row 0x050C 1 1 .wo 0 (.mask 1) false, ro 0x050D 2,
  ro 0x0510 10, ro 0x0520 54, ro 0x0560 6]

/-- PRT and ESC (R210). -/
def rowsPrt : List PRow := [
  row 0x0600 1 1 .wo 0 (.mask 3) false, ro 0x0601 7, ro 0x0610 16, row 0x0620 8 1 .rw 0 (.mask 0xFFFF) false,
  ro 0x0628 1, row 0x0640 32 1 .rw 0 .escRng false]

/-- VLT and INS (R248), `INS.SLOT_n_w` (R856). -/
def rowsVlt : List PRow := [
  ro 0x0700 1, row 0x0701 1 1 .wo 0 (.fields 0x1FF3 [(0, 2, 1, 3)]) false,
  row 0x0702 1 1 .rw 0 (.mask 0xFFFFFFC0) false, row 0x0703 1 1 .rw 0 (.mask 0xFFFF) false,
  row 0x0704 1 1 .rw 0 (.mask 0xFFFFFFC0) false, row 0x0705 1 1 .rw 0 (.mask 0xFFFF) false,
  ro 0x0706 7, ro 0x070E 1, row 0x070F 1 1 .wo 0 (.mask 1) false,
  row 0x0780 1 1 .wo 0 (.fields 0x31F [(0, 5, 1, 31), (8, 2, 1, 2)]) false, ro 0x0781 2,
  row 0x0783 1 1 .rw 0 (.mask 0x1F) false, ro 0x0784 3, ro 0x0790 62]

/-- FE and the global TRM parameters (R303, R332), `TRM.PMOD_k_r` (R856), SLC and per-slice TRM (R304, R333). -/
def rowsFe : List PRow := [
  row 0x0800 4 16 .rwp 2 (.rng 0 2) true .quire, row 0x0801 4 16 .rwp 0 (.mask 0xFFFF) true .quire,
  row 0x0802 4 16 .rwp 3 (.mask 3) true .quire, ro 0x0803 4 16, ro 0x0804 4 16,
  row 0x0840 1 1 .rwp 0 (.rng 0 2) true .quire, row 0x0841 1 1 .rwp 0xF (.mask 0xF) true .quire, ro 0x0842 4,
  row 0x0880 1 1 .rwp 0 (.mask 3) true .quire,
  row 0x0881 1 1 .rw 0x4203 (.fields 0x7F0F [(0, 4, 1, 15), (8, 7, 60, 80)]) true .quire,
  row 0x0882 1 1 .rw 4096 (.rng 64 1048575) true .quire, row 0x0883 1 1 .rw 40 (.rng 20 80) true .quire,
  ro 0x0884 11, ro 0x0890 12, ro 0x1000 2048]

/-- MNT (R368) and `MNT.SEGTRIM_i` (R856). -/
def rowsMnt : List PRow := [
  row 0x0900 1 1 .rw 0 (.rng 0 1) true, row 0x0901 1 1 .rw 0x2000 (.mask 0x3FFF) true,
  row 0x0902 1 1 .rw 0 (.mask 3) true, row 0x0903 1 1 .rw 0 (.fields 0x33 [(0, 2, 0, 2)]) true,
  row 0x0904 1 1 .rw 0 (.mask 0xFFFFFFC0) true, row 0x0905 1 1 .rw 0 (.mask 0xFFFF) true,
  row 0x0906 1 1 .rw 64 (.oneOf ((List.range 512).map fun i => 64 * (i + 1))) true,
  row 0x0907 1 1 .rw 0 (.mask 0xFFFF) true, row 0x0908 1 1 .rwp 1 (.mask 1) true, ro 0x0910 1,
  row 0x0911 1 1 .w1c 0 (.mask 0x1F) false, row 0x0912 1 1 .w1c 0 (.mask 3) false, ro 0x0913 2, ro 0x0940 63]

/-- TRG and CLR (R392, R419, R393 to R395), `TRG.DSTATE_e` (R856). -/
def rowsTrg : List PRow := [
  ro 0x0A00 1, row 0x0A01 1 1 .rwp 2048 (.mask 0xFFF) true, row 0x0A02 1 1 .rwp 8 (.mask 0x7F) true,
  row 0x0A03 1 1 .rw 0 (.mask 1) true, ro 0x0A04 3, ro 0x0A08 3, row 0x0A10 5 1 .rw 0 (.mask 0xFFFFFFFF) true,
  ro 0x0A18 2 1 0xFFFFFFFF, ro 0x0A1A 2,
  row 0x0A20 1 1 .rwp 0 (.mask 0xFFFFFFFF) true, row 0x0A21 1 1 .rwp 0 (.mask 0xF) true,
  row 0x0A22 1 1 .rwp 0 (.mask 0xFFFFFF) true, ro 0x0A23 1, row 0x0A24 4 1 .rw 0 (.mask 0xFFFFFFFF) true,
  ro 0x0A28 8, ro 0x0A30 1 1 64, ro 0x0A31 5, ro 0x0A40 64,
  row 0x1800 64 8 .rwp 2 .clrCtl true, row 0x1801 64 8 .rwp 0 (.mask 0x0FFFFFFF) true,
  row 0x1802 64 8 .rwp 0 (.mask 0xFFFF) true, row 0x1803 64 8 .rwp 0 (.mask 0xFFFFFFFF) true,
  row 0x1804 64 8 .rwp 0 (.mask 0xFFFFFFFF) true, row 0x1805 64 8 .rwp 0 (.mask 0xFFFFFFFF) true,
  ro 0x1806 64 8, row 0x1807 64 8 .rw 0 (.mask 0xFFFFFFFF) false]

/-- DEC and FIR (R441, R427). The taps' reset values are the factory coefficients, which `tapValue` supplies. -/
def rowsDec : List PRow := [
  row 0x0B00 1 1 .rwp 0 (.rng 0 5) true .quire, row 0x0B01 1 1 .rwp 0 (.mask 1) true .quire,
  row 0x0B02 1 1 .wo 0 (.mask 0xF) true .quire, ro 0x0B03 1, ro 0x0B04 4 1 131072, ro 0x0B08 5, ro 0x0B0D 1 1 1,
  row 0x2000 64 1 .rw 0 (.mask 0x3FFFF) true .quire, ro 0x2040 320,
  row 0x2180 128 1 .rw 0 (.mask 0x3FFFF) true .quire, ro 0x2200 256,
  row 0x2300 192 1 .rw 0 (.mask 0x3FFFF) true .quire, ro 0x23C0 192,
  row 0x2480 192 1 .rw 0 (.mask 0x3FFFF) true .quire, ro 0x2540 192]

/-- QRE (R474, R536) and `QRE.TRN_s_w` (R856). -/
def rowsQre : List PRow := [
  row 0x0C00 1 1 .wo 0 (.mask 1) false, row 0x0C01 1 1 .wo 0 (.rng 1 2) false,
  row 0x0C02 1 1 .rw 1 (.mask 0xFFFFFFFF) true .quire, row 0x0C03 1 1 .rwp 1 (.mask 0xF) true .quire,
  row 0x0C04 1 1 .rwp 15 (.mask 0x3FFFFFF) true .quire, row 0x0C05 1 1 .rwp 4 (.mask 0x3FFFFFF) true .quire,
  row 0x0C06 1 1 .rwp 1 (.rng 1 1048576) true .quire, row 0x0C07 1 1 .rw 0 (.mask 0xFFFFFFC0) true .quire,
  row 0x0C08 1 1 .rw 0 (.mask 0xFFFF) true .quire, row 0x0C09 1 1 .rw 1024 (.rng 1 1048576) true .quire,
  row 0x0C0A 1 1 .rw 0 (.mask 1) true .quire, row 0x0C0B 1 1 .rw 768 (.mask 0x1FFFFF) true,
  row 0x0C0C 1 1 .rw 256 (.mask 0x1FFFFF) true, row 0x0C0D 1 1 .wo 0 (.rng 1 1048576) false, ro 0x0C10 8,
  row 0x0C40 1 1 .rw 0x2C .memCfg false .quire, ro 0x0C41 2, row 0x0C43 1 1 .wo 0 (.mask 1) false .quire,
  ro 0x0C44 2, ro 0x0C46 1 1 1500, ro 0x0C47 1, ro 0x0C80 64]

/-- LDG (R500). -/
def rowsLdg : List PRow := [
  row 0x0D00 1 1 .rwp 0xB (.mask 0xF) true, row 0x0D01 1 1 .rwp 0 (.mask 0xFFFFFFFF) true,
  row 0x0D02 1 1 .rwp 262144 (.rng 1 262144) true, row 0x0D03 1 1 .rwp 0 (.mask 0xFFFFFFFF) true,
  row 0x0D04 1 1 .rw 0x130 (.mask 0xFFFF) true, row 0x0D05 1 1 .wo 0 (.mask 1) false,
  row 0x0D06 1 1 .wo 0 (.mask 3) false, ro 0x0D07 8, ro 0x0D10 10, ro 0x0D20 10,
  row 0x0D40 1 1 .rw 1 (.mask 0xF) true, row 0x0D41 1 1 .rw 0 (.mask 0xFFFFFFFF) true,
  row 0x0D42 1 1 .rw 1 (.rng 1 65536) true, row 0x0D43 1 1 .rw 0xFFFFFE00 (.mask 0xFFFFFFFF) true,
  row 0x0D44 1 1 .rw 0 (.rng 0 6) true,
  row 0x0D45 1 1 .rw 0 (.orZero 256 1048575) true, row 0x0D46 1 1 .rw 4 (.rng 1 8) true,
  row 0x0D47 1 1 .wo 0 (.mask 1) false, ro 0x0D48 1]

/-- TEL (R536). -/
def rowsTel : List PRow := [
  row 0x0E00 16 16 .wo 0 (.mask 3) false, row 0x0E01 16 16 .rw 0 (.mask 0xFFFFFFC0) false,
  row 0x0E02 16 16 .rw 0 (.mask 0xFFFF) false, row 0x0E03 16 16 .rw 0x4000 (.fields 0x7F03 [(8, 7, 1, 64)]) true,
  row 0x0E04 16 16 .rw 1 (.mask 3) true, row 0x0E05 16 16 .rw 16384 (.rng 64 1048575) true,
  row 0x0E06 16 16 .rw 5000 (.mask 0xFFFF) true, ro 0x0E07 16 16, ro 0x0E08 16 16, ro 0x0E09 16 16, ro 0x0E0A 16 16,
  ro 0x0E0B 16 16, ro 0x0E0C 16 16, row 0x0E0D 16 16 .w1c 0 (.mask 0xF) false, ro 0x0E0E 16 16, ro 0x0E0F 16 16]

/-- FLT and LOG (R765, R856). -/
def rowsFlt : List PRow := [
  row 0x2A00 1 1 .rw 0 (.mask 0x7FF) true, row 0x2A01 1 1 .rw 0 (.mask 0x7FF) true, ro 0x2A02 1,
  row 0x2A03 1 1 .wo 0 (.mask 0x7FF) false, ro 0x2A10 11, ro 0x2A20 11, ro 0x2A30 11, ro 0x2A40 4,
  ro 0x2A44 1 1 2000, ro 0x2A45 2, row 0x2A47 1 1 .rw 0 (.mask 1) true]

/-- SPN and XFR (R580, R606), `SPN.LSYM_g`, `XFR.SND_p_w` and `XFR.WINQ_p_m` (R856). -/
def rowsSpn : List PRow := [
  row 0x0F00 1 1 .rw 7 (.mask 7) true, row 0x0F01 1 1 .wo 0 (.mask 7) false, ro 0x0F02 2, ro 0x0F04 8,
  ro 0x0F10 14, ro 0x0F20 12, ro 0x0F30 12,
  row 0x0F80 1 1 .rw 0x71 (.mask 0x71) true, row 0x0F81 1 1 .rw 16 (.rng 1 256) true, ro 0x0F82 5,
  row 0x0F90 3 16 .rw 0 (.mask 0xFFFFFFC0) true, row 0x0F91 3 16 .rw 0 (.mask 0xFFFF) true,
  row 0x0F92 3 16 .rw 1024 (.rng 1 1048576) true, ro 0x0F93 3 16, ro 0x0F94 3 16, ro 0x0F95 3 16, ro 0x0F96 3 16,
  ro 0x0F97 3 16, ro 0x0F98 3 16,
  ro 0x0FC0 3 4, ro 0x0FC1 3 4, ro 0x0FC2 3 4, ro 0x0FD0 24]

/-- DSP (R642) and `DSP.MTAB_m_w` (R856). -/
def rowsDsp : List PRow := [
  row 0x2600 1 1 .rw 0 (.mask 0xFFFFFF) true .frame, row 0x2601 1 1 .rwp 1 (.mask 7) true .frame,
  row 0x2602 1 1 .rw 0x2F (.mask 0x3F) true .frame, row 0x2603 1 1 .rw 0 (.mask 0xFFFFFFC0) false .frame,
  row 0x2604 1 1 .rw 0 (.mask 0xFFFF) false .frame, row 0x2605 1 1 .rw 7680 (.mask 0x1FFFC0) true .frame,
  row 0x2606 1 1 .rw 0 (.mask 0xFFFFFFFF) true .frame,
  row 0x2607 1 1 .rw 0x04000800 (.fields 0xFFFFFFFF [(0, 16, 64, 3840), (16, 16, 64, 2160)]) true .frame,
  row 0x2608 1 1 .rw 0 (.mask 0xFFFFFFC0) true .frame, row 0x2609 1 1 .rw 0 (.mask 0xFFFF) true .frame,
  row 0x260A 1 1 .rw 0 (.rng 0 8) true .frame, row 0x260B 1 1 .rw 60 (.rng 1 255) true .frame,
  row 0x2610 1 1 .rw 0x7803 (.fields 0xFFFF07 [(8, 8, 5, 255)]) true .frame,
  row 0x2611 1 1 .rw 0 (.mask 0xFF) true .frame, ro 0x2612 1, ro 0x2618 3,
  row 0x261B 1 1 .wo 0 (.mask 1) false .frame, ro 0x2620 1, row 0x2621 1 1 .w1c 0 (.mask 0x71) false .frame,
  ro 0x2622 9, ro 0x262B 1 1 65535, ro 0x262C 1, ro 0x2640 64]

/-- ASY and ISO (R678, R679). -/
def rowsAsy : List PRow :=
  ((List.range 8).map fun j => row (0x2700 + 4 * j) 1 1 .rw (0x000A2001 + 2 * j)
    (.fields 0x7FFFFF [(1, 5, 0, 23), (6, 2, 0, 2), (11, 5, 0, 16), (16, 7, 1, 100)]) true) ++ [
  row 0x2720 24 4 .rw 0x000A0000 (.fields 0x7FFFFF [(1, 5, 0, 23), (6, 2, 0, 2), (11, 5, 0, 16), (16, 7, 1, 100)]) true,
  ro 0x2701 32 4, ro 0x2702 32 4 0x7FFFFFFF, ro 0x2703 32 4 0x80000000,
  row 0x2780 32 1 .rw 0x3FF (.mask 0xFFFFFFFF) true, ro 0x27A0 32,
  row 0x27C0 8 2 .rw 0 (.mask 0xFFFFFFFF) false, row 0x27C1 8 2 .rw 0x40000000 (.mask 0xFFFFFFFF) false,
  row 0x27D0 1 1 .rw 1 (.mask 3) true, row 0x27D1 1 1 .rw 0 (.mask 1) true, ro 0x27D2 1,
  row 0x27D3 1 1 .wo 0 (.mask 0xFFFFFFFF) false, row 0x27D4 1 1 .wo 0 (.mask 0xFFFFFFFF) false,
  row 0x27D5 1 1 .w1c 0 (.mask 0xFFFFFFFF) false,
  row 0x27D6 1 1 .wo 0 (.fields 0x1F1F [(3, 2, 1, 2), (8, 5, 0, 16)]) false,
  row 0x27D7 1 1 .rw 0x20000000 (.mask 0xFFFFFFFF) false, ro 0x27D8 1,
  row 0x27D9 1 1 .rw 0x00400000 (.fields 0xFFFF1F [(8, 16, 1, 65535)]) true,
  row 0x27DA 1 1 .w1c 0 (.mask 0xF) false, row 0x27DB 1 1 .rw 0 (.fields 0x9FFF [(8, 5, 0, 23)]) false,
  ro 0x27DC 2, row 0x27E0 4 2 .rw 0x80000000 (.mask 0xFFFFFFFF) true,
  row 0x27E1 4 2 .rw 0x7FFFFFFF (.mask 0xFFFFFFFF) true, row 0x27E8 1 1 .rw 0 (.mask 0x9F9F9F9F) true,
  row 0x27E9 1 1 .w1c 0 (.mask 0xF) false,
  row 0x27F0 1 1 .rwp 0 (.fields 0xF9F [(8, 4, 0, 8)]) true, row 0x27F1 1 1 .rwp 15360 (.rng 11520 23040) true,
  row 0x27F2 1 1 .rw 26 (.rng 1 4095) true, row 0x27F3 1 1 .rw 64 (.mask 0xFFFF) true,
  row 0x27F4 1 1 .rw 655 (.mask 0xFFFF) true, row 0x27F5 1 1 .rw 25600 (.rng 11520 26880) true, ro 0x27F6 3]

/-- CAL (R705), `CAL.USEHDR_w` and `CAL.USE_e_w` (R856). -/
def rowsCal : List PRow := [
  row 0x2800 1 1 .rw 0 (.mask 3) false, row 0x2801 1 1 .rw 0 (.mask 0xFFFFFFFF) false,
  row 0x2802 1 1 .rw 0x20A (.fields 0x77F [(0, 7, 1, 100), (8, 3, 0, 6)]) false,
  row 0x2803 1 1 .rw 1024 (.rng 16 65535) false,
  row 0x2804 1 1 .wo 0 (.fields 0x7F [(0, 4, 1, 15), (4, 3, 1, 7)]) false, row 0x2805 1 1 .wo 0 (.mask 1) false,
  ro 0x2806 3, row 0x2809 1 1 .wo 0 (.mask 1) false, row 0x280A 1 1 .wo 0 (.mask 0xF) false,
  row 0x280B 1 1 .rw 0 (.mask 0xFFFFFFC0) false, row 0x280C 1 1 .rw 0 (.mask 0xFFFF) false, ro 0x280D 2,
  row 0x2810 1 1 .rwp 31 (.oneOf (31 :: List.range 16)) true .quire, ro 0x2811 2,
  row 0x2813 1 1 .rw 0 (.mask 0x9F) true, row 0x2814 1 1 .rw 0 (.mask 0xFFFFFFFF) true,
  row 0x2815 1 1 .rw 2684 (.mask 0xFFFFFFFF) true, ro 0x2820 16, ro 0x2830 160]

/-- VOL (R743) and `VOL.POSN_p_w` (R856). -/
def rowsVol : List PRow := [
  row 0x2900 1 1 .rw 0 (.mask 3) false, row 0x2901 1 1 .rw 0 (.mask 7) false, row 0x2902 1 1 .rw 2 (.rng 2 8) false,
  row 0x2903 1 1 .rw 1024 (.rng 16 65535) false, row 0x2904 1 1 .rw 0 (.mask 0xFFFF) false,
  row 0x2905 1 1 .wo 0 (.mask 1) false, ro 0x2906 16, ro 0x2920 32]

end Sys2Proof.Machine
end

