-- ==== Sys2Proof/Machine/Ops.lean ====
section
/-! DEFINITION. Machine/Ops.lean: the shared operations: bit fields, bytes and checks, sparse maps, memory, time,
parameters, alerts and the event log, sessions and escrow locks. -/

namespace Sys2Proof.Machine

/-! ### Bit fields and bytes -/

/-- The field of width n at bit lo of a number (R4). -/
def nfld (w lo n : Nat) : Nat := (w >>> lo) % 2 ^ n

/-- The field of width n at bit lo of a word (R4). -/
def fld (w : Word) (lo n : Nat) : Nat := nfld w.toNat lo n

/-- Bit i of a word. -/
def bitOf (w : Word) (i : Nat) : Bool := w.getLsbD i

/-- 1 or 0. -/
def b2n (b : Bool) : Nat := if b then 1 else 0

/-- A number as a word. -/
def w32 (n : Nat) : Word := BitVec.ofNat 32 n

/-- The signed value of the n low bits of w. -/
def sext (w n : Nat) : Int := if w % 2 ^ n < 2 ^ (n - 1) then (w % 2 ^ n : Int) else (w % 2 ^ n : Int) - 2 ^ n

/-- An integer in n bits of two's complement. -/
def ofInt (z : Int) (n : Nat) : Nat := (z % (2 ^ n : Int)).toNat

/-- A quotient rounded to the nearest integer, midway to the larger (R278). -/
def roundDiv (a : Int) (b : Nat) : Int := (2 * a + b).fdiv (2 * b)

/-- A value limited to lo to hi. -/
def clampZ (lo hi z : Int) : Int := if z < lo then lo else if z > hi then hi else z

/-- Element i of a vector, or the default beyond its end. -/
def vget {α : Type} [Inhabited α] {n : Nat} (v : Vector α n) (i : Nat) : α := v.toList.getD i default

/-- The vector with element i replaced; unchanged beyond its end. -/
def vset {α : Type} {n : Nat} (v : Vector α n) (i : Nat) (a : α) : Vector α n := v.setIfInBounds i a

/-- The vector with element i changed. -/
def vmod {α : Type} [Inhabited α] {n : Nat} (v : Vector α n) (i : Nat) (f : α → α) : Vector α n := vset v i (f (vget v i))

/-- Every element of a vector changed. -/
def vmap {α β : Type} {n : Nat} (f : α → β) (v : Vector α n) : Vector β n := v.mapIdx fun _ a => f a

/-- An element put into a list sorted by `le`, after its equals. -/
def insertBy {α : Type} (le : α → α → Bool) (a : α) : List α → List α
  | [] => [a]
  | b :: t => if le b a then b :: insertBy le a t else a :: b :: t

/-- A list sorted by `le`, equals in their order. -/
def sortBy {α : Type} (le : α → α → Bool) (l : List α) : List α := l.foldl (fun s a => insertBy le a s) []

/-- The n bytes of a number, least significant first (R5). -/
def leBytes : Nat → Nat → List Byte
  | _, 0 => []
  | x, n + 1 => BitVec.ofNat 8 x :: leBytes (x / 256) n

/-- The number whose bytes these are, least significant first (R5). -/
def leNat : List Byte → Nat
  | [] => 0
  | b :: bs => b.toNat + 256 * leNat bs

/-! ### Cyclic redundancy checks -/

/-- Eight shifts of the CRC-8 register (R140). -/
def crc8Shift : Nat → Byte → Byte
  | 0, c => c
  | n + 1, c => crc8Shift n (if c.getLsbD 7 then (c <<< 1) ^^^ 0x07 else c <<< 1)

/-- The CRC-8 of R140. -/
def crc8 (bs : List Byte) : Byte := bs.foldl (fun c b => crc8Shift 8 (c ^^^ b)) 0xFF

/-- Eight shifts of the CRC-16 register (R556). -/
def crc16Shift : Nat → BitVec 16 → BitVec 16
  | 0, c => c
  | n + 1, c => crc16Shift n (if c.getLsbD 15 then (c <<< 1) ^^^ 0x1021 else c <<< 1)

/-- The CRC-16 of R556. -/
def crc16 (bs : List Byte) : BitVec 16 :=
  bs.foldl (fun c b => crc16Shift 8 (c ^^^ ((b.zeroExtend 16 : BitVec 16) <<< (8 : Nat)))) 0xFFFF

/-- Eight shifts of the reflected CRC-32C register (R219). -/
def crc32Shift : Nat → Word → Word
  | 0, c => c
  | n + 1, c => crc32Shift n (if c.getLsbD 0 then (c >>> 1) ^^^ 0x82F63B78 else c >>> 1)

/-- The CRC-32C register after more bytes. -/
def crc32Run (c : Word) (bs : List Byte) : Word :=
  bs.foldl (fun c b => crc32Shift 8 (c ^^^ b.zeroExtend 32)) c

/-- The CRC-32C of R219. -/
def crc32c (bs : List Byte) : Word := crc32Run 0xFFFFFFFF bs ^^^ 0xFFFFFFFF

/-! ### Sparse maps -/

/-- What a sparse map with defaults d holds at key k. -/
def sget {α : Type} (d : Nat → α) : List (Nat × α) → Nat → α
  | [], k => d k
  | (j, v) :: t, k => if k = j then v else sget d t k

/-- A sparse map with the value v put at key k, in canonical form: keys rising, no entry equal to its default. -/
def sput {α : Type} [DecidableEq α] (d : Nat → α) : List (Nat × α) → Nat → α → List (Nat × α)
  | [], k, v => if v = d k then [] else [(k, v)]
  | (j, w) :: t, k, v =>
    if k < j then (if v = d k then (j, w) :: t else (k, v) :: (j, w) :: t)
    else if k = j then (if v = d k then t else (k, v) :: t)
    else (j, w) :: sput d t k v

/-- The canonical form of a sparse map whose keys all exceed lo. -/
def swfFrom {α : Type} [DecidableEq α] (d : Nat → α) : Nat → List (Nat × α) → Bool
  | _, [] => true
  | lo, (j, v) :: t => decide (lo ≤ j) && decide (v ≠ d j) && swfFrom d (j + 1) t

/-- The canonical form of a sparse map. -/
def swf {α : Type} [DecidableEq α] (d : Nat → α) (m : List (Nat × α)) : Bool := swfFrom d 0 m

/-- Key k of a map without defaults. -/
def mget {α : Type} (m : List (Nat × α)) (k : Nat) : Option α := m.lookup k

/-- A map without defaults with v at key k, keys rising. -/
def mput {α : Type} : List (Nat × α) → Nat → α → List (Nat × α)
  | [], k, v => [(k, v)]
  | (j, w) :: t, k, v =>
    if k < j then (k, v) :: (j, w) :: t else if k = j then (k, v) :: t else (j, w) :: mput t k v

/-- A map without key k. -/
def mdel {α : Type} (m : List (Nat × α)) (k : Nat) : List (Nat × α) := m.filter fun e => e.1 != k

/-! ### Memory (R213, R461, the Ledger SRAM of ch. 15) -/

/-- Where the Ledger SRAM starts. -/
def ledgerBase : Nat := 0x0010_0000_0000

/-- Where the Vault read window starts. -/
def vaultBase : Nat := 0x0020_0000_0000

/-- What an unlisted byte reads as: 0, but in the two Ledger pages the initial bin record of R475.
(DESIGN CHOICE, log 74) (DESIGN CHOICE, log 80) -/
def memDefault (a : Nat) : Byte :=
  if ledgerBase ≤ a ∧ a < ledgerBase + 0x100_0000 then
    (match a % 32 with
     | 20 => 0xFF
     | 21 => 0x7F
     | 23 => 0x80
     | _ => 0)
  else 0

/-- The canonical form of the memory. -/
def Memory.wf (mem : List Host.Cell) : Bool := swf memDefault mem

/-- One byte of engine memory. -/
def readByte (mem : List Host.Cell) (a : Nat) : Byte := sget memDefault mem a

/-- Engine memory with one byte written. -/
def writeByte (mem : List Host.Cell) (a : Nat) (b : Byte) : List Host.Cell := sput memDefault mem a b

/-- n bytes of engine memory from a. -/
def readBytes (mem : List Host.Cell) (a n : Nat) : List Byte := (List.range n).map fun i => readByte mem (a + i)

/-- Engine memory with bytes written from a upward. -/
def writeBytes (mem : List Host.Cell) : Nat → List Byte → List Host.Cell
  | _, [] => mem
  | a, b :: bs => writeBytes (writeByte mem a b) (a + 1) bs

/-- Engine memory with every byte of a to a + n - 1 back at its default. (DESIGN CHOICE, log 80) -/
def clearBytes (mem : List Host.Cell) (a n : Nat) : List Host.Cell :=
  mem.filter fun c => !(decide (a ≤ c.1) && decide (c.1 < a + n))

/-- A little-endian number of n bytes at a. -/
def readNat (mem : List Host.Cell) (a n : Nat) : Nat := leNat (readBytes mem a n)

/-- The engine with its memory written. -/
def Mach.poke (m : Mach) (a : Nat) (bs : List Byte) : Mach := { m with mem := writeBytes m.mem a bs }

/-! ### Parameters -/

/-- Every row of the parameter map (R848). -/
def paramRows : List PRow :=
  rowsId ++ rowsBasic ++ rowsTim ++ rowsPwr ++ rowsPrt ++ rowsVlt ++ rowsFe ++ rowsMnt ++ rowsTrg ++ rowsDec ++ rowsQre ++
  rowsLdg ++ rowsTel ++ rowsSpn ++ rowsDsp ++ rowsAsy ++ rowsCal ++ rowsVol ++ rowsFlt

/-- The row that holds an address, if the address is defined (R848). -/
def rowOf (a : Nat) : Option PRow := paramRows.find? fun r => r.holds a

/-- Whether a parameter occupies the address (R159). -/
def defined (a : Nat) : Bool := (rowOf a).isSome

/-- The reset value of a parameter. -/
def resetOf (a : Nat) : Word :=
  match rowOf a with
  | some r => w32 r.reset
  | none => 0

/-- The landed value of a stored parameter: current in the parameter space. -/
def Mach.pval (m : Mach) (a : Nat) : Word := sget resetOf m.par.landed a

/-- The landed value as a number. -/
def Mach.pnat (m : Mach) (a : Nat) : Nat := (m.pval a).toNat

/-- The value in use of a quire-bound or frame-bound parameter (R23). -/
def Mach.use (m : Mach) (a : Nat) : Word :=
  match m.par.quire.lookup a with
  | some v => v
  | none =>
    match m.par.frame.lookup a with
    | some v => v
    | none => m.pval a

/-- The value in use as a number. -/
def Mach.useN (m : Mach) (a : Nat) : Nat := (m.use a).toNat

/-- The engine with a parameter's stored value replaced. -/
def Mach.pset (m : Mach) (a : Nat) (v : Word) : Mach := { m with par := { m.par with landed := sput resetOf m.par.landed a v } }

/-- Whether an address is pinned. -/
def Mach.pinned (m : Mach) (a : Nat) : Bool := m.par.pins.contains a

/-- Whether the parameter is pinnable (R10, R853). -/
def isRwp (a : Nat) : Bool := match rowOf a with | some r => r.acc == .rwp | none => false

/-- A sorted list of addresses with one more. -/
def addAddr : List Nat → Nat → List Nat
  | [], a => [a]
  | b :: t, a => if a < b then a :: b :: t else if a = b then b :: t else b :: addAddr t a

/-- The engine with an RWP parameter pinned (R40); other parameters are never pinned (R854). -/
def Mach.pin (m : Mach) (a : Nat) : Mach :=
  if isRwp a then { m with par := { m.par with pins := addAddr m.par.pins a } } else m

/-- The engine with a pin released. -/
def Mach.unpin (m : Mach) (a : Nat) : Mach := { m with par := { m.par with pins := m.par.pins.filter (· != a) } }

/-- Whether a quire is running (ch. 14, Quire states). -/
def Mach.running (m : Mach) : Bool := m.qre.st == .running || m.qre.st == .finishing

/-- Whether an address is a `FE.RANGE_k` or `FE.OFFSET_k`, which a running chain drives itself (R682). -/
def chainDrives (a : Nat) : Bool := 0x800 ≤ a && a < 0x840 && a % 16 < 2

/-- The landing of a stored value (R23 to R26, R682): it becomes current; where its landing point has not come, the value in
use stays in use and waits. -/
def Mach.land (m : Mach) (a : Nat) (v : Word) : Mach :=
  let old := m.use a
  let m1 := m.pset a v
  match rowOf a with
  | some r =>
    match r.cls with
    | .beat => m1
    | .quire => if m.running || (m.cal.st == .running && chainDrives a) then { m1 with par := { m1.par with quire := mput m1.par.quire a old } } else m1
    | .frame => { m1 with par := { m1.par with frame := mput m1.par.frame a old } }
  | none => m1

/-! ### Time (R75 to R79) -/

/-- Time units in a nanosecond. -/
def uNs : Nat := 2 ^ 39

/-- Time units in 2^-48 s. -/
def uStamp : Nat := 1953125

/-- Time units in the 96-bit range of time. -/
def uRange : Nat := 2 ^ 96 * uStamp

/-- The nominal REFCLEAN period in time units: 100 ns or 10 ns. -/
def refPeriod (t : Tim) : Nat := if t.ref100 then 10 * uNs else 100 * uNs

/-- Time and the phase of REFCLEAN after d more time units of the clock source (R78): on the holding oscillator with REFCLEAN running,
time holds the value of the last REFCLEAN edge. -/
def elapse (period mono phase : Nat) (holding stopped : Bool) (d : Nat) : Nat × Nat :=
  (if holding && !stopped then mono + (phase + d) / period * period else mono + d, (phase + d) % period)

/-- The timebase n core clocks later (R78). (DEDUCED, log 18) (DEDUCED, log 101) -/
def Tim.advance (t : Tim) (n : Nat) : Tim :=
  let e := elapse (refPeriod t) t.mono t.refPhase t.holding t.refStopped (if t.holding then n * 5 * 2 ^ 38 else n * uNs)
  { t with since := t.since.map (· + n * (if t.holding then 5 else 2)), mono := e.1, refPhase := e.2 }

/-- The clock source from this instant on (R58, R59, R78). Where the core leaves the core PLL while REFCLEAN runs, time goes back to the
last REFCLEAN edge, and on the core PLL again it counts from that edge on, so that the edges keep their phase on the time scale. REFCLEAN
started again has an edge at that instant. (DEDUCED, log 101) (DESIGN CHOICE, log 19) -/
def Tim.source (t : Tim) (holding stopped : Bool) : Tim :=
  let was := t.holding && !t.refStopped
  let now := holding && !stopped
  let phase := if t.refStopped && !stopped then 0 else t.refPhase
  let mono := if now && !was then t.mono - phase else if was && !holding then t.mono + phase else t.mono
  { t with holding, refStopped := stopped, refPhase := phase, mono
           regimes := { clk := t.clk, mono, phase, holding, stopped } :: t.regimes.filter fun r => decide (r.clk < t.clk) }

/-- The core clock held low for c ns (R720 step 2, R721): time runs on, the core's clocks do not. -/
def Tim.hold (t : Tim) (c : Nat) : Tim :=
  let mono := t.mono + c * uNs
  let phase := (t.refPhase + c * uNs) % refPeriod t
  { t with mono, refPhase := phase, since := t.since.map (· + 2 * c)
           regimes := { clk := t.clk, mono, phase, holding := t.holding, stopped := t.refStopped } :: t.regimes.filter fun r => decide (r.clk < t.clk) }

/-- The instant of core clock clk and 1,024ths of one, on the engine's scale (R78, R79), by the clock source it fell under: `rs` is how
time ran in its beat interval. -/
def instantIn (t : Tim) (rs : List Regime) (clk frac : Nat) : Nat :=
  match rs.find? fun r => decide (r.clk ≤ clk) with
  | some r => (elapse (refPeriod t) r.mono r.phase r.holding r.stopped ((1024 * (clk - r.clk) + frac) * (if r.holding then 5 * 2 ^ 28 else 2 ^ 29))).1
  | none => t.boundary

/-- The instant of a core clock of the beat interval in progress, or of the one before. (DEDUCED, log 101) -/
def Tim.instantOf (t : Tim) (before : Bool) (clk frac : Nat) : Nat := instantIn t (if before then t.earlier else t.regimes) clk frac

/-- The instant of a beat boundary to come, counted from reset, with the core on the core PLL; the latest for one that has come. -/
def Tim.boundaryAt (t : Tim) (b : Nat) : Nat := t.boundary + (b - t.beats) * 1024 * uNs

/-- An instant of the engine's own scale as 96-bit time (R79, R88). -/
def Tim.stampOf (t : Tim) (mono : Nat) : BitVec 96 :=
  BitVec.ofNat 96 ((((mono : Int) + t.off) % (uRange : Int)).toNat / uStamp)

/-- The 96-bit time now. -/
def Mach.now (m : Mach) : BitVec 96 := m.tim.stampOf m.tim.mono

/-- The beat counter (R75). (DEDUCED, log 6) -/
def Mach.beat (m : Mach) : Nat := (m.tim.beats - 1) % 2 ^ 64

/-- The low 32 bits of the beat counter. -/
def Mach.beatLo (m : Mach) : Word := w32 m.beat

/-- Word i of a 96-bit value (R88). -/
def word96 (t : BitVec 96) (i : Nat) : Word := w32 (t.toNat >>> (32 * i))

/-- The HOLDOVER condition (R60, R89). -/
def Mach.holdover (m : Mach) : Bool := m.tim.holding || m.tim.ref != .locked

/-- The engine with hallmark conditions noted for the beat interval in progress (R31). -/
def Mach.note (m : Mach) (mask : BitVec 16) : Mach := { m with hall := { m.hall with seen := m.hall.seen ||| mask } }

/-! ### Alerts and the event log (R744 to R758) -/

/-- Whether Spine port p is UP; port 0 is the host port. -/
def Mach.portUp (m : Mach) (p : Nat) : Bool := (vget m.spn.port p).st == .up

/-- An EVENT packet queued on the host port (R573, R574): none while the port is not UP (R748, R758), and a 65th
waiting is dropped and counted. -/
def Mach.sendEvent (m : Mach) (e : EventPkt) : Mach :=
  if m.portUp 0 then
    if m.spn.evq.length < 64 then { m with spn := { m.spn with evq := m.spn.evq ++ [e] } }
    else { m with spn := { m.spn with drop := m.spn.drop + 1 } }
  else m

/-- The sealed commits with one more class raised since they were sealed (R746). -/
def Session.noteRaise (s : Session) (cls : Nat) : Session :=
  { s with commit := s.commit.map fun c => { c with raised := c.raised ||| (1 <<< cls) }
           due := s.due.map fun c => { c with raised := c.raised ||| (1 <<< cls) }
           deferred := s.deferred.map fun c => { c with raised := c.raised ||| (1 <<< cls) } }

/-- One raise of an alert class (R745, R748, R856). `seq` is the number of the raise's record, 0 when none is kept. -/
def Mach.raise (m : Mach) (cls code : Nat) (seq : Nat := 0) : Mach :=
  let f := m.flt
  let m1 : Mach := { m with
    flt := { f with alert := f.alert ||| (1 <<< cls), lastCode := BitVec.ofNat 16 code, lastClass := BitVec.ofNat 4 cls
                    count := vmod f.count cls (· + 1), lastBeat := vset f.lastBeat cls m.beatLo
                    lastSeq := vset f.lastSeq cls (w32 seq) }
    ctl := { m.ctl with spi := m.ctl.spi.noteRaise cls, host := m.ctl.host.noteRaise cls } }
  if bitOf (m1.pval 0x2A01) cls || f.eventSent.getLsbD cls || !m.portUp 0 then m1
  else { m1 with flt := { m1.flt with eventSent := m1.flt.eventSent ||| (1 <<< cls) } }.sendEvent
    { source := 2, code := BitVec.ofNat 16 cls, arg := w32 code, beat := m.beat }

/-- The number after n, counting 2^40 - 1 on to 1 (R752). -/
def nextSeq (n : Nat) : Nat := if n + 1 ≥ 2 ^ 40 then 1 else n + 1

/-- The code of a plane in a record (R750), which is also its rank within one core clock (R38). -/
def Plane.code : Plane → Nat
  | .management => 0 | .control => 1 | .data => 2

/-- Whether record r comes before x of the same core clock: by plane, then by code (R38, R754). (DESIGN CHOICE, log 65) -/
def LogRec.before (r x : LogRec) : Bool :=
  decide (r.plane.code < x.plane.code) || (r.plane.code == x.plane.code && decide (r.code < x.code))

/-- How many waiting records a new one follows: all but those of its own core clock that R754 puts after it. (DESIGN CHOICE, log 65) -/
def recPlace (r : LogRec) : List LogRec → Nat
  | [] => 0
  | x :: t => if x.inst = r.inst ∧ r.before x then 0 else recPlace r t + 1

/-- The numbers that class words name follow the records that R38 moved. -/
def renumber (moved : List (Nat × Nat)) (v : Word) : Word :=
  match moved.find? fun p => w32 p.1 == v with
  | some p => w32 p.2
  | none => v

/-- One record placed in the log queue, using a token (R38, R752, R755), with its number. (DESIGN CHOICE, log 65) -/
def Mach.queueRec (m : Mach) (r : LogRec) : Nat × Mach :=
  let f := m.flt
  let n := recPlace r f.queue
  let nums := f.queue.map (·.num) ++ [if f.found then f.next else 0]
  let placed := f.queue.take n ++ [r] ++ f.queue.drop n
  let moved := (f.queue.drop n).map (·.num) |>.zip (nums.drop (n + 1))
  (nums.getD n 0,
   { m with flt := { f with queue := List.zipWith (fun k x => { x with num := k }) nums placed, tokens := f.tokens - 1
                            lastSeq := if f.found then vmap (renumber moved) f.lastSeq else f.lastSeq
                            next := if f.found then nextSeq f.next else f.next } })

/-- Whether the log can take a record (R756). -/
def Mach.logFree (m : Mach) : Bool := decide (0 < m.flt.tokens) && decide (m.flt.queue.length < 64)

/-- A record as an event of this instant forms it (R750, R751). (DEDUCED, log 64) -/
def Mach.record (m : Mach) (plane : Plane) (code a b : Nat) (origin : Option Master) (cls : Option Nat) : LogRec :=
  { num := 0, plane, origin := match origin.or m.flt.origin with | none => 0 | some .spi => 1 | some .host => 2
    holdover := m.holdover, valid := m.tim.timeValid, code := BitVec.ofNat 16 code, beat := m.beat
    time := m.now.toNat / 2 ^ 16, a := w32 a, b := BitVec.ofNat 16 b, cls
    inst := 16 * (1024 * m.tim.beats + m.tim.clk) + m.flt.step }

/-- What f does on behalf of master k (R751). (DEDUCED, log 64) -/
def Mach.behalf (m : Mach) (k : Option Master) (f : Mach → Mach) : Mach :=
  let m1 := f { m with flt := { m.flt with origin := k } }
  { m1 with flt := { m1.flt with origin := m.flt.origin } }

/-- The LOG_DROPPED record, queued when a token and a place are free after drops (R756). -/
def Mach.flushDropped (m : Mach) : Mach :=
  if m.flt.sinceDrop = 0 then m
  else if m.logFree then
    let m1 := (m.queueRec { m.record .management 0x0002 m.flt.sinceDrop 0 none none with origin := 0 }).2
    { m1 with flt := { m1.flt with sinceDrop := 0 } }
  else m

/-- An event's raise of its class, if it has one (R745). -/
def Mach.raiseOf (m : Mach) (cls : Option Nat) (code seq : Nat) : Mach :=
  match cls with
  | some c => m.raise c code seq
  | none => m

/-- One event (R745, R754 to R756): its record and its raise, or its raise and the count of a dropped record. -/
def Mach.logEvent (m : Mach) (plane : Plane) (code a b : Nat) (origin : Option Master := none)
    (cls : Option Nat := none) : Mach :=
  let m0 := m.flushDropped
  if m0.logFree then
    let (seq, m1) := m0.queueRec (m0.record plane code a b origin cls)
    m1.raiseOf cls code seq
  else
    let m1 := m0.raiseOf cls code 0
    let m2 := if m1.flt.sinceDrop = 0 then m1.raise 10 0x0002 else m1
    { m2 with flt := { m2.flt with dropped := m2.flt.dropped + 1, sinceDrop := m2.flt.sinceDrop + 1 } }

/-- Whether an unmasked alert is pending: ALERT_N is low, after READY (R162, R254, R747). -/
def Mach.alertPending (m : Mach) : Bool :=
  m.boot.ready && (m.flt.alert.toNat &&& (2 ^ 11 - 1 - (m.pnat 0x2A00) % 2 ^ 11) != 0)

/-! ### Sessions and escrow locks (R188 to R209) -/

/-- One master's session. -/
def Mach.session (m : Mach) : Master → Session
  | .spi => m.ctl.spi
  | .host => m.ctl.host

/-- The engine with one master's session replaced. -/
def Mach.setSession (m : Mach) (k : Master) (s : Session) : Mach :=
  match k with
  | .spi => { m with ctl := { m.ctl with spi := s } }
  | .host => { m with ctl := { m.ctl with host := s } }

/-- The other master. -/
def Master.other : Master → Master
  | .spi => .host
  | .host => .spi

/-- Whether range word w covers address a (R188). -/
def rangeHolds (w : Word) (a : Nat) : Bool := w != 0 && decide (fld w 0 16 ≤ a) && decide (a ≤ fld w 16 16)

/-- Whether lock n's ranges, own range words and own step word cover address a, with the range words of `val`
(R188). -/
def lockCovers (val : Nat → Word) (n a : Nat) : Bool :=
  (List.range 4).any (fun k => rangeHolds (val (0x640 + 4 * n + k)) a || a == 0x640 + 4 * n + k) || a == 0x620 + n

/-- The master that holds a lock covering address a, if any, by these locks and range words; where two commits of one beat have made two
locks' ranges overlap, by the lowest-numbered HELD one. (DESIGN CHOICE, log 110) -/
def coverOwner (locks : Vector Lock 8) (val : Nat → Word) (a : Nat) : Option Master :=
  (List.range 8).findSome? fun n =>
    let l := vget locks n
    if l.st == .held && lockCovers val n a then l.owner else none

/-- FORFEIT of lock n with a cause (R203). (DEDUCED, log 81) -/
def Mach.forfeit (m : Mach) (n : Nat) (cause : Nat) : Mach :=
  let l := vget m.ctl.locks n
  let own := match l.owner with | none => 0 | some .spi => 1 | some .host => 2
  let m1 := m.logEvent .control 0x0301 (n + 16 * own + 256 * cause) (m.pnat (0x620 + n))
  { m1 with ctl := { m1.ctl with locks := vset m1.ctl.locks n { l with st := .forfeit, cause := BitVec.ofNat 4 cause, lease := 0 }
                                 forfeits := m1.ctl.forfeits + 1 } }

/-- Whether the SPI port works under R114: stage 6 in force, or left with CORE not usable again. -/
def Mach.keepMode (m : Mach) : Bool := m.ctl.inKeep || decide (6 ≤ m.pwr.stage)

/-- Whether master k works on the keep staging area (R115). -/
def Mach.usesKeep (m : Mach) (k : Master) : Bool := k == .spi && m.keepMode

/-- The staging area that master k works on. -/
def Mach.staging (m : Mach) (k : Master) : PMap := if m.usesKeep k then m.ctl.keep else (m.session k).staging

/-- The engine with that staging area replaced. -/
def Mach.setStaging (m : Mach) (k : Master) (p : PMap) : Mach :=
  if m.usesKeep k then { m with ctl := { m.ctl with keep := p } } else m.setSession k { m.session k with staging := p }

/-- The commit result of a discarded commit, DENIED with nothing landed (R201). -/
def CRes.denied : CRes := { code := 4 }

/-- A session without its staging area, sealed commits and DEFERRED commits; each discarded commit is counted, and the
latest sealed commit's result becomes DENIED when it is among them (R198, R199, R201). -/
def Session.discard (s : Session) (staged deferred : Bool := true) : Session :=
  let gone := s.commit.toList.length + s.due.toList.length + (if deferred then s.deferred.length else 0)
  let latest := s.commit.isSome || s.due.any (fun c => c.num == s.count) || (deferred && s.deferred.any fun c => c.num == s.count)
  { s with staging := if staged then [] else s.staging, commit := none, due := none
           deferred := if deferred then [] else s.deferred
           disc := s.disc + BitVec.ofNat 16 gone, cres := if latest then CRes.denied else s.cres }

/-- The engine with a master's changes discarded, those in the keep staging area included (R115). -/
def Mach.discard (m : Mach) (k : Master) (staged deferred : Bool := true) : Mach :=
  ({ m with ctl := { m.ctl with keep := if staged && k == .spi then [] else m.ctl.keep } } : Mach).setSession k
    ((m.session k).discard staged deferred)

/-- Queued insert requests of a master dropped (R244); none stands for every request, at stage 6. -/
def Mach.dropInserts (m : Mach) (k : Option Master) : Mach :=
  let gone := m.ins.queue.filter fun r => k.isNone || r.master == k
  if gone.isEmpty then m
  else
    let m1 := { m with ins := { m.ins with queue := m.ins.queue.filter (fun r => !(k.isNone || r.master == k)), result := 6 } }
    m1.logEvent .control 0x0303 (match k with | none => 0 | some .spi => 1 | some .host => 2) gone.length

/-- A session reset (R198): commits and staging discarded, the master's locks forfeited with the cause, its insert
requests dropped (R244). -/
def Mach.sessionReset (m : Mach) (k : Master) (cause : Nat) : Mach :=
  let m1 := m.discard k
  let m2 := (List.range 8).foldl (fun m n =>
    let l := vget m.ctl.locks n
    if l.st == .held && l.owner == some k then m.forfeit n cause else m) m1
  m2.dropInserts (some k)

/-! ### Domains and stages (ch. 03) -/

/-- Whether domain d is usable: 0 KEEP, 1 CORE, 2 FRONT, 3 SLICE, 4 STORE, 5 LINK, 6 SCAN, 7 MINT. -/
def Mach.domUp (m : Mach) (d : Nat) : Bool := vget m.pwr.dom d == .usable

/-- Whether the actions of stage k apply: the stage in force has reached it and it is enabled (R107, R112). (DEDUCED, log 23) -/
def Mach.stageOn (m : Mach) (k : Nat) : Bool :=
  decide (k ≤ m.pwr.stage) && (decide (5 ≤ k) || bitOf (m.pval 0x503) (k - 1))

/-- The fitted DDR5 capacity of a `QRE.MEMCFG` value in GiB (R461). -/
def memGiB (v : Nat) : Nat :=
  let width := if nfld v 3 2 = 0 then 8 else 16
  let density := 8 * (nfld v 5 2 + 1)
  4 * (nfld v 7 1 + 1) * (32 / width) * density / 8

/-- The fitted DDR5 capacity in bytes, by the configuration last trained (R474: `QRE.MEMCFG` is used at the next
training), before any training by the configuration in use. -/
def Mach.ddrSize (m : Mach) : Nat := (if m.store.size = 0 then memGiB (m.useN 0xC40) else m.store.size) * 2 ^ 30

/-- Whether n bytes from a lie wholly inside fitted DDR5. -/
def Mach.inDdr (m : Mach) (a n : Nat) : Bool := decide (a + n ≤ m.ddrSize)

/-- Whether n bytes from a lie wholly inside the Ledger SRAM. -/
def inLedger (a n : Nat) : Bool := decide (ledgerBase ≤ a) && decide (a + n ≤ ledgerBase + 0x140_0000)

/-- Whether n bytes from a lie wholly inside the Vault read window. -/
def inVault (a n : Nat) : Bool := decide (vaultBase ≤ a) && decide (a + n ≤ vaultBase + 0x80_0000)

/-- Whether DDR5 is available: STORE usable and trained (R259). -/
def Mach.ddrUp (m : Mach) : Bool := m.domUp 4 && m.store.st == .trained

/-- The subchannel that holds address a's 256-byte block, 0 to 3 for A0, A1, B0, B1 (R462). -/
def subchannelOf (a : Nat) : Nat := [0, 2, 1, 3].getD (a / 256 % 4) 0

/-- Whether n bytes from a have a block in subchannel s (R462). -/
def touches (a n s : Nat) : Bool :=
  (List.range (min 4 ((a + n + 255) / 256 - a / 256))).any fun i => subchannelOf (a + 256 * i) == s

/-- Notes an access to n bytes of DDR5 from a in this beat interval: it starts a self-refresh exit, and ends the power-down of the
subchannels that hold the bytes (R468, R470). -/
def Mach.touchDdr (m : Mach) (a n : Nat) : Mach :=
  { m with store := { m.store with accessed := true, selfRef := false, down := m.store.down.mapIdx fun s d => d && !touches a n s } }

/-- The outcome of a command whose effect on the engine is f; held in reset, the engine does nothing (R100, R255).
(DESIGN CHOICE, log 1) (DESIGN CHOICE, log 120) -/
def State.run (s : State) (f : Mach → Mach) : Host.Outcome State Fault Refusal :=
  .next { s with m := if s.m.boot.inReset then s.m else f s.m }

end Sys2Proof.Machine
end

