-- ==== Sys2Proof/Machine/Flags.lean ====
section
/-! DEFINITION. Machine/Flags.lean: the hallmark conditions and the flag word latch (R31, R33, R89, R126, R283, R329, R330,
R674, R701 to R703, R722), and the status bits of a response (R143). -/

namespace Sys2Proof.Machine

/-! ### The conditions (R703) -/

/-- `ASY.CFG_j` (R678). -/
def Mach.accCfg (m : Mach) (j : Nat) : Word := m.pval (0x2700 + 4 * j)

/-- The input of accumulator j. -/
def Mach.accInput (m : Mach) (j : Nat) : Nat := fld (m.accCfg j) 1 5

/-- The bits of `FLAGS` for a state of the loop (R674). -/
def isoOol (s : IsoSt) : Bool := s == .warming || s == .ool || s == .fault

/-- The CERT_EXPIRED condition (R701). -/
def Mach.certExpired (m : Mach) : Bool :=
  m.running && m.cal.epoch != 0 &&
    (if m.tim.timeValid then decide (m.cal.validTo ≤ m.now.toNat / 2 ^ 48)
     else m.cal.limit == 0 || decide (m.cal.sealedAt + m.cal.limit ≤ m.vlt.powered))

/-- The REF_OOL condition (R702). -/
def Mach.refOol (m : Mach) : Bool :=
  let v := m.pval 0x2813
  let j := fld v 0 5
  let a := vget m.asy.accs j
  let e := m.accInput j
  bitOf v 7 && (!a.latched || decide (m.pnat 0x2815 < (a.mean - (m.pval 0x2814).toInt).natAbs)
    || (decide (18 ≤ e) && decide (e ≤ 21) && m.asy.owStat.getLsbD (e - 18)))

/-- The flags whose conditions hold now, by the bits of R703. -/
def Mach.conditions (m : Mach) : BitVec 16 :=
  BitVec.ofNat 16 (b2n m.certExpired + 2 * b2n m.refOol + 4 * b2n (m.trm.st == .held)
    + 8 * b2n (m.trm.st == .unsettled || !m.trm.inUse.settled) + 16 * b2n m.vol.adrift + 32 * b2n (m.pwr.stage != 0)
    + 64 * b2n m.holdover + 128 * b2n (isoOol m.iso.st) + 256 * b2n (m.fe.front.toList.any fun f => f.powered && f.isOver))

/-- The conditions that hold now noted for the beat interval in progress, before one of them ends (R31). What ends at a beat boundary
itself belongs to the interval that the boundary closes. -/
def Mach.noteNow (m : Mach) : Mach := if m.tim.clk = 0 then m else m.note m.conditions

/-- A beat interval closes (R31, R33): its flag word, of conditions noted in it or holding at its end, joins the history, which
keeps the 65,536 most recent words and the OR of the older ones. -/
def Mach.closeInterval (m : Mach) : Mach :=
  let w := m.hall.seen ||| m.conditions
  let h := w :: m.hall.history
  { m with hall := { m.hall with
    seen := 0, closed := w, history := h.take 65536, older := m.hall.older ||| (if h.length ≤ 65536 then 0 else h.getLastD 0) } }

/-- Step 8 of a beat's work (R15): the word of the closed interval latches. -/
def Mach.latchFlags (m : Mach) : Mach := { m with hall := { m.hall with latched := m.hall.closed } }

/-- Bits [6:4] of a status byte to master k (R143). -/
def Mach.statusBits (m : Mach) (k : Master) : BitVec 3 :=
  BitVec.ofNat 3 (b2n m.alertPending + 2 * b2n m.boot.acqReady + 4 * b2n (m.session k).commit.isSome)

end Sys2Proof.Machine
end

