-- ==== Sys2Proof/Machine/Link.lean ====
section
/-! DEFINITION. Machine/Link.lean: sending packets on a Spine port: credits, numbers and the replay buffer; Volume
messages (ch. 17, 22). -/

namespace Sys2Proof.Machine

/-- The credit class of a packet: 0 P, 1 N, 2 C (R557). -/
def Packet.cls : Packet → Nat
  | .write .. | .event _ | .folio .. | .keyRequest _ => 0
  | .ctrl false _ => 1
  | .writeAck .. | .readData .. | .ctrl true _ => 2

/-- The length of a packet's body in bytes (R557). -/
def Packet.len : Packet → Nat
  | .write _ _ d | .folio _ _ d _ _ | .readData _ _ d _ _ => d.length
  | .writeAck .. => 0
  | .event _ => 16
  | .ctrl .. | .keyRequest _ => 8

/-- 8-byte words of a packet with a body of n bytes, header and body (R555, R566). -/
def wordsOf (n : Nat) : Nat := 2 + (n + 7) / 8

/-- The 8-byte words of a packet. -/
def Packet.words (p : Packet) : Nat := wordsOf p.len

/-- One class of a count. -/
def Words.get (w : Words) : Nat → Nat
  | 0 => w.p
  | 1 => w.n
  | _ => w.c

/-- A count with n added to one class. -/
def Words.add (w : Words) (cls n : Nat) : Words :=
  match cls with
  | 0 => { w with p := w.p + n }
  | 1 => { w with n := w.n + n }
  | _ => { w with c := w.c + n }

/-- A count with n taken from one class. -/
def Words.sub (w : Words) (cls n : Nat) : Words :=
  match cls with
  | 0 => { w with p := w.p - n }
  | 1 => { w with n := w.n - n }
  | _ => { w with c := w.c - n }

/-- Bytes in the replay buffer (R564). -/
def Port.held (p : Port) : Nat := (p.unacked.map fun e => 8 * e.2.words).sum

/-- Whether a packet may be sent now: credits of its class, and room in the replay buffer (R564, R567). -/
def Port.maySend (p : Port) (k : Packet) : Bool :=
  decide (k.words ≤ p.avail.get k.cls) && decide (p.unacked.length < 2047) && decide (p.held + 8 * k.words ≤ 65536)

/-- The port after it sends a packet for the first time (R561, R564, R567). -/
def Port.transmit (p : Port) (k : Packet) : Port :=
  { p with avail := p.avail.sub k.cls k.words, unacked := p.unacked ++ [(p.next, k)], next := p.next + 1 }

/-- The packets `q` sent as credits allow: a packet that must wait holds back only its own class (R567). `stuck` names
the classes held back. -/
def Port.pumpFrom (p : Port) (stuck : List Nat) : List Packet → Port
  | [] => p
  | k :: q =>
    if stuck.contains k.cls || !p.maySend k then
      let r := p.pumpFrom (k.cls :: stuck) q
      { r with txq := k :: r.txq }
    else (p.transmit k).pumpFrom stuck q

/-- A port that is UP sends what waits (R567). -/
def Port.pump (p : Port) : Port := if p.st == .up then { p with txq := [] }.pumpFrom [] p.txq else p

/-- Port i changed. -/
def Mach.modPort (m : Mach) (i : Nat) (f : Port → Port) : Mach :=
  { m with spn := { m.spn with port := vmod m.spn.port i f } }

/-- Port i. -/
def Mach.portOf (m : Mach) (i : Nat) : Port := vget m.spn.port i

/-- A packet queued on port i and sent as credits allow; nothing is sent on a port that is not UP. -/
def Mach.sendPkt (m : Mach) (i : Nat) (k : Packet) : Mach :=
  if m.portUp i then m.modPort i fun p => { p with txq := p.txq ++ [k] }.pump else m

/-! ### Volume messages (R713, R714) -/

/-- Whether the Volume is on (R743). -/
def Mach.volOn (m : Mach) : Bool := bitOf (m.pval 0x2900) 0

/-- This engine's position (R743). -/
def Mach.volPos (m : Mach) : Nat := fld (m.pval 0x2901) 0 3

/-- The size of the Volume (R743). -/
def Mach.volSize (m : Mach) : Nat := fld (m.pval 0x2902) 0 4

/-- Whether this engine is a member: in a Volume and not its principal. -/
def Mach.isMember (m : Mach) : Bool := m.volOn && m.volPos != 0

/-- Whether this engine is the principal. -/
def Mach.isPrincipal (m : Mach) : Bool := m.volOn && m.volPos == 0

/-- Whether port i is joined (R709). -/
def Mach.joined (m : Mach) (i : Nat) : Bool := (i == 1 && m.vol.east) || (i == 2 && m.vol.west)

/-- The Volume beat of the beat interval in progress (ch. 22, Ring and positions). -/
def Mach.volBeat (m : Mach) : Int := (m.beat : Int) + m.vol.beatOfs

/-- A Volume message body (R713). -/
def volBody (origin target : Nat) (bcast : Bool) (op f2 f4 : Nat) : List Byte :=
  [BitVec.ofNat 8 (origin + 8 * target + 64 * b2n bcast), BitVec.ofNat 8 op] ++ leBytes f2 2 ++ leBytes f4 4

/-- A Volume message sent on port i: 1 east, 2 west. -/
def Mach.sendVol (m : Mach) (i target : Nat) (bcast : Bool) (op f2 f4 : Nat) : Mach :=
  m.sendPkt i (.ctrl false (volBody m.volPos target bcast op f2 f4))

/-- A broadcast from this engine, sent east on a joined port (R714). -/
def Mach.bcast (m : Mach) (op f2 f4 : Nat) : Mach := if m.vol.east then m.sendVol 1 0 true op f2 f4 else m

/-! ### The calibration chain -/

/-- The chain point in progress (R683): its kind, 0 for ZERO and STD, 1 P+, 2 P-, 3 Z, with its input and range. -/
def Cal.pointOf (c : Cal) : Nat × Nat × Nat :=
  let rs := (List.range 3).filter fun r => bitOf c.run (4 + r)
  let ks := (List.range 4).filter fun k => bitOf c.run k
  let pairs := rs.flatMap fun r => ks.map fun k => (k, r)
  if c.point < 2 then (0, 0, 0)
  else
    match pairs[(c.point - 2) / 3]? with
    | some (k, r) => ((c.point - 2) % 3 + 1, k, r)
    | none => (0, 0, 0)

/-- A cause of R690 has arisen: a running chain fails at the beat that follows; the first cause stands. (DEDUCED, log 61) -/
def Mach.chainFail (m : Mach) (cause : Nat) : Mach :=
  if m.cal.st == .running && m.cal.fail.isNone then { m with cal := { m.cal with fail := some cause } } else m

end Sys2Proof.Machine
end

