-- ==== Sys2Proof/Machine/Path.lean ====
section
/-! DEFINITION. Machine/Path.lean: the sample grid, and the path of a sample from the input balls to the trimmed sample (ch. 08, 09, 13). -/

namespace Sys2Proof.Machine

/-! ### The sample grid (R288, R289, R420, R433, R434) -/

/-- Groups that serve an input in a channel mode: 1, 2 or 4 (R288). -/
def groupsOf (mode : Nat) : Nat := if mode = 0 then 1 else if mode = 1 then 2 else 4

/-- The served inputs of a channel mode, bit k - 1 for input k (R288). -/
def servedMask (mode : Nat) : BitVec 4 := if mode = 0 then 0xF else if mode = 1 then 0x5 else 0x1

/-- The slice that takes sample s of input k, 0 for IN1, in a mode with g groups an input (R289): group k is the input's lowest. -/
def sliceOf (g k : Nat) (s : Int) : Nat := 64 * (k + (s % (g : Int)).toNat) + (s / (g : Int) % 64).toNat

/-- Decimation ratio, taps, FIR decimation, moving average and set of a preset (R420). -/
def presetRow (p : Nat) : Nat × Nat × Nat × Nat × Nat :=
  match p with
  | 1 => (4, 127, 4, 1, 0)
  | 2 => (16, 255, 16, 1, 1)
  | 3 => (64, 383, 64, 1, 2)
  | 4 => (1024, 383, 64, 16, 3)
  | 5 => (65536, 383, 64, 1024, 3)
  | _ => (1, 1, 1, 1, 0)

/-- The group delay of a preset in input samples (R420). -/
def groupDelay (p : Nat) : Nat :=
  let (_, n, df, mv, _) := presetRow p
  if p = 0 then 0 else (n - 1) / 2 + (mv - 1) * df / 2

/-- The input sample period is 5 * 2^40 / den time units, den = (100 + N) G: sample clock 10.000 GHz + N * 100 MHz. -/
def QCfg.den (c : QCfg) : Nat := (100 + c.nfreq) * c.groups

/-- The nominal instant of input sample s, times den (R289). -/
def QCfg.instNum (c : QCfg) (s : Nat) : Nat := c.t0 * c.den + s * (5 * 2 ^ 40)

/-- The first input sample whose nominal instant lies at or after the instant x / den. -/
def QCfg.sampleAt (c : QCfg) (xNum : Nat) : Nat := (xNum - c.t0 * c.den + (5 * 2 ^ 40 - 1)) / (5 * 2 ^ 40)

/-- The input sample at grid index g. -/
def QCfg.gridSample (c : QCfg) (g : Nat) : Nat := c.origin + g * c.ratio

/-- How many grid samples have nominal instants before the instant x. -/
def QCfg.gridBefore (c : QCfg) (x : Nat) : Nat := (c.sampleAt (x * c.den) - c.origin + (c.ratio - 1)) / c.ratio

/-! ### From volts to slice codes (R276 to R278) -/

/-- The full-scale range in pV that `FE.RANGE_k` selects (R276). -/
def rangeOf (r : Nat) : Nat := 250000000000 * 2 ^ r

/-- 65,536 (V - V_off) for a differential voltage in pV, with V_off = O * range / 32,768 (R277). -/
def aboveOffset (range : Nat) (o v : Int) : Int := 65536 * v - 2 * o * range

/-- The ideal slice code of a differential voltage (R278): 64 (V - V_off) / LSB with LSB = range / 1,024, rounded and clamped. -/
def idealSlice (range : Nat) (o v : Int) : Int := clampZ (-32768) 32767 (roundDiv (aboveOffset range o v) range)

/-- The ideal raw sample of a differential voltage (R278, R279). -/
def idealRaw (range : Nat) (o v : Int) : Int := clampZ (-512) 511 (roundDiv (aboveOffset range o v) (64 * range))

/-- The range and offset code that the front end of input k runs with: the chain's at a Mint point of that input, else the
values in use (R682, R683). -/
def Mach.frontRuns (m : Mach) (k : Nat) : Nat × Int :=
  let (kind, i, r) := m.cal.pointOf
  if m.cal.st == .running && kind != 0 && i == k then (r, if kind = 3 then 8192 else 0)
  else (fld (m.use (0x800 + 16 * k)) 0 2, sext (m.useN (0x801 + 16 * k)) 16)

/-- The range of input k, in pV. -/
def Mach.range (m : Mach) (k : Nat) : Nat := rangeOf (m.frontRuns k).1

/-- The offset code of input k (R277). -/
def Mach.offset (m : Mach) (k : Nat) : Int := (m.frontRuns k).2

/-- Whether the comparator of input k fires on these voltages of its two balls against ground, in pV (R281): the differential voltage
departs from V_off by more than 0.55 of the range, or a leg lies outside -0.85 V to +0.85 V (R822). -/
def Mach.overloads (m : Mach) (k : Nat) (p n : Int) : Bool :=
  decide (11 * 65536 * (m.range k : Int) < 20 * (aboveOffset (m.range k) (m.offset k) (p - n)).natAbs)
    || decide (850000000000 < p.natAbs) || decide (850000000000 < n.natAbs)

/-- The factory coefficient of tap t of set s, 18 bits (R427, R429). -/
def factoryTap (s t : Nat) : Word := Config.factoryTap s t &&& 0x3FFFF

/-- The sample grid of the clocks now running, or that last ran (R289). (DEDUCED, log 38) -/
def Mach.grid (m : Mach) : QCfg := { groups := m.fe.clkGroups, nfreq := m.fe.clkFreq, t0 := m.fe.t0, run := m.fe.run }

/-- The slice code of sample s of input k on a grid (R278, R289): what the slice delivers after foreground correction, for the ideal code
of the voltage at the balls. -/
def Mach.sliceCode (m : Mach) (c : QCfg) (k : Nat) (s : Int) : Int :=
  (Config.sliceCode (sliceOf c.groups k s) c.run s (idealSlice (m.range k) (m.offset k) (Config.inputVoltage c.run k s))).toInt

/-! ### Sines -/

/-- The sine of n / d turns times 2^60, for 0 to a quarter turn, by its series to the 21st power. (DESIGN CHOICE, log 117) -/
def sineQuarter (n d : Nat) : Int :=
  let one : Int := 2 ^ 60
  let x : Int := (n : Int) * 6283185307179586476925286766559 * one / ((d : Int) * 10 ^ 30)
  let x2 := x * x / one
  let step (st : Int × Int) (i : Nat) : Int × Int :=
    let term := -(st.1 * x2 / one) / ((2 * i + 2 : Nat) * (2 * i + 3 : Nat))
    (term, st.2 + term)
  ((List.range 10).foldl step (x, x)).2

/-- The sine of n / d turns times 2^60. -/
def sineTurn (n : Int) (d : Nat) : Int :=
  let q := (n % (d : Int)).toNat
  if 4 * q ≤ d then sineQuarter q d
  else if 2 * q ≤ d then sineQuarter (d - 2 * q) (2 * d)
  else if 4 * q ≤ 3 * d then -sineQuarter (2 * q - d) (2 * d)
  else -sineQuarter (d - q) d

/-! ### The correction path (R305 to R309) -/

/-- The coefficients of slice n in a set. -/
def TrimSet.coef (s : TrimSet) (n : Nat) : Coef := sget (fun _ => {}) s.coefs n

/-- Tap i of the fractional-delay stage for a skew coefficient t in a mode with g groups an input, times 2^60 before normalising (R307):
sinc(x) cos^2(pi x / 10) at x = i - delta = (1,024 i + t g) / 1,024. (DESIGN CHOICE, log 117) -/
def delayTap (g : Nat) (t : Int) (i : Int) : Int :=
  let e := 1024 * i + t * g
  let sinc := if e = 0 then 2 ^ 60 else sineTurn e 2048 * (1024 * 10 ^ 30) / (e * 3141592653589793238462643383279)
  sinc * ((2 ^ 60 + sineTurn (e + 2560) 10240) / 2) / 2 ^ 60

/-- The pilot's phase at an instant of the engine's own scale given as num / den time units, in turns (R341; ch. 09, Pilot): a numerator
over `pilotTurn` * den, for N_p cycles in 2,500 beats. -/
def Mach.pilotPhase (m : Mach) (num : Int) (den : Nat) : Int :=
  (fld (m.use 0x881) 0 4 : Nat) * (((m.beat % 2500 * 1024 * uNs * den : Nat) : Int) + num - (m.tim.boundary * den : Nat))

/-- The denominator of `Mach.pilotPhase`: 2,500 beats in time units. -/
def pilotTurn : Nat := 2500 * 1024 * uNs

/-- The pilot model of input k at sample s of a grid, in 2^-40 slice codes (ch. 09, Pilot): amplitude A_k in 2^-8 codes, and the path
phase added. (DESIGN CHOICE, log 117) -/
def Mach.pilotModel (m : Mach) (c : QCfg) (k : Nat) (s : Int) : Int :=
  let w := vget m.trm.inUse.pamp k
  let phase := m.pilotPhase ((c.t0 * c.den : Nat) + s * (5 * 2 ^ 40)) c.den
  (fld w 0 16 : Nat) * sineTurn (65536 * phase + (fld w 16 16 * pilotTurn * c.den : Nat)) (65536 * pilotTurn * c.den) / 2 ^ 28

/-- Sample s of input k after offset, gain and pilot (steps 1 to 3 of ch. 09, Correction path), in 2^-40 slice codes. (DESIGN CHOICE, log 117) -/
def Mach.levelled (m : Mach) (c : QCfg) (k : Nat) (s : Int) : Int :=
  let q := m.trm.inUse.coef (sliceOf c.groups k s)
  (m.sliceCode c k s - q.o) * 2 ^ 60 / (2 ^ 20 + q.g) - (if m.trm.inUse.sub then m.pilotModel c k s else 0)

/-- The trimmed sample s of input k (R305, R306, R309): step 4 of the path, the fractional-delay stage with the skew coefficient of the
slice of sample s, by the epoch in use throughout, rounded and clamped. (DESIGN CHOICE, log 117) -/
def Mach.trimmed (m : Mach) (c : QCfg) (k : Nat) (s : Int) : Int :=
  let t := (m.trm.inUse.coef (sliceOf c.groups k s)).t
  let hs : List (Int × Int) := (List.range 9).map fun (j : Nat) => ((j : Int) - 4, delayTap c.groups t ((j : Int) - 4))
  let sum : Int := (hs.map fun e => e.2 * m.levelled c k (s + e.1)).sum
  let norm : Int := (hs.map fun e => e.2).sum
  clampZ (-32768) 32767 (roundDiv sum (norm * 2 ^ 40).toNat)

/-- The raw sample of a trimmed sample (R309, R278). -/
def rawOf (z : Int) : Int := clampZ (-512) 511 (roundDiv z 64)

end Sys2Proof.Machine
end

