-- ==== Sys2Proof/Machine/Quire.lean ====
section
/-! DEFINITION. Machine/Quire.lean: folios and quires: grids, stored data, headers, closing and arming (ch. 13, 14). -/

namespace Sys2Proof.Machine

/-! ### Instants (R79, R289) -/

/-- A rational instant num / den of the engine's own scale as a 96-bit stamp (R79). -/
def Tim.stampRat (t : Tim) (num den : Nat) : BitVec 96 :=
  BitVec.ofNat 96 ((((num : Int) + t.off * den) % ((uRange * den : Nat) : Int)).toNat / (uStamp * den))

/-- The quotient rounded up. -/
def ceilDiv (a : Int) (b : Nat) : Int := -((-a).fdiv b)

/-- An instant as a numerator over 4,096 * den time units, from a position in 2^-12 sample periods. -/
def QCfg.posInst (c : QCfg) (pos : Int) : Int := (c.t0 * c.den * 4096 : Nat) + pos * (5 * 2 ^ 40)

/-- An instant of the engine's own scale over 4,096 * den. -/
def QCfg.scale (c : QCfg) (t : Nat) : Int := (t * c.den * 4096 : Nat)

/-- The beat interval, counted from reset, that contains an instant of a quire's scale over 4,096 * den. -/
def Mach.intervalOf (m : Mach) (c : QCfg) (inst : Int) : Nat :=
  let late := c.scale m.tim.boundary - inst
  if late ≤ 0 then m.tim.beats else m.tim.beats - (ceilDiv late (1024 * uNs * c.den * 4096)).toNat

/-! ### Stored data (R296, R309, R424, R425, R435, R445, R452) -/

/-- Bytes in a granule (ch. 14, Slots). -/
def QCfg.granBytes (c : QCfg) : Nat := if c.preset = 0 then 80 else if c.peak then 256 else 128

/-- Stored inputs, ascending, 0 for IN1. -/
def inputList (v : BitVec 4) : List Nat := (List.range 4).filter fun k => v.getLsbD k

/-- The slot size (R445). -/
def QCfg.slotSize (c : QCfg) : Nat := 64 * ((64 + (inputList c.inputs).length * c.gran * c.granBytes + 63) / 64)

/-- Tap t of set s in use (R427): the mirrored half follows the written half. -/
def Mach.tap (m : Mach) (s t : Nat) : Int :=
  let n := if s = 0 then 127 else if s = 1 then 255 else 383
  if t < n then
    let u := if t ≤ (n - 1) / 2 then t else n - 1 - t
    sext ((m.dec.use.lookup (0x2000 + 384 * s + u)).getD (factoryTap s u)).toNat 18
  else 0

/-- The decimated sample centred on input sample x of a quire's grid, before clamping (R424). -/
def Mach.decimate (m : Mach) (c : QCfg) (k : Nat) (x : Int) : Int :=
  let (_, n, df, mv, s) := presetRow c.preset
  let sum := ((List.range mv).map fun (j : Nat) =>
    ((List.range n).map fun (t : Nat) =>
      m.tap s t * m.trimmed c k (x + (j * df : Nat) - ((mv - 1) * df / 2 : Nat) - ((n - 1) / 2 : Nat) + (t : Int))).sum).sum
  roundDiv sum (mv * 2 ^ 17)

/-- The smallest and largest of D trimmed samples around x (R435). -/
def Mach.peakPair (m : Mach) (c : QCfg) (k : Nat) (x : Int) : Int × Int :=
  let zs := (List.range c.ratio).map fun (i : Nat) => m.trimmed c k (x - (c.ratio / 2 : Nat) + (i : Int))
  (zs.foldl min (zs.headD 0), zs.foldl max (zs.headD 0))

/-- Sixty-four raw samples in 80 bytes (R296). -/
def packRaw (xs : List Int) : List Byte :=
  leBytes (xs.foldr (fun x acc => ofInt x 10 + 2 ^ 10 * acc) 0) 80

/-- Grid sample g of stored input k as the values a folio stores (R425, R434, R435). -/
def Mach.stored (m : Mach) (c : QCfg) (k g : Nat) : List Int :=
  let s : Int := (c.gridSample g : Nat)
  if c.preset = 0 then [rawOf (m.trimmed c k s)]
  else if c.peak then let p := m.peakPair c k (s + k); [p.1, p.2]
  else [clampZ (-32768) 32767 (m.decimate c k (s + k))]

/-- The bytes of one granule, `held` of whose 64 samples are held; the rest is filled (R452). -/
def Mach.granule (m : Mach) (c : QCfg) (k g held : Nat) : List Byte :=
  let vals := (List.range 64).flatMap fun i =>
    if i < held then m.stored c k (g + i)
    else if c.preset = 0 then [-512] else if c.peak then [-32768, -32768] else [-32768]
  if c.preset = 0 then packRaw vals else vals.flatMap fun v => leBytes (ofInt v 16) 2

/-- The data of one stored input of a folio: the granules that hold samples. -/
def Mach.inputData (m : Mach) (f : Folio) (k : Nat) : List Byte :=
  (List.range ((f.held + 63) / 64)).flatMap fun i =>
    m.granule f.cfg k (f.first + 64 * i) (min 64 (f.held - 64 * i))

/-- Outputs that R424 clamps among grid points g to h of a quire, over the served inputs: the decimator filters them all (R423, R426). -/
def Mach.clampsOf (m : Mach) (c : QCfg) (g h : Nat) : Nat :=
  if c.preset = 0 || c.peak then 0
  else (((inputList (servedMask m.fe.mode)).map fun k => (List.range (h - g)).countP fun i =>
    let y := m.decimate c k ((c.gridSample (g + i) : Nat) + (k : Int))
    decide (y < -32768) || decide (y > 32767))).sum

/-- The outputs of the running quire's grid centred before this instant counted as far as they are clamped (R423, R426). -/
def Mach.countClamps (m : Mach) : Mach :=
  if m.running then
    let h := m.qre.cfg.gridBefore m.tim.mono
    { m with dec := { m.dec with clamps := m.dec.clamps + w32 (m.clampsOf m.qre.cfg m.dec.counted h), counted := max m.dec.counted h } }
  else m

/-- The address of a folio's slot (R446). -/
def Folio.addr (f : Folio) : Nat := f.cfg.base + f.idx % f.cfg.slots * f.cfg.slotSize

/-- The engine with a folio's samples in its slot (R445). -/
def Mach.storeFolio (m : Mach) (f : Folio) : Mach :=
  let size := f.cfg.gran * f.cfg.granBytes
  let ks := inputList f.cfg.inputs
  let m1 := (List.range ks.length).foldl (fun m j => m.poke (f.addr + 64 + j * size) (m.inputData f (ks.getD j 0))) m
  let used := 64 + ks.length * size
  let m2 := m1.poke (f.addr + used) (List.replicate (f.cfg.slotSize - used) 0)
  m2.touchDdr f.addr f.cfg.slotSize

/-! ### Headers (R32 to R34, R453 to R455) -/

/-- The OR of the flag words of beat intervals b1 to b2: latched words, the older accumulator for intervals before the
kept history, and the conditions so far for the interval in progress (R32, R33). -/
def Mach.flagsOf (m : Mach) (b1 b2 : Nat) : BitVec 16 :=
  let word (i : Nat) : BitVec 16 :=
    if m.tim.beats ≤ i then m.hall.seen ||| m.conditions else m.hall.history.getD (m.tim.beats - 1 - i) m.hall.older
  (List.range (b2 + 1 - b1)).foldl (fun w i => w ||| word (b1 + i)) 0

/-- The 64 header bytes of a folio (R453). -/
def Mach.header (m : Mach) (f : Folio) : List Byte :=
  let c := f.cfg
  let flags := m.flagsOf f.beat1 f.beat2 ||| (if f.shed then 0x20 else 0)
  let w1 := f.idx % 2 ^ 20 + 2 ^ 20 * c.inputs.toNat + 2 ^ 24 * c.preset + 2 ^ 27 * b2n c.peak + 2 ^ 28 * b2n c.repl
    + 2 ^ 29 * b2n f.trunc + 2 ^ 30 * b2n f.overlap + 2 ^ 31 * b2n (decide (0 < f.marks))
  let data := readBytes m.mem (f.addr + 64) (c.slotSize - 64)
  let body := leBytes f.qid.toNat 4 ++ leBytes w1 4 ++ leBytes f.stamp.toNat 12 ++ leBytes f.mask.toNat 8
    ++ leBytes f.winner.toNat 1 ++ leBytes f.source.toNat 1 ++ leBytes f.trim.toNat 2
    ++ leBytes flags.toNat 2 ++ leBytes f.cert.toNat 2 ++ leBytes (f.held + 2 ^ 32 - 1) 4 ++ leBytes (64 * c.pre) 4
    ++ leBytes (f.addr + 64) 6 ++ leBytes (min f.marks 65535) 2
    ++ leBytes (f.mark1.getD 0xFFFFFFFF) 4 ++ leBytes (crc32c data).toNat 4
  body ++ leBytes (crc32c body).toNat 4

/-- The queue fill (R456). -/
def Qre.fill (q : Qre) : Nat := q.headers - q.released

/-- The watermark flag `QRE.STAT`[3] brought up to date (R459). -/
def Mach.watermark (m : Mach) : Mach :=
  let fill := m.qre.fill
  let hi := if m.pnat 0xC0B ≤ fill then true else if fill ≤ m.pnat 0xC0C then false else m.qre.hiFill
  { m with qre := { m.qre with hiFill := hi } }

/-- The Ledger's intake at a header write (R481). -/
def Mach.offer (m : Mach) (f : Folio) : Mach :=
  if !bitOf (m.pval 0xD00) 0 || m.stageOn 3 then { m with ldg := { m.ldg with skip := vmod m.ldg.skip 6 (· + 1) } }
  else if 64 ≤ m.ldg.backlog.length then { m with ldg := { m.ldg with skip := vmod m.ldg.skip 2 (· + 1) } }
  else { m with ldg := { m.ldg with backlog := m.ldg.backlog ++
    [{ qid := f.qid, idx := f.idx, addr := f.addr, size := f.cfg.slotSize, armGen := m.qre.armGen }] } }

/-! ### Page closing (R485) -/

/-- The ACCUMULATING page, if there is one. -/
def Ldg.open (l : Ldg) : Option Nat := (List.range 2).find? fun p => (vget l.pages p).st == .accumulating

/-- The quire of a page's last folio, or the quire it was opened for. -/
def Page.quire (p : Page) : Word := if p.count = 0 then p.qid else p.qlast

/-- The ACCUMULATING page closed with a cause. -/
def Mach.closePage (m : Mach) (cause : Nat) : Mach :=
  match m.ldg.open with
  | none => m
  | some p => { m with ldg := { m.ldg with pages := vmod m.ldg.pages p fun g =>
      { g with st := .closed, cause := BitVec.ofNat 4 cause, closeB := m.beatLo } } }

/-- Whether a folio of quire q is still to be offered, waiting in the backlog or in progress. -/
def Mach.ldgHolds (m : Mach) (q : Word) : Bool :=
  m.qre.pend.any (fun f => f.qid == q) || m.ldg.backlog.any (fun r => r.qid == q) || m.ldg.busy.any (fun b => b.ref.qid == q)

/-- Cause 4 of R485: a closed quire whose last folio the Ledger has accumulated or skipped closes its page. -/
def Mach.ldgEnds (m : Mach) : Mach :=
  m.ldg.ends.foldl (fun m q =>
    if m.ldgHolds q then m
    else
      let m1 := { m with ldg := { m.ldg with ends := m.ldg.ends.filter (· != q) } }
      match m1.ldg.open with
      | some p => if (vget m1.ldg.pages p).quire = q then m1.closePage 4 else m1
      | none => m1) m

/-- One folio's header written: it counts, is offered to the Ledger, and a CLOSED quire with no header left pending is
IDLE. -/
def Mach.writeHeader (m : Mach) (f : Folio) : Mach :=
  let m1 := (m.poke f.addr (m.header f)).touchDdr f.addr 64
  let m2 := { m1 with qre := { m1.qre with pend := m1.qre.pend.drop 1, headers := m1.qre.headers + b2n (f.qid == m1.qre.qid) } }
  let m3 := if m2.qre.st == .closed && m2.qre.pend.isEmpty then { m2 with qre := { m2.qre with st := .idle } } else m2
  (m3.offer f).ldgEnds.watermark

/-- Every pending header written at once with SHED (R34, R127). -/
def Mach.shedHeaders (m : Mach) : Mach :=
  m.qre.pend.foldl (fun m f => m.writeHeader { f with shed := true }) m

/-! ### Closing (R450 to R452, R457) -/

/-- The quire closed with a cause (R451); the writer's tolerance was 0 until now (R469, R470). The principal of a Volume quire broadcasts VSTOP (R740). -/
def Mach.closeQuire (m : Mach) (cause : Nat) : Mach :=
  let q := m.qre
  let m1 := { m.noteNow.countClamps with
    qre := { q with st := if q.pend.isEmpty then .idle else .closed, closeCause := BitVec.ofNat 4 cause, cur := none
                    closes := ((q.qid, q.gen) :: q.closes).take 66 }
    ldg := if bitOf (m.pval 0xD00) 1 then { m.ldg with ends := m.ldg.ends ++ [q.qid] } else m.ldg
    store := { m.store with accessed := true } }
  let m2 := m1.ldgEnds.logEvent .data 0x0702 q.folios cause
  if q.cfg.volume && m2.isPrincipal && cause != 8 then m2.bcast 0x49 0 (ofInt (m2.volBeat + 32) 32) else m2

/-- A running quire closed with cause 8 once its open folio is complete (R451, R740, R741). -/
def Mach.volumeStop (m : Mach) : Mach :=
  if m.running then
    if m.qre.cur.isSome then { m with qre := { m.qre with st := .finishing, endCause := 8 } } else m.closeQuire 8
  else m

/-- The beat interval that contains a folio's last sample (R32). -/
def Mach.lastBeat (m : Mach) (f : Folio) : Nat :=
  m.intervalOf f.cfg (f.cfg.posInst (4096 * ((f.cfg.gridSample (f.first + f.held) : Int) - f.cfg.ratio)))

/-- The open folio ended: its data stored, its header pending. -/
def Mach.endFolio (m : Mach) (f : Folio) : Mach :=
  let f := { f with stored := true, beat2 := m.lastBeat f }
  let m1 := m.storeFolio f
  { m1 with qre := { m1.qre with cur := none, pend := m1.qre.pend ++ [f] } }

/-- The open folio truncated to the samples before the instant x (R452). -/
def Mach.truncate (m : Mach) (x : Nat) : Mach :=
  match m.qre.cur with
  | none => m
  | some f => m.endFolio { f with held := min (64 * f.cfg.gran) (f.cfg.gridBefore x - f.first), trunc := true }

/-- A running quire ended with its open folio truncated at the instant x; no effect on another (R450, R451). -/
def Mach.stopQuire (m : Mach) (cause x : Nat) : Mach :=
  if m.running then (m.truncate x).closeQuire cause else m

/-- A running quire ended by shedding: every header at once with SHED (R112, R127). -/
def Mach.shedQuire (m : Mach) : Mach := ((m.stopQuire 6 m.tim.mono)).shedHeaders

/-! ### Arming (R447 to R449) -/

/-- An entry whose detectors become UNDECIDED at an instant, its pending measurement discarded (R373, R374). What is still on its way to
the clearing table meets it as it was (R388); that is gone two beats later. -/
def Entry.reset (e : Entry) (now : Nat) (words : List Word) : Entry :=
  { e with a := .undecided, b := .undecided, pend := none
           past := e.past.filter (fun p => decide (now < p.at_ + 2048 * uNs)) ++ [{ at_ := now, a := e.a, b := e.b, pend := e.pend, words }] }

/-- The six words that configure entry e (R395). -/
def Mach.entryWords (m : Mach) (e : Nat) : List Word := (List.range 6).map fun p => m.pval (0x1800 + 8 * e + p)

/-- Detectors of the entries that p names UNDECIDED, their pending measurements discarded (R373, R374). -/
def Mach.undecide (m : Mach) (p : Nat → Bool) : Mach :=
  let reset (i : Nat) (e : Entry) : Entry := if p i then e.reset m.tim.mono (m.entryWords i) else e
  { m with trg := { m.trg with entries := m.trg.entries.mapIdx reset } }

/-- The settings in use, as a quire arming now latches them. -/
def Mach.quireCfg (m : Mach) : QCfg :=
  let preset := m.useN 0xB00
  let mode := m.useN 0x840
  let ratio := (presetRow preset).1
  let c : QCfg := {
    inputs := BitVec.ofNat 4 (m.useN 0xC03), gran := m.useN 0xC04 + 1, pre := m.useN 0xC05, count := m.useN 0xC06
    base := m.useN 0xC08 * 2 ^ 32 + m.useN 0xC07, slots := m.useN 0xC09, wrap := bitOf (m.use 0xC0A) 0
    preset, peak := preset != 0 && bitOf (m.use 0xB01) 0
    repl := preset != 0 && !bitOf (m.use 0xB01) 0 && m.dec.use.any fun e =>
      let s := (presetRow preset).2.2.2.2
      decide (0x2000 + 384 * s ≤ e.1) && decide (e.1 < 0x2000 + 384 * (s + 1)) && e.2 &&& 0x3FFFF != factoryTap s (e.1 - 0x2000 - 384 * s)
    groups := groupsOf mode, nfreq := m.useN 0x404, ratio, t0 := m.fe.t0, run := m.fe.run, armT := m.tim.mono }
  if preset = 0 then c else { c with origin := c.sampleAt (m.tim.mono * c.den) }

/-- The first arm check that fails, in the order of R448; 0 when none does. -/
def Mach.armFault (m : Mach) (c : QCfg) : Nat :=
  let avail := servedMask (m.useN 0x840) &&& BitVec.ofNat 4 (m.useN 0x841)
  if c.inputs &&& ~~~avail != 0 then 1
  else if c.inputs = 0 || decide (c.gran ≤ c.pre) then 2
  else if !m.inDdr c.base (c.slots * c.slotSize) then 3
  else if !m.ddrUp then 4
  else 0

/-- An unfinished SLOTS or RECORDS slip bound to an older quire ends SHORT at a new arm, once the folio it moves has
been moved (R516). -/
def Tel.newArm (t : Tel) : Tel :=
  if t.bound.isSome && t.st == .moving && decide (t.claims.length < t.slip.count) then
    { t with short := true, st := if t.folio.isEmpty then .draining else .moving }
  else t

/-- Whether the certificate copy in use has a valid entry for each stored input of a quire (R699). -/
def Mach.certCovers (m : Mach) (c : QCfg) : Bool :=
  let mode := if c.groups = 1 then 0 else if c.groups = 2 then 1 else 2
  (inputList c.inputs).all fun k =>
    let e := 12 * mode + 3 * k + fld (m.use (0x800 + 16 * k)) 0 2
    (m.cal.useEnt.getD (32 * e + 28) 0).getLsbD 0

/-- The certificate epoch of a quire that arms now (R699, R700). -/
def Mach.certEpoch (m : Mach) (c : QCfg) : BitVec 16 :=
  match m.cal.useSlot with
  | none => 0
  | some s =>
    if m.cal.valid.getLsbD s && m.certCovers c then BitVec.ofNat 16 (leNat ((m.cal.useHdr.drop 10).take 2)) else 0

/-- The certificate part of an arm: the epoch and limits that R701 reads. -/
def Mach.armCert (m : Mach) (c : QCfg) : Cal :=
  let h := m.cal.useHdr
  let num (lo n : Nat) : Nat := leNat ((h.drop lo).take n)
  { m.cal with epoch := m.certEpoch c, slot := m.cal.useSlot.getD 0, validTo := num 46 6, limit := num 52 4
               sealedAt := num 32 8, expLogged := false }

/-- A refused arm (R448, R731, R734). -/
def Mach.refuseArm (m : Mach) (qid : Word) (cause : Nat) : Mach :=
  { m with qre := { m.qre with armCause := BitVec.ofNat 4 cause, armPending := false } }.logEvent .data 0x0701 qid.toNat cause

/-- A quire armed at this boundary (R449), or refused with its cause (R448). `vol` names the quire ID of a Volume quire
(R735). An arm fails a running calibration chain (R690). -/
def Mach.armQuire (m : Mach) (vol : Option Word) : Mach :=
  let c := { m.quireCfg with volume := vol.isSome }
  let cause := m.armFault c
  if cause != 0 then m.refuseArm (m.pval 0xC02) cause
  else
    let qid := vol.getD (m.pval 0xC02)
    let m1 := ({ m with cal := m.armCert c } : Mach).chainFail 10 |>.pset 0xC02 (qid + 1)
    Mach.watermark { m1 with
      qre := { m1.qre with st := .running, armPending := false, volPending := false, qid, cfg := c, folios := 0, headers := 0
                           released := 0, claimed := 0, releasable := [], lastEnd := 0, armBeat := m1.beatLo, cur := none, hiFill := false
                           armGen := m1.qre.gen }
      hall := { m1.hall with history := [], older := 0 }
      trg := { (m1.undecide fun _ => true).trg with seq := Vector.replicate 4 none, holdCnt := 0, lastAcc := none }
      dec := if c.preset = 0 && vol.isNone then { m1.dec with counted := 0 } else
        { m1.dec with anchor := m1.tim.stampRat (c.instNum (c.sampleAt (m1.tim.mono * c.den))) c.den, counted := 0 }
      store := { m1.store with selfRef := false }
      vol := { m1.vol with missLog := false }
      tels := { m1.tels with ch := vmap Tel.newArm m1.tels.ch } }

/-! ### The QRE commands -/

/-- A Volume arm started at this beat on the principal, or refused (R731). -/
def Mach.startVolArm (m : Mach) : Mach :=
  let qid := m.pval 0xC02
  let cause := m.armFault m.quireCfg
  if cause != 0 then m.refuseArm qid cause
  else if m.vol.st != .formed then m.refuseArm qid 7
  else if m.vol.mismatch != 0 then m.refuseArm qid 5
  else if m.vol.arm.isSome then m
  else
    let m1 := { m with qre := { m.qre with volPending := true, armPending := false }
                       vol := { m.vol with arm := some { k := m.beat, qid }, armSt := 1, rdyMask := 0, notMask := 0 } }
    m1.bcast 0x44 0 qid.toNat

/-- Whether shedding forbids a quire of these settings to arm (R112, R113, R294). (DEDUCED, log 23) (DESIGN CHOICE, log 106) -/
def Mach.armShed (m : Mach) (c : QCfg) : Bool :=
  m.stageOn 5 || (m.stageOn 4 && (decide (4 ≤ c.inputs.toNat) || c.groups == 4)) || (decide (3 ≤ m.pwr.stage) && c.preset != 0)

/-- An arm that takes place now: of a Volume quire on a principal, else of a quire of this engine (R447, R731). While shedding forbids
it, it waits as the pending arm. (DESIGN CHOICE, log 106) -/
def Mach.armNow (m : Mach) : Mach :=
  if m.armShed m.quireCfg then { m with qre := { m.qre with armPending := true, armBy := m.flt.origin } }
  else if m.isPrincipal then m.startVolArm else m.armQuire none

/-- QRE_ARM (R447): 1 written arms at this boundary, or becomes the pending arm while a quire runs. -/
def Mach.qreArm (m : Mach) (v : Word) : Mach :=
  if bitOf v 0 then if m.running then { m with qre := { m.qre with armPending := true, armBy := m.flt.origin } } else m.armNow else m

/-- A landing `QRE.ARM` within a beat's work (R447): the pending arm while a quire runs, else an arm that waits for the values that
the same boundary lands and recomputes. (DEDUCED, log 15) (DEDUCED, log 90) -/
def Mach.armLand (m : Mach) (v : Word) : Mach :=
  if bitOf v 0 then { m with qre := 
    if m.running then { m.qre with armPending := true, armBy := m.flt.origin } else { m.qre with armDue := true, armBy := m.flt.origin } } else m

/-- The arm of a boundary after its step 5 (R447). (DEDUCED, log 15) -/
def Mach.armLanded (m : Mach) : Mach :=
  if m.qre.armDue then ({ m with qre := { m.qre with armDue := false } } : Mach).behalf m.qre.armBy (·.qreArm 1) else m

/-- QRE_STOP and QRE_FINISH (R450), by the value written. (DEDUCED, log 90) -/
def Mach.qreStop (m : Mach) (v : Word) : Mach :=
  if fld v 0 2 = 1 then
    let m1 := m.stopQuire 2 m.tim.boundary
    let m2 := { m1 with qre := { m1.qre with armPending := false, volPending := false } }
    match m2.vol.arm with
    | some a => ({ m2 with vol := { m2.vol with arm := none, armSt := 3 } } : Mach).bcast 0x47 0 a.qid.toNat
    | none => m2
  else if fld v 0 2 = 2 then
    if m.qre.st == .running then
      if m.qre.cur.isSome then { m with qre := { m.qre with st := .finishing, endCause := 3 } } else m.closeQuire 3
    else m
  else m

/-- The released count advanced over consecutive releasable folios (R527, R528). -/
def advanceReleased : Nat → Nat → List Nat → Nat
  | 0, r, _ => r
  | fuel + 1, r, l => if l.contains r then advanceReleased fuel (r + 1) l else r

/-- The released count at least n, limited to the headers written, and advanced (R456, R528). -/
def Mach.releaseTo (m : Mach) (n : Nat) : Mach :=
  let q := m.qre
  let r := advanceReleased (q.releasable.length + 1) (min n q.headers) q.releasable
  { m with qre := { q with released := r, releasable := q.releasable.filter fun i => decide (r ≤ i) } }.watermark

/-- QRE_RELEASE (R456): n added to the released count. -/
def Mach.qreRelease (m : Mach) (v : Word) : Mach := m.releaseTo (m.qre.released + fld v 0 21)

/-- FOLIO_END (R451, R457): the open folio's last sample is stored, and the quire may close. -/
def Mach.folioEnd (m : Mach) : Mach :=
  match m.qre.cur with
  | none => m
  | some f =>
    let m1 := m.endFolio { f with held := 64 * f.cfg.gran }
    let q := m1.qre
    if q.cfg.count ≤ q.folios then m1.closeQuire 1
    else if q.st == .finishing then m1.closeQuire q.endCause.toNat
    else if !q.cfg.wrap && decide (q.cfg.slots ≤ q.folios - q.released) then m1.closeQuire 4
    else m1

/-- QRE_OVERFLOW (R473): the writer buffer overflows at grid sample count `held` of the open folio; every header
pending is written. -/
def Mach.qreOverflow (m : Mach) (held : Nat) : Mach :=
  if m.running then
    let m1 := match m.qre.cur with
      | none => m
      | some f => m.endFolio { f with held := min held (64 * f.cfg.gran), trunc := true }
    let m2 := (m1.closeQuire 7).logEvent .data 0x0703 m.qre.qid.toNat 0
    m2.qre.pend.foldl (fun m f => m.writeHeader f) m2
  else m

end Sys2Proof.Machine
end

