-- ==== Sys2Proof/Machine/Pilot.lean ====
section
/-! DEFINITION. Machine/Pilot.lean: the pilot code and the Mint clock (ch. 10). -/

namespace Sys2Proof.Machine

/-! ### The pilot (R341) -/

/-- round(8,191 * 10^(-(L - 60) / 20)) for L from 60 to 80 (R341). -/
def pilotAmp (l : Nat) : Nat :=
  [8191, 7300, 6506, 5799, 5168, 4606, 4105, 3659, 3261, 2906, 2590, 2309, 2057, 1834, 1634, 1457, 1298, 1157, 1031, 919,
   819].getD (l - 60) 0

/-- The pilot code of a Mint clock edge at an instant of the engine's own scale (R341). -/
def Mach.pilotCodeAt (m : Mach) (t : Nat) : BitVec 14 :=
  BitVec.ofNat 14 (ofInt (8192 + roundDiv (pilotAmp (fld (m.use 0x881) 8 7) * sineTurn (m.pilotPhase t 1) pilotTurn) (2 ^ 60)) 14)

/-- The pilot code now. (DEDUCED, log 30) -/
def Mach.pilotCode (m : Mach) : BitVec 14 := m.pilotCodeAt m.tim.mono

/-! ### The Mint clock (R353) -/

/-- Whether the Mint clock runs (R353): it comes from the sample synthesizer, and each relock stops it. (DEDUCED, log 30) -/
def Mach.mintClock (m : Mach) : Bool := !m.mnt.stopped

/-- The code at the converter: in PILOT the one of R341 for this instant while the Mint clock runs. -/
def Mach.mintShown (m : Mach) : BitVec 14 :=
  if m.mnt.st == .pilot && m.mnt.phase == .none && !m.mnt.due && m.mintClock then m.pilotCode else m.mnt.code

/-- The Mint clock stopped, by a relock or with SLICE (R353): the output holds its last code, playback is to restart. (DEDUCED, log 30) -/
def Mach.mintStop (m : Mach) : Mach := { m with mnt := { m.mnt with code := m.mintShown, playing := false, stopped := true } }

/-- The Mint clock started again once no relock stops it (R353). (DEDUCED, log 30) -/
def Mach.mintGo (m : Mach) : Mach :=
  if m.tim.core.active || m.tim.synth.active || !m.tim.synthLock then m else { m with mnt := { m.mnt with stopped := false } }

end Sys2Proof.Machine
end

