-- ==== Sys2Proof/Machine/Timebase.lean ====
section
/-! DEFINITION. Machine/Timebase.lean: the reference, relocks, time setting and the PPS input (ch. 02). -/

namespace Sys2Proof.Machine

/-- The source field of entry e: 1 to 4 for an input, 5 for AUX (R393). -/
def Mach.entrySrc (m : Mach) (e : Nat) : Nat := fld (m.pval (0x1800 + 8 * e)) 1 3

/-- Slice clocks gated (R61, R262, R313, R373): a running quire is stopped with cause 5, foreground calibration is
abandoned, input detectors become UNDECIDED, the trim block is spoilt, a chain point at the Mint fails (R690). -/
def Mach.gateSlices (m : Mach) : Mach :=
  let m0 := if m.cal.pointOf.1 != 0 then m.chainFail 13 else m
  let m1 := m0.stopQuire 5 m.tim.mono
  let m2 := m1.undecide fun e => m1.entrySrc e != 5
  { m2 with tim := { m2.tim with slices := false }, trm := { m2.trm with bad := true }
            fe := { m2.fe with cal := if m2.fe.cal == .running then .notRun else m2.fe.cal } }

/-- The grid of a running quire on the slice clocks just started: a quire that armed while they were gated has its own from here on (R289,
R293, R433). -/
def Mach.regrid (m : Mach) : Mach :=
  if m.running then
    let c0 := { m.qre.cfg with t0 := m.fe.t0, run := m.fe.run }
    let c := if c0.preset = 0 then c0 else { c0 with origin := c0.sampleAt (c0.armT * c0.den) }
    { m with qre := { m.qre with cfg := c }
             dec := if c.preset = 0 && !c.volume then m.dec else { m.dec with anchor := m.tim.stampRat (c.instNum c.origin) c.den } }
  else m

/-- Whether a block that runs now is one to discard (R313): slice clocks gated, the pilot absent, or a served input in overload or
settling. -/
def Mach.blockFoul (m : Mach) : Bool :=
  !m.tim.slices || m.trm.lost || m.mnt.st != .pilot || (List.range 4).any fun k =>
    (servedMask m.fe.mode).getLsbD k && ((vget m.fe.front k).isOver || (vget m.fe.front k).settle.isSome)

/-- The first block after a trim restart starts with the slice clocks (R313). -/
def Mach.blockStart (m : Mach) : Mach := if m.trm.fresh then { m with trm := { m.trm with bad := m.blockFoul, fresh := false } } else m

/-- Slice clocks restarted (R67, R73, R289): sample 0 falls on the first REFCLEAN rising edge at or after this
instant. -/
def Mach.restartSlices (m : Mach) : Mach :=
  let p := refPeriod m.tim
  ({ m with tim := { m.tim with slices := true, ckoParked := false }
            fe := { m.fe with run := m.fe.run + 1, t0 := m.tim.mono + (p - m.tim.refPhase) % p
                              clkGroups := groupsOf m.fe.mode, clkFreq := m.useN 0x404 } } : Mach).regrid.blockStart

/-- A core relock started (R57, R58, R61, R73), with the cause of CORE_RELOCK; once relocks are exhausted the core moves to the
holding oscillator and no attempt starts (R69). (DEDUCED, log 16) -/
def Mach.coreRelock (m : Mach) (cause : Nat) : Mach :=
  let m1 := m.mintStop.gateSlices.note 0x40
  let t : Tim := { m1.tim.source true m1.tim.refStopped with coreCause := BitVec.ofNat 2 cause, ckoParked := true }
  if m.tim.exhausted then { m1 with tim := t }
  else
    ({ m1 with tim := { t with core := { t.core with active := true, lock := false, again := false }, relocks := t.relocks + 1 } } : Mach).logEvent
      .management 0x0104 cause 0

/-- A synthesizer relock started (R66, R67, R73); none while SLICE is off (R94). Where relocks are exhausted (R69), or a core
relock that a synthesizer relock follows goes on (R62, R256), it comes after the core's. (DEDUCED, log 16) -/
def Mach.synthRelock (m : Mach) : Mach :=
  if !m.domUp 3 then m
  else if m.tim.exhausted || (m.tim.core.active && (m.tim.synthAfter || m.tim.coreCause == 0)) then
    let m1 := m.mintStop.gateSlices
    { m1 with tim := { m1.tim with synth := { m1.tim.synth with active := false, again := false }, synthLock := false, synthAfter := true } }
  else
    let m1 := m.mintStop.gateSlices
    { m1 with tim := { m1.tim with
      synth := { m1.tim.synth with active := true, lock := false, again := false }, synthLock := false
      relocks := m1.tim.relocks + 1, ckoParked := m1.tim.ckoParked || fld (m1.pval 0x405) 0 2 != 2 } }

/-- A new sequence of qualification windows, from the next beat boundary on (R869). -/
def Tim.requalify (t : Tim) : Tim := { t with win := some (t.beats + 1), qualClean := true }

/-- The qualification window in progress has ended: 1,024 beats have passed since its start (R868, R869). -/
def Tim.windowOver (t : Tim) : Bool := t.win.any fun w => decide (w + 1024 ≤ t.beats)

/-- The window that starts where the one before it ended (R869). -/
def Tim.nextWindow (t : Tim) : Tim := { t with win := t.win.map (· + 1024), qualClean := true }

/-- The power-on core relock starts the first window, at the first beat boundary at or after its start (R869). -/
def Tim.firstWindow (t : Tim) : Tim :=
  if t.win.isSome || t.ref != .freerun then t
  else { t with win := some (if t.clk = 0 ∧ 0 < t.beats then t.beats else t.beats + 1), qualClean := true }

/-- Qualification runs, and the window in progress has shown no missing edge (R90, R869). -/
def Tim.qualifying (t : Tim) : Bool :=
  (t.ref == .freerun || t.ref == .holdover) && t.win.any (fun w => decide (w ≤ t.beats)) && t.qualClean

/-- Loss of REFIN in LOCKED or LOCKING, logged with its argument (R52, R53). -/
def Mach.refLoss (m : Mach) (arg : Nat) : Mach :=
  let st := if m.tim.everLocked then RefState.holdover else RefState.freerun
  let m1 := { m with tim := ({ m.tim with ref := st } : Tim).requalify }
  (m1.note 0x40).logEvent .management 0x0101 arg 0 none (some 0)

/-- A reference change to 10 or 100 MHz (R56, R62, R78); `qualified` says REFIN qualifies there, with LOCKING and its windows from the
end of that window on (R868). (DEDUCED, log 18) (DESIGN CHOICE, log 19) -/
def Mach.referenceChange (m : Mach) (to100 qualified : Bool) : Mach :=
  let t : Tim := ({ m.tim with ref := if qualified then .locking else .freerun, ref100 := to100, timeValid := false
                               synthAfter := true, refPhase := 0 } : Tim).source true true
  ({ m.noteNow with tim := if qualified then t.nextWindow else t.requalify } : Mach).coreRelock 1

/-- The effect of a landing `TIM.REFFREQ` (R56): a nominal frequency other than REFCLEAN's makes a reference change. -/
def Mach.refFreqLanded (m : Mach) : Mach :=
  match fld (m.pval 0x401) 0 2 with
  | 1 => if m.tim.ref100 then m.referenceChange false false else m
  | 2 => if m.tim.ref100 then m else m.referenceChange true false
  | _ => m

/-- REF_LOST (R50 to R53, R868): loss declared in LOCKED or LOCKING, with argument 0 for a missing edge and 1 otherwise. In FREERUN and
HOLDOVER the monitor's missing edge shows in the window in progress (R869). (DESIGN CHOICE, log 102) -/
def Mach.refLost (m : Mach) (phase : Bool) : Mach :=
  if m.tim.ref == .locked || m.tim.ref == .locking then m.refLoss (b2n phase)
  else if !phase && m.tim.qualifying then { m with tim := { m.tim with qualClean := false } }
  else m

/-- QUALIFICATION_WINDOW_END (R49, R56, R868, R869): once the window in progress has lasted 1,024 beats, the nominal frequency REFIN met
over it, if any, and whether an edge was missing. (DESIGN CHOICE, log 102) -/
def Mach.qualWindow (m : Mach) (missing : Bool) (met : Option Bool) : Mach :=
  let sel := fld (m.pval 0x401) 0 2
  let gap := missing || !m.tim.qualClean
  if !m.tim.windowOver then m
  else match m.tim.ref with
  | .locked => m
  | .locking =>
    if gap then m.refLoss 0 else if met != some m.tim.ref100 then m.refLoss 1 else { m with tim := m.tim.nextWindow }
  | _ =>
    match met with
    | some f =>
      if gap || (sel == 1 && f) || (sel == 2 && !f) then { m with tim := m.tim.nextWindow }
      else if f != m.tim.ref100 then m.referenceChange f true
      else { m with tim := { m.tim.nextWindow with ref := .locking } }
    | none => { m with tim := m.tim.nextWindow }

/-- REF_LOCKED (R55): the reference PLL enters LOCKED. -/
def Mach.refLocked (m : Mach) : Mach :=
  if m.tim.ref == .locking then
    let m1 := { m.noteNow with tim := { m.tim with ref := .locked, everLocked := true, win := none } }
    m1.logEvent .management 0x0103 (if m.tim.ref100 then 100 else 10) 0
  else m

/-- REF_ABSENT (R54): REFIN has not qualified 20 ms after reset. -/
def Mach.refAbsent (m : Mach) : Mach :=
  if m.tim.ref == .freerun && !m.tim.absentDone then
    ({ m with tim := { m.tim with absentDone := true } } : Mach).logEvent .management 0x0102 0 0 none (some 0)
  else m

/-- CORE_PLL_UNLOCK (R57): lock lost while the core runs from the core PLL. -/
def Mach.corePllUnlock (m : Mach) : Mach := if m.tim.holding then m else m.coreRelock 2

/-- CORE_PLL_LOCK (R59): the lock detector first reports lock. (DEDUCED, log 18) -/
def Mach.corePllLock (m : Mach) : Mach :=
  if m.tim.core.active && !m.tim.core.lock && !m.tim.core.again then
    { m with tim := { m.tim.source true false with core := { m.tim.core with lock := true } } }
  else m

/-- CORE_RELOCK_SWITCHBACK (R59, R62, R256): the core moves back to the core PLL; the first synthesizer relock, the one after a reference
change or one still wanted since relocks were exhausted (R69) starts, otherwise the slice clocks restart unless a synthesizer relock goes on. -/
def Mach.coreSwitchback (m : Mach) : Mach :=
  if m.tim.core.active && m.tim.core.lock then
    let first := m.tim.synthAfter || m.tim.coreCause == 0 || (!m.tim.synthLock && !m.tim.synth.active)
    let m1 := { m.noteNow with tim := { m.tim.source false m.tim.refStopped with core := {}, synthAfter := false }
                               boot := { m.boot with onPll := true } }
    if first then m1.synthRelock
    else
      let m2 := m1.mintGo
      if m2.tim.synth.active || !m2.domUp 3 || m2.fe.gating then m2 else m2.restartSlices
  else m

/-- RELOCK_FAIL (R69): a relock attempt has not reached lock within its limit; the next one waits for the next beat, and with relocks
exhausted there is none. Each of the two relocks counts its own consecutive failures. (DESIGN CHOICE, log 103) (DEDUCED, log 17) -/
def Mach.relockFail (m : Mach) (core : Bool) : Mach :=
  let r := if core then m.tim.core else m.tim.synth
  if r.active && !r.lock && !r.again then
    let n := r.fails + 1
    let more := decide (n < 4) && !m.tim.exhausted
    let r1 : Relock := { r with fails := n, active := more, again := more }
    let t : Tim := { m.tim with exhausted := m.tim.exhausted || decide (4 ≤ n) }
    ({ m with tim := if core then { t with core := r1 } else { t with synth := r1 } } : Mach).logEvent
      .management 0x0106 (b2n core) n none (if n < 4 then none else some 0)
  else m

/-- One relock at a beat boundary: an attempt that follows a failed one starts, unless relocks are exhausted. -/
def Relock.next (r : Relock) (exhausted : Bool) : Relock := if r.again then { r with again := false, active := r.active && !exhausted } else r

/-- The new attempts of failed relocks, at the beat after the failure (R69). (DEDUCED, log 17) -/
def Mach.relockAgain (m : Mach) : Mach :=
  let n (r : Relock) : Word := if r.again && !m.tim.exhausted then 1 else 0
  { m with tim := { m.tim with core := m.tim.core.next m.tim.exhausted, synth := m.tim.synth.next m.tim.exhausted
                               relocks := m.tim.relocks + n m.tim.core + n m.tim.synth } }

/-- A relock in progress that has not reached lock begins a new attempt, counted from 0. (DESIGN CHOICE, log 104) -/
def Relock.restart (r : Relock) : Relock := if r.active && !r.lock then { active := true } else { r with fails := 0 }

/-- RELOCK_RETRY (R69): `TIM.STAT`[11] cleared, failures counted from 0, a new attempt started: of a relock in progress, else of the core
where it runs on the holding oscillator, else of the synthesizer where it is not locked. With both locked there is no relock to attempt.
(DEDUCED, log 16) (DESIGN CHOICE, log 104) -/
def Mach.relockRetry (m : Mach) (v : Word) : Mach :=
  if !bitOf v 0 then m
  else
    let started (r : Relock) : Word := if r.active && !r.lock then 1 else 0
    let t : Tim := { m.tim with exhausted := false, core := m.tim.core.restart, synth := m.tim.synth.restart
                                relocks := m.tim.relocks + started m.tim.core + started m.tim.synth }
    let m1 := { m with tim := t }
    if t.core.active || t.synth.active || !m.domUp 1 then m1
    else if t.holding then m1.coreRelock t.coreCause.toNat
    else if !t.synthLock then ({ m1 with tim := { t with synthAfter := false } } : Mach).synthRelock
    else m1

/-- SYNTH_UNLOCK (R66, R68): the synthesizer reports loss of lock. -/
def Mach.synthUnlock (m : Mach) : Mach :=
  if m.tim.synthLock then
    let q := if m.running then m.qre.qid.toNat else 0
    (({ m with tim := { m.tim with synthLock := false } } : Mach).synthRelock).logEvent .management 0x0105 q 0
  else m

/-- SYNTH_LOCK (R67). -/
def Mach.synthLocked (m : Mach) : Mach :=
  if m.tim.synth.active && !m.tim.synth.lock && !m.tim.synth.again then
    { m with tim := { m.tim with synth := { m.tim.synth with lock := true }, synthLock := true } }
  else m

/-- SLICE_CLOCK_RESTART (R67): the synthesizer relock ends; the slice clocks restart unless a core relock or a mode
change still gates them. -/
def Mach.sliceRestart (m : Mach) : Mach :=
  if m.tim.synth.active && m.tim.synth.lock then
    let m1 := ({ m with tim := { m.tim with synth := {} } } : Mach).mintGo
    if m1.tim.core.active || m1.fe.gating then m1 else m1.restartSlices
  else m

/-- TIME_SET_REQUEST and TIME_ACTION_CANCEL (R82, R84), by the value written to `TIM.SETARM`. -/
def Mach.setArm (m : Mach) (v : Word) : Mach :=
  if fld v 0 2 = 1 then { m with tim := { m.tim with action := some .set, actBy := m.flt.origin } }
  else if fld v 0 2 = 2 then { m with tim := { m.tim with action := none } }
  else m

/-- TIME_STEP_REQUEST (R83, R84). -/
def Mach.adjRequest (m : Mach) (v : Word) : Mach := { m with tim := { m.tim with action := some (.adj v.toInt), actBy := m.flt.origin } }

/-- TIME_STEP (R83, R85): with no quire running the pending step is added. -/
def Mach.timeStep (m : Mach) : Mach :=
  match m.tim.action with
  | some (.adj ns) =>
    if m.running then m
    else ({ m with tim := { m.tim with off := m.tim.off + ns * uNs, action := none } } : Mach).logEvent .management 0x0108 (ofInt ns 32) 0 m.tim.actBy
  | _ => m

/-- Whether a PPS_IN edge is valid: 1 s within 100 µs after the previous edge (R80). -/
def Tim.ppsOk (t : Tim) : Bool :=
  match t.since with
  | some h => decide (2000000000 ≤ h + 200000) && decide (h ≤ 2000200000)
  | none => false

/-- PPS_EDGE (R80 to R82): counted, judged, a pending time set executed, and the time captured. A set still pending when the engine
becomes a Volume member is executed there too. (DESIGN CHOICE, log 105) -/
def Mach.ppsEdge (m : Mach) : Mach :=
  let ok := m.tim.ppsOk
  let m1 := { m.noteNow with tim := { m.tim with ppsCnt := m.tim.ppsCnt + 1, ppsValid := ok, since := some 0 } }
  let m2 := match m.tim.since with
    | some h => if ok then m1 else
      ({ m1 with tim := { m1.tim with ppsBad := m1.tim.ppsBad + 1 } } : Mach).logEvent .management 0x0109 (min (h / 2000) 0xFFFFFFFF) 0
    | none => m1
  let m3 := if ok && m2.tim.action == some .set && !m2.running && !m2.tim.holding
      && (m2.tim.ref == .locked || m2.tim.ref == .holdover) then
      let secs := fld (m2.pval 0x40C) 0 16 * 2 ^ 32 + m2.pnat 0x40B
      ({ m2 with tim := { m2.tim with off := (secs * (2 ^ 48 * uStamp) : Nat) - (m2.tim.mono : Int), timeValid := true, action := none } } : Mach).logEvent
        .management 0x0107 (m2.pnat 0x40B) 0 m.tim.actBy
    else m2
  { m3 with tim := { m3.tim with ppsCap := m3.now.toNat } }

end Sys2Proof.Machine
end

