-- ==== Sys2Proof/Machine/Trim.lean ====
section
/-! DEFINITION. Machine/Trim.lean: live trim: sets, epochs, restarts, the gap and the trim states (ch. 09). -/

namespace Sys2Proof.Machine

/-- The input, 0 for IN1, that slice n serves in a channel mode (R288). -/
def inputOfSlice (mode n : Nat) : Nat := if mode = 0 then n / 64 else if mode = 1 then (if n < 128 then 0 else 2) else 0

/-- Whether slice n is powered: SLICE usable, and not in the groups that stage 4 holds down (R112, R294). -/
def Mach.slicePowered (m : Mach) (n : Nat) : Bool := m.domUp 3 && !(decide (128 ≤ n) && m.stageOn 4)

/-- A list of coefficients by slice in canonical form: slices rising, none all zero. -/
def coefList (f : Nat → Coef) : List (Nat × Coef) :=
  ((List.range 256).map fun n => (n, f n)).filter fun e => e.2 != {}

/-- The limits of R315 in channel mode `mode`: 512, 10,486 and a quarter of T_in. -/
def skewLimit (mode : Nat) : Int := if mode = 0 then 256 else if mode = 1 then 128 else 64

/-- A coefficient limited by R315. -/
def clampCoef (mode : Nat) (c : Coef) : Coef :=
  { o := clampZ (-512) 512 c.o, g := clampZ (-10486) 10486 c.g, t := clampZ (-skewLimit mode) (skewLimit mode) c.t }

/-- The clamped-coefficient bits that limiting a coefficient gives (R315). -/
def clampBits (mode : Nat) (c : Coef) : BitVec 3 :=
  let d := clampCoef mode c
  BitVec.ofNat 3 (b2n (d.o != c.o) + 2 * b2n (d.g != c.g) + 4 * b2n (d.t != c.t))

/-- The clamped-coefficient bits of slice n in a set (R315, R333). -/
def TrimSet.bits (s : TrimSet) (n : Nat) : BitVec 3 := (s.clamped.lookup n).getD 0

/-- Clamped-coefficient bits by slice: slices rising, none 0. -/
def bitList (f : Nat → BitVec 3) : List (Nat × BitVec 3) := ((List.range 256).map fun n => (n, f n)).filter fun e => e.2 != 0

/-- The trim state, logged at each change (R324); UNSETTLED releases the Mint's POWERUP (R337). -/
def Mach.trimGo (m : Mach) (st : TrimSt) : Mach :=
  if m.trm.st = st then m
  else
    let up := st == .unsettled && m.domUp 7
    ({ m.noteNow with trm := { m.trm with st }, mnt := { m.mnt with released := m.mnt.released || up } } : Mach).logEvent .data 0x0504
      (match st with | .idle => 0 | .unsettled => 1 | .settled => 2 | .held => 3) m.trm.epoch

/-- The pilot models after an epoch landing (R856): each input's model at its range in use is the set's. -/
def Mach.modelsOf (m : Mach) (s : TrimSet) : Vector Word 12 :=
  (List.range 4).foldl (fun v k => vset v (3 * k + fld (m.use (0x800 + 16 * k)) 0 2) (vget s.pamp k)) m.trm.models

/-- A set lands as a new epoch at this beat (R319, R320); `late` puts its epoch start 16 beats later. What lands again at a beat is part of
that beat's one landing (ch. 09, Limits). (DEDUCED, log 118) -/
def Mach.landEpoch (m : Mach) (s : TrimSet) (late : Bool) : Mach :=
  let t := m.trm
  let again := t.landedAt == some m.tim.beats
  let late := late || (again && decide (m.tim.beats < t.startBeat))
  let m1 := { m.noteNow with trm := { t with
    inUse := s, epoch := if again then t.epoch else if t.epoch ≥ 65535 then 1 else t.epoch + 1, epochBeat := m.beatLo
    startBeat := m.tim.beats + (if late then 16 else 0), startT := m.tim.boundary, landedAt := some m.tim.beats
    pending := none, gap := false, wait := 0, waiting := false, models := m.modelsOf s
    kept := if s.settled then vset t.kept m.fe.mode (some s) else t.kept } }
  if s.settled && m1.trm.st == .unsettled then m1.trimGo .settled else m1

/-- TRIM_EPOCH_LAND (R29, R319): at step 6 a pending set lands when no folio is open, and nothing else has landed at this beat.
(DEDUCED, log 118) -/
def Mach.trimLand (m : Mach) : Mach :=
  match m.trm.pending with
  | some p => if m.qre.cur.isNone && m.trm.landedAt != some m.tim.beats then m.landEpoch p.set p.late else m
  | none => m

/-- The running block marked as one to discard where it serves input k (R313). -/
def Mach.spoil (m : Mach) (k : Nat) : Mach :=
  { m with trm := { m.trm with bad := m.trm.bad || (servedMask m.fe.mode).getLsbD k } }

/-- A restart (R323): counts from 0, state UNSETTLED, the seed landed at this beat with its coefficients limited (R315). -/
def Mach.trimRestart (m : Mach) (seed : TrimSet) (late : Bool) : Mach :=
  let s : TrimSet := { seed with
    coefs := coefList fun n => clampCoef m.fe.mode (seed.coef n), clamped := bitList fun n => seed.bits n ||| clampBits m.fe.mode (seed.coef n)
    settled := false, skews := Vector.replicate 4 0 }
  let m1 := { m with trm := { m.trm with
    blocks := 0, skewBlocks := Vector.replicate 4 0, bad := m.blockFoul, clampLogged := false, last := s, back := false, fresh := !m.tim.slices } }
  (m1.trimGo .unsettled).landEpoch s late

/-- Whether the estimator runs. -/
def Mach.trimOn (m : Mach) : Bool := m.trm.st == .unsettled || m.trm.st == .settled

/-- The trim part of a passed foreground calibration (R323, R324). -/
def Mach.trimCalibrated (m : Mach) : Mach :=
  let m1 := { m with trm := { m.trm with kept := Vector.replicate 3 none, models := Vector.replicate 12 0, lost := false, back := false } }
  if bitOf (m1.use 0x880) 0 then (m1.trimGo .held).landEpoch {} false
  else m1.trimRestart { sub := true } false

/-- The trim goes IDLE: foreground calibration starts or SLICE goes off (R324). -/
def Mach.trimIdle (m : Mach) : Mach :=
  ({ m with trm := { m.trm with pending := none, gap := false, wait := 0, waiting := false, lost := false, back := false } } : Mach).trimGo .idle

/-- The set in use with other coefficients for the powered slices, none of them clamped; the others keep theirs (R328). -/
def Mach.trimSeed (m : Mach) (f : Nat → Coef) : TrimSet :=
  let t := m.trm.inUse
  { t with coefs := coefList fun n => if m.slicePowered n then f n else t.coef n
           clamped := bitList fun n => if m.slicePowered n then 0 else t.bits n }

/-- The trim restart of a new `FE.MODE` taken into use (R323). -/
def Mach.trimModeChange (m : Mach) : Mach :=
  if m.trimOn then
    let seed := (vget m.trm.kept m.fe.mode).getD {}
    m.trimRestart { m.trimSeed seed.coef with sub := !m.trm.lost } false
  else m

/-- The trim restart of a new `TIM.SFREQ` taken into use (R323): each skew coefficient scaled by the clock ratio, and no longer clamped
unless it then meets its limit. -/
def Mach.trimFreqChange (m : Mach) (old : Nat) : Mach :=
  if m.trimOn then
    let new := m.useN 0x404
    let t := m.trm.inUse
    let scale (c : Coef) : Coef := { c with t := roundDiv (c.t * (100 + new : Nat)) (100 + old) }
    let seed := m.trimSeed fun n => scale (t.coef n)
    m.trimRestart { seed with clamped := bitList fun n => if m.slicePowered n then t.bits n &&& 3 else t.bits n
                              sub := t.sub && !m.trm.lost } false
  else m

/-- The trim restart of new pilot settings taken into use (R326). -/
def Mach.trimPilotChange (m : Mach) : Mach := 
  if m.trimOn then m.trimRestart { m.trm.inUse with sub := m.trm.inUse.sub && !m.trm.lost } false else m

/-- `TRM.CTL`[0] taken into use (R324, R325): the hold set or released. -/
def Mach.trimHold (m : Mach) : Mach :=
  if bitOf (m.use 0x880) 0 then
    if m.trimOn then
      let was := m.trm.inUse.sub
      (({ m with trm := { m.trm with pending := none, lost := false, back := false } } : Mach).trimGo .held).landEpoch { m.trm.inUse with sub := false } was
    else m
  else if m.trm.st == .held then m.trimRestart { m.trm.inUse with sub := true } true
  else m

/-- A pilot loss (R327, R365): logged, UNSETTLED until the pilot is back, and a set with pilot subtraction off made pending. -/
def Mach.pilotLoss (m : Mach) : Mach :=
  if m.trimOn && !m.trm.lost then
    let m1 := (m.logEvent .data 0x0505 0 0).trimGo .unsettled
    { m1 with trm := { m1.trm with lost := true, bad := true
                                   pending := some { set := { m1.trm.inUse with sub := false, settled := false } } } }
  else m

/-- The pilot's return (R323): at the first beat after the Mint is again in pilot mode, with no folio open. (DEDUCED, log 34) -/
def Mach.pilotReturn (m : Mach) : Mach :=
  if m.trm.lost && m.mnt.st == .pilot && m.qre.cur.isNone then { m with trm := { m.trm with lost := false, back := true } } else m

/-- The restart of the pilot's return (R323), unless another restart of this boundary has been it. (DEDUCED, log 34) -/
def Mach.pilotRestart (m : Mach) : Mach := if m.trm.back then m.trimRestart { m.trm.inUse with sub := true } false else m

/-- Whether two sets differ by an amount R317 names for some slice. -/
def setsDiffer (a b : TrimSet) : Bool :=
  (List.range 256).any fun n =>
    let x := a.coef n
    let y := b.coef n
    decide (8 ≤ (x.o - y.o).natAbs) || decide (16 ≤ (x.g - y.g).natAbs) || decide (2 ≤ (x.t - y.t).natAbs)

/-- Shares of a sum to take from n values: the quotient each, and 1 more from the first of them as far as the remainder goes. -/
def share (total : Int) (n i : Nat) : Int := total / (n : Int) + (if (i : Int) < total % (n : Int) then 1 else 0)

/-- The estimator's offset and gain coefficients of the slices of one input with their mean over its slices taken from the powered ones
(R310, R328). (DESIGN CHOICE, log 35) -/
def Mach.centred (m : Mach) (k : Nat) (f : Nat → Coef) : Nat → Coef :=
  let mine := (List.range 256).filter fun n => inputOfSlice m.fe.mode n == k
  let on := mine.filter m.slicePowered
  let os := (mine.map fun n => (f n).o).sum
  let gs := (mine.map fun n => (f n).g).sum
  fun n => match on.idxOf? n with
    | some i => { f n with o := (f n).o - share os on.length i, g := (f n).g - share gs on.length i }
    | none => f n

/-- Whether the trimmed samples of an input with mean square `ms` in 2^-16 squared codes qualify a block for skew (R314): above
-`TRM.SKEWMIN` dB of the 2^29 of a sine whose peak is half the range. -/
def qualifies (skewmin ms : Nat) : Bool := decide ((2 ^ 45) ^ 10 < ms ^ 10 * 10 ^ skewmin)

/-- The set that a block end forms (R310, R314 to R316, R328) from the estimator's results: a slice it does not update keeps its
coefficients of the set before, with their clamped bits. (DEDUCED, log 28) (DESIGN CHOICE, log 35) -/
def Mach.blockSet (m : Mach) (o : BlockObs) (blocks : Nat) (skews : Vector Nat 4) (qual : Nat → Bool) : TrimSet :=
  let mode := m.fe.mode
  let old := m.trm.last
  let found (n : Nat) : Option Coef := if m.slicePowered n then (o.coefs.find? fun e => e.1.val == n).map (·.2) else none
  let timed (n : Nat) : Bool := qual (inputOfSlice mode n)
  let est (n : Nat) : Coef := match found n with | some c => if timed n then c else { c with t := (old.coef n).t } | none => old.coef n
  let raw (n : Nat) : Coef := m.centred (inputOfSlice mode n) est n
  let bits (n : Nat) : BitVec 3 := match found n with
    | some _ => clampBits mode (raw n) ||| (if timed n then 0 else old.bits n &&& 4)
    | none => old.bits n
  let clamped := bitList bits
  let enough := (List.range 4).all fun k => !(servedMask mode).getLsbD k || decide (16 ≤ vget skews k)
  { coefs := coefList fun n => clampCoef mode (raw n), sub := true
    pamp := Vector.ofFn fun k => if (servedMask mode).getLsbD k.val then vget o.pamp k.val else vget old.pamp k.val
    settled := decide (16 ≤ blocks) && enough && clamped.isEmpty, clamped, skews }

/-- TRIM_BLOCK_END (R313 to R318): the block is discarded, or its set is formed and becomes pending; the next block starts. -/
def Mach.trimBlock (m : Mach) (o : BlockObs) : Mach :=
  if !(m.trimOn && m.tim.slices) then m
  else if m.trm.bad || m.blockFoul then { m with trm := { m.trm with bad := m.blockFoul } }
  else
    let t := m.trm
    let blocks := t.blocks + 1
    let qual (k : Nat) : Bool := qualifies (m.useN 0x883) (vget o.ms k)
    let skew := Vector.ofFn fun (k : Fin 4) => vget t.skewBlocks k + b2n (qual k)
    let s := m.blockSet o blocks skew qual
    let m1 := { m with trm := { t with blocks, skewBlocks := skew, last := s } }
    let m2 := if s.clamped.isEmpty || t.clampLogged then m1 else
      ({ m1 with trm := { m1.trm with clampLogged := true } } : Mach).logEvent .data 0x0503 s.clamped.length (s.clamped.headD (0, 0)).1
    if m2.trm.st == .unsettled || setsDiffer s m2.trm.inUse then
      { m2 with trm := { m2.trm with pending := some { set := s } } }
    else m2

/-- The wait count of R322 at a beat boundary. -/
def Trm.countWait (t : Trm) : Trm :=
  if t.pending.isNone then { t with wait := 0, waiting := false }
  else if t.waiting then { t with wait := min (t.wait + 1) 0xFFFFF }
  else { t with waiting := true, wait := 0 }

/-- TRIM_GAP_OPEN (R322): under GAP the gap opens once a set has waited `TRM.MAXWAIT` beats. -/
def Mach.gapOpen (m : Mach) : Mach :=
  if m.trm.pending.isSome && bitOf (m.use 0x880) 1 && decide (m.useN 0x882 ≤ m.trm.wait) then
    { m with trm := { m.trm with gap := true } }
  else m

end Sys2Proof.Machine
end

