-- ==== Sys2Proof/Machine/Mint.lean ====
section
/-! DEFINITION. Machine/Mint.lean: the Mint stimulus converter (ch. 10). -/

namespace Sys2Proof.Machine

/-! ### States and targets -/

/-- The power-up code that the Mint drives (R229, R338): the Vault's when it last went there, or the differential-zero code. -/
def Mach.puCode (m : Mach) : BitVec 14 := m.mnt.pu.getD 0x2000

/-- The Mint state that applies, by the order of precedence of ch. 10, States. -/
def Mach.mintState (m : Mach) : MintSt :=
  if !m.domUp 7 then .off
  else if m.mnt.comply != 0 || m.mnt.fault != 0 || m.stageOn 5 then .forced
  else if !m.mnt.released then .powerup
  else if m.trimOn then .pilot
  else if m.mnt.aMode = 0 then .static
  else .play

/-- A route with the injected input cleared where it selects no injection (R354, R355). -/
def routeOf (r : BitVec 6) : BitVec 6 := if r &&& 3 = 2 then r else r &&& 3

/-- The code, span and route that the state in effect calls for (ch. 10, States; R683 while the chain drives). -/
def Mach.mintWant (m : Mach) : BitVec 14 × BitVec 2 × BitVec 6 :=
  let n := m.mnt
  match n.st with
  | .off => (n.code, n.span, 0)
  | .forced => (m.puCode, n.span, n.route)
  | .powerup => (m.puCode, 0, 1)
  | .pilot => (m.pilotCode, 0, 0)
  | _ =>
    let (kind, k, r) := m.cal.pointOf
    if m.cal.st == .running && kind != 0 then
      (if kind = 1 then 14746 else if kind = 2 then 1638 else 0x2000, BitVec.ofNat 2 r, BitVec.ofNat 6 (2 + 16 * k))
    else if n.st == .play then (if n.playing then n.ram.getD n.index 0 else n.code, n.aSpan, routeOf n.aRoute)
    else (n.aCode, n.aSpan, routeOf n.aRoute)

/-- Whether a transition is deglitched (R351). -/
def deglitches (on : Bool) (a b : BitVec 14) : Bool :=
  on && a.toNat / 256 != b.toNat / 256 && decide (64 ≤ ((a.toNat : Int) - b.toNat).natAbs)

/-- A code driven at the converter, deglitched or not against the one there (R351, R352). The pilot's own steps stay below 64 LSB, so
none of them is deglitched. -/
def Mach.driveCode (m : Mach) (c : BitVec 14) : Mach :=
  let was := m.mnt.code
  if c = was then m
  else { m with mnt := { m.mnt with code := c, held := deglitches (bitOf (m.pval 0x908) 0) was c } }

/-- The output brought to what the state in effect calls for: at once, or by a span change (R348, R349, R355). Landed values
that wait for R336 and a stopped Mint clock (R353) leave it; the power-up code is driven all the same. (DEDUCED, log 29)
(DEDUCED, log 30) -/
def Mach.mintDrive (m : Mach) : Mach :=
  let n := m.mnt
  let (code, span, route) := m.mintWant
  if n.st == .off then { m with mnt := { n with phase := .none, route := 0, playing := false } }
  else if n.st == .forced then ({ m with mnt := { n with phase := .none } } : Mach).driveCode code
  else if n.phase != .none || n.due || (n.stopped && n.st != .powerup) then m
  else if span != n.span || route != n.route || n.opened then
    ({ m with mnt := { n with phase := .hold } } : Mach).driveCode 0x2000
  else m.driveCode code

/-- The Mint state brought up to date: entry to FORCED is counted (`MNT.TRIPS`), ends a span change (R350), fails a
running chain (R690) and, from PILOT, is a pilot loss when a fault is the cause (R365); entry to PLAY starts a load (R344). -/
def Mach.mintSettle (m : Mach) : Mach :=
  let st := m.mintState
  let old := m.mnt.st
  if st = old then m
  else
    let m1 := { m with mnt := { m.mnt with
      st, code := m.mintShown, due := m.mnt.due && st != .forced && st != .off
      pu := if st = .forced ∨ st = .powerup then m.vlt.mintCode else m.mnt.pu, playing := false, loaded := m.mnt.loaded && st != .off, loading := st == .play
      trips := if st = .forced then m.mnt.trips + 1 else m.mnt.trips } }
    let m2 := if st = .forced then (m1.chainFail 11).mintDrive else m1
    if st = .forced && (m.mnt.comply != 0 || m.mnt.fault != 0) then m2.pilotLoss else m2

/-- The state brought up to date and driven. -/
def Mach.mintUpdate (m : Mach) : Mach := m.mintSettle.mintDrive

/-! ### The MNT commands -/

/-- The landed values applied (R336); while the chain runs they wait (R682). -/
def Mach.mintCopy (m : Mach) : Mach :=
  if m.cal.st == .running then m
  else { m with mnt := { m.mnt with
    aMode := BitVec.ofNat 2 (m.pnat 0x900), aCode := BitVec.ofNat 14 (m.pnat 0x901)
    aSpan := BitVec.ofNat 2 (m.pnat 0x902), aRoute := BitVec.ofNat 6 (m.pnat 0x903) } }

/-- MINT_APPLY (R336, R363): landed values are applied and driven 968 core clocks after the beat boundary. (DEDUCED, log 29) -/
def Mach.mintApply (m : Mach) : Mach :=
  let m1 := m.mintCopy
  ({ m1 with mnt := { m1.mnt with due := false } } : Mach).mintUpdate

/-- The Mint leaves POWERUP or FORCED for a landed value (R337, R363): what it then drives waits for R336. (DEDUCED, log 29) -/
def Mach.mintLeave (m : Mach) : Mach :=
  let m1 := m.mintSettle
  if m1.mnt.st == m.mnt.st || m1.mnt.st == .forced then m1 else { m1 with mnt := { m1.mnt with due := true } }

/-- A landing `MNT.MODE`, `MNT.CODE`, `MNT.SPAN` or `MNT.ROUTE` releases POWERUP (R337). -/
def Mach.mintRelease (m : Mach) : Mach :=
  if m.domUp 7 then ({ m with mnt := { m.mnt with released := true } } : Mach).mintLeave else m

/-- A landing `MNT.WAVE_LO`, `MNT.WAVE_HI` or `MNT.WAVELEN` while PLAY is in effect starts a load (R344). -/
def Mach.mintReload (m : Mach) : Mach :=
  if m.mnt.st == .play then { m with mnt := { m.mnt with loading := true, playing := false } } else m

/-- A landing `MNT.RATE` restarts playback at index 0 (R346). -/
def Mach.mintRate (m : Mach) : Mach :=
  if m.mnt.st == .play && m.mnt.playing then
    let m1 := { m with mnt := { m.mnt with index := 0 } }
    if m1.mnt.phase == .none then m1.driveCode (m1.mnt.ram.headD 0) else m1
  else m

/-- SPAN_CHANGE_HOLD_END (R348 step 3, R349, R355): the span and the route switch to those that have landed by now. -/
def Mach.spanHoldEnd (m : Mach) : Mach :=
  if m.mnt.phase == .hold then
    let m1 := m.mintCopy
    let (_, span, route) := m1.mintWant
    { m1 with mnt := { m1.mnt with phase := .switched, span, route, opened := false } }
  else m

/-- SPAN_CHANGE_CODE (R348 step 4, R349): the code, mode and route that have landed by now are driven, the route while the output is still
at differential zero (R355); a span that landed since step 3 starts a span change of its own. (DEDUCED, log 32) -/
def Mach.spanCode (m : Mach) : Mach :=
  if m.mnt.phase == .switched then
    let m1 := (({ m with mnt := { m.mnt with due := false } } : Mach).mintCopy).mintSettle
    let (_, span, route) := m1.mintWant
    ({ m1 with mnt := { m1.mnt with phase := .none, route := if span = m1.mnt.span then route else m1.mnt.route } } : Mach).mintDrive
  else m

/-- PLAYBACK_LOAD_DONE (R345, R361): the RAM holds the codes read, or the load fails. `bad` says that DDR5 reported an
uncorrectable error (R467). -/
def Mach.playLoadDone (m : Mach) (bad : Bool) : Mach :=
  if !m.mnt.loading then m
  else
    let len := m.pnat 0x906
    let a := m.pnat 0x905 * 2 ^ 32 + m.pnat 0x904
    if bad || !m.ddrUp || !m.inDdr a (2 * len) then
      let m1 := { m with mnt := { m.mnt with loading := false, loaded := false, fault := m.mnt.fault ||| 1 } }
      let m2 := if bad then { m1 with store := { m1.store with eccUnc := m1.store.eccUnc + 1 } }.logEvent .data 0x0705 (a / 64) 0 none (some 4) else m1
      (m2.logEvent .management 0x0603 0 0 none (some 3)).mintSettle
    else
      let ram := (List.range len).map fun i => BitVec.ofNat 14 (readNat m.mem (a + 2 * i) 2)
      ({ m with mnt := { m.mnt with loading := false, loaded := true, playing := false, ram } } : Mach).touchDdr a (2 * len)

/-- PLAYBACK_START (R346, R353): at a beat boundary after the load, or after the Mint clock restarts, playback starts at
index 0. -/
def Mach.playStart (m : Mach) : Mach :=
  if m.mnt.st == .play && m.mnt.loaded && !m.mnt.loading && !m.mnt.playing && m.mintClock then
    ({ m with mnt := { m.mnt with playing := true, index := 0 } } : Mach).mintDrive
  else m

/-- PLAYBACK_ADVANCE (R346): the next index after `MNT.RATE` + 1 Mint clocks. -/
def Mach.playAdvance (m : Mach) : Mach :=
  if m.mnt.st == .play && m.mnt.playing && m.mintClock then
    ({ m with mnt := { m.mnt with index := if m.mnt.index + 1 < m.mnt.ram.length then m.mnt.index + 1 else 0 } } : Mach).mintDrive
  else m

/-- MINT_COMPLY (R358, R359): a trip at the points named: P leg, N leg, injection node; the monitor is
not active while the route is opened (R363). (DEDUCED, log 31) -/
def Mach.mintComply (m : Mach) (points : BitVec 3) : Mach :=
  if m.mnt.st == .off || m.mnt.opened then m
  else
    let c := m.mnt.comply ||| 1 ||| (points.zeroExtend 5 <<< (1 : Nat))
    let again := m.mnt.st == .forced && !m.mnt.comply.getLsbD 0
    let m1 := { m with mnt := { m.mnt with comply := c, trips := if again then m.mnt.trips + 1 else m.mnt.trips } }
    m1.mintSettle.logEvent .management 0x0601 c.toNat 0 none (some 3)

/-- MINT_DISCONNECT (R360): the condition still holds 10 µs after entry to FORCED. -/
def Mach.mintDisconnect (m : Mach) : Mach :=
  if m.mnt.st == .forced && bitOf (m.mnt.comply.zeroExtend 32) 0 && !m.mnt.opened then
    let m1 := { m with mnt := { m.mnt with opened := true, route := 0, comply := m.mnt.comply ||| 16 } }
    m1.logEvent .management 0x0602 m1.mnt.comply.toNat 0 none (some 3)
  else m

/-- MNT_COMPLY_CLEAR (R363): a landing W1C of `MNT.COMPLY`. -/
def Mach.complyClear (m : Mach) (v : Word) : Mach :=
  ({ m with mnt := { m.mnt with comply := m.mnt.comply &&& ~~~(v.setWidth 5) } } : Mach).mintLeave

/-- MNT_FAULT_CLEAR (R363): a landing W1C of `MNT.FAULT`. -/
def Mach.faultClear (m : Mach) (v : Word) : Mach :=
  ({ m with mnt := { m.mnt with fault := m.mnt.fault &&& ~~~(v.setWidth 2) } } : Mach).mintLeave

/-- The reference current check of R362 at a beat. -/
def Mach.mintBias (m : Mach) (bad : Bool) : Mach :=
  if bad && m.mnt.st != .off then
    let first := !m.mnt.fault.getLsbD 1
    let m1 := ({ m with mnt := { m.mnt with fault := m.mnt.fault ||| 2 } } : Mach).mintSettle
    if first then m1.logEvent .management 0x0604 0 0 none (some 3) else m1
  else m

/-- The MINT domain usable (R337): POWERUP at the Vault power-up code, 2.5 mA, on the CAL_OUT balls. -/
def Mach.mintUp (m : Mach) : Mach :=
  let m1 := ({ m with mnt := { m.mnt with released := false, due := false, phase := .none, span := 0, route := 1, opened := false, loaded := false } } : Mach).mintSettle
  m1.driveCode m1.puCode

end Sys2Proof.Machine
end

