-- ==== Sys2Proof/Machine/Assay.lean ====
section
/-! DEFINITION. Machine/Assay.lean: the housekeeping converters, their accumulators, system calibration, open-wire checks
and the Isotherm loop (ch. 20). -/

namespace Sys2Proof.Machine

/-! ### Accumulators -/

/-- Accumulator j changed. -/
def Mach.modAcc (m : Mach) (j : Nat) (f : Accu → Accu) : Mach := { m with asy := { m.asy with accs := vmod m.asy.accs j f } }

/-- Every accumulator changed by its number. -/
def Mach.modAccs (m : Mach) (f : Nat → Accu → Accu) : Mach :=
  { m with asy := { m.asy with accs := m.asy.accs.mapIdx fun j a => f j a } }

/-- Whether accumulator j is enabled. -/
def Mach.accOn (m : Mach) (j : Nat) : Bool := bitOf (m.accCfg j) 0

/-- The class of accumulator j: 0 SAR, 1 INT, 2 burst. -/
def Mach.accCls (m : Mach) (j : Nat) : Nat := fld (m.accCfg j) 6 2

/-- The start source of accumulator j (R646). -/
def Mach.accSource (m : Mach) (j : Nat) : Nat := fld (m.accCfg j) 8 2

/-- The window length N of accumulator j (R654). -/
def Mach.accLen (m : Mach) (j : Nat) : Nat := 2 ^ fld (m.accCfg j) 11 5

/-- The period P of the beat timer of accumulator j, in beats (R646). -/
def Mach.accPeriod (m : Mach) (j : Nat) : Nat := fld (m.pval (0x2780 + j)) 0 16 + 1

/-- The delay T_d of accumulator j, in holding oscillator clocks (R646): 4 to each 10 ns. -/
def Mach.accDelay (m : Mach) (j : Nat) : Nat := 4 * fld (m.pval (0x2780 + j)) 16 16

/-- The length of an integrating conversion of accumulator j, in PLC (R678). -/
def Mach.accPlc (m : Mach) (j : Nat) : Nat := fld (m.accCfg j) 16 7

/-- The calibration set of an input and class (R644; R651: a burst counts as SAR); only external inputs have one. -/
def calSet (input cls : Nat) : Option Nat :=
  if 18 ≤ input ∧ input ≤ 21 then some (2 * (input - 18) + (if cls = 1 then 1 else 0)) else none

/-- The result of a conversion with nominal value u (R644). -/
def Mach.result (m : Mach) (input cls : Nat) (u : Int) : Int :=
  clampZ (-(2 ^ 31)) (2 ^ 31 - 1) (match calSet input cls with
    | some x => roundDiv ((u - (m.pval (0x27C0 + 2 * x)).toInt) * m.pnat (0x27C1 + 2 * x)) (2 ^ 30)
    | none => u)

/-- Whether accumulator j is suspended, by a calibration point of its input and class (R661) or by a running chain (R682). -/
def Mach.suspended (m : Mach) (j : Nat) : Bool :=
  (match calSet (m.accInput j) (m.accCls j) with | some x => m.asy.susp.getLsbD x | none => false)
  || (m.cal.st == .running && m.accCls j == 1)

/-- Whether the test DAC drives an input (R667). -/
def Mach.tdacOn (m : Mach) (input : Nat) : Bool := bitOf (m.pval 0x27DB) 15 && fld (m.pval 0x27DB) 8 5 == input

/-- The flags with which a window on an input starts: an open-wire bit that is set (R666). -/
def Mach.windowFlags (m : Mach) (input : Nat) : BitVec 4 :=
  if 18 ≤ input ∧ input ≤ 21 ∧ m.asy.owStat.getLsbD (input - 18) then 2 else 0

/-- Accumulator j with an empty window. -/
def Mach.emptyWindow (m : Mach) (j : Nat) : Mach :=
  m.modAcc j fun a => { a with sum := 0, n := 0, flags := m.windowFlags (m.accInput j) }

/-- The running conversions of a job, their results to be discarded (R658). -/
def Asy.dropJob (a : Asy) (p : Job → Bool) : Asy :=
  let f (o : Option Conv) : Option Conv := o.map fun c => if p c.job then { c with drop := true } else c
  { a with sar1 := f a.sar1, sar2 := f a.sar2, int := f a.int, held1 := f a.held1, held2 := f a.held2 }

/-- The pending request, the partial window and the running result of accumulator j discarded (R658, R661). -/
def Mach.haltAcc (m : Mach) (j : Nat) : Mach :=
  let m1 := m.emptyWindow j
  { m1 with asy := { m1.asy with reqs := m1.asy.reqs.filter fun r => r.job != Job.acc j }.dropJob (· == Job.acc j) }

/-- The accumulators that p names halted. -/
def Mach.haltAccs (m : Mach) (p : Nat → Bool) : Mach := ((List.range 32).filter p).foldl Mach.haltAcc m

/-! ### Conversion times (R643, R651, R668, R677) -/

/-- One PLC in holding oscillator clocks (R643). -/
def plcClocks (mains60 : Bool) : Nat := if mains60 then 6666667 else 8000000

/-- Whether low-power mode is selected (R668). -/
def Mach.lowPower (m : Mach) : Bool := bitOf (m.pval 0x27D0) 1

/-- A SAR conversion in holding oscillator clocks. -/
def Mach.sarClocks (m : Mach) : Nat := if m.lowPower then 4000 else 400

/-- The n of the conversions of a calibration point of set x: that of the lowest accumulator on the set, or 10 where it has none.
(DESIGN CHOICE, log 57) -/
def Mach.pointPlc (m : Mach) (x : Nat) : Nat :=
  match (List.range 32).find? fun j => m.accOn j && calSet (m.accInput j) (m.accCls j) == some x with
  | some j => m.accPlc j
  | none => 10

/-- The n of an integrating conversion for a job, before low-power mode (R678, R684). -/
def Mach.jobPlc (m : Mach) (job : Job) : Nat :=
  match job with
  | .acc j => m.accPlc j
  | .chain => m.cal.nowInfo.n
  | _ => match m.asy.point with
    | some p => m.pointPlc p.set
    | none => 10

/-- The length of an integrating conversion that starts now, in holding oscillator clocks (R643, R668, R677). -/
def Mach.intClocks (m : Mach) (job : Job) (short : Bool) : Nat :=
  plcClocks (bitOf (m.pval 0x27D1) 0) * (if short then 1 else if m.lowPower then max (m.jobPlc job) 10 else m.jobPlc job)

/-! ### Requests and scheduling (R646 to R653) -/

/-- One request for accumulator j: dropped and counted when one is pending (R648); a disabled or suspended accumulator and
a stopped Assay take none. (DEDUCED, log 52) -/
def Mach.request (m : Mach) (j : Nat) : Mach :=
  if !m.asy.started || !m.accOn j || m.suspended j then m
  else if m.asy.reqs.any fun r => r.job == .acc j then
    let m1 := { m with asy := { m.asy with missed := m.asy.missed + 1 } }
    m1.modAcc j fun a => { a with dropped := min (a.dropped + 1) 255 }
  else
    let r : AsyReq := { job := .acc j, cls := m.accCls j, input := m.accInput j, urgent := bitOf (m.accCfg j) 10 }
    { m with asy := { m.asy with reqs := m.asy.reqs ++ [r] } }

/-- Requests issued at one instant, by accumulator (R650). -/
def Mach.requests (m : Mach) (p : Nat → Bool) : Mach := ((List.range 32).filter p).foldl Mach.request m

/-- A request of the calibration point, the chain or an open-wire check. -/
def Mach.ask (m : Mach) (job : Job) (cls input : Nat) : Mach :=
  { m with asy := { m.asy with reqs := m.asy.reqs ++ [{ job, cls, input }] } }

/-- Whether a request must wait for the open-wire check of its input (R665). -/
def Asy.blocked (a : Asy) (r : AsyReq) : Bool :=
  match a.wire with
  | .none => false
  | .waiting e => r.input == 18 + e
  | .current e => r.input == 18 + e
  | .converting e => r.input == 18 + e && r.job != .wire

/-- The first request in the order of R650 among those that p names. -/
def Asy.first (a : Asy) (p : AsyReq → Bool) : Option AsyReq :=
  let l := a.reqs.filter fun r => p r && !a.blocked r
  (l.find? (·.urgent)).orElse fun _ => l.head?

/-- A conversion for request r. -/
def convOf (r : AsyReq) (left clocks : Nat) (short : Bool := false) : Conv :=
  { job := r.job, cls := r.cls, input := r.input, short, left, urgent := r.urgent, clocks }

/-- How many results request r gives in a burst (R651). -/
def Mach.burstLen (m : Mach) (r : AsyReq) : Nat := match r.job with | .acc j => m.accLen j | _ => 1

/-- A conversion started for r: the low-power mode of the moment is in use (R668). (DESIGN CHOICE, log 54) -/
def Mach.startConv (m : Mach) (r : AsyReq) (f : Asy → Asy) : Mach :=
  { m with asy := { f m.asy with reqs := m.asy.reqs.filter (fun q => q.job != r.job), low := m.lowPower } }

/-- One request started, if a converter and a request for it are free (R650 to R652, R677); the rest of a burst that gave way goes
on once no urgent request is first (R653). (DEDUCED, log 53) -/
def Mach.serveOne (m : Mach) : Option Mach :=
  let a := m.asy
  match (if a.int.isNone then a.first fun r => r.cls == 1 else none) with
  | some r => some (m.startConv r fun a => { a with int := some (convOf r 1 (m.intClocks r.job a.firstInt) a.firstInt), firstInt := false })
  | none =>
    let r := a.first fun r => r.cls != 1
    let wait := match r with | some r => !r.urgent | none => true
    if wait && a.sar1.isNone && a.held1.isSome then some { m with asy := { a with sar1 := a.held1, held1 := none } }
    else if wait && a.sar2.isNone && a.held2.isSome then some { m with asy := { a with sar2 := a.held2, held2 := none } }
    else match r with
    | none => none
    | some r =>
      if r.cls = 2 then
        if a.sar1.isNone && a.sar2.isNone then
          let n := m.burstLen r
          some (m.startConv r fun a => 
            { a with sar1 := some (convOf r ((n + 1) / 2) m.sarClocks)
                     sar2 := if 2 ≤ n then some { convOf r (n / 2) m.sarClocks with lead := m.sarClocks / 2 } else none })
        else none
      else if a.sar1.isNone then some (m.startConv r fun a => { a with sar1 := some (convOf r 1 m.sarClocks) })
      else if a.sar2.isNone then some (m.startConv r fun a => { a with sar2 := some (convOf r 1 m.sarClocks) })
      else none

/-- Requests started while any can be, at most n. -/
def Mach.serveN : Nat → Mach → Mach
  | 0, m => m
  | n + 1, m => match m.serveOne with | some m1 => serveN n m1 | none => m

/-- The requests served (R652); a stopped Assay serves none. -/
def Mach.serve (m : Mach) : Mach := if m.asy.started then serveN 3 m else m

/-- The requests of the continuous accumulators that p names (R646 source 3). (DEDUCED, log 52) -/
def Mach.continuous (m : Mach) (p : Nat → Bool) : Mach := m.requests fun j => p j && m.accSource j == 3

/-- A start of the accumulators that p names (R646): their requests are due T_d later; a stopped Assay and a disabled accumulator have none.
(DEDUCED, log 52) -/
def Mach.startsOf (m : Mach) (p : Nat → Bool) : Mach :=
  if m.asy.started then m.modAccs fun j a => if m.accOn j && p j then { a with starts := a.starts + 1 } else a else m

/-- The starts of the beat timer at the boundary that the beat count names (R646 source 0). (DEDUCED, log 52) -/
def Mach.beatStarts (m : Mach) : Mach := m.startsOf fun j => m.accSource j == 0 && m.tim.beats % m.accPeriod j == 0

/-- ASSAY_REQUEST (R646): the delay of the oldest start of each accumulator named is over; one with no such start is passed by.
(DEDUCED, log 52) -/
def Mach.assayRequest (m : Mach) (js : BitVec 32) : Mach :=
  let due (j : Nat) : Bool := js.getLsbD j && decide (0 < (vget m.asy.accs j).starts)
  ((m.modAccs fun j a => if due j then { a with starts := a.starts - 1 } else a).requests due).serve

/-- The requests of `ASY.KICK` at the end of a beat's work (R649). -/
def Mach.kicks (m : Mach) : Mach :=
  let k := m.asy.kick
  (({ m with asy := { m.asy with kick := 0 } } : Mach).requests fun j => bitOf k j).serve

/-- A landing `ASY.KICK`. -/
def Mach.kickLanded (m : Mach) (v : Word) : Mach := { m with asy := { m.asy with kick := m.asy.kick ||| v } }

/-- A landing `ASY.CFG_j` or `ASY.TIME_j` (R658). (DEDUCED, log 52) -/
def Mach.cfgLanded (m : Mach) (j : Nat) : Mach :=
  let m1 := (m.haltAcc j).modAcc j fun a => { a with starts := 0, lo := none, hi := none, lastFlags := 0, latched := a.latched && m.accOn j }
  m1.continuous (· == j)

/-- What a boundary brings the Assay: the windows completed in the interval it closes, the calibration point whose last
conversion has ended, and the starts of the beat timer (R646, R655, R656, R662). -/
def Mach.asyBoundary (m : Mach) : Mach :=
  let m1 := m.modAccs fun _ a => { a with due := a.done, done := none }
  ({ m1 with asy := { m1.asy with point := m1.asy.point.map fun p => { p with isOver := p.left == 0 } } } : Mach).beatStarts

/-- A landing `ASY.TRKCLR` (R657). -/
def Mach.trkClear (m : Mach) (v : Word) : Mach := { m with asy := { m.asy with trkClr := m.asy.trkClr ||| v } }

/-- A landing coefficient of calibration set x: the windows in progress on it are marked (R659). (DEDUCED, log 55) -/
def Mach.coefLanded (m : Mach) (x : Nat) : Mach :=
  m.modAccs fun j a => if calSet (m.accInput j) (m.accCls j) == some x then { a with flags := a.flags ||| 8 } else a

/-! ### Isotherm (R669 to R674) -/

/-- The code of a loop state in `ISO.STAT`[2:0]. -/
def IsoSt.code : IsoSt → Nat
  | .off => 0 | .warming => 1 | .locked => 2 | .ool => 3 | .fault => 4

/-- A state change of the loop (R670, R671, R673, R674, R690 cause 15). (DEDUCED, log 60) -/
def Mach.isoGo (m : Mach) (st : IsoSt) : Mach :=
  if m.iso.st == st then m
  else
    let old := m.iso.st
    let i := m.iso
    let m1 := { m.noteNow with iso := { i with
      st, inBand := 0, integ := if st == IsoSt.off then 0 else i.integ
      last := if st == IsoSt.warming then none else i.last
      lastBeat := if old == IsoSt.off then m.tim.beats else i.lastBeat
      high := i.high && st != IsoSt.off && st != IsoSt.fault } }
    let m2 := m1.logEvent .management 0x0B05 st.code 0
    if old == .locked && !m.cal.nowInfo.isOver then m2.chainFail 15 else m2

/-- The fault causes that hold (R672): bit cause - 1. -/
def Mach.isoCauses (m : Mach) : BitVec 4 :=
  let s := fld (m.pval 0x27F0) 0 5
  BitVec.ofNat 4 (b2n (!m.accOn s || decide (7 < m.accInput s) || !m.asy.started) + 2 * b2n m.iso.hot + 4 * b2n m.iso.stale
    + 8 * b2n (m.tdacOn (m.accInput s)))

/-- ISO_FAULT for each cause that arises (R672); cause 2 raises ASSAY. -/
def Mach.isoLog (m : Mach) (arisen : BitVec 4) : Mach :=
  (List.range 4).foldl (fun m c =>
    if arisen.getLsbD c then
      ({ m with iso := { m.iso with cause := BitVec.ofNat 4 (c + 1) } } : Mach).logEvent .management 0x0B06 (c + 1) 0 none
        (if c = 1 then some 7 else none)
    else m) m

/-- The causes and the state brought up to date (R671, R672). -/
def Mach.isoCheck (m : Mach) : Mach :=
  if m.iso.st == .off then m
  else
    let now := m.isoCauses
    let m1 := ({ m with iso := { m.iso with causes := now } } : Mach).isoLog (now &&& ~~~m.iso.causes)
    if now != 0 then m1.isoGo .fault else if m1.iso.st == .fault then m1.isoGo .warming else m1

/-- One in `iso.integ`: 2^80 · 5^9. -/
def isoOne : Nat := 2 ^ 80 * 1953125

/-- The PI step of R670: I and D from the old I, e in 2^-16 °C and the time since the previous update. -/
def Mach.isoStep (m : Mach) (integ : Nat) (e : Int) (dt : Nat) : Nat × Nat :=
  let i := (clampZ 0 isoOne ((integ : Int) + m.pnat 0x27F4 * e * dt)).toNat
  let u := (clampZ 0 isoOne (m.pnat 0x27F3 * e * (2 ^ 56 * 1953125) + i)).toNat
  (i, min 65535 (u / (2 ^ 64 * 1953125)))

/-- The state after an update in band or out of it (R671). -/
def Mach.isoBand (m : Mach) (ok : Bool) : Mach :=
  let n := if ok then m.iso.inBand + 1 else 0
  let m1 := { m with iso := { m.iso with inBand := n } }
  match m.iso.st with
  | .warming => if 64 ≤ n then m1.isoGo .locked else m1
  | .ool => if 16 ≤ n then m1.isoGo .locked else m1
  | .locked => if ok then m1 else m1.isoGo .ool
  | _ => m1

/-- An update with the mean t of the source accumulator (R670 to R672). (DEDUCED, log 60) -/
def Mach.isoUpdate (m : Mach) (t : Int) : Mach :=
  if m.iso.st == .off || m.tdacOn (m.accInput (fld (m.pval 0x27F0) 0 5)) then m
  else
    let e := (m.pnat 0x27F1 * 256 : Nat) - t
    let dt := match m.iso.last with | some w => m.tim.mono - w | none => 0
    let (i, d) := m.isoStep m.iso.integ e dt
    let m1 := { m with iso := { m.iso with
      integ := i, duty := d, temp := t, last := some m.tim.mono, lastBeat := m.tim.beats, stale := false
      hot := m.iso.hot || decide ((m.pnat 0x27F5 * 256 : Nat) ≤ t) } }
    (m1.isoBand (decide (e.natAbs ≤ m.pnat 0x27F2 * 256))).isoCheck

/-- A landing `ISO.CTL`, or READY (R671, R672, R273): off, or on and without an over-temperature that is past. (DEDUCED, log 60) -/
def Mach.isoCtl (m : Mach) : Mach :=
  if !bitOf (m.pval 0x27F0) 7 then ({ m with iso := { m.iso with hot := false, stale := false, causes := 0 } } : Mach).isoGo .off
  else if !m.boot.ready then m
  else
    let m1 := { m with iso := { m.iso with hot := m.iso.hot && decide ((m.pnat 0x27F5 * 256 : Nat) ≤ m.iso.temp) } }
    (if m1.iso.st == .off then m1.isoGo .warming else m1).isoCheck

/-- ISO_STALE (R672 cause 3): 65,536 beats without an update. -/
def Mach.isoStale (m : Mach) : Mach :=
  if m.iso.st != .off && decide (m.iso.lastBeat + 65536 ≤ m.tim.beats) then
    ({ m with iso := { m.iso with stale := true } } : Mach).isoCheck
  else m

/-- Whether PWM_HEAT is driven (R673). -/
def Mach.pwmDriven (m : Mach) : Bool :=
  m.boot.ready && decide (m.pwr.stage < 6) && (m.iso.st == .warming || m.iso.st == .locked || m.iso.st == .ool)

/-- PWM_PERIOD_START (R647, R669): the duty code is taken into use and the high time begins; where there is none the falling start comes
too. -/
def Mach.pwmPeriod (m : Mach) : Mach :=
  if m.asy.started then
    let d := fld (m.pval 0x27F0) 8 4
    let high := m.pwmDriven && decide (0 < m.iso.duty)
    let m1 := { m with iso := { m.iso with dutyUse := m.iso.duty, high, period := 65536 * 2 ^ d, highLen := if high then m.iso.duty * 2 ^ d else 0 } }
    m1.startsOf fun j => m.accSource j == 1 || (m.accSource j == 2 && !high)
  else m

/-- PWM_HIGH_END (R647): the high time ends, the falling start; no effect while none runs. -/
def Mach.pwmHighEnd (m : Mach) : Mach :=
  if m.asy.started && m.iso.high then ({ m with iso := { m.iso with high := false } } : Mach).startsOf fun j => m.accSource j == 2 else m

/-! ### System calibration (R661 to R664) -/

/-- The nominal value held as u₀ (R662), scaled by 2^16. -/
def CalPoint.mean16 (p : CalPoint) : Int := p.sum * 2 ^ 16 / (2 ^ p.k : Nat)

/-- Whether accumulator j uses calibration set x. -/
def Mach.usesSet (m : Mach) (x j : Nat) : Bool := calSet (m.accInput j) (m.accCls j) == some x

/-- The suspended accumulators of set x resumed, with new windows (R662, R663): continuous ones request at once.
(DEDUCED, log 52) (DEDUCED, log 56) -/
def Mach.resumeSet (m : Mach) (x : Nat) : Mach :=
  let m1 := { m with asy := { m.asy with susp := m.asy.susp &&& ~~~((1 : BitVec 8) <<< x) } }
  (((List.range 32).filter (m.usesSet x)).foldl Mach.emptyWindow m1).continuous (m.usesSet x)

/-- The calibration point fails with a cause (R663). (DEDUCED, log 57) -/
def Mach.pointFail (m : Mach) (cause : Nat) : Mach :=
  match m.asy.point with
  | none => m
  | some p =>
    let a := m.asy.dropJob (· == .point)
    let m1 := { m with asy := { a with
      point := none, calSt := 3, calCause := BitVec.ofNat 4 cause, u0 := vset a.u0 p.set none
      reqs := a.reqs.filter fun r => r.job != Job.point } }
    (m1.logEvent .management 0x0B04 p.set cause).resumeSet p.set

/-- The gain of a full-scale point: round(2^30 × CALREF / (u₁ − u₀)), both means scaled by 2^16 (R662); none when they are
equal. -/
def gainOf (ref : Int) (d16 : Int) : Option Int :=
  if d16 = 0 then none
  else some (roundDiv (ref * 2 ^ 46 * (if d16 < 0 then -1 else 1)) d16.natAbs)

/-- Whether a gain lies within 0.9 and 1.1 (R663 cause 2). -/
def gainOk (g : Int) : Bool := decide (9 * 2 ^ 30 ≤ 10 * g) && decide (10 * g ≤ 11 * 2 ^ 30)

/-- A point ends well: `ASY.CALSTAT`[1:0] reads done (R662). (DEDUCED, log 56) -/
def Mach.pointOver (m : Mach) : Mach := { m with asy := { m.asy with point := none, calSt := 2, calCause := 0 } }

/-- The end of a calibration point at step 7 (R662 to R664). A zero point writes no coefficient, logs nothing and leaves the
accumulators suspended for the full-scale point (DEDUCED: the worked case of ch. 20). (DEDUCED, log 56) (DEDUCED, log 57) -/
def Mach.pointEnd (m : Mach) : Mach :=
  match m.asy.point with
  | none => m
  | some p =>
    if !p.isOver then m
    else if p.point = 1 then (if p.wire then m.pointFail 4 else m.pointOver)
    else
      match vget m.asy.u0 p.set with
      | none => m.pointFail 1
      | some u0 =>
        match gainOf (m.pval 0x27D7).toInt (p.mean16 - u0) with
        | none => m.pointFail 2
        | some g =>
          if !gainOk g then m.pointFail 2
          else if p.wire then m.pointFail 4
          else
            let m1 := (m.pset (0x27C0 + 2 * p.set) (w32 (ofInt (roundDiv u0 (2 ^ 16)) 32))).pset (0x27C1 + 2 * p.set) (w32 (ofInt g 32))
            (m1.pointOver.logEvent .management 0x0B03 p.set 0).resumeSet p.set

/-- A landing `ASY.CALCMD` (R661; R690 cause 18). (DEDUCED, log 57) -/
def Mach.calCmd (m : Mach) (v : Word) : Mach :=
  let x := fld v 0 3
  let m1 := (m.chainFail 18).pointFail 3
  let p : CalPoint := { set := x, point := fld v 3 2, left := 2 ^ fld v 8 5, k := fld v 8 5 }
  let m2 := { m1 with asy := { m1.asy with point := some p, susp := m1.asy.susp ||| ((1 : BitVec 8) <<< x), calSt := 1, calSet := BitVec.ofNat 3 x, calPt := BitVec.ofNat 2 p.point, calCause := 0 } }
  if m2.asy.started then
    (m2.haltAccs (m2.usesSet x)).ask .point (x % 2) (18 + x / 2)
  else m2.pointFail 3

/-! ### Open-wire checks (R665, R666) -/

/-- The external input of the chain's standard (R683). -/
def Mach.stdInput (m : Mach) : Nat := b2n m.cal.nowInfo.ref2

/-- Whether a conversion of an input runs. -/
def Asy.converts (a : Asy) (input : Nat) : Bool :=
  [a.sar1, a.sar2, a.int, a.held1, a.held2].any fun o => match o with | some c => c.input == input | none => false

/-- The check in progress or the next one due moved on: a check waits until no conversion of its input runs; the chain
holds the checks of its standard (R682). (DESIGN CHOICE, log 58) -/
def Mach.wireNext (m : Mach) : Mach :=
  let a := m.asy
  let w := match a.wire with
    | .none =>
      (match (List.range 4).find? fun e => a.wireDue.getLsbD e && !(m.cal.st == ChainSt.running && e == m.stdInput) with
       | some e => Wire.waiting e
       | none => .none)
    | w => w
  match w with
  | .waiting e =>
    { m with asy := { a with wire := if a.converts (18 + e) then .waiting e else .current e, wireDue := a.wireDue &&& ~~~((1 : BitVec 4) <<< e) } }
  | _ => m

/-- OPEN_WIRE_CHECK (R665): the interval of input e has passed. (DESIGN CHOICE, log 58) -/
def Mach.wireDue (m : Mach) (e : Nat) : Mach :=
  if m.asy.started && bitOf (m.pval 0x27D9) e then
    ({ m with asy := { m.asy with wireDue := m.asy.wireDue ||| (1 <<< e) } } : Mach).wireNext
  else m

/-- OPEN_WIRE_SETTLED (R665 steps 3 and 4): the conversion is requested. -/
def Mach.wireSettled (m : Mach) : Mach :=
  match m.asy.wire with
  | .current e => (({ m with asy := { m.asy with wire := .converting e } } : Mach).ask .wire 0 (18 + e)).serve
  | _ => m

/-- A calibration point after an open wire on input e (R663 cause 4). (DEDUCED, log 57) -/
def CalPoint.found (e : Nat) (p : CalPoint) : CalPoint := if p.set / 2 == e then { p with wire := true } else p

/-- The end of the check of input e with a result in 2^-28 V (R665 step 5, R666, R663 cause 4, R690 cause 12). (DESIGN CHOICE, log 58) -/
def Mach.wireEnd (m : Mach) (e : Nat) (r : Int) : Mach :=
  let m1 := { m with asy := { m.asy with wire := .none } }
  let m2 :=
    if 644245094 < r then
      let m2 := { m1 with asy := { m1.asy with
        owStat := m1.asy.owStat ||| (1 <<< e)
        point := m1.asy.point.map (CalPoint.found e) } }
      let m3 := m2.modAccs fun j a => if m2.accInput j == 18 + e then { a with flags := a.flags ||| 2 } else a
      let m4 := m3.logEvent .management 0x0B02 e 0 none (some 7)
      if m4.cal.st == .running && e == m4.stdInput then m4.chainFail 12 else m4
    else m1
  m2.wireNext

/-! ### The end of a conversion -/

/-- A result added to the window and the tracker of accumulator j (R654 to R657, R659). -/
def Mach.addResult (m : Mach) (j : Nat) (c : Conv) (r : Int) : Mach :=
  let len := m.accLen j
  let fl : BitVec 4 := BitVec.ofNat 4 (b2n c.short + 4 * b2n (m.tdacOn c.input)) ||| m.windowFlags c.input
  m.modAcc j fun a =>
    let a := { a with
      sum := a.sum + r, n := a.n + 1, flags := a.flags ||| fl
      lo := some (match a.lo with | some x => if r < x then r else x | none => r)
      hi := some (match a.hi with | some x => if x < r then r else x | none => r) }
    if a.n < len then a
    else { a with sum := 0, n := 0, flags := m.windowFlags c.input, done := some (roundDiv a.sum len, a.flags)
                  replaced := if a.done.isSome then min (a.replaced + 1) 15 else a.replaced }

/-- A conversion of the calibration point ends (R661, R662). -/
def Mach.pointConv (m : Mach) (u : Int) : Mach :=
  match m.asy.point with
  | none => m
  | some p =>
    let p := { p with sum := p.sum + u, left := p.left - 1 }
    let m1 := { m with asy := { m.asy with point := some p } }
    if p.left != 0 then m1.ask .point (p.set % 2) (18 + p.set / 2)
    else if p.point = 1 && !p.wire then { m1 with asy := { m1.asy with u0 := vset m1.asy.u0 p.set (some p.mean16) } }
    else m1

/-- The Assay input of the chain's point (R683). -/
def Mach.chainInput (m : Mach) : Nat :=
  let (kind, _, _) := m.cal.pointOf
  if kind != 0 then 17 else if m.cal.point = 0 then 22 else 18 + m.stdInput

/-- The trimmed samples of input k from number `first` on, n of them (R685): their sum, and whether one lies at a limit. -/
def Mach.sampleSum (m : Mach) (k : Nat) (first : Int) (n : Nat) : Int × Bool :=
  (List.range n).foldl (fun r i =>
    let z := m.trimmed m.grid k (first + (i : Nat))
    (r.1 + z, r.2 || z == -32768 || z == 32767)) (0, false)

/-- A conversion of the chain ends (R684, R685, R690 cause 13). -/
def Mach.chainConv (m : Mach) (o : ConvObs) : Mach :=
  if m.cal.st != .running then m
  else
    let c := m.cal
    let (kind, k, _) := c.pointOf
    let (sum, clip) := if kind = 0 then (0, false) else m.sampleSum k o.first o.count
    let m1 := { m with cal := { c with cur := { u := c.cur.u + o.u, sum := c.cur.sum + sum, count := c.cur.count + o.count }
                                       left := c.left - 1 } }
    let m2 := if kind != 0 && (o.clip || clip) then m1.chainFail 13 else m1
    if m2.cal.left = 0 then m2 else m2.ask .chain 1 m2.chainInput

/-- The conversion that converter v runs: 0 SAR1, 1 SAR2, 2 INT. -/
def Asy.conv (a : Asy) (v : Fin 3) : Option Conv := if v = 0 then a.sar1 else if v = 1 then a.sar2 else a.int

/-- Converter v with another conversion. -/
def Asy.setConv (a : Asy) (v : Fin 3) (c : Option Conv) : Asy :=
  if v = 0 then { a with sar1 := c } else if v = 1 then { a with sar2 := c } else { a with int := c }

/-- Whether accumulator j still has a conversion running. -/
def Asy.busyWith (a : Asy) (j : Nat) : Bool :=
  [a.sar1, a.sar2, a.int, a.held1, a.held2].any fun o => match o with | some c => c.job == .acc j | none => false

/-- The rest of a burst on converter v gives way to an urgent request of the SARs (R653). (DEDUCED, log 53) -/
def Asy.yield (a : Asy) (v : Fin 3) (c : Conv) : Asy :=
  if c.urgent || v == 2 || !((a.first fun r => r.cls != 1).any (·.urgent)) then a.setConv v (some c)
  else if v = 0 then { a with sar1 := none, held1 := some c }
  else { a with sar2 := none, held2 := some c }

/-- CONVERSION_END (R655, R658, R661, R666): converter v ends a conversion with what o gives. `coef` is the engine whose
coefficients are in effect (R664). (DEDUCED, log 52) (DEDUCED, log 55) (DESIGN CHOICE, log 54) -/
def Mach.conversionEnd (m coef : Mach) (v : Fin 3) (o : ConvObs) : Mach :=
  match m.asy.conv v with
  | none => m
  | some c =>
    let next := if c.left ≤ 1 then none else some { c with left := c.left - 1, clocks := m.sarClocks }
    let a := match next with | some c => m.asy.yield v c | none => m.asy.setConv v none
    let m1 := { m with asy := { a with convs := m.asy.convs + 1, low := if next.isSome then m.lowPower else m.asy.low } }
    let m2 :=
      if c.drop then m1
      else match c.job with
        | .acc j =>
          let m2 := m1.addResult j c (coef.result c.input c.cls o.u)
          if next.isNone && !m2.asy.busyWith j then m2.continuous (· == j) else m2
        | .point => m1.pointConv o.u
        | .wire => m1.wireEnd (c.input - 18) (coef.result c.input 0 o.u)
        | .chain => m1.chainConv o
    m2.wireNext.serve

/-! ### Step 7 (R655 to R657, R660, R662) -/

/-- The limit windows that name accumulator j checked against its mean (R660): each trip raises ASSAY, and is logged where the
window's bit goes to 1. (DEDUCED, log 59) -/
def Mach.limits (m : Mach) (j : Nat) (mean : Int) : Mach :=
  (List.range 4).foldl (fun m w =>
    let b := fld (m.pval 0x27E8) (8 * w) 8
    if 128 ≤ b && b % 32 == j && (decide (mean < (m.pval (0x27E0 + 2 * w)).toInt) || decide ((m.pval (0x27E1 + 2 * w)).toInt < mean)) then
      if m.asy.limStat.getLsbD w then m.raise 7 0x0B01 else
      ({ m with asy := { m.asy with limStat := m.asy.limStat ||| (1 <<< w) } } : Mach).logEvent .management 0x0B01
        (ofInt mean 32) w none (some 7)
    else m) m

/-- The completed window of accumulator j latched (R655, R659, R660, R670). -/
def Mach.latchAcc (m : Mach) (j : Nat) : Mach :=
  match (vget m.asy.accs j).due with
  | none => m
  | some (mean, flags) =>
    let m1 := m.modAcc j fun a => { a with due := none, mean, latched := true, means := a.means + 1, lastFlags := flags }
    let m2 := ({ m1 with asy := { m1.asy with fresh := m1.asy.fresh ||| (1 <<< j) } } : Mach).limits j mean
    if fld (m2.pval 0x27F0) 0 5 = j then m2.isoUpdate mean else m2

/-- The trackers copied, then those that `ASY.TRKCLR` named cleared (R657). -/
def Mach.trackers (m : Mach) : Mach :=
  let clr := m.asy.trkClr
  let m1 := m.modAccs fun j a =>
    let a := { a with loCopy := a.lo.getD 0x7FFFFFFF, hiCopy := a.hi.getD (-0x80000000) }
    if bitOf clr j then { a with lo := none, hi := none } else a
  { m1 with asy := { m1.asy with trkClr := 0 } }

/-- Step 7 of the beat work. -/
def Mach.asyStep7 (m : Mach) : Mach := (((List.range 32).foldl Mach.latchAcc m).trackers).pointEnd

/-! ### Stop and start (R675 to R677) -/

/-- An accumulator without its partial window and the starts whose delay runs. -/
def Accu.empty (a : Accu) : Accu := { a with starts := 0, sum := 0, n := 0, flags := 0 }

/-- The Assay stops (R675): ASSAY_STOP. -/
def Mach.asyStop (m : Mach) : Mach :=
  if !m.asy.started then m
  else
    let m1 := (m.chainFail 18).pointFail 3
    let a := m1.asy
    let m2 := { m1 with asy := { a with
      started := false, reqs := [], sar1 := none, sar2 := none, int := none, held1 := none, held2 := none, susp := 0, wire := .none, wireDue := 0, kick := 0
      accs := vmap Accu.empty a.accs } }
    m2.isoCheck

/-- The Assay starts (R676, R677): ASSAY_START, once the read-in is complete, `ASY.CTL`[0] = 1 and the stage is below 6. -/
def Mach.asyStart (m : Mach) : Mach :=
  if m.asy.started || !m.boot.readIn || !bitOf (m.pval 0x27D0) 0 || decide (6 ≤ m.pwr.stage) then m
  else
    let m1 := { m with asy := { m.asy with started := true, firstInt := true, u0 := Vector.replicate 8 none } }
    (((((List.range 32).foldl Mach.emptyWindow m1).beatStarts).continuous fun _ => true).serve).isoCheck

/-- A landing `ASY.CTL` (R675, R676). -/
def Mach.asyCtl (m : Mach) : Mach := if bitOf (m.pval 0x27D0) 0 then m.asyStart else m.asyStop

/-- A W1C of `ASY.OWSTAT` (R666). -/
def Mach.owClear (m : Mach) (v : Word) : Mach := { m with asy := { m.asy with owStat := m.asy.owStat &&& ~~~(v.setWidth 4) } }

end Sys2Proof.Machine
end

