-- ==== Sys2Proof/Machine/Front.lean ====
section
/-! DEFINITION. Machine/Front.lean: front ends, channel modes and foreground calibration (ch. 08). -/

namespace Sys2Proof.Machine

/-- Front end k, 0 for IN1, changed. -/
def Mach.modFront (m : Mach) (k : Nat) (f : Front → Front) : Mach := { m with fe := { m.fe with front := vmod m.fe.front k f } }

/-- Whether front end k is powered (R290). -/
def Mach.frontOn (m : Mach) (k : Nat) : Bool :=
  m.domUp 2 && (servedMask (m.useN 0x840)).getLsbD k && bitOf (m.use 0x841) k

/-- The boundary at which a 16-beat window that starts now ends (R285). -/
def Mach.windowEnd (m : Mach) : Nat := if m.tim.clk = 0 then m.tim.beats + 16 else m.tim.beats + 17

/-- A settling window of input k starts (R285, R313). -/
def Mach.settleStart (m : Mach) (k : Nat) : Mach :=
  let e := m.windowEnd
  (m.modFront k fun f => { f with settle := some e }).spoil k

/-- Front ends powered on and off as R290 states, each one powered on with a settling window
(R285); the detectors of one powered off become UNDECIDED (R373). -/
def Mach.powerFronts (m : Mach) : Mach :=
  (List.range 4).foldl (fun m k =>
    let on := m.frontOn k
    let was := (vget m.fe.front k).powered
    let m1 := m.modFront k fun f => { f with powered := on, firing := f.firing && on, isOver := f.isOver && on }
    if on && !was then m1.settleStart k else if was && !on then m1.undecide fun e => m1.entrySrc e == k + 1 else m1) m

/-- OVERLOAD_FIRE (R281 to R284): the voltages in pV at the two balls of input k change so that its comparator fires, or releases. A
firing that follows a release is counted and logged. (DEDUCED, log 26) (DEDUCED, log 27) -/
def Mach.overloadFire (m : Mach) (k : Nat) (p n : Int) : Mach :=
  let f := vget m.fe.front k
  let on := f.powered && m.overloads k p n
  if on == f.firing then m
  else if !on then m.modFront k fun f => { f with firing := false }
  else
    let say := m.boot.acqReady && (match f.lastLog with | none => true | some b => decide (b + 1048576 ≤ m.tim.beats))
    let m1 := m.modFront k fun f => { f with firing := true, isOver := true, ovlS := true, ovlH := true, cnt := f.cnt + 1
                                             lastLog := if say then some m.tim.beats else f.lastLog }
    let m2 := (m1.spoil k).note 0x100
    let m3 := if m2.cal.pointOf.1 != 0 && m2.cal.pointOf.2.1 == k then m2.chainFail 13 else m2
    if say then m3.logEvent .data 0x0501 (k + 1) 0 else m3

/-- OVERLOAD_END (R282): 16 ns after the comparator of input k last released; none while it fires. (DEDUCED, log 26) -/
def Mach.overloadEnd (m : Mach) (k : Nat) : Mach :=
  if (vget m.fe.front k).firing then m else m.noteNow.modFront k fun f => { f with isOver := false }

/-- The inputs whose comparator fires when ACQ_READY rises are logged then (R284). (DEDUCED, log 27) -/
def Mach.overloadAtReady (m : Mach) : Mach :=
  (List.range 4).foldl (fun m k =>
    if (vget m.fe.front k).firing then
      (m.modFront k fun f => { f with lastLog := some m.tim.beats }).logEvent .data 0x0501 (k + 1) 0
    else m) m

/-- SETTLING_END (R285): every settling window that ends by this beat boundary has ended. -/
def Mach.settlingEnd (m : Mach) : Mach :=
  let fin (f : Front) : Front :=
    match f.settle with
    | some b => if b ≤ m.tim.beats then { f with settle := none, settled := m.tim.boundary } else f
    | none => f
  { m with fe := { m.fe with front := vmap fin m.fe.front } }

/-- The AUX comparator held UNDECIDED until 8 beats after the first boundary at or after this instant, with the AUX entries'
detectors (R374, R377). (DEDUCED, log 36) -/
def Mach.auxHoldStart (m : Mach) : Mach :=
  let m1 := m.undecide fun e => m.entrySrc e == 5
  { m1 with trg := { m1.trg with aux := .undecided, auxHold := some (m1.windowEnd - 8) } }

/-- The AUX comparator without FRONT: UNDECIDED, no hold (R373, R377). -/
def Mach.auxOff (m : Mach) : Mach :=
  let m1 := m.undecide fun e => m.entrySrc e == 5
  { m1 with trg := { m1.trg with aux := .undecided, auxHold := none } }

/-- The FRONT domain usable (R285, R287, R377). -/
def Mach.frontUp (m : Mach) : Mach := ({ m with fe := { m.fe with dacAt := some m.windowEnd } } : Mach).powerFronts.auxHoldStart

/-! ### Channel mode (R291) -/

/-- A new `FE.MODE` or `FE.ENABLE` taken into use at this beat (R291); `mode` says that `FE.MODE` changed. -/
def Mach.modeChange (m : Mach) (mode : Bool) : Mach :=
  if mode then
    let m1 := m.gateSlices
    let m2 := { m1 with fe := { m1.fe with gating := true, restartAt := m1.tim.beats + 4, mode := m1.useN 0x840 } }
    m2.powerFronts.trimModeChange.mintUpdate
  else m.powerFronts

/-- MODE_CHANGE_CLOCK_RESTART (R291): at beat k + 4 the slice clocks restart, unless a relock still gates them. -/
def Mach.modeRestart (m : Mach) : Mach :=
  if m.fe.gating && decide (m.fe.restartAt ≤ m.tim.beats) then
    let m1 := { m with fe := { m.fe with gating := false } }
    if m1.tim.core.active || m1.tim.synth.active || !m1.tim.synthLock || !m1.domUp 3 then m1 else m1.restartSlices
  else m

/-! ### Foreground calibration (R260, R297 to R302) -/

/-- FOREGROUND_CAL_START (R260, R262): calibration starts at the first beat at which R260 holds, and not while
stage 4 holds slices down. -/
def Mach.calStart (m : Mach) : Mach :=
  let settled := match m.fe.dacAt with | some b => decide (b ≤ m.tim.beats) | none => false
  if m.fe.cal == .notRun && m.boot.baseInUse && !m.tim.core.active && !m.tim.synth.active && m.tim.slices && m.domUp 3
      && m.domUp 2 && !m.pwr.in34Down && settled then
    let m1 := { m with fe := { m.fe with cal := .running, calStart := m.tim.beats, meas := 1, measFrom := m.tim.beats, repeated := false, results := [] } }
    m1.trimIdle.mintUpdate
  else m

/-- An averaged result list's value at slice n, 0 for a slice not listed. -/
def resultAt (l : List (Nat × Int)) (n : Nat) : Int := (l.lookup n).getD 0

/-- Whether a measurement's result departs at some powered slice from the previous one by more than 6 of its standard errors (R298): the
previous result of the same measurement is that of the calibration before. (DESIGN CHOICE, log 119) -/
def Mach.departs (m : Mach) (o : List (Fin 256 × Int × Nat)) : Bool :=
  match m.fe.prior.lookup m.fe.meas with
  | none => false
  | some before => ((List.range 256).filter m.slicePowered).any fun n =>
      let r := ((o.find? fun e => e.1.val == n).map (·.2)).getD (0, 0)
      decide (6 * r.2 < (r.1 - resultAt before n).natAbs)

/-- The measurement in progress ends at the beat boundary that closes its 256 + 16,000 beats (R297, R298): repeated once where its result
departs from the previous one, else its result is used and the next measurement starts. -/
def Mach.calMeasure (m : Mach) (o : List (Fin 256 × Int × Nat)) : Mach :=
  if m.fe.cal == .running && decide (m.fe.meas ≤ 24) && decide (m.fe.measFrom + 16256 ≤ m.tim.beats) then
    if m.departs o && !m.fe.repeated then { m with fe := { m.fe with repeated := true, measFrom := m.tim.beats } }
    else { m with fe := { m.fe with
      meas := m.fe.meas + 1, repeated := false, measFrom := m.tim.beats
      results := m.fe.results ++ [(m.fe.meas, o.map fun e => (e.1.val, e.2.1))] } }
  else m

/-- The first figure of a slice outside its limit (R299): 0 offset, 1 gain, 2 noise, 3 linearity. -/
def SliceFig.fault (f : SliceFig) : Option Nat :=
  if f.ofs.toInt < -1024 || 1024 < f.ofs.toInt then some 0
  else if f.gain.toInt < -1966 || 1966 < f.gain.toInt then some 1
  else if 128 < f.noise.toNat then some 2
  else if 128 < f.lin.toNat then some 3
  else none

/-- FOREGROUND_CAL_END (R297 to R301), once the last of the 24 measurements has ended, with the figures they gave; a slice not listed
measured zero throughout. -/
def Mach.calEnd (m : Mach) (obs : List SliceObs) : Mach :=
  if m.fe.cal != .running || decide (m.fe.meas ≤ 24) then m
  else
    let fig (n : Nat) : SliceFig :=
      match obs.find? fun o => o.n.val == n with
      | some o => { ofs := o.ofs, gain := o.gain, noise := o.noise, lin := o.lin }
      | none => {}
    let on := (List.range 256).filter m.slicePowered
    let figs := ((List.range 256).filterMap fun n =>
      if on.contains n then some (n, fig n) else (m.fe.figs.lookup n).map fun f => (n, f))
    let bad := on.filterMap fun n => (fig n).fault.map fun c => (n, c)
    let f1 : Fe := { m.fe with calBeat := m.beatLo, prior := m.fe.results, figs, failFig := bad, failing := bad.length, lowest := (bad.headD (0, 0)).1 }
    if bad.isEmpty then
      let m1 := { m with fe := { f1 with cal := .passed, corr := on.map fun n => (n, fig n) } }
      m1.trimCalibrated.mintUpdate
    else
      ({ m with fe := { f1 with cal := .failed } } : Mach).logEvent .data 0x0502 bad.length (bad.headD (0, 0)).1

/-- The SLICE domain usable, or groups 2 and 3 powered again at the exit of stage 4 (R94, R263, R264, R295): a synthesizer
relock, a new calibration, ACQ_READY cleared. (DEDUCED, log 24) -/
def Mach.sliceUp (m : Mach) : Mach :=
  let m1 := { m with boot := { m.boot with acqReady := false }, fe := { m.fe with cal := .notRun } }
  m1.trimIdle.mintUpdate

/-- The range, offset or bandwidth of input k taken into use (R285, R312, R373): `range` says that the range changed. -/
def Mach.frontSet (m : Mach) (k : Nat) (range : Bool) : Mach :=
  let m1 := m.settleStart k
  if range then
    let model := vget m1.trm.models (3 * k + fld (m1.use (0x800 + 16 * k)) 0 2)
    let put (s : TrimSet) : TrimSet := { s with pamp := vset s.pamp k model }
    { m1 with trm := { m1.trm with inUse := put m1.trm.inUse, last := put m1.trm.last
                                   pending := m1.trm.pending.map fun p => { p with set := put p.set } } }
  else m1

end Sys2Proof.Machine
end

