-- ==== Sys2Proof/Machine/Detect.lean ====
section
/-! DEFINITION. Machine/Detect.lean: level detectors, crossing interpolation, detection kinds, patterns and stamps (ch. 11). -/

namespace Sys2Proof.Machine

/-! ### Level detectors (R371) -/

/-- A level detector's state after a value, from whether it lies above U or below L. -/
def Det.next (d : Det) (above below : Bool) : Det := if above then .high else if below then .low else d

/-- The settings of one entry (R393 to R395). -/
structure EntryCfg where
  enabled : Bool
  src     : Nat
  kind    : Nat
  qual    : Nat
  cond    : Nat
  prio    : Nat
  action  : Nat
  seq     : Nat
  gated   : Bool
  a       : Int
  b       : Int
  h       : Int
  t1      : Nat
  t2      : Nat
  terms   : Word
  deriving DecidableEq, Repr, Inhabited

/-- The settings that an entry's words 0 to 5 give. -/
def cfgOf (p : Nat → Word) : EntryCfg :=
  let c := p 0
  { enabled := bitOf c 0, src := fld c 1 3, kind := fld c 4 4, qual := fld c 8 2, cond := fld c 10 3, prio := fld c 14 2
    action := fld c 16 3, seq := fld c 20 2, gated := bitOf c 22, a := sext (p 1).toNat 16, b := sext (p 2).toNat 16
    h := fld (p 1) 16 12, t1 := (p 3).toNat, t2 := (p 4).toNat, terms := p 5 }

/-- The settings of entry e as landed. -/
def Mach.entryCfg (m : Mach) (e : Nat) : EntryCfg := cfgOf fun i => m.pval (0x1800 + 8 * e + i)

/-- Whether a kind uses detector B (R375). -/
def EntryCfg.twoLevels (c : EntryCfg) : Bool := c.kind == 2 || c.kind == 4 || c.kind == 5

/-- Whether the entry's levels are out of order (R375). -/
def EntryCfg.bad (c : EntryCfg) : Bool := c.twoLevels && decide (c.b ≤ c.a)

/-! ### Crossings (R383 to R385) -/

/-- Sample y(d + 1 - i) of a window given newest first; before the first sample since the slice clocks started, that one. (DESIGN CHOICE, log 39) -/
def ysAt (ys : List Int) (i : Nat) : Int := ys.getD i (ys.getLastD 0)

/-- Whether the cubic of R384 through y(-1), y(0), y(1), y(2) lies at or below level x at position q / 4,096, in integers. -/
def cubicLe (ym y0 y1 y2 : Int) (q : Nat) (x : Int) : Bool :=
  let e := -ym + 3 * y0 - 3 * y1 + y2
  let c := 3 * (ym - 2 * y0 + y1)
  let b := 6 * (y1 - y0) - c - e
  let k : Int := 4096
  decide (6 * y0 * k ^ 3 + b * q * k ^ 2 + c * q ^ 2 * k + e * q ^ 3 ≤ 6 * x * k ^ 3)

/-- Whether the cubic lies at or above level x there. -/
def cubicGe (ym y0 y1 y2 : Int) (q : Nat) (x : Int) : Bool := cubicLe (-ym) (-y0) (-y1) (-y2) q (-x)

/-- The twelve bisection steps of R384. -/
def bisect (keep : Nat → Bool) : Nat → Nat → Nat → Nat
  | 0, lo, _ => lo
  | n + 1, lo, hi => let mid := (lo + hi) / 2; if keep mid then bisect keep n mid hi else bisect keep n lo mid

/-- The crossing of an edge with decisive sample d: its position in 2^-12 sample periods and whether the fallback was
used. `v` is the level and `u` the threshold of the fallback; the search goes as far back as there are samples, at most 64. -/
def crossing (ys : List Int) (d : Nat) (rising : Bool) (v u : Int) : Int × Bool :=
  let hit := (List.range (min 64 (ys.length - 2))).find? fun i =>
    if rising then decide (ysAt ys (i + 2) ≤ v) else decide (v ≤ ysAt ys (i + 2))
  let back := match hit with | some i => i + 1 | none => 1
  let x := if hit.isSome then v else u
  let y (i : Nat) : Int := ysAt ys i
  let keep (q : Nat) : Bool :=
    if rising then cubicLe (y (back + 2)) (y (back + 1)) (y back) (y (back - 1)) q x
    else cubicGe (y (back + 2)) (y (back + 1)) (y back) (y (back - 1)) q x
  (4096 * ((d : Int) - back) + bisect keep 12 0 4096, hit.isNone)

/-! ### Instants and stamps (R386, R387) -/

/-- The stamp of an instant (R386): floored to 2^-48 s on the time scale, deskew added modulo 2^96. -/
def Mach.stampInst (m : Mach) (num : Int) (den : Nat) (deskew : Word) : BitVec 96 :=
  let t := (num + m.tim.off * den) % ((uRange * den : Nat) : Int)
  BitVec.ofInt 96 (t.toNat / (uStamp * den) + deskew.toInt)

/-! ### Detections -/

/-- One change of a detector (R381): detector B or A, its state after, whether it is an edge, its position (2^-12 sample
periods, or time units for AUX) and whether its crossing used the fallback. -/
structure Change where
  isB  : Bool
  new  : Det
  edge : Bool
  pos  : Int
  fb   : Bool := false
  deriving DecidableEq, Repr, Inhabited

/-- One detection (R379, R388 to R390): entry, source input (0 AUX), stamp, the instant before deskew as a numerator over
4,096 * den time units, and whether the fallback was used. -/
structure Detection where
  entry : Nat
  src   : Nat
  stamp : BitVec 96
  inst  : Int
  fb    : Bool := false
  deriving DecidableEq, Repr, Inhabited

/-- One transition of detector A of an entry, for the patterns (R382), and whether its crossing used the fallback. -/
structure TermTr where
  entry : Nat
  new   : Det
  src   : Nat
  stamp : BitVec 96
  inst  : Int
  fb    : Bool := false
  deriving DecidableEq, Repr, Inhabited

/-- The time condition of R380 on a duration d, in units in which 1/16 sample period is `unit`. -/
def timeCond (cond : Nat) (t1 t2 : Nat) (d unit : Int) : Bool :=
  match cond with
  | 0 => true
  | 1 => decide (d < unit * t1)
  | 2 => decide (unit * t2 < d)
  | 3 => decide (unit * t1 ≤ d) && decide (d ≤ unit * t2)
  | _ => decide (d < unit * t1) || decide (unit * t2 < d)

/-- An entry's state and reports so far, as its changes are applied in order. -/
structure EntryRun where
  e    : Entry
  out  : List (Int × Bool) := []
  deriving DecidableEq, Repr, Inhabited

/-- The kinds of R381 for one group of changes with identical instants. `cond` is the time condition on a duration. -/
def EntryCfg.apply (c : EntryCfg) (cond : Int → Bool) (r : EntryRun) (g : List Change) : EntryRun :=
  let e0 := r.e
  let e1 := g.foldl (fun e ch => if ch.isB then { e with b := ch.new } else { e with a := ch.new }) e0
  let pos := (g.head?.map (·.pos)).getD 0
  let fb := g.any (·.fb)
  let edgeA (up : Bool) : Bool := g.any fun ch => !ch.isB && ch.edge && (ch.new == (if up then .high else .low))
  let edgeB (up : Bool) : Bool := g.any fun ch => ch.isB && ch.edge && (ch.new == (if up then .high else .low))
  let intoA (d : Det) : Bool := g.any fun ch => !ch.isB && ch.new == d
  let intoB (d : Det) : Bool := g.any fun ch => ch.isB && ch.new == d
  let report (yes : Bool) : List (Int × Bool) := if yes then r.out ++ [(pos, fb)] else r.out
  let timed (p : Option Nat) (yes : Bool) : Bool := yes && (match p with | some p => cond (pos - (p : Int)) | none => false)
  let span (lead trail cancel : Bool) : EntryRun :=
    let pend := if lead then some pos.toNat else e0.pend
    { e := { e1 with pend := if trail || cancel then none else pend }, out := report (timed pend (trail && !cancel)) }
  match c.kind with
  | 1 => { e := e1, out := report ((edgeA true && c.qual != 1) || (edgeA false && c.qual != 0)) }
  | 2 =>
    let decided (e : Entry) : Bool := e.a != .undecided && e.b != .undecided
    let inside (e : Entry) : Bool := e.a == .high && e.b == .low
    { e := e1, out := report (decided e0 && decided e1 && inside e0 != inside e1 &&
        (c.qual == 2 || (c.qual == 0) == inside e1)) }
  | 3 => span (edgeA (c.qual == 0)) (edgeA (c.qual != 0)) false
  | 4 => if c.qual == 0 then span (edgeA true) (edgeA false) (intoB .high) else span (edgeB false) (edgeB true) (intoA .low)
  | 5 => if c.qual == 0 then span (edgeA true) (edgeB true) (edgeA false) else span (edgeB false) (edgeA false) (edgeB true)
  | 6 =>
    let hit := edgeA (c.qual == 0)
    { e := { e1 with pend := if hit then some pos.toNat else e0.pend }, out := report (timed e0.pend hit) }
  | _ => { e := e1, out := r.out }

/-- The changes of a level detector pair in order of their crossing instants, those with identical ones together (R381). -/
def groupChanges : List Change → List (List Change)
  | [] => []
  | [a] => [[a]]
  | [a, b] => if a.pos = b.pos then [[a, b]] else if a.pos < b.pos then [[a], [b]] else [[b], [a]]
  | l => [l]

/-- The change of one level detector on a sample (R371, R383); a change out of UNDECIDED stands at the sample itself, and a threshold
outside the slice code range is never crossed (R370). -/
def detChange (isB : Bool) (old : Det) (v h : Int) (ys : List Int) (d : Nat) : Option Change :=
  let y := ysAt ys 1
  let new := old.next (decide (v + h ≤ 32767) && decide (v + h < y)) (decide (-32768 ≤ v - h) && decide (y < v - h))
  if new = old then none
  else if old = .undecided then some { isB, new, edge := false, pos := 4096 * d }
  else
    let rising := new == .high
    let (pos, fb) := crossing ys d rising v (if rising then v + h else v - h)
    some { isB, new, edge := true, pos, fb }

/-- The next change of a detector on the samples after y(d + 1), found before its decisive sample is reached (R381). -/
def laterChange (isB : Bool) (old : Det) (v h : Int) (ys ahead : List Int) (d : Nat) : Option Change :=
  (List.range 65).findSome? fun i =>
    if i ≤ ahead.length then detChange isB old v h ((ahead.take i).reverse ++ ys) (d + i) else none

/-- The changes that a sample brings to an entry (R371, R381): of detector A, of detector B where the kind has one, and with one of them
an edge of the other whose crossing instant is no later though its decisive sample is. -/
def sampleChanges (c : EntryCfg) (a b : Det) (ys ahead : List Int) (d : Nat) : List Change :=
  let ca := detChange false a c.a c.h ys d
  let cb := if c.twoLevels then detChange true b c.b c.h ys d else none
  let joins (x : Change) (y : Option Change) : List Change :=
    match y with
    | some y => if x.edge && y.edge && decide (y.pos ≤ x.pos) then [x, y] else [x]
    | none => [x]
  match ca, cb with
  | some x, some y => [x, y]
  | some x, none => if c.twoLevels then joins x (laterChange true b c.b c.h ys ahead d) else [x]
  | none, some y => joins y (laterChange false a c.a c.h ys ahead d)
  | none, none => []

/-- What a round has gathered so far: detections, term transitions and fallbacks. -/
structure Round where
  dets  : List Detection := []
  terms : List TermTr := []
  falls : Nat := 0
  deriving DecidableEq, Repr, Inhabited

/-- One entry's changes applied (R379, R381, R397): its state after, its detections and its term transitions. `inst` turns
a position into an instant over 4,096 * den, and `unit` is 1/16 sample period in positions. (DEDUCED, log 37) -/
def Mach.runEntry (m : Mach) (i : Nat) (c : EntryCfg) (chs : List Change) (inst : Int → Int) (unitNum unitDen : Int)
    (deskew : Word) (den : Nat) (src : Nat) (r : Round) (e : Entry) : Entry × Round :=
  let cond (d : Int) : Bool := timeCond c.cond c.t1 c.t2 (d * unitDen) unitNum
  let run := (groupChanges chs).foldl (fun r g => c.apply cond r g) { e }
  let stamp (p : Int) : BitVec 96 := m.stampInst (inst p) (4096 * den) deskew
  let mk (p : Int × Bool) : Detection := { entry := i, src, stamp := stamp p.1, inst := inst p.1, fb := p.2 }
  let quiet := !c.enabled || c.bad || c.kind == 0 || c.kind == 7
  let tr := (chs.filter fun ch => !ch.isB).map fun ch =>
    ({ entry := i, new := ch.new, src, stamp := stamp ch.pos, inst := inst ch.pos, fb := ch.fb } : TermTr)
  (run.e, { dets := r.dets ++ (if quiet then [] else run.out.map mk), terms := r.terms ++ tr
            falls := r.falls + chs.countP (·.fb) })

/-- Every entry of the state mapped, with what the round gathers threaded through. -/
def mapEntries (f : Nat → Entry → Round → Entry × Round) : Nat → List Entry → Round → List Entry × Round
  | _, [], r => ([], r)
  | i, e :: es, r =>
    let (e1, r1) := f i e r
    let (es1, r2) := mapEntries f (i + 1) es r1
    (e1 :: es1, r2)

/-- The entries put back into the state. -/
def Trg.setEntries (t : Trg) (es : List Entry) : Trg := { t with entries := Vector.ofFn fun (i : Fin 64) => es.getD i default }

/-- Whether input k, 0 for IN1, delivers trimmed samples (R369, R290; ch. 11, Start-up and faults). (DEDUCED, log 40) (DEDUCED, log 93) -/
def Mach.delivers (m : Mach) (k : Nat) : Bool :=
  m.tim.slices && (vget m.fe.front k).powered && m.slicePowered (64 * k + 64 * (groupsOf m.fe.mode - 1))
    && (m.fe.cal == .passed || m.fe.cal == .failed)

/-- What an observation of an instant meets of entry i (R373, R388): the entry as it was when its detectors last became UNDECIDED after
that instant, else the entry itself where `now` says that its source still delivers. (DEDUCED, log 93) -/
def Mach.runAt (m : Mach) (i : Nat) (inst : Nat → Bool) (now : Bool) (f : EntryCfg → Entry → Round → Entry × Round) (e : Entry) (r : Round) :
    Entry × Round :=
  match e.past.findIdx? fun p => inst p.at_ with
  | some j =>
    match e.past[j]? with
    | some p =>
      let (e1, r1) := f (cfgOf fun w => p.words.getD w 0) { e with a := p.a, b := p.b, pend := p.pend } r
      ({ e with past := e.past.set j { p with a := e1.a, b := e1.b, pend := e1.pend } }, r1)
    | none => (e, r)
  | none => if now then f (m.entryCfg i) e r else (e, r)

/-- One observation processed by every entry's detectors (R369, R371, R376). Samples of an input that delivers none change nothing; nor
does AUX while it is off or held; what lies before the instant at which an entry's detectors became UNDECIDED still meets them as
they were (R373, R388). (DEDUCED, log 38) -/
def Mach.observe (m : Mach) (r : Round) : Obs → Mach × Round
  | .sample k d ys ahead =>
    let c := m.grid
    let at0 := c.posInst (4096 * d)
    let early (t : Nat) : Bool := decide (at0 < c.scale t)
    let step (c1 : EntryCfg) (i : Nat) (e : Entry) (r : Round) : Entry × Round :=
      if c1.src != k.val + 1 then (e, r)
      else
        match sampleChanges c1 e.a e.b ys ahead d with
        | [] => (e, r)
        | chs => m.runEntry i c1 chs c.posInst 256 1 (m.pval (0xA10 + k.val)) c.den (k.val + 1) r e
    let (es, r1) := mapEntries (fun i e r => m.runAt i early (m.delivers k) (fun c1 => step c1 i) e r) 0 m.trg.entries.toList r
    ({ m with trg := m.trg.setEntries es }, r1)
  | .aux v before clk frac =>
    let c := m.grid
    let at0 := m.tim.instantOf before clk frac.val
    let early (t : Nat) : Bool := decide (at0 < t)
    let on := bitOf (m.pval 0xA03) 0 && m.domUp 2 && m.trg.auxHold.isNone
    let lsb : Int := 488281250
    let mid := ((m.pnat 0xA01 : Int) - 2048) * lsb
    let high := decide (mid + m.pnat 0xA02 * lsb < v)
    let low := decide (v < mid - m.pnat 0xA02 * lsb)
    let step (c1 : EntryCfg) (i : Nat) (e : Entry) (r : Round) : Entry × Round :=
      if c1.src != 5 then (e, r)
      else
        let now := e.a.next high low
        if now = e.a then (e, r)
        else m.runEntry i c1 [{ isB := false, new := now, edge := e.a != .undecided, pos := at0 }]
          (fun p => p * (4096 * c.den : Nat)) (5 * 2 ^ 40) (16 * c.den : Nat) (m.pval 0xA14) c.den 0 r e
    let (es, r1) := mapEntries (fun i e r => m.runAt i early on (fun c1 => step c1 i) e r) 0 m.trg.entries.toList r
    ({ m with trg := { m.trg.setEntries es with aux := if on then m.trg.aux.next high low else m.trg.aux } }, r1)

/-! ### Patterns (R382) -/

/-- The pattern value of an entry over detector states: none is UNDECIDED. -/
def patternVal (isPat : Nat → Bool) (st : Nat → Det) (terms : Word) : Option Bool :=
  let used := (List.range 4).filter fun k => bitOf terms (8 * k + 7)
  let name (k : Nat) : Nat := fld terms (8 * k) 6
  if used.any fun k => isPat (name k) || st (name k) == .undecided then none
  else some (used.all fun k => (st (name k) == .high) == bitOf terms (8 * k + 6))

/-- Transitions with equal detection times, grouped; the list is in order of detection time. (DESIGN CHOICE, log 121) -/
def groupTerms : List TermTr → List (List TermTr)
  | [] => []
  | t :: ts =>
    match groupTerms ts with
    | (u :: us) :: gs => if t.stamp = u.stamp then (t :: u :: us) :: gs else [t] :: (u :: us) :: gs
    | gs => [t] :: gs

/-- The detections of one pattern entry as the groups of transitions are applied. -/
def patternRun (isPat : Nat → Bool) (i : Nat) (c : EntryCfg) : List (List TermTr) → (Nat → Det) → List Detection
  | [], _ => []
  | g :: gs, st =>
    let st1 (e : Nat) : Det := match g.find? fun t => t.entry == e with | some t => t.new | none => st e
    let rest := patternRun isPat i c gs st1
    match patternVal isPat st c.terms, patternVal isPat st1 c.terms, g with
    | some a, some b, t :: _ =>
      if a != b && (c.qual == 0) == b then { entry := i, src := t.src, stamp := t.stamp, inst := t.inst, fb := g.any (·.fb) } :: rest else rest
    | _, _, _ => rest

/-- The detections of every enabled pattern entry with a term in use (R382, R397). `before` is the machine before the
round; transitions of one round are applied in order of detection time, those of a later round after them. (DESIGN CHOICE, log 121) -/
def Mach.patterns (before : Mach) (terms : List TermTr) : List Detection :=
  let sorted := sortBy (fun a b => decide (a.stamp.toNat ≤ b.stamp.toNat)) terms
  let isPat (e : Nat) : Bool := (before.entryCfg e).kind == 7
  let st (e : Nat) : Det := (vget before.trg.entries e).a
  (List.range 64).flatMap fun i =>
    let c := before.entryCfg i
    if c.kind == 7 && c.enabled && (List.range 4).any fun k => bitOf c.terms (8 * k + 7) then
      patternRun isPat i c (groupTerms sorted) st
    else []

/-- A list of observations processed: the machine with its detectors moved on, and the detections reported, in order of
detection time. -/
def Mach.detectAll (m : Mach) (obs : List Obs) : Mach × List Detection × Nat :=
  let (m1, r) := obs.foldl (fun (p : Mach × Round) o => p.1.observe p.2 o) (m, {})
  let dets := sortBy (fun a b => decide (a.stamp.toNat ≤ b.stamp.toNat)) (r.dets ++ m.patterns r.terms)
  (m1, dets, r.falls)

/-- DETECTOR_CHANGE (R371, R372, R379): detectors move on without a detection; no effect where one would be reported. -/
def Mach.detectorChange (m : Mach) (obs : List Obs) : Mach :=
  let (m1, dets, falls) := m.detectAll obs
  if dets.isEmpty then { m1 with trg := { m1.trg with fallback := m1.trg.fallback + w32 falls } } else m

/-! ### The AUX comparator (R377) -/

/-- AUX_HOLD_END (R377): at beat k + 8 the hold is released. -/
def Mach.auxHoldEnd (m : Mach) : Mach :=
  match m.trg.auxHold with
  | some b => if b ≤ m.tim.beats then { m with trg := { m.trg with auxHold := none } } else m
  | none => m

end Sys2Proof.Machine
end

