-- ==== Sys2Proof/Machine/Clearing.lean ====
section
/-! DEFINITION. Machine/Clearing.lean: rounds, the contest, sequencers, acceptance and opening folios (ch. 12, 14). -/

namespace Sys2Proof.Machine

/-- The grid index of the trigger sample of an instant (R413, R436): the first grid sample at or after it. -/
def QCfg.trigIndex (c : QCfg) (inst : Int) : Int :=
  ceilDiv (ceilDiv (inst - (c.t0 * c.den * 4096 : Nat)) (5 * 2 ^ 40 * 4096) - c.origin) c.ratio

/-- How far before a folio's first sample its reach lies, in input samples (R437). -/
def QCfg.reach (c : QCfg) : Int :=
  if c.preset = 0 then 0
  else ((if c.peak then c.ratio / 2 else groupDelay c.preset : Nat) : Int) - ((inputList c.inputs).headD 0 : Nat)

/-- The instant of a folio's first sample, or of its reach, over 4,096 * den (R437). -/
def QCfg.startInst (c : QCfg) (first : Int) : Int := c.posInst (4096 * (c.origin + first * c.ratio - c.reach))

/-- The folio's first grid index for a detection (R443). -/
def QCfg.firstOf (c : QCfg) (inst : Int) : Int := c.trigIndex inst - 64 * c.pre

/-- Whether a folio that starts at this instant would hold samples of a settling window of a stored input (R286, R437). -/
def Mach.inSettle (m : Mach) (inst : Int) : Bool :=
  let c := m.qre.cfg
  (inputList c.inputs).any fun k =>
    let f := vget m.fe.front k
    decide (inst < c.scale (match f.settle with | some b => m.tim.boundaryAt b | none => f.settled))

/-- Whether a folio that starts at this instant would start before the epoch start (R321, R437). -/
def Mach.beforeEpoch (m : Mach) (inst : Int) : Bool :=
  decide (inst < m.qre.cfg.scale (if m.tim.beats < m.trm.startBeat then m.tim.boundaryAt m.trm.startBeat else m.trm.startT))

/-- The window test of a gated entry (ch. 12, Sequences; R411, R412). -/
def Mach.seqOpen (m : Mach) (s : Nat) (t : BitVec 96) : Bool :=
  match vget m.trg.seq s with
  | none => false
  | some a =>
    let w := m.pnat (0xA24 + s)
    decide (a.toNat < t.toNat) && (w == 0 || decide ((t.toNat - a.toNat) * 1000000000 ≤ w * 2 ^ 48))

/-- The exclusions of R399 for one detection, by the machine before the round: whether it is a candidate, and the machine
with its exclusion counted. -/
def Mach.exclude (before m : Mach) (d : Detection) : Mach × Bool :=
  let c := before.entryCfg d.entry
  if c.gated && !before.seqOpen c.seq d.stamp then (m, false)
  else if c.action != 0 || !before.running then (m, true)
  else
    let at0 := before.qre.cfg.startInst (before.qre.cfg.firstOf d.inst)
    if before.inSettle at0 then ({ m with fe := { m.fe with settleRej := m.fe.settleRej + 1 } }, false)
    else if before.beforeEpoch at0 then ({ m with trm := { m.trm with epochRej := m.trm.epochRej + 1 } }, false)
    else if before.trm.gap then ({ m with trm := { m.trm with gapRej := m.trm.gapRej + 1 } }, false)
    else if at0 < before.qre.cfg.scale before.qre.cfg.armT then ({ m with trg := { m.trg with armRej := m.trg.armRej + 1 } }, false)
    else (m, true)

/-- The candidates of a round (R399). -/
def Mach.candidates (before : Mach) : List Detection → Mach → Mach × List Detection
  | [], m => (m, [])
  | d :: ds, m =>
    let (m1, keep) := before.exclude m d
    let (m2, rest) := before.candidates ds m1
    (m2, if keep then d :: rest else rest)

/-- Whether contender a comes before contender b (R401). -/
def Mach.outranks (m : Mach) (a b : Detection) : Bool :=
  let p (d : Detection) : Nat := (m.entryCfg d.entry).prio
  decide (a.stamp.toNat < b.stamp.toNat) || (a.stamp == b.stamp && (decide (p a < p b) ||
    (p a == p b && decide (a.entry < b.entry))))

/-- The winner among the candidates (R400, R401), if a contender is among them. -/
def Mach.winner (m : Mach) (cands : List Detection) : Option Detection :=
  (cands.filter fun d => decide ((m.entryCfg d.entry).action < 3)).foldl (fun w d =>
    match w with
    | none => some d
    | some x => if m.outranks d x then some d else some x) none

/-- The coincidence mask (R402). -/
def coincidence (cands : List Detection) (w : Option Detection) : BitVec 64 :=
  cands.foldl (fun k d => if w.any fun x => x.entry == d.entry then k else k ||| (1 <<< d.entry)) 0

/-! ### Acceptance (R413 to R417) -/

/-- A folio opened in the slot of its index (R27, R30, R414, R417, R458, R459). -/
def Mach.openFolio (m : Mach) (first : Int) (stamp : BitVec 96) (mask : BitVec 64) (winner : Nat) (source : Nat) : Mach :=
  let q := m.qre
  let c := q.cfg
  let f : Folio := {
    qid := q.qid, idx := q.folios, first := first.toNat, stamp, mask, winner := BitVec.ofNat 6 winner, source := BitVec.ofNat 3 source
    trim := BitVec.ofNat 16 m.trm.epoch, cert := m.cal.epoch
    overlap := decide (0 < q.folios) && decide (first < q.lastEnd)
    beat1 := m.intervalOf c (c.posInst (4096 * (c.origin + first * c.ratio))), cfg := c }
  let isOver := decide (c.slots ≤ q.folios - q.released)
  let q1 := { q with cur := some f, folios := q.folios + 1, lastEnd := first + (64 * c.gran : Nat) }
  let lost := { q1 with overwrites := q1.overwrites + 1, released := q.folios + 1 - c.slots
                        releasable := q.releasable.filter fun i => decide (q.folios + 1 - c.slots ≤ i) }
  ({ m with qre := if isOver then lost else q1 } : Mach).watermark

/-- The holdoff check of R415 after the event is counted. -/
def Mach.holdoffOver (m : Mach) (t : BitVec 96) : Bool :=
  let hT : Nat := fld (m.pval 0xA21) 0 4 * 2 ^ 32 + m.pnat 0xA20
  decide (fld (m.pval 0xA22) 0 24 < m.trg.holdCnt) &&
  (match m.trg.lastAcc with
   | none => true
   | some a => decide ((hT * 2 ^ 48 : Int) ≤ ((t.toNat : Int) - a.toNat) * 1000000000))

/-- A trigger attempt taken through the checks of R413: the machine after, and the reason of `TRG.LASTWIN`. -/
def Mach.attempt (m : Mach) (d : Detection) (mask : BitVec 64) : Mach × Nat :=
  if m.running && m.qre.cfg.volume && m.isMember then
    ({ m with vol := { m.vol with localTrg := m.vol.localTrg + 1 } }, 0)
  else if m.qre.st != .running then (m, 1)
  else
    let c := m.qre.cfg
    let g := c.trigIndex d.inst
    if g < m.qre.lastEnd then ({ m with trg := { m.trg with busyRej := m.trg.busyRej + 1 } }, 2)
    else
      let m0 := if m.qre.cur.isSome then m.folioEnd else m
      if m0.qre.st != .running then (m0, 1)
      else
        let m1 := { m0 with trg := { m0.trg with holdCnt := min (m0.trg.holdCnt + 1) (2 ^ 25 - 1) } }
        if !m1.holdoffOver d.stamp then ({ m1 with trg := { m1.trg with holdRej := m1.trg.holdRej + 1 } }, 3)
        else if m1.trg.credits = 0 then ({ m1 with trg := { m1.trg with rateRej := m1.trg.rateRej + 1 } }, 4)
        else
          let cf := m1.entryCfg d.entry
          let m2 := { m1 with trg := { m1.trg with
            credits := m1.trg.credits - 1, accept := m1.trg.accept + 1, holdCnt := 0, lastAcc := some d.stamp
            seq := if cf.gated then vset m1.trg.seq cf.seq none else m1.trg.seq } }
          let idx := m2.qre.folios
          let m3 := m2.openFolio (g - 64 * c.pre) d.stamp mask d.entry d.src
          let m4 := if c.volume then m3.bcast 0x48 (idx % 65536) (m3.stampInst d.inst (4096 * c.den) 0).toNat else m3
          (m4, 0)

/-! ### Executors -/

/-- A mark put into a folio whose span holds it (R406, R455). `t` is the mark's time on the engine's own scale. -/
def Folio.mark (f : Folio) (t : Int) : Folio :=
  let c := f.cfg
  let inst (g : Nat) : Int := c.instNum (c.gridSample g)
  if inst f.first ≤ t * c.den && t * c.den ≤ inst (f.first + (if f.trunc then f.held else 64 * c.gran) - 1) then
    let g := ceilDiv (ceilDiv (t * c.den - (c.t0 * c.den : Nat)) (5 * 2 ^ 40) - c.origin) c.ratio
    { f with marks := f.marks + 1, mark1 := match f.mark1 with | some x => some x | none => some (g - f.first).toNat }
  else f

/-- One executor's action (R405, R406). -/
def Mach.executeOne (m : Mach) (d : Detection) : Mach :=
  if (m.entryCfg d.entry).action = 3 then
    m.pset (0x1807 + 8 * d.entry) (m.pval (0x1807 + 8 * d.entry) + 1)
  else if (m.entryCfg d.entry).action = 4 then
    let t := (d.stamp.toNat * uStamp : Nat) - m.tim.off
    { m with trg := { m.trg with marks := m.trg.marks + 1, markTs := d.stamp }
             qre := { m.qre with cur := m.qre.cur.map fun f => f.mark t, pend := m.qre.pend.map fun f => f.mark t } }
  else m

/-- The winner's action (R403, R407, R408), with `TRG.LASTWIN` and `TRG.LASTMASK` (R418). -/
def Mach.executeWinner (m : Mach) (w : Detection) (mask : BitVec 64) (others : Nat) : Mach :=
  let c := m.entryCfg w.entry
  let (m1, reason) :=
    match c.action with
    | 0 => m.attempt w mask
    | 1 => ({ m with trg := { m.trg with seq := vset m.trg.seq c.seq (some w.stamp) } }, 0)
    | _ => ({ m with trg := { m.trg with seq := vset m.trg.seq c.seq none } }, 0)
  { m1 with trg := { m1.trg with lastMask := mask
                                 lastWin := w32 (w.entry + 64 * c.action + 512 * reason + 4096 * others) } }

/-- Sequencers that the first detection of a round finds past their windows (R410). -/
def Mach.expireSeqs (m : Mach) (dets : List Detection) : Mach :=
  match dets with
  | [] => m
  | d :: _ => { m with trg := { m.trg with seq := m.trg.seq.mapIdx fun s a =>
      match a with
      | some t => if t.toNat < d.stamp.toNat && !m.seqOpen s d.stamp then none else some t
      | none => none } }

/-- The detections counted (R390, R398). -/
def Mach.countDets (m : Mach) (dets : List Detection) : Mach :=
  dets.foldl (fun m d => { m with trg := { m.trg with
    entries := vmod m.trg.entries d.entry fun e => { e with hits := e.hits + 1 }
    detCnt := m.trg.detCnt + 1, lastTs := d.stamp, lastDet := w32 (d.entry + 64 * b2n d.fb + 128 * d.src) } }) m

/-- A round (R398 to R418) over the detections, in order of detection time. -/
def Mach.round (m : Mach) (dets : List Detection) : Mach :=
  let m1 := m.countDets dets
  let (m2, cands) := m1.candidates dets (m1.expireSeqs dets)
  let w := m2.winner cands
  let mask := coincidence cands w
  let others := (List.range 64).countP fun e => mask.getLsbD e
  let m3 := match w with | some d => m2.executeWinner d mask others | none => m2
  cands.foldl (fun m d => m.executeOne d) m3

/-- CLEARING_ROUND (R388, R401): what the trigger observed in one core clock, and the round of its detections. (DESIGN CHOICE, log 39) -/
def Mach.clearingRound (m : Mach) (obs : List Obs) : Mach :=
  let (m1, dets, falls) := m.detectAll obs
  let m2 := { m1 with trg := { m1.trg with fallback := m1.trg.fallback + w32 falls } }
  if dets.isEmpty then m2 else m2.round dets

/-- RATE_CREDIT (R416): every 250 core clocks one credit is added, up to 64. -/
def Mach.rateCredit (m : Mach) : Mach := { m with trg := { m.trg with credits := min (m.trg.credits + 1) 64 } }

/-- A clearing entry's word landed, with the engine before it (R373, R374, R410): its detectors UNDECIDED, and the sequencers it names or
named IDLE. (DEDUCED, log 36) -/
def Mach.entryLanded (m before : Mach) (e : Nat) : Mach :=
  let m1 := { m with trg := (before.undecide (· == e)).trg }
  { m1 with trg := { m1.trg with seq := vset (vset m1.trg.seq (before.entryCfg e).seq none) (m1.entryCfg e).seq none } }

end Sys2Proof.Machine
end

