-- ==== Sys2Proof/Machine/Store.lean ====
section
/-! DEFINITION. Machine/Store.lean: decimator taps and the DDR5 memory controller (ch. 13, 14). -/

namespace Sys2Proof.Machine

/-! ### Decimator taps (R427 to R432) -/

/-- The set and tap of an address of the tap range. -/
def tapOf (a : Nat) : Nat × Nat := ((a - 0x2000) / 384, (a - 0x2000) % 384)

/-- The taps of a set (R427). -/
def setLen (s : Nat) : Nat := if s = 0 then 127 else if s = 1 then 255 else 383

/-- The factory value of the written tap at an address. -/
def factoryAt (a : Nat) : Word := factoryTap (tapOf a).1 (tapOf a).2

/-- The sum of all taps of set s in use (R431): the factory sum 131,072 (R432) and each listed tap's change, twice for a
mirrored tap. -/
def Dec.sumOf (d : Dec) (s : Nat) : Word :=
  let change (e : Nat × Word) : Int :=
    if (tapOf e.1).1 = s then
      (if (tapOf e.1).2 = (setLen s - 1) / 2 then 1 else 2) * (sext e.2.toNat 18 - sext (factoryAt e.1).toNat 18)
    else 0
  BitVec.ofInt 32 (131072 + (d.use.map change).sum)

/-- Landed taps taken into use (R23, R431): never while a quire runs. -/
def Mach.useTaps (m : Mach) : Mach :=
  if !m.running && (m.dec.waiting || m.dec.use != m.dec.taps) then
    let d := { m.dec with use := m.dec.taps, waiting := false }
    { m with dec := { d with sums := Vector.ofFn fun (s : Fin 4) => d.sumOf s } }
  else m

/-- A tap landed: in use at once with no quire running, else waiting (R23). -/
def Mach.landTap (m : Mach) (a : Nat) (v : Word) : Mach :=
  let m1 := { m with dec := { m.dec with taps := mput m.dec.taps a v } }
  if m1.running then { m1 with dec := { m1.dec with waiting := true } }
  else { m1.useTaps with qre := { m1.qre with gen := m1.qre.gen + 1 } }

/-- DEC_FIRDEF (R429): every tap of the named sets back at its factory value, in use at the quire-bound landing point. -/
def Mach.firdef (m : Mach) (v : Word) : Mach :=
  let m1 := { m with dec := { m.dec with taps := m.dec.taps.filter fun e => !bitOf v (tapOf e.1).1 } }
  if m1.running then { m1 with dec := { m1.dec with waiting := true } }
  else { m1.useTaps with qre := { m1.qre with gen := m1.qre.gen + 1 } }

/-! ### DDR5 training (R258, R463 to R465, R471) -/

/-- The value of a parameter that the base configuration gives, while it waits to be taken into use, else the one in use (R257). -/
def Mach.baseVal (m : Mach) (a : Nat) : Word := (m.boot.base.lookup a).getD (m.use a)

/-- The `QRE.MEMCFG` that training uses (R258, R463): the base value from the read-in on. -/
def Mach.memCfg (m : Mach) : Word := m.baseVal 0xC40

/-- Training started: in full, which does not keep DDR5 contents, or the steps after a self-refresh exit. (DESIGN CHOICE, log 80) -/
def Mach.trainDdr (m : Mach) (full : Bool) : Mach :=
  { m with
    store := { m.store with st := .training, full, failStep := 0, failSub := 0, selfRef := false, kept := false
                            size := memGiB m.memCfg.toNat, speed := fld m.memCfg 0 3 }
    mem := if full then m.mem.filter fun c => decide (ledgerBase ≤ c.1) else m.mem }

/-- DDR5_TRAINING_START (R258, R463): untrained DDR5 trains once the Vault read-in has passed step 4 and the core has first run
from the core PLL. -/
def Mach.trainingStart (m : Mach) : Mach :=
  if m.domUp 4 && m.store.st == .untrained && m.boot.step4 && m.boot.onPll then m.trainDdr (!m.store.kept) else m

/-- QRE_MEMRETRAIN (R463): 1 taken into use starts full training. -/
def Mach.memRetrain (m : Mach) (v : Word) : Mach := if bitOf v 0 && m.domUp 4 then m.trainDdr true else m

/-- Whether training performs step k of R463. -/
def Store.performs (s : Store) (k : Nat) : Bool := s.full || k == 1 || k == 4 || k == 5 || k == 6

/-- The step of R463 that writes word w of `QRE.TRN_s_w`. -/
def trnStep (w : Nat) : Nat :=
  if w = 0 then 3 else if w = 1 then 2 else if w = 2 then 7 else if w < 8 then 4 else if w < 13 then 6 else if w = 13 then 1 else 5

/-- The bits of word w of `QRE.TRN_s_w` (R856). -/
def trnMask (w : Nat) : Word := if w < 3 || w == 13 then 0xFF else if w < 13 then 0x3FF else 0xF

/-- DDR5_TRAINING_END (R465): training ends, with the results its steps gave, or fails at a step on some subchannels. -/
def Mach.trainingEnd (m : Mach) (o : TrainObs) : Mach :=
  if m.store.st != .training then m
  else
    let last := match o.fail with | some f => f.1 | none => 8
    let put (t : PMap) (e : Fin 4 × Fin 15 × Word) : PMap :=
      let (s, w, v) := e
      if m.store.performs (trnStep w.val) && decide (trnStep w.val ≤ last) then mput t (0xC80 + 16 * s.val + w.val) (v &&& trnMask w.val) else t
    let ends := (List.range 4).foldl (fun t s => mput t (0xC8F + 16 * s) m.beatLo) (o.words.foldl put m.store.trn)
    match o.fail with
    | none => { m with store := { m.store with st := .trained, trn := ends, accessed := true } }
    | some (step, subs) =>
      ({ m with store := { m.store with st := .failed, trn := ends, failStep := BitVec.ofNat 4 step, failSub := subs } } : Mach).logEvent
        .data 0x0704 step subs.toNat none (some 4)

/-! ### Refresh and low power (R466 to R471) -/

/-- DDR5_REFRESH (R464, R466): an all-bank refresh, and MR4 read: `fast` says that it asks for the doubled rate. -/
def Mach.refresh (m : Mach) (fast : Bool) : Mach :=
  if m.ddrUp && !m.store.selfRef then { m with store := { m.store with fast, refreshes := m.store.refreshes + 1 } } else m

/-- PRECHARGE_POWER_DOWN (R468): a subchannel idle for 256 core clocks. -/
def Mach.powerDown (m : Mach) (s : Nat) : Mach :=
  if m.ddrUp && !m.store.selfRef then { m with store := { m.store with down := vset m.store.down s true } } else m

/-- The self-refresh threshold (R469), `QRE.SRXLAT` being 1,500 ns. -/
def srThreshold : Nat := 3500

/-- The latency tolerance scan-out reports (R638): while RUNNING with a valid host plane a free value, by the frame. -/
def Mach.dspTol (m : Mach) : Nat :=
  if m.dsp.st == .running && bitOf (m.use 0x2602) 1 && !m.dsp.invalid then min 65534 (Config.scanTolerance m.dsp.frame).toNat
  else 65535

/-- Whether every reported tolerance exceeds the threshold (R35, R469, R535). -/
def Mach.tolerant (m : Mach) : Bool :=
  !m.running && decide (srThreshold < m.dspTol) &&
  (List.range 16).all fun c =>
    let t := vget m.tels.ch c
    t.st == .idle || t.st == .halted || decide (srThreshold < m.pnat (0xE06 + 16 * c)) || m.pnat (0xE06 + 16 * c) == 65535

/-- SELF_REFRESH_ENTER (R470): at a beat, both channels, when tolerances allowed it and nothing accessed DDR5 in the
interval before. -/
def Mach.selfRefresh (m : Mach) : Mach :=
  if m.ddrUp && !m.store.selfRef && m.tolerant && !m.store.accessed then
    { m with store := { m.store with selfRef := true, srCnt := m.store.srCnt + 1 } }
  else m

/-- SELF_REFRESH_EXIT (R470): a low tolerance or an access request ends self-refresh. -/
def Mach.selfRefreshExit (m : Mach) : Mach :=
  if m.store.selfRef && m.ddrUp then { m with store := { m.store with selfRef := false, accessed := true } } else m

end Sys2Proof.Machine
end

