-- ==== Sys2Proof/Machine/Use.lean ====
section
/-! DEFINITION. Machine/Use.lean: quire-bound values taken into use (R23, R24) and what each starts. -/

namespace Sys2Proof.Machine

/-- Certificate slot s (R213). -/
def certBase (s : Nat) : Nat := vaultBase + 0x9_0000 + 0x4000 * s

/-- `CAL.SELECT` taken into use (R699, R857): the header and entries of the named slot copied, when it is valid. -/
def Mach.selectCert (m : Mach) : Mach :=
  let s := m.useN 0x2810
  if s < 16 && m.cal.valid.getLsbD s then
    { m with cal := { m.cal with
      useHdr := readBytes m.mem (certBase s) 256, useEnt := readBytes m.mem (certBase s + 256) 1152
      useSlot := some s } }
  else { m with cal := { m.cal with useHdr := [], useEnt := [], useSlot := none } }

/-- A range, offset or bandwidth of input k taken into use with a new value (R285, R312, R373). -/
def Mach.useFront (m : Mach) (differs : Nat → Bool) (k : Nat) : Mach :=
  let a := 0x800 + 16 * k
  if differs a || differs (a + 1) || differs (a + 2) then
    (m.frontSet k (differs a)).undecide fun e => m.entrySrc e == k + 1
  else m

/-- What values taken into use start (R66, R285, R291, R323 to R326, R431, R463, R699, R841): `chg` lists each address
with the value in use before. -/
def Mach.takeUse (m : Mach) (chg : List (Nat × Word)) : Mach :=
  if chg.isEmpty && (!m.dec.waiting || m.running) then m
  else
    let differs (a : Nat) : Bool := match chg.lookup a with | some old => m.use a != old | none => false
    let oldFreq := ((chg.lookup 0x404).getD 0).toNat
    let m1 := { m with qre := { m.qre with gen := m.qre.gen + 1 }, ctl := { m.ctl with digestDue := true } }
    let m2 := (List.range 4).foldl (fun m k => m.useFront differs k) m1
    let m3 := if differs 0x840 || differs 0x841 then m2.modeChange (differs 0x840) else m2
    let m4 := if differs 0x404 then m3.synthRelock.trimFreqChange oldFreq else m3
    let m5 := if differs 0x880 then m4.trimHold else m4
    let m6 := if differs 0x881 then m5.trimPilotChange else m5
    let m7 := (if differs 0x880 then m6.mintUpdate else m6).useTaps
    let m8 := match chg.lookup 0xC43 with
      | some _ => (m7.memRetrain (m7.use 0xC43)).pset 0xC43 0
      | none => m7
    let m9 := if (chg.lookup 0x2810).isSome then m8.selectCert else m8
    if differs 0x404 || differs 0x840 || (List.range 4).any (fun k => differs (0x800 + 16 * k) || differs (0x801 + 16 * k)) then
      { m9 with ctl := { m9.ctl with useRecomp := true } }
    else m9

/-- QUIRE_BOUND_TAKE_INTO_USE (R24): with no quire running, the waiting quire-bound values are taken into use; those that a
running chain drives wait for its end (R682). -/
def Mach.takeWaiting (m : Mach) : Mach :=
  if m.running then m
  else
    let stays (e : Nat × Word) : Bool := m.cal.st == .running && chainDrives e.1
    let m1 := { m with par := { m.par with quire := m.par.quire.filter stays } }
    m1.takeUse (m.par.quire.filter fun e => !stays e)

end Sys2Proof.Machine
end

