-- ==== Sys2Proof/Machine/Chain.lean ====
section
/-! DEFINITION. Machine/Chain.lean: the calibration chain, the draft, certificates and their conditions (ch. 21). -/

namespace Sys2Proof.Machine

/-! ### A chain run (R680 to R690) -/

/-- The first condition of R680 that refuses a run with value v; 0 when none does. -/
def Mach.runFault (m : Mach) (v : Word) : Nat :=
  let asked := BitVec.ofNat 4 (fld v 0 4)
  if m.qre.st != .idle then 1
  else if !m.boot.acqReady || !m.tim.slices then 2
  else if m.trm.st != .held then 3
  else if m.iso.st != .locked && !bitOf (m.pval 0x2800) 0 then 4
  else if m.mnt.st == .off || m.mnt.st == .forced || !m.asy.started || m.asy.point.isSome then 5
  else if asked &&& ~~~(servedMask (m.useN 0x840) &&& BitVec.ofNat 4 (m.useN 0x841)) != 0 then 6
  else if (m.pval 0x2801).toInt ≤ 0 then 7
  else if m.asy.owStat.getLsbD (b2n (bitOf (m.pval 0x2800) 1)) then 8
  else if m.pwr.stage != 0 then 9
  else 0

/-- The front ends whose range or offset differs from `was` settle anew, their detectors UNDECIDED (R285, R373). -/
def Mach.frontsMoved (m was : Mach) : Mach :=
  (List.range 4).foldl (fun m k =>
    if m.frontRuns k == was.frontRuns k then m
    else (m.settleStart k).undecide fun e => m.entrySrc e == k + 1) m

/-- Whether a Mint point cannot run: slice clocks gated, or its input in overload (R690 cause 13). -/
def Mach.pointBad (m : Mach) : Bool :=
  let (kind, k, _) := m.cal.pointOf
  kind != 0 && (!m.tim.slices || (vget m.fe.front k).isOver)

/-- The point in `cal.point` starts at this boundary (R684). (DEDUCED, log 61) -/
def Mach.startPoint (m was : Mach) : Mach :=
  let m1 := { m with cal := { m.cal with settling := true, startAt := m.tim.beats + m.cal.settle, left := 2 ^ m.cal.nowInfo.k, cur := {} } }
  let m2 := (m1.frontsMoved was).mintUpdate
  if m2.pointBad then m2.chainFail 13 else m2

/-- CAL_RUN (R680, R682, R684). -/
def Mach.calRun (m : Mach) (v : Word) : Mach :=
  if m.cal.st == .running then m
  else
    let cause := m.runFault v
    if cause != 0 then
      ({ m with cal := { m.cal with st := .failed, cause := BitVec.ofNat 5 cause } } : Mach).logEvent .management 0x0C03 cause 0
    else
      let n := (List.range 4).countP (fun k => bitOf v k) * (List.range 3).countP (fun r => bitOf v (4 + r))
      let info : RunInfo := {
        vstd := m.pval 0x2801, ref2 := bitOf (m.pval 0x2800) 1, isOver := bitOf (m.pval 0x2800) 0
        n := fld (m.pval 0x2802) 0 7, k := fld (m.pval 0x2802) 8 3, mains := bitOf (m.pval 0x27D1) 0 }
      let m1 := { m with cal := { m.cal with
        st := .running, cause := 0, run := v, point := 0, points := 3 + 3 * n, settle := m.pnat 0x2803, nowInfo := info
        res := [], fail := none } }
      ((m1.logEvent .management 0x0C01 v.toNat 0).haltAccs fun j => m1.accCls j == 1).startPoint m

/-- CAL_SETTLE_END (R684): the settling period of the point is over; its conversions begin. -/
def Mach.calSettled (m : Mach) : Mach :=
  if m.cal.st == .running && m.cal.fail.isNone && m.cal.settling && decide (m.cal.startAt ≤ m.tim.beats) then
    (({ m with cal := { m.cal with settling := false } } : Mach).ask .chain 1 m.chainInput).serve
  else m

/-- Whether the point in progress has ended its last conversion. -/
def Cal.pointOver (c : Cal) : Bool := c.st == .running && c.fail.isNone && !c.settling && c.left == 0

/-- CAL_POINT_START (R684): at a boundary after a point's last conversion, the next point starts. -/
def Mach.calNext (m : Mach) : Mach :=
  if m.cal.pointOver && m.tim.clk == 0 && decide (m.cal.point + 1 < m.cal.points) then
    ({ m with cal := { m.cal with res := m.cal.cur :: m.cal.res, point := m.cal.point + 1 } } : Mach).startPoint m
  else m

/-- The chain leaves RUNNING at this beat (R682, R689): Mint, front ends, accumulators and checks as they were; the values
that waited are taken into use. (DEDUCED, log 61) -/
def Mach.chainLeave (m : Mach) (st : ChainSt) (cause : Nat) : Mach :=
  let a := m.asy.dropJob (· == Job.chain)
  let m1 := { m with
    cal := { m.cal with st, cause := BitVec.ofNat 5 cause, settling := false, fail := none }
    asy := { a with reqs := a.reqs.filter fun r => r.job != Job.chain } }
  let m2 := ((m1.frontsMoved m).takeWaiting).mintCopy.mintUpdate
  let ints := (List.range 32).filter fun j => m2.accCls j == 1
  (((ints.foldl Mach.emptyWindow m2).continuous fun j => m2.accCls j == 1).wireNext).serve

/-- A cause of R690 has arisen: at the beat that follows the run ends FAILED. (DEDUCED, log 61) -/
def Mach.chainFailed (m : Mach) : Mach :=
  match m.cal.fail with
  | some c => if m.cal.st == .running then (m.logEvent .management 0x0C03 c 0).chainLeave .failed c else m
  | none => m

/-- CAL_ABORT (R690 cause 18). -/
def Mach.calAbort (m : Mach) (v : Word) : Mach := if bitOf v 0 then m.chainFail 18 else m

/-- CAL_DRAFTCLR (R691). -/
def Mach.draftClear (m : Mach) (v : Word) : Mach :=
  if bitOf v 0 then { m with cal := { m.cal with draft := [], overAny := false } } else m

/-! ### The arithmetic (R685 to R688) -/

/-- A node voltage (R686): us, uz and dd are sums over the points' conversions, dd twice their number times D_s. -/
def nodeVolt (vstd um uz dd : Int) : Int := roundDiv (vstd * 2 * (um - uz)) dd.toNat

/-- A sample mean in 2^-16 slice code units (R685). -/
def PointRes.mean (r : PointRes) : Int := roundDiv (r.sum * 2 ^ 16) r.count

/-- round(a / b) for a b of either sign, 0 for b = 0. -/
def roundRat (a b : Int) : Int := roundDiv (if b < 0 then -a else a) b.natAbs

/-- One fit (R687): the entry, or none when a limit of R688 cause 17 is exceeded. `g` is G_nom. -/
def fitEntry (g vp vm vz mp mm mz : Int) : Option CalEntry :=
  let dv := vp - vm
  let dm := mp - mm
  if dv = 0 || dm = 0 then none
  else
    let gNum := dv * 2 ^ 16 - g * dm
    let gDen := g * dm
    let oNum := mp * dv - vp * dm
    let bNum := (vz - vp) * dm + (mp - mz) * dv - dm * 16384 * g
    let bDen := dm * 16384 * g
    if gDen.natAbs < 50 * gNum.natAbs || bDen.natAbs < 50 * bNum.natAbs || 1024 * 2 ^ 16 * dv.natAbs < oNum.natAbs then none
    else some { o := roundRat oNum dv, gamma := roundRat (gNum * 2 ^ 32) gDen, beta := roundRat (bNum * 2 ^ 32) bDen, vp, vm }

/-- Entries of a run from its P+, P- and Z results in order (R683, R687); none as soon as one fails. -/
def fitAll (vstd uz dd : Int) (mode : Nat) : List (Nat × Nat) → List PointRes → Option (List (Nat × CalEntry))
  | [], _ => some []
  | (k, r) :: ps, p :: q :: z :: rest =>
    let v (x : PointRes) : Int := nodeVolt vstd x.u uz dd
    match fitEntry (1024 * 2 ^ r) (v p) (v q) (v z) p.mean q.mean z.mean, fitAll vstd uz dd mode ps rest with
    | some e, some es => some ((12 * mode + 3 * k + r, e) :: es)
    | _, _ => none
  | _ :: _, _ => none

/-- The inputs and ranges of a run in the order of R683. -/
def runPairs (v : Word) : List (Nat × Nat) :=
  ((List.range 3).filter fun r => bitOf v (4 + r)).flatMap fun r =>
    ((List.range 4).filter fun k => bitOf v k).map fun k => (k, r)

/-- The entries of a completed run from its results, oldest first, or the cause it fails with (R686 to R688). -/
def runResult (c : Cal) (mode : Nat) (res : List PointRes) : Sum Nat (List (Nat × CalEntry)) :=
  let u (i : Nat) : Int := (res.getD i default).u
  let uz := u 0
  let us := u 1
  let ue := u (c.points - 1)
  let dd := us + ue - 2 * uz
  if dd ≤ 0 || dd < 200000 * (ue - us).natAbs then .inl 16
  else match fitAll c.nowInfo.vstd.toInt uz dd mode (runPairs c.run) (res.drop 2) with
    | some es => .inr es
    | none => .inl 17

/-- The draft with more entries (R689). -/
def draftWith (d es : List (Nat × CalEntry)) : List (Nat × CalEntry) := es.foldl (fun d e => mput d e.1 e.2) d

/-- CAL_COMPUTE (R686 to R689): after the closing point the entries go to the draft together, or the run fails. (DEDUCED, log 62) -/
def Mach.calCompute (m : Mach) : Mach :=
  if m.cal.pointOver && m.tim.clk == 0 && decide (m.cal.points ≤ m.cal.point + 1) then
    match runResult m.cal (m.useN 0x840) ((m.cal.cur :: m.cal.res).reverse) with
    | .inl cause => (m.logEvent .management 0x0C03 cause 0).chainLeave .failed cause
    | .inr es =>
      let c := m.cal
      let m1 := { m with cal := { c with
        draft := draftWith c.draft es
        info := if c.draft.isEmpty then c.nowInfo else c.info
        overAny := (!c.draft.isEmpty && c.overAny) || c.nowInfo.isOver } }
      (m1.logEvent .management 0x0C02 es.length 0).chainLeave .done 0
  else m

/-- The chain's work at a beat boundary. -/
def Mach.chainBeat (m : Mach) : Mach := m.chainFailed.calNext.calCompute.calSettled

/-! ### Certificates (R692 to R698) -/

/-- A signed 32-bit field (R5). -/
def le32 (z : Int) : List Byte := leBytes (ofInt z 32) 4

/-- The bytes of entry e with the annex (R693); zero where the draft does not hold it. -/
def entryBytes (annex : List Byte) (draft : List (Nat × CalEntry)) (e : Nat) : List Byte :=
  match draft.lookup e with
  | some c => le32 c.o ++ le32 c.gamma ++ le32 c.beta ++ le32 c.vp ++ le32 c.vm ++ (annex.drop (88 + 8 * e)).take 8 ++ [1, 0, 0, 0]
  | none => List.replicate 32 0

/-- The certificate that a seal of the draft with this annex writes (R692). (DEDUCED, log 62) -/
def Mach.certBytes (m : Mach) (annex : List Byte) (epoch : Nat) : List Byte :=
  let c := m.cal
  let cut (lo n : Nat) : List Byte := (annex.drop lo).take n
  let body := [0x4A, 0x43, 0x45, 0x52] ++ leBytes 1 2 ++ leBytes 0x4810 2 ++ leBytes 1 2 ++ leBytes epoch 2
    ++ leBytes m.vlt.serial.toNat 8 ++ leBytes m.now.toNat 12 ++ leBytes m.vlt.powered 8 ++ cut 0 6 ++ cut 6 6 ++ cut 12 4
    ++ leBytes c.info.vstd.toNat 4 ++ cut 16 4 ++ cut 20 1 ++ leBytes (b2n c.info.ref2 + 2 * b2n c.overAny) 1
    ++ leBytes (if m.iso.st == .off then 0 else m.pnat 0x27F1) 2 ++ le32 m.iso.temp
    ++ leBytes c.info.n 1 ++ leBytes c.info.k 1 ++ leBytes (b2n c.info.mains) 1 ++ List.replicate 5 0
    ++ cut 24 64 ++ List.replicate 112 0
    ++ (List.range 36).flatMap (entryBytes annex c.draft) ++ List.replicate 14972 0
  body ++ leBytes (crc32c body).toNat 4

/-- Whether the bytes of a slot make it valid (R698), uncorrectable words apart; on an engine whose serial reads 0 none is (R769). -/
def certGood (serial : BitVec 64) (bs : List Byte) : Bool :=
  let num (lo n : Nat) : Nat := leNat ((bs.drop lo).take n)
  num 0 4 == 0x5245434A && num 4 2 == 1 && num 6 2 == 0x4810 && num 8 2 == 1 && serial != 0 && num 12 8 == serial.toNat
    && num 16380 4 == (crc32c (bs.take 16380)).toNat

/-- The annex at `CAL.ANNEX` (R695). -/
def Mach.annexAddr (m : Mach) : Nat := m.pnat 0x280C * 2 ^ 32 + m.pnat 0x280B

/-- The first condition of R696 that refuses a seal; 0 when none does. `bad` says that the annex read met an
uncorrectable word. -/
def Mach.sealFault (m : Mach) (slot : Nat) (bad : Bool) : Nat :=
  let annex := readBytes m.mem m.annexAddr 384
  let num (lo n : Nat) : Nat := leNat ((annex.drop lo).take n)
  if m.vlt.op.isSome || m.cal.sealing.isSome then 1
  else if m.cal.st == .running then 2
  else if m.cal.draft.isEmpty then 3
  else if m.qre.st != .idle && m.cal.useSlot == some slot then 4
  else if !m.inDdr m.annexAddr 384 || !m.ddrUp || bad then 5
  else if num 380 4 != (crc32c (annex.take 380)).toNat then 6
  else if num 6 6 ≤ num 0 6 || num 20 1 == 0 || num 21 3 != 0 || num 376 4 != 0 then 7
  else if 65535 ≤ m.cal.lastEp then 10
  else 0

/-- CAL_SEAL (R696, R697): the seal is refused with a cause, or starts with its epoch assigned. (DEDUCED, log 63) -/
def Mach.calSeal (m : Mach) (v : Word) (bad : Bool) : Mach :=
  let slot := fld v 0 4
  let cause := m.sealFault slot bad
  if cause != 0 then { m with cal := { m.cal with sealSt := if m.cal.sealing.isSome then m.cal.sealSt else 3, sealCause := BitVec.ofNat 4 cause } }
  else
    let ep := m.cal.lastEp + 1
    let bytes := m.certBytes (readBytes m.mem m.annexAddr 384) ep
    { m.touchDdr m.annexAddr 384 with
      cal := { m.cal with sealing := some (slot, ep, bytes), sealSt := 1, sealCause := 0, lastEp := ep }
      vlt := { m.vlt with nv := { m.vlt.nv with lastEp := ep } } }

/-- Slot s found invalid; CERT_BAD when it was valid before (R698). -/
def Mach.certLost (m : Mach) (s : Nat) : Mach :=
  if m.cal.valid.getLsbD s then
    ({ m with cal := { m.cal with valid := m.cal.valid &&& ~~~((1 : BitVec 16) <<< s), slotEp := vset m.cal.slotEp s 0 } } : Mach).logEvent .management
      0x0C05 0 s
  else { m with cal := { m.cal with slotEp := vset m.cal.slotEp s 0 } }

/-- A seal ends without success: the slot is left invalid, without its closing CRC-32C (R697, R230). (DEDUCED, log 63) -/
def Mach.sealFails (m : Mach) (cause : Nat) : Mach :=
  match m.cal.sealing with
  | none => m
  | some (s, _, bytes) =>
    let m1 := { m.poke (certBase s) (bytes.take 16380) with cal := { m.cal with sealing := none, sealSt := 3, sealCause := BitVec.ofNat 4 cause } }
    m1.certLost s

/-- CERT_SEAL (R697): the seal in progress ends; `bad` says that the readback did not match. (DEDUCED, log 63) -/
def Mach.certSealed (m : Mach) (bad : Bool) : Mach :=
  match m.cal.sealing with
  | none => m
  | some (s, ep, bytes) =>
    if bad then m.sealFails 8
    else
      let m1 := { m.poke (certBase s) bytes with cal := { m.cal with
        sealing := none, sealSt := 2, sealCause := 0, draft := [], overAny := false
        valid := if m.vlt.serial == 0 then m.cal.valid else m.cal.valid ||| (1 <<< s)
        slotEp := if m.vlt.serial == 0 then m.cal.slotEp else vset m.cal.slotEp s (BitVec.ofNat 16 ep) } }
      m1.logEvent .management 0x0C04 ep s

/-- Whether every byte of slot s is 0. -/
def Mach.slotEmpty (m : Mach) (s : Nat) : Bool :=
  m.mem.all fun c => !(decide (certBase s ≤ c.1) && decide (c.1 < certBase s + 0x4000))

/-- Slot s examined (R698) at a read-in or a scrub that found the Vault words at the offsets `bad` uncorrectable. At a read-in
every slot that is not all zero counts as valid before. -/
def Mach.checkCert (m : Mach) (readIn : Bool) (bad : List Nat) (s : Nat) : Mach :=
  if m.slotEmpty s then m.certLost s
  else
    let bs := readBytes m.mem (certBase s) 0x4000
    let hit := bad.any fun o => decide (0x9_0000 + 0x4000 * s ≤ o) && decide (o < 0x9_0000 + 0x4000 * (s + 1))
    let m0 := { m with cal := { m.cal with valid := m.cal.valid ||| (1 <<< s) } }
    if hit || !certGood m.vlt.serial bs then (if readIn then m0 else m).certLost s
    else { m0 with cal := { m0.cal with slotEp := vset m0.cal.slotEp s (BitVec.ofNat 16 (leNat ((bs.drop 10).take 2))) } }

/-- Every slot examined. -/
def Mach.checkCerts (m : Mach) (readIn : Bool) (bad : List Nat) : Mach := (List.range 16).foldl (fun m s => m.checkCert readIn bad s) m

/-! ### The certificate in use (R701, R702) -/

/-- CERT_EXPIRY the first time in a quire that the condition holds (R701). -/
def Mach.certCheck (m : Mach) : Mach :=
  if m.certExpired && !m.cal.expLogged then
    (({ m with cal := { m.cal with expLogged := true } } : Mach).note 1).logEvent .management 0x0C06 m.cal.epoch.toNat 0
  else m

end Sys2Proof.Machine
end

