-- ==== Sys2Proof/Machine/Ledger.lean ====
section
/-! DEFINITION. Machine/Ledger.lean: Ledger accumulation: pages, bins and the persistence histogram (ch. 15). -/

namespace Sys2Proof.Machine

/-! ### A folio as the Ledger reads it (R453, R476) -/

/-- A header field of n bytes at byte lo of a slot. -/
def slotNum (slot : List Byte) (lo n : Nat) : Nat := leNat ((slot.drop lo).take n)

/-- Header bytes 4 to 7 of a slot. -/
def slotInfo (slot : List Byte) : Nat := slotNum slot 4 4

/-- Samples per input that the header says are held (bytes 36 to 39). -/
def slotHeld (slot : List Byte) : Nat := slotNum slot 36 4 + 1

/-- The granule size of the slot's preset (ch. 14, Slots). -/
def slotGran (slot : List Byte) : Nat :=
  if nfld (slotInfo slot) 24 3 = 0 then 80 else if nfld (slotInfo slot) 27 1 = 1 then 256 else 128

/-- The smallest and the largest value stored for sample i of the stored input of rank j, in the units of R476; one value
but for a peak-detect pair. -/
def slotPair (slot : List Byte) (j i : Nat) : Int × Int :=
  let at0 := 64 + (j * ((slotHeld slot + 63) / 64) + i / 64) * slotGran slot
  if slotGran slot = 80 then
    let x := sext (slotNum slot at0 80 >>> (10 * (i % 64))) 10
    (x, x)
  else if slotGran slot = 256 then (sext (slotNum slot (at0 + 4 * (i % 64)) 2) 16, sext (slotNum slot (at0 + 4 * (i % 64) + 2) 2) 16)
  else
    let x := sext (slotNum slot (at0 + 2 * (i % 64)) 2) 16
    (x, x)

/-- Whether a stored value is an extreme code (R476). -/
def extreme (gran : Nat) (x : Int) : Bool :=
  if gran = 80 then x == -512 || x == 511 else x == -32768 || x == 32767

/-- Whether a slot as read passes check 1 of R482 for a folio: its header and data CRCs hold and it is that folio. -/
def slotGood (r : LdgRef) (slot : List Byte) : Bool :=
  crc32c (slot.take 60) == w32 (slotNum slot 60 4) && crc32c (slot.drop 64) == w32 (slotNum slot 56 4)
    && slotNum slot 0 4 == r.qid.toNat && slotInfo slot % 2 ^ 20 == r.idx % 2 ^ 20

/-! ### Bins (R475 to R480) -/

/-- The address of bin b of page p (R480). -/
def binAddr (p b : Nat) : Nat := ledgerBase + 0x80_0000 * p + 32 * b

/-- The bin record at a updated with a pair n, x (R476, R477); `total` is what is added to the sum. -/
def binAdd (mem : List Host.Cell) (a : Nat) (n x total : Int) (clamp : Bool) : List Host.Cell :=
  let sum := sext (readNat mem a 8) 64 + total
  let sq := readNat mem (a + 8) 12 + (total * total).toNat
  let lo := min (sext (readNat mem (a + 20) 2) 16) n
  let hi := max (sext (readNat mem (a + 22) 2) 16) x
  writeBytes mem a (leBytes (ofInt sum 64) 8 ++ leBytes sq 12 ++ leBytes (ofInt lo 16) 2 ++ leBytes (ofInt hi 16) 2
    ++ leBytes (readNat mem (a + 24) 4 + 1) 4 ++ leBytes (readNat mem (a + 28) 4 + b2n clamp) 4)

/-- The sample positions of a page window that a folio holds (R479), each with its bin. -/
def windowOf (g : Page) (slot : List Byte) : List (Nat × Nat × Nat) :=
  (List.range (inputList g.inputs).length).flatMap fun j =>
    (List.range (min g.bins (slotHeld slot - g.first))).map fun d => (j, g.first + d, j * g.bins + d)

/-- One bin update of a folio. -/
def binStep (p : Nat) (g : Page) (slot : List Byte) (mem : List Host.Cell) (e : Nat × Nat × Nat) : List Host.Cell :=
  let (j, i, b) := e
  let (n, x) := slotPair slot j i
  let total := if g.peak then n + x else x
  binAdd mem (binAddr p b) n x total (extreme (slotGran slot) n || extreme (slotGran slot) x)

/-- The first `count` bin updates of a folio done. -/
def binSteps (p : Nat) (g : Page) (slot : List Byte) (count : Nat) (mem : List Host.Cell) : List Host.Cell :=
  ((windowOf g slot).take count).foldl (binStep p g slot) mem

/-! ### Pages (R483 to R488) -/

/-- Page p changed. -/
def Mach.modPage (m : Mach) (p : Nat) (f : Page → Page) : Mach := { m with ldg := { m.ldg with pages := vmod m.ldg.pages p f } }

/-- Whether the page stays bound for a folio (R483). -/
def Mach.staysBound (m : Mach) (g : Page) (r : LdgRef) (slot : List Byte) : Bool :=
  g.qid == r.qid || (bitOf (m.pval 0xD00) 2 && g.cert.toNat == slotNum slot 34 2 &&
    (g.quire == r.qid || m.qre.closes.lookup g.quire == some r.armGen))

/-- A page opened with a folio's binding (R479, R483): page 0 when both are EMPTY; none when neither is. -/
def Mach.openPage (m : Mach) (r : LdgRef) (slot : List Byte) : Mach :=
  match (List.range 2).find? fun p => (vget m.ldg.pages p).st == .empty with
  | none => m
  | some p =>
    let w := slotInfo slot
    let inputs := BitVec.ofNat 4 (nfld w 20 4)
    m.modPage p fun _ => {
      st := .accumulating, qid := r.qid, cert := BitVec.ofNat 16 (slotNum slot 34 2), preset := nfld w 24 3
      peak := nfld w 27 1 == 1, inputs, first := m.pnat 0xD01
      bins := min (m.pnat 0xD02) (262144 / max 1 (inputList inputs).length), openB := m.beatLo }

/-- R483 for a folio about to meet check 4. -/
def Mach.bindPage (m : Mach) (r : LdgRef) (slot : List Byte) : Mach :=
  let m1 := match m.ldg.open with
    | some p => if m.staysBound (vget m.ldg.pages p) r slot then m else m.closePage 5
    | none => m
  if m1.ldg.open.isSome then m1 else m1.openPage r slot

/-- A folio skipped, counted by its reason (R481, R482). -/
def Mach.ldgSkip (m : Mach) (reason : Nat) : Mach := { m with ldg := { m.ldg with skip := vmod m.ldg.skip (reason - 1) (· + 1) } }

/-- The histogram settings in force (R496). -/
def Mach.histNow (m : Mach) : Option (Nat × Nat × Nat × Int × Nat) :=
  if bitOf (m.pval 0xD00) 3 then some (m.pnat 0xD40, m.pnat 0xD41, m.pnat 0xD42, (m.pval 0xD43).toInt, m.pnat 0xD44) else none

/-- An uncorrectable error in Ledger SRAM at an offset (R499). -/
def Mach.ldgEcc (m : Mach) (off : Option Nat) : Mach :=
  match off with
  | none => m
  | some o =>
    let p := o / 0x80_0000
    (if p < 2 then m.modPage p fun g => { g with damaged := true } else m).logEvent .data 0x0802 o p

/-- An uncorrectable DDR5 word met at an address (R467). -/
def Mach.storeEcc (m : Mach) (a : Nat) : Mach :=
  ({ m with store := { m.store with eccUnc := m.store.eccUnc + 1 } } : Mach).logEvent .data 0x0705 (a / 64) 0 none (some 4)

/-- LEDGER_TAKE (R482, R483, R486): the oldest folio of the backlog is taken, checked, and skipped or begun. `bad` says
that a DDR5 word of its slot is uncorrectable, `ecc` where Ledger SRAM showed an uncorrectable error. (DEDUCED, log 43) -/
def Mach.ledgerTake (m : Mach) (bad : Bool) (ecc : Option Nat) : Mach :=
  match m.ldg.backlog with
  | [] => m
  | r :: rest =>
    if m.ldg.busy.isSome || m.stageOn 3 || !m.ddrUp then m
    else
      let slot := readBytes m.mem r.addr r.size
      let m := if m.ldg.closeReq then ({ m with ldg := { m.ldg with closeReq := false } } : Mach).closePage 1 else m
      let m0 := (({ m with ldg := { m.ldg with backlog := rest } } : Mach).touchDdr r.addr r.size).ldgEcc ecc
      let m1 := if bad then m0.storeEcc r.addr else m0
      if bad || !slotGood r slot then (m1.ldgSkip 6).ldgEnds
      else if nfld (slotInfo slot) 29 1 = 1 then (m1.ldgSkip 2).ldgEnds
      else if slotNum slot 32 2 &&& m.pnat 0xD04 != 0 then (m1.ldgSkip 1).ldgEnds
      else
        let m2 := m1.bindPage r slot
        let m3 := if m2.ldg.open.isNone then m2.ldgSkip 4 else m2
        if m2.ldg.open.isNone && m2.histNow.isNone then m3.ldgEnds
        else { m3 with ldg := { m3.ldg with busy := some { ref := r, page := m2.ldg.open, slot, hist := m2.histNow } } }

/-! ### The histogram (R492 to R496) -/

/-- The address of cell (c, r) (R494). -/
def cellAddr (c r : Nat) : Nat := 0x0010_0100_0000 + 2 * (2048 * r + c)

/-- A cell counted once more, saturating (R493). -/
def cellInc (mem : List Host.Cell) (c r : Nat) : List Host.Cell :=
  writeBytes mem (cellAddr c r) (leBytes (min 65535 (readNat mem (cellAddr c r) 2 + 1)) 2)

/-- The rows that a sample or pair counts in (R493). -/
def histRows (vlow : Int) (shift : Nat) (n x : Int) : List Nat :=
  let r0 := (n - vlow).fdiv (2 ^ shift)
  let r1 := (x - vlow).fdiv (2 ^ shift)
  (List.range 1024).filter fun r => decide (r0 ≤ (r : Int)) && decide ((r : Int) ≤ r1)

/-- A folio added into the histogram (R493). -/
def histAdd (slot : List Byte) (h : Nat × Nat × Nat × Int × Nat) (mem : List Host.Cell) : List Host.Cell :=
  let (src, first, step, vlow, shift) := h
  let ks := inputList (BitVec.ofNat 4 (nfld (slotInfo slot) 20 4))
  (List.range ks.length).foldl (fun mem j =>
    if nfld src (ks.getD j 0) 1 = 1 then
      (List.range (slotHeld slot)).foldl (fun mem i =>
        if first ≤ i && decide ((i - first) / step < 2048) then
          let (n, x) := slotPair slot j i
          (histRows vlow shift n x).foldl (fun mem r => cellInc mem ((i - first) / step) r) mem
        else mem) mem
    else mem) mem

/-- A histogram cell was written: the display frame in progress is not static while the waveform plane is on (R634). -/
def Mach.histTouched (m : Mach) : Mach := { m with dsp := { m.dsp with busy := m.dsp.busy || bitOf (m.use 0x2602) 0 } }

/-- The cells that R493 counts for the folio in progress, unless a clear runs (R496). -/
def Mach.histFolio (m : Mach) (b : LdgBusy) : Mach :=
  match b.hist with
  | none => m
  | some h =>
    { m.histTouched with mem := if m.ldg.clearing then m.mem else histAdd b.slot h m.mem
                         ldg := { m.ldg with hfolios := m.ldg.hfolios + 1 } }

/-- LEDGER_FOLIO_DONE (R476 to R479, R484, R485, R488, R492): the folio in progress is wholly in its page and in the
histogram; the page may close. (DESIGN CHOICE, log 42) -/
def Mach.ledgerDone (m : Mach) (ecc : Option Nat) : Mach :=
  match m.ldg.busy with
  | none => m
  | some b =>
    if m.stageOn 3 then m
    else
      let m1 := (({ m with ldg := { m.ldg with busy := none, closeReq := false } } : Mach).histFolio b).ldgEcc ecc
      let m2 := match b.page with
        | none => m1
        | some p =>
          let g := vget m1.ldg.pages p
          let trim := BitVec.ofNat 16 (slotNum b.slot 30 2)
          let m2 := { m1 with mem := binSteps p g b.slot (windowOf g b.slot).length m1.mem }.modPage p fun g =>
            { g with count := g.count + 1, qlast := b.ref.qid, flags := g.flags ||| BitVec.ofNat 16 (slotNum b.slot 32 2)
                     trim1 := if g.count = 0 then trim else g.trim1, trim2 := trim }
          if m2.pnat 0xD03 != 0 && g.count + 1 == m2.pnat 0xD03 then m2.closePage 2
          else if g.count + 1 = 0xFFFFFFFF then m2.closePage 3
          else m2
      (if m.ldg.closeReq then m2.closePage 1 else m2).ldgEnds

/-- LDG_CLOSE (R485). -/
def Mach.ldgClose (m : Mach) (v : Word) : Mach :=
  if bitOf v 0 then
    if m.ldg.busy.isSome then { m with ldg := { m.ldg with closeReq := true } } else m.closePage 1
  else m

/-- LDG_FREE (R487): the named CLOSED pages go to CLEARING. (DEDUCED, log 44) -/
def Mach.ldgFree (m : Mach) (v : Word) : Mach :=
  (List.range 2).foldl (fun m p =>
    if bitOf v p && (vget m.ldg.pages p).st == .closed then m.modPage p fun g => { g with st := .clearing, damaged := false } else m) m

/-- PAGE_CLEAR_DONE (R475, R487): a CLEARING page holds the initial values in every bin and is EMPTY. (DEDUCED, log 44) -/
def Mach.pageCleared (m : Mach) (p : Nat) : Mach :=
  if (vget m.ldg.pages p).st == .clearing then
    { m with mem := clearBytes m.mem (binAddr p 0) 0x80_0000 }.modPage p fun g => { g with st := .empty }
  else m

/-- The boundary's count toward the next decay pass; none is counted with `LDG.DECAYINT` 0. -/
def Mach.decayBeat (m : Mach) : Mach :=
  if m.stageOn 3 then m else { m with ldg := { m.ldg with decayCnt := if m.pnat 0xD45 = 0 then 0 else m.ldg.decayCnt + 1 } }

/-- DECAY_PASS (R495): a pass starts every `LDG.DECAYINT` beats. -/
def Mach.decayPass (m : Mach) : Mach :=
  if m.pnat 0xD45 != 0 && decide (m.pnat 0xD45 ≤ m.ldg.decayCnt) && !m.stageOn 3 then
    { m with ldg := { m.ldg with decaying := true, decayCnt := 0 } }
  else m

/-- A cell after a decay pass (R495). -/
def decayed (v shift : Nat) : Nat := v - max 1 (v >>> shift)

/-- The cells of the histogram that are not zero. -/
def histCells (mem : List Host.Cell) : List Nat :=
  (mem.filterMap fun c => if cellAddr 0 0 ≤ c.1 && decide (c.1 < cellAddr 0 1024) then some (c.1 / 2 * 2) else none).eraseDups

/-- DECAY_PASS_END (R495): every non-zero cell has decayed. (DESIGN CHOICE, log 42) -/
def Mach.decayEnd (m : Mach) : Mach :=
  if m.ldg.decaying && !m.stageOn 3 then
    let mem := (histCells m.mem).foldl (fun mem a => writeBytes mem a (leBytes (decayed (readNat mem a 2) (m.pnat 0xD46)) 2)) m.mem
    { m.histTouched with mem, ldg := { m.ldg with decaying := false } }
  else m

/-- LDG_HCLEAR (R496): a clear of the histogram starts. -/
def Mach.histClear (m : Mach) (v : Word) : Mach := if bitOf v 0 then { m with ldg := { m.ldg with clearing := true } } else m

/-- HISTOGRAM_CLEAR_DONE (R496): every cell is 0. -/
def Mach.histCleared (m : Mach) : Mach :=
  if m.ldg.clearing then
    { m.histTouched with mem := clearBytes m.mem (cellAddr 0 0) 0x40_0000, ldg := { m.ldg with clearing := false } }
  else m

/-! ### Stop and loss (R497, R498) -/

/-- Stage 3 stops the Ledger (R497). (DESIGN CHOICE, log 42) (DEDUCED, log 43) -/
def Mach.ldgStop (m : Mach) : Mach :=
  let m1 := { m with ldg := { m.ldg with backlog := [], skip := vmod m.ldg.skip 6 (· + w32 m.ldg.backlog.length) } }
  let m2 := match m1.ldg.busy with
    | none => m1
    | some b =>
      let m2 := { m1 with ldg := { m1.ldg with busy := none } }
      match b.page with
      | none => m2
      | some p =>
        { m2 with mem := binSteps p (vget m2.ldg.pages p) b.slot (Config.binsDone b.ref.qid b.ref.idx) m2.mem }.modPage p
          fun g => { g with damaged := true }
  m2.ldgEnds

/-- CORE switched on (R498): both pages and the histogram go through CLEARING, and LDG_LOST is logged when a page was not
EMPTY. -/
def Mach.ldgCoreOn (m : Mach) : Mach :=
  let lost := (List.range 2).foldl (fun w p => if (vget m.ldg.pages p).st == .empty then w else w + 2 ^ p) 0
  let m1 := { m with ldg := { m.ldg with pages := vmap (fun g => { g with st := .clearing }) m.ldg.pages, clearing := true, busy := none, backlog := [], closeReq := false, ends := [] } }
  if lost = 0 then m1 else m1.logEvent .data 0x0801 lost 0

end Sys2Proof.Machine
end

