-- ==== Sys2Proof/Machine/Log.lean ====
section
/-! DEFINITION. Machine/Log.lean: the event log ring, alert clearing and `FLT.TEST` (ch. 23). -/

namespace Sys2Proof.Machine

/-- The 32 bytes of a record (R750). -/
def LogRec.bytes (r : LogRec) : List Byte :=
  let body := leBytes r.num 5 ++ leBytes (r.plane.code + 4 * r.origin.toNat + 16 * b2n r.holdover + 32 * b2n r.valid) 1
    ++ leBytes r.code.toNat 2 ++ leBytes r.beat 8 ++ leBytes r.time 8 ++ leBytes r.a.toNat 4 ++ leBytes r.b.toNat 2
  body ++ leBytes (crc16 body).toNat 2

/-- The address of a ring entry (R752). -/
def logAddr (entry : Nat) : Nat := vaultBase + 0xD_0000 + 32 * entry

/-- The ring entry of record s (R752). -/
def logEntry (s : Nat) : Nat := (s - 1) % 4096

/-- LOG_RECORD_WRITE (R752, R753, R758): the record at the head of the queue written into its entry. -/
def Mach.logWrite (m : Mach) : Mach :=
  match m.flt.found, m.flt.queue with
  | true, r :: q =>
    let m1 := { m.poke (logAddr (logEntry r.num)) r.bytes with flt := { m.flt with queue := q, written := r.num } }
    let m2 := if bitOf (m1.pval 0x2A47) 0 then m1.sendEvent { source := 3, code := r.code, arg := r.a, beat := r.beat } else m1
    m2.flushDropped
  | _, _ => m

/-- A reset in the middle of the write of the record at the head of the queue (R753): its first `words` 64-bit words are written.
(DESIGN CHOICE, log 80) -/
def Mach.recordCut (m : Mach) (words : Nat) : Mach :=
  match m.flt.found, m.flt.queue with
  | true, r :: _ => m.poke (logAddr (logEntry r.num)) (r.bytes.take (8 * words))
  | _, _ => m

/-- LOG_TOKEN (R755): 5 ms of powered time have passed. -/
def Mach.logToken (m : Mach) : Mach := ({ m with flt := { m.flt with tokens := min (m.flt.tokens + 1) 2000 } } : Mach).flushDropped

/-- FLT_TEST (R749): one record, and the classes named raised in ascending order. -/
def Mach.fltTest (m : Mach) (k : Option Master) (v : Word) : Mach :=
  let m0 := m.flushDropped
  let (seq, m1) := if m0.logFree then m0.queueRec (m0.record .management 0x0004 v.toNat 0 k none)
    else (0, m0.logEvent .management 0x0004 v.toNat 0 k)
  (List.range 11).foldl (fun m n => if bitOf v n then m.raise n 0x0004 seq else m) m1

/-- ALERT_CLEAR (R746): bits cleared but for the classes raised since the commit was sealed. -/
def Mach.alertClear (m : Mach) (v : Word) (raised : BitVec 11) : Mach :=
  { m with flt := { m.flt with alert := m.flt.alert &&& ~~~(v.setWidth 11 &&& ~~~raised) } }

/-! ### The read-in (R760, R761) -/

/-- The ring entries that are not all zero. -/
def Mach.logEntries (m : Mach) : List Nat :=
  (m.mem.filter fun c => decide (logAddr 0 ≤ c.1) && decide (c.1 < logAddr 4096)).foldl
    (fun l c => let e := (c.1 - logAddr 0) / 32; if l.head? == some e then l else e :: l) []

/-- The number of a valid entry (R761); none for one that is not valid. -/
def Mach.entryNum (m : Mach) (bad : List Nat) (e : Nat) : Option Nat :=
  let bs := readBytes m.mem (logAddr e) 32
  let n := leNat (bs.take 5)
  let hit := bad.any fun o => decide (0xD_0000 + 32 * e ≤ o) && decide (o < 0xD_0000 + 32 * (e + 1))
  if !hit && n != 0 && leNat (bs.drop 30) == (crc16 (bs.take 30)).toNat then some n else none

/-- Whether record number a is later than b (R752). -/
def seqLater (a b : Nat) : Bool :=
  let d := (a + (2 ^ 40 - 1) - b) % (2 ^ 40 - 1)
  decide (1 ≤ d) && decide (d ≤ 2 ^ 39)

/-- Waiting records numbered from n upward (R760), and the number after them. -/
def numberRecs : Nat → List LogRec → List LogRec × Nat
  | n, [] => ([], n)
  | n, r :: rs => let (l, k) := numberRecs (nextSeq n) rs; ({ r with num := n } :: l, k)

/-- The log position found (R760, R761). -/
def Mach.logFind (m : Mach) (bad : List Nat) : Mach :=
  let es := m.logEntries
  let good := es.filterMap (m.entryNum bad)
  let latest := good.foldl (fun b n => if b = 0 || seqLater n b then n else b) 0
  let count := es.length - good.length
  let (q, next) := numberRecs (if latest = 0 then 1 else nextSeq latest) m.flt.queue
  let m1 := { m with flt := { m.flt with found := true, queue := q, next, written := latest, badRec := count } }
  if count = 0 then m1 else m1.logEvent .management 0x0003 count 0 none (some 10)

end Sys2Proof.Machine
end

