-- ==== Sys2Proof/Machine/Banks.lean ====
section
/-! DEFINITION. Machine/Banks.lean: the Vault's sections, banks, images and directory, and words of it that are uncorrectable (ch. 06). -/

namespace Sys2Proof.Machine

/-! ### Sections: 0 base configuration, 1 to 31 insert slots, 32 shedding policy, 33 Mint power-up code -/

/-- The kind of a section's image (R221). -/
def secKind (sec : Nat) : Nat := if sec = 0 then 1 else if sec < 32 then 2 else sec - 29

/-- The section that a kind and slot name (R218, R221). -/
def secOf (kind slot : Nat) : Option Nat :=
  if kind = 2 then (if 1 ≤ slot ∧ slot ≤ 31 then some slot else none)
  else if slot != 0 then none
  else if kind = 1 then some 0 else if kind = 3 then some 32 else if kind = 4 then some 33 else none

/-- The size of one bank of a section (R213). -/
def bankSize (sec : Nat) : Nat := if sec = 0 then 0x2_0000 else if sec < 32 then 0x1000 else 0x400

/-- The Vault offset of a bank (R213). -/
def bankOffset (sec : Nat) (b : Bool) : Nat :=
  (if sec = 0 then 0x1_0000 else if sec < 32 then 0x5_0000 + 0x2000 * (sec - 1) else if sec = 32 then 0x8_E000 else 0x8_E800)
    + b2n b * bankSize sec

/-! ### Images (R218 to R223) -/

/-- A little-endian field of an image. -/
def imgNum (bs : List Byte) (lo n : Nat) : Nat := leNat ((bs.drop lo).take n)

/-- The record count of an image. -/
def imgCount (bs : List Byte) : Nat := imgNum bs 12 4

/-- The records of an image: address, bytes 2 and 3, value. -/
def imgRecords (bs : List Byte) : List (Nat × Nat × Word) :=
  (List.range (imgCount bs)).map fun i => (imgNum bs (64 + 8 * i) 2, imgNum bs (66 + 8 * i) 2, w32 (imgNum bs (68 + 8 * i) 4))

/-- Whether the header's own CRC-32C holds. -/
def headerOk (bs : List Byte) : Bool := imgNum bs 60 4 == (crc32c (bs.take 60)).toNat

/-- Whether magic, version, part code and build are this engine's. -/
def partOk (bs : List Byte) : Bool := imgNum bs 0 4 == 0x544C564A && imgNum bs 4 2 == 1 && imgNum bs 6 2 == 0x4810 && imgNum bs 8 2 == 1

/-- Whether a kind admits a record count (R221). -/
def countOk (kind n : Nat) : Bool :=
  if kind = 1 then decide (n ≤ 6214) else if kind = 2 then decide (1 ≤ n) && decide (n ≤ 256)
  else if kind = 3 then decide (1 ≤ n) && decide (n ≤ 10) else n == 1

/-- Whether the length, the count and the bank agree (R225 check 8). -/
def lengthOk (sec : Nat) (bs : List Byte) : Bool :=
  imgNum bs 24 4 == 64 + 8 * imgCount bs + 4 && countOk (secKind sec) (imgCount bs) && decide (imgNum bs 24 4 ≤ bankSize sec)

/-- Whether the closing CRC-32C holds. -/
def imageCrcOk (bs : List Byte) : Bool :=
  let n := imgNum bs 24 4
  imgNum bs (n - 4) 4 == (crc32c (bs.take (n - 4))).toNat

/-- Whether the bytes of a bank are a valid image for the section (R234). -/
def bankValid (sec : Nat) (bs : List Byte) : Bool :=
  headerOk bs && partOk bs && secOf (imgNum bs 10 1) (imgNum bs 11 1) == some sec && lengthOk sec bs && imageCrcOk bs

/-- The bytes of a bank's image as far as its header says. -/
def Mach.bankBytes (m : Mach) (sec : Nat) (b : Bool) : List Byte :=
  let a := vaultBase + bankOffset sec b
  readBytes m.mem a (min (bankSize sec) (max 64 (readNat m.mem (a + 24) 4)))

/-- The image of a bank (R234); none when it is not valid or holds one of the words at the offsets `bad`. -/
def Mach.bankImage (m : Mach) (sec : Nat) (b : Bool) (bad : List Nat) : Option (List Byte) :=
  let o := bankOffset sec b
  let bs := m.bankBytes sec b
  if (bad.any fun x => decide (o ≤ x) && decide (x < o + bankSize sec)) || !bankValid sec bs then none else some bs

/-! ### The directory (ch. 06, Model; R866) -/

/-- Which copy governs: false A, true B. -/
def Nv.governing (n : Nv) : Option Bool :=
  if n.dirA.ok && n.dirB.ok then some (decide (n.dirA.gen < n.dirB.gen))
  else if n.dirA.ok then some false else if n.dirB.ok then some true else none

/-- The governing copy. -/
def Nv.dir (n : Nv) : Option DirCopy :=
  match n.governing with
  | some false => some n.dirA
  | some true => some n.dirB
  | none => none

/-- The directory with a section's active bank recorded: the other copy rewritten with the generation count raised. -/
def Nv.record (n : Nv) (sec : Nat) (b : Option Bool) : Nv :=
  match n.dir with
  | none => { n with dirA := { ok := true, gen := 1, active := vset (Vector.replicate 34 none) sec b } }
  | some d =>
    let d1 := { d with gen := d.gen + 1, active := vset d.active sec b }
    if n.governing == some false then { n with dirB := d1 } else { n with dirA := d1 }

/-- The active bank that the directory records for a section. -/
def Nv.active (n : Nv) (sec : Nat) : Option Bool := match n.dir with | some d => vget d.active sec | none => none

/-! ### Uncorrectable words (R216, R234) -/

/-- The engine with the bit of an insert slot in `INS.VALID` set or cleared. -/
def Mach.slotValid (m : Mach) (n : Nat) (on : Bool) : Mach :=
  let b : BitVec 32 := 1 <<< n
  { m with vlt := { m.vlt with slots := if on then m.vlt.slots ||| b else m.vlt.slots &&& ~~~b } }

/-- Uncorrectable words found at these offsets (R216). -/
def Mach.vaultEcc (m : Mach) (bad : List Nat) : Mach :=
  bad.foldl (fun m o =>
    ({ m with vlt := { m.vlt with eccUnc := m.vlt.eccUnc + 1 } } : Mach).logEvent .management 0x0402 o 0 none (some 2)) m

/-- An insert slot whose active bank holds a word at one of the offsets loses its validity (R216). -/
def Mach.slotsHit (m : Mach) (bad : List Nat) : Mach :=
  (List.range 32).foldl (fun m n =>
    match m.vlt.nv.active n with
    | some b =>
      let o := bankOffset n b
      if n != 0 && bad.any fun x => decide (o ≤ x) && decide (x < o + 0x1000) then m.slotValid n false else m
    | none => m) m

/-- The bank in use for a section with its image, with the records and alert of R234. -/
def Mach.chooseBank (m : Mach) (sec : Nat) (bad : List Nat) : Mach × Option (Bool × List Byte) :=
  match m.vlt.nv.active sec with
  | none => (if m.vlt.nv.dir.isNone then m.logEvent .management (if sec = 0 then 0x0404 else 0x03E5 + sec) 0 0 none (some 2) else m, none)
  | some b =>
    match m.bankImage sec b bad with
    | some bs => (m, some (b, bs))
    | none =>
      match m.bankImage sec (!b) bad with
      | some bs => (m.logEvent .management 0x0403 (secKind sec) 0 none (some 2), some (!b, bs))
      | none => (m.logEvent .management (if sec = 0 then 0x0404 else 0x03E5 + sec) 0 0 none (some 2), none)

/-- Whether one of the offsets lies in bank b of a section. -/
def bankHit (sec : Nat) (bad : List Nat) (b : Option Bool) : Bool :=
  b.any fun b => bad.any fun x => decide (bankOffset sec b ≤ x) && decide (x < bankOffset sec b + bankSize sec)

/-- The images in use after their banks showed words at these offsets (R216, R229, R234): a base configuration or shedding policy no longer
counts as from a valid bank, and its values stay until the next read-in; the Mint power-up code is chosen anew. (DESIGN CHOICE, log 114) -/
def Mach.imagesHit (m : Mach) (bad : List Nat) : Mach :=
  let v := m.vlt
  let m1 := { m with vlt := { v with baseBank := if bankHit 0 bad v.baseBank then none else v.baseBank
                                     polBank := if bankHit 32 bad v.polBank then none else v.polBank } }
  if bankHit 33 bad v.mintBank then
    let (m2, r) := m1.chooseBank 33 bad
    { m2 with vlt := { m2.vlt with mintBank := r.map (·.1), mintCode := r.map fun x => BitVec.ofNat 14 (imgNum x.2 68 4) } }
  else m1

/-- Words at these Vault offsets read with an uncorrectable error after the read-in (R216): each is logged, and the banks and certificate
slots that hold them are invalid. (DESIGN CHOICE, log 114) -/
def Mach.vaultHit (m : Mach) (bad : List Nat) : Mach :=
  if bad.isEmpty then m else (((m.vaultEcc bad).slotsHit bad).checkCerts false bad).imagesHit bad

/-- An uncorrectable error met in reading engine memory at an address (R216, R467, R499). (DESIGN CHOICE, log 114) -/
def Mach.readEcc (m : Mach) (a : Nat) : Mach :=
  if inVault a 1 then m.vaultHit [(a - vaultBase) / 8 * 8]
  else if inLedger a 1 then m.ldgEcc (some (a - ledgerBase))
  else m.storeEcc a

end Sys2Proof.Machine
end

