-- ==== Sys2Proof/Machine/Records.lean ====
section
/-! DEFINITION. Machine/Records.lean: folio transfer records, sent and received (ch. 18). -/

namespace Sys2Proof.Machine

/-! ### Blocks (R583 to R585) -/

/-- The bytes of slot data that hold the 64 values of a block: 80 for preset OPEN, else 128. -/
def blockBytes (hdr : List Byte) : Nat := if nfld (slotInfo hdr) 24 3 = 0 then 80 else 128

/-- The 64 values in one block's worth of slot data. -/
def blockVals (size : Nat) (bs : List Byte) : List Int :=
  let n := leNat bs
  (List.range 64).map fun k => if size = 80 then sext (n >>> (10 * k)) 10 else sext (n >>> (16 * k)) 16

/-- Slot data of 64 values. -/
def blockData (size : Nat) (xs : List Int) : List Byte :=
  if size = 80 then packRaw xs else xs.flatMap fun x => leBytes (ofInt x 16) 2

/-- The smallest width that holds every difference of a block (R585); 18 when none of 0 to 17 does. -/
def blockWidth (ds : List Int) : Nat :=
  ((List.range 18).find? fun w =>
    if w = 0 then ds.all (· == 0) else ds.all fun d => decide (-(2 ^ (w - 1)) ≤ d) && decide (d < 2 ^ (w - 1))).getD 18

/-- A block of differences (R584, R585). -/
def encodeBlock (ds : List Int) : List Byte :=
  let w := blockWidth ds
  BitVec.ofNat 8 w :: leBytes (ds.foldr (fun d acc => ofInt d w + 2 ^ w * acc) 0) (8 * w)

/-- The 64 differences of a block of width w (R584). -/
def decodeBlock (w : Nat) (bs : List Byte) : List Int :=
  (List.range 64).map fun k => if w = 0 then 0 else sext (leNat bs >>> (w * k)) w

/-- The blocks of slot data, with bytes after the last block left out. -/
def dataBlocks (size : Nat) (slot : List Byte) : List (List Byte) :=
  (List.range ((slot.length - 64) / size)).map fun i => (slot.drop (64 + i * size)).take size

/-! ### Record layout (R581 to R583) -/

/-- A record header. -/
def recordHeader (kind : Nat) (qid idx key len size : Nat) : List Byte :=
  let b := [BitVec.ofNat 8 kind, 1, 0, 0] ++ leBytes qid 4 ++ leBytes idx 4 ++ leBytes key 4 ++ leBytes len 8 ++ leBytes size 8
    ++ leBytes 0 4
  b ++ leBytes (crc32c b).toNat 4

/-- A key record of a slot. -/
def keyRecord (slot : List Byte) : List Byte :=
  recordHeader 1 (slotNum slot 0 4) (slotInfo slot % 2 ^ 20) (slotInfo slot % 2 ^ 20) (40 + slot.length) slot.length ++ slot

/-- A delta record of a slot against the slot of key folio `key`. -/
def deltaRecord (slot keySlot : List Byte) (key : Nat) : List Byte :=
  let size := blockBytes slot
  let blocks := (List.zipWith (fun a b => encodeBlock (List.zipWith (· - ·) (blockVals size a) (blockVals size b)))
    (dataBlocks size slot) (dataBlocks size keySlot)).flatten
  let pad := (8 - blocks.length % 8) % 8
  let len := 104 + blocks.length + pad
  recordHeader 2 (slotNum slot 0 4) (slotInfo slot % 2 ^ 20) key len slot.length ++ slot.take 64 ++ blocks ++ List.replicate pad 0

/-! ### Sender (R586 to R591) -/

/-- The port of a slip destination: 0 host, 2 east, 3 west; none for DDR5. -/
def portOfDest (d : Nat) : Option Nat := if d = 0 then some 0 else if d = 2 then some 1 else if d = 3 then some 2 else none

/-- The slot of folio idx of the running or last quire. -/
def Mach.slotAddr (m : Mach) (idx : Nat) : Nat := m.qre.cfg.base + idx % m.qre.cfg.slots * m.qre.cfg.slotSize

/-- Whether a slot's header shows a folio with its CRC-32C (R515, R586, R594). -/
def Mach.slotShows (m : Mach) (a : Nat) (qid : Word) (idx : Nat) : Bool :=
  let h := readBytes m.mem a 64
  crc32c (h.take 60) == w32 (slotNum h 60 4) && slotNum h 0 4 == qid.toNat && slotInfo h % 2 ^ 20 == idx % 2 ^ 20

/-- The record of a claimed folio on port p, with the condition of R586 that makes it a key, 0 for a delta. -/
def Mach.chooseRecord (m : Mach) (p : Nat) (idx : Nat) : List Byte × Nat :=
  let s := (m.portOf p).sender
  let slot := readBytes m.mem (m.slotAddr idx) m.qre.cfg.slotSize
  let key := keyRecord slot
  let delta := deltaRecord slot (readBytes m.mem (m.slotAddr s.key) m.qre.cfg.slotSize) s.key
  if !bitOf (m.pval 0xF80) 0 then (key, 1)
  else if s.qid != some m.qre.qid || !s.held then (key, 2)
  else if s.force then (key, 3)
  else if m.pnat 0xF81 ≤ s.deltas + 1 then (key, 4)
  else if !m.slotShows (m.slotAddr s.key) m.qre.qid s.key then (key, 5)
  else if key.length ≤ delta.length then (key, 6)
  else (delta, 0)

/-- The sender state and counters after a record's kind is decided (R586, R587). -/
def Mach.recordSent (m : Mach) (p idx cond : Nat) : Mach :=
  let m1 := m.modPort p fun q =>
    if cond = 0 then { q with sender := { q.sender with deltas := q.sender.deltas + 1 } }
    else { q with sender := { qid := some m.qre.qid, key := idx, held := true, deltas := 0, force := false } }
  { m1 with spn :=
    if cond = 0 then { m1.spn with deltas := m1.spn.deltas + 1 }
    else { m1.spn with keys := m1.spn.keys + 1, forced := if cond = 3 then m1.spn.forced + 1 else m1.spn.forced } }

/-! ### Receiver (R592 to R603) -/

/-- A packet with a body of n bytes accepted and acted on at port i (R562, R568). -/
def Port.accept (p : Port) (cls n : Nat) : Port :=
  { p with expect := p.expect + 1, discarding := false, sentAck := some (false, p.expect + 1), freed := p.freed.add cls (wordsOf n) }

/-- A packet accepted at port i of the engine. -/
def Mach.acceptPkt (m : Mach) (i cls n : Nat) : Mach := m.modPort i fun p => p.accept cls n

/-- A KEY_REQUEST for a quire sent on port i, under R601. -/
def Mach.askKey (m : Mach) (i : Nat) (qid : Word) : Mach :=
  let p := m.portOf i
  if p.asked.any fun a => a.1 == qid && decide (m.tim.beats < a.2 + 16) then m
  else
    (m.modPort i fun p => { p with asked := (qid, m.tim.beats) :: p.asked.filter (fun a => a.1 != qid), keyReqTx := p.keyReqTx + 1 }).sendPkt i
      (.keyRequest qid)

/-- A bad record at port i (R603). -/
def Mach.badRecord (m : Mach) (i : Nat) : Mach := m.modPort i fun p => { p with rxBad := p.rxBad + 1 }

/-- A key miss at port i (R600). -/
def Mach.keyMissed (m : Mach) (i : Nat) (qid : Word) (idx : Nat) : Mach :=
  let told := (m.portOf i).missed.contains qid
  let m1 := m.modPort i fun p => { p with missQid := qid, missIdx := idx, missed := if told then p.missed else qid :: p.missed }
  let m2 := { m1 with spn := { m1.spn with keyMiss := m1.spn.keyMiss + 1 } }
  let m3 := if told then m2 else m2.logEvent .data 0x0905 qid.toNat i
  m3.askKey i qid

/-- The keys of a quire in a window. -/
def keysOf (w : List WinQ) (qid : Word) : List WinKey :=
  match w.find? fun q => q.qid == qid with
  | some q => q.keys
  | none => []

/-- A window without the keys stored at a slot address (R598). -/
def evict (w : List WinQ) (a : Nat) : List WinQ := w.map fun q => { q with keys := q.keys.filter fun k => k.addr != a }

/-- A window in which a quire received a valid record now, `key` its new key if it is one (R597): most recent quire first,
up to eight; up to four keys each. -/
def received (w : List WinQ) (qid : Word) (key : Option WinKey) : List WinQ :=
  let keys := match key with
    | some k => (k :: keysOf w qid).take 4
    | none => keysOf w qid
  if key.isNone && !w.any (fun q => q.qid == qid) then w
  else ({ qid, keys } :: w.filter fun q => q.qid != qid).take 8

/-- Whether a record's length and S agree with its kind (check 1 of R594; ch. 18, Limits). -/
def recordShape (kind len size : Nat) : Bool :=
  size % 64 == 0 && decide (192 ≤ size) && len % 8 == 0 &&
  (if kind = 1 then len == 40 + size else decide (112 ≤ len) && decide (len ≤ 40 + size))

/-- A record that has ended as nothing: the packets that follow are only acknowledged. -/
def RxRec.dropped (r : RxRec) : RxRec := { r with checked := true, drop := true, buf := [] }

/-- The header of a record whose first 40 bytes have arrived checked (R594): the record goes on with its slot's header
invalidated (R595 step 1), or is dropped. -/
def Mach.checkRecord (m : Mach) (i : Nat) (r : RxRec) : Mach × RxRec :=
  let h := r.buf.take 40
  let kind := slotNum h 0 1
  let size := slotNum h 24 8
  let len := slotNum h 16 8
  let qid := w32 (slotNum h 4 4)
  let idx := slotNum h 8 4 % 2 ^ 20
  let keyIdx := slotNum h 12 4 % 2 ^ 20
  let addr := r.base + idx % max 1 r.slots * size
  if crc32c (h.take 36) != w32 (slotNum h 36 4) || slotNum h 1 1 != 1 || !(kind == 1 || kind == 2) || !recordShape kind len size then
    (m.badRecord i, r.dropped)
  else if !m.inDdr addr size then (m.badRecord i, r.dropped)
  else
    let m1 := m.modPort i fun p => { p with window := evict p.window addr }
    let zeros := List.replicate 60 (0 : Byte)
    let go (keyAt : Nat) : Mach × RxRec :=
      ((m1.poke addr (zeros ++ leBytes (crc32c zeros ^^^ 0xFFFFFFFF).toNat 4)).touchDdr addr 64,
       { r with checked := true, delta := kind == 2, qid, idx, len, size, addr, keyAt, buf := r.buf.drop 40 })
    if kind = 1 then go 0
    else
      match (keysOf (m1.portOf i).window qid).find? fun k => k.idx == keyIdx with
      | none => (m1.keyMissed i qid idx, r.dropped)
      | some k =>
        if k.size != size then (m1.badRecord i, r.dropped)
        else if !m1.slotShows k.addr qid keyIdx then (m1.keyMissed i qid idx, r.dropped)
        else go k.addr

/-- The bytes of a record's payload worked into its slot as they arrive (R595 step 2), at most `fuel` pieces. -/
def Mach.takePayload (m : Mach) : Nat → RxRec → Mach × RxRec
  | 0, r => (m, r)
  | fuel + 1, r =>
    let left := r.size - 64 - r.pos
    if r.drop || r.buf.isEmpty then (m, r)
    else if r.hdr.length < 64 then
      let n := min (64 - r.hdr.length) r.buf.length
      m.takePayload fuel { r with hdr := r.hdr ++ r.buf.take n, buf := r.buf.drop n }
    else if !r.delta then
      let n := min left r.buf.length
      if n = 0 then (m, { r with bad := true, buf := [] })
      else (m.poke (r.addr + 64 + r.pos) (r.buf.take n)).takePayload fuel { r with pos := r.pos + n, buf := r.buf.drop n }
    else
      let size := blockBytes r.hdr
      if left < size then
        (m.poke (r.addr + 64 + r.pos) (List.replicate left 0), { r with pos := r.pos + left, bad := r.bad || r.buf.any (· != 0), buf := [] })
      else
        let w := (r.buf.headD 0).toNat
        if 17 < w then (m, { r with bad := true, pos := r.size - 64, buf := [] })
        else if r.buf.length < 1 + 8 * w then (m, r)
        else
          let key := blockVals size (readBytes m.mem (r.keyAt + 64 + r.pos) size)
          let xs := List.zipWith (· + ·) key (decodeBlock w ((r.buf.drop 1).take (8 * w)))
          let bits := if size = 80 then 9 else 15
          let bad := xs.any fun x => decide (x < -(2 ^ bits)) || decide (2 ^ bits ≤ x)
          (m.poke (r.addr + 64 + r.pos) (blockData size xs)).takePayload fuel
            { r with pos := r.pos + size, buf := r.buf.drop (1 + 8 * w), bad := r.bad || bad }

/-- The record's last byte has come (R595 steps 3 and 4, R597, R602, R603): the check passes and the carried header is
written, or the record is bad. -/
def Mach.endRecord (m : Mach) (i : Nat) (r : RxRec) : Mach :=
  let m0 := m.modPort i fun p => { p with rxRec := none }
  if r.drop then m0
  else if !r.checked || r.count != r.len || r.hdr.length < 64 then m0.badRecord i
  else
    let left := r.size - 64 - r.pos
    let m1 := if r.delta then m0.poke (r.addr + 64 + r.pos) (List.replicate (min left 63) 0) else m0
    let whole := if r.delta then decide (left < blockBytes r.hdr) else left == 0
    let data := readBytes m1.mem (r.addr + 64) (r.size - 64)
    if r.bad || !whole || crc32c data != w32 (slotNum r.hdr 56 4) || crc32c (r.hdr.take 60) != w32 (slotNum r.hdr 60 4) then
      let m2 := m1.badRecord i
      if r.delta then m2.askKey i r.qid else m2
    else
      (m1.poke r.addr r.hdr).modPort i fun p =>
        { p with rxRecs := p.rxRecs + 1
                 window := received p.window r.qid (if r.delta then none else some { idx := r.idx, addr := r.addr, size := r.size })
                 asked := if r.delta then p.asked else p.asked.filter fun a => a.1 != r.qid }

/-- A record in progress at port i breaks off (R596). -/
def Mach.breakRecord (m : Mach) (i : Nat) : Mach :=
  match (m.portOf i).rxRec with
  | none => m
  | some r =>
    let m1 := m.modPort i fun p => { p with rxRec := none }
    if r.drop then m1 else m1.badRecord i

/-- FOLIO (R592 to R603): one FOLIO packet received on port i. -/
def Mach.folioPacket (m : Mach) (i : Nat) (tag : BitVec 16) (data : List Byte) (first last : Bool) : Mach :=
  if !m.portUp i then m
  else
    let m0 := m.acceptPkt i 0 data.length
    if !bitOf (m0.pval 0xF80) (4 + i) then (m0.breakRecord i).sendPkt i (.writeAck tag 2)
    else if !m0.ddrUp then (m0.breakRecord i).sendPkt i (.writeAck tag 3)
    else
      let m1 := m0.sendPkt i (.writeAck tag 0)
      let m2 := if first then
          (m1.breakRecord i).modPort i fun p => { p with rxRec := some {
            base := m1.pnat (0xF91 + 16 * i) % 2 ^ 16 * 2 ^ 32 + m1.pnat (0xF90 + 16 * i), slots := m1.pnat (0xF92 + 16 * i), count := 0 } }
        else m1
      match (m2.portOf i).rxRec with
      | none => m2
      | some r =>
        let r1 := { r with buf := r.buf ++ data, count := r.count + data.length }
        let (m3, r2) := if !r1.checked && decide (40 ≤ r1.buf.length) then m2.checkRecord i r1 else (m2, r1)
        let (m4, r3) := if r2.checked then m3.takePayload (data.length + 44) r2 else (m3, r2)
        if last then m4.endRecord i r3 else m4.modPort i fun p => { p with rxRec := some r3 }

/-- KEY_REQUEST (R590) received on port i. -/
def Mach.keyRequest (m : Mach) (i : Nat) (qid : Word) : Mach :=
  if !m.portUp i then m
  else
    let m0 := m.acceptPkt i 0 8
    if (m0.portOf i).sender.qid == some qid then
      let m1 := m0.modPort i fun p => { p with sender := { p.sender with force := true } }
      { m1 with spn := { m1.spn with keyReqOk := m1.spn.keyReqOk + 1 } }
    else { m0 with spn := { m0.spn with keyReqNo := m0.spn.keyReqNo + 1 } }

end Sys2Proof.Machine
end

