-- ==== Sys2Proof/Machine/Teller.lean ====
section
/-! DEFINITION. Machine/Teller.lean: teller channels: slips, moving, completion, aborts and errors (ch. 16). -/

namespace Sys2Proof.Machine

/-- Channel c. -/
def Mach.tel (m : Mach) (c : Nat) : Tel := vget m.tels.ch c

/-- Channel c changed. -/
def Mach.modTel (m : Mach) (c : Nat) (f : Tel → Tel) : Mach := { m with tels := { m.tels with ch := vmod m.tels.ch c f } }

/-! ### Slip fields (R501, R502) -/

/-- Slip kind: 0 COPY, 1 SLOTS, 2 RECORDS, 15 HOLD. -/
def Slip.kind (s : Slip) : Nat := fld s.ctl 0 4
/-- Destination: 0 host port, 1 DDR5, 2 east port, 3 west port. -/
def Slip.dest (s : Slip) : Nat := fld s.ctl 4 2
/-- Half-completion interrupt requested. -/
def Slip.halfIrq (s : Slip) : Bool := bitOf s.ctl 6
/-- Full-completion interrupt requested. -/
def Slip.fullIrq (s : Slip) : Bool := bitOf s.ctl 7
/-- The chain ends after this slip. -/
def Slip.last (s : Slip) : Bool := bitOf s.ctl 8
/-- The moved folios are released. -/
def Slip.release (s : Slip) : Bool := bitOf s.ctl 9
/-- The data CRC-32C is written. -/
def Slip.crcBit (s : Slip) : Bool := bitOf s.ctl 10
/-- The ring exponent r. -/
def Slip.ring (s : Slip) : Nat := fld s.ctl 16 6

/-- A slip from its 64 bytes. -/
def slipOf (b : List Byte) : Slip :=
  { ctl := w32 (slotNum b 0 4), count := slotNum b 4 4, src := slotNum b 8 6, dst := slotNum b 16 8, crcAt := slotNum b 24 8
    next := slotNum b 32 6, tag := w32 (slotNum b 40 4) }

/-- The destination address of byte k (ch. 16, Byte index and destination). -/
def Slip.addrOf (s : Slip) (k : Nat) : Nat :=
  if s.ring = 0 then s.dst + k else s.dst - s.dst % 2 ^ s.ring + (s.dst % 2 ^ s.ring + k) % 2 ^ s.ring

/-- Whether every destination address of bytes k to k + n - 1 lies inside fitted DDR5. -/
def Mach.destInDdr (m : Mach) (s : Slip) (k n : Nat) : Bool :=
  if s.ring = 0 then m.inDdr (s.dst + k) n
  else if s.dst % 2 ^ s.ring + k % 2 ^ s.ring + n ≤ 2 ^ s.ring then m.inDdr (s.addrOf k) n
  else m.inDdr (s.dst - s.dst % 2 ^ s.ring) (2 ^ s.ring)

/-- Check 5 of R506 and the address rule of R715. -/
def slipFieldsOk (s : Slip) (b : List Byte) : Bool :=
  let r := s.ring
  decide (s.kind ≤ 2) && fld s.ctl 11 5 == 0 && fld s.ctl 22 10 == 0 && slotNum b 14 2 == 0 && slotNum b 38 2 == 0
    && (s.kind == 0 || s.src == 0) && decide (1 ≤ s.count) && (s.kind == 0 || decide (s.count ≤ 1048576))
    && (r == 0 || (decide (12 ≤ r) && decide (r ≤ 40))) && (r == 0 || s.kind != 0 || decide (s.count ≤ 2 ^ r))
    && !(s.release && s.kind == 0) && !(s.kind == 2 && s.dest == 1) && s.crcAt % 4 == 0 && (s.last || s.next % 64 == 0)
    && (decide (s.dest < 2) || decide (s.dst < 2 ^ 48))

/-- Checks 4 to 8 of R506: the cause of the first that fails, 0 when none does. (DEDUCED, log 45) -/
def Mach.slipFault (m : Mach) (s : Slip) (b : List Byte) : Nat :=
  if crc32c (b.take 44) != w32 (slotNum b 44 4) then 1
  else if !slipFieldsOk s b then 2
  else if s.kind == 0 && !(m.inDdr s.src s.count || inLedger s.src s.count || inVault s.src s.count) then 3
  else if s.dest == 1 && !(m.destInDdr s 0 (if s.kind = 0 then s.count else 1) && m.inDdr s.crcAt 4) then 4
  else match portOfDest s.dest with
    | some p => if m.portUp p then 0 else 7
    | none => 0

/-! ### Interrupts and the end of a slip (R526 to R533) -/

/-- An interrupt (R530): 0 half, 1 full, 2 error, 3 abort posted; `alert` says that the raise of TELLER is still due. -/
def Mach.telIrq (m : Mach) (c k : Nat) (alert : Bool := true) : Mach :=
  let m1 := m.modTel c fun t => { t with irq := t.irq ||| (1 <<< k) }
  let opt := m1.pval (0xE04 + 16 * c)
  let m2 := if bitOf opt 0 then
      m1.sendEvent { source := 1, code := BitVec.ofNat 16 (256 * c + k), arg := (m1.tel c).slip.tag, beat := m1.beat }
    else m1
  if bitOf opt 1 && alert then m2.raise 5 (Config.tellerCode k).toNat else m2

/-- The channel halts with an ERROR (R532), with its log, counter and interrupt. -/
def Mach.telErrorEnd (m : Mach) (c cause : Nat) : Mach :=
  let m1 := m.modTel c fun t => { t with st := .halted, result := 4, cause := BitVec.ofNat 4 cause, errs := t.errs + 1, out := [], folio := [] }
  (m1.logEvent .data 0x0803 ((m.tel c).cur / 64) (c + 16 * cause) none (some 5)).telIrq c 2 false

/-- A record that channel c was sending no longer holds its port (R589). -/
def Mach.recFree (m : Mach) (c : Nat) : Mach :=
  { m with spn := { m.spn with port := vmap (fun q => if q.recBy = some c then { q with recBy := none } else q) m.spn.port } }

/-- A slip ends with ERROR and a cause (R532): it goes to POSTING when its status may be posted, else the channel halts. -/
def Mach.telFail (m : Mach) (c cause : Nat) : Mach :=
  let t := m.tel c
  let postable := m.inDdr t.cur 64 && (t.slipRead || decide (4 < cause))
  let m0 := m.recFree c
  if postable then
    m0.modTel c fun t => { t with st := .posting, endCode := 4, endCause := BitVec.ofNat 4 cause, out := [], folio := [], crcPend := false }
  else m0.telErrorEnd c cause

/-- The next write's tag of a channel: its index in [3:0], its count of writes above. -/
def Tel.nextTag (t : Tel) (c : Nat) : BitVec 16 := BitVec.ofNat 16 (c + 16 * (t.writes % 4096))

/-- A write of channel c issued: a packet on a Spine port, or handed to the memory controller (R509, R511). -/
def Mach.telIssue (m : Mach) (c addr : Nat) (bytes : List Byte) (folio : Option (Bool × Bool)) : Mach :=
  let t := m.tel c
  let tag := t.nextTag c
  let m1 := m.modTel c fun t => { t with writes := t.writes + 1, out := t.out ++ [{ tag, addr, bytes }] }
  match portOfDest t.slip.dest with
  | none => m1
  | some p =>
    match folio with
    | some (first, last) => m1.sendPkt p (.folio tag addr bytes first last)
    | none => m1.sendPkt p (.write tag addr bytes)

/-- A channel with every write acknowledged completes (R523, R524, R525, R531). -/
def Mach.telSettle (m : Mach) (c : Nat) : Mach :=
  let t := m.tel c
  if t.st != .draining || !t.out.isEmpty then m
  else if t.aborting then m.modTel c fun t => { t with st := .posting, endCode := 3, endCause := 0 }
  else
    let m1 := m.modTel c fun t => { t with st := .posting, endCode := if t.short then 2 else 1, endCause := 0, crcPend := t.slip.crcBit }
    if t.slip.crcBit then m1.telIssue c t.slip.crcAt (leBytes (t.crc ^^^ 0xFFFFFFFF).toNat 4) none else m1

/-- A SLOTS or RECORDS slip whose quire can give it no more folios drains as SHORT (R516). -/
def Mach.telShort (m : Mach) (c : Nat) : Mach :=
  let t := m.tel c
  if t.st == .moving && t.slip.kind != 0 && t.folio.isEmpty && decide (t.claims.length < t.slip.count) && t.bound.isSome
      && (t.short || t.bound != some m.qre.qid || (m.qre.st == .idle && decide (m.qre.headers ≤ m.qre.claimed))) then
    (m.modTel c fun t => { t with st := .draining, short := true }).telSettle c
  else m

/-- Every channel brought up to date with the quire (R516). -/
def Mach.telShorts (m : Mach) : Mach := (List.range 16).foldl (fun m c => (m.telShort c).telSettle c) m

/-! ### Fetch (R505 to R508) -/

/-- A slip that passed its checks, ready to move (R506, R519). -/
def Tel.begin (t : Tel) (s : Slip) (now : Nat) : Tel :=
  { t with st := .moving, slip := s, out := [], bytes := 0, acked := 0, crc := 0xFFFFFFFF, claims := [], bound := none, folio := []
           ends := [], doneFolios := 0, half := false, crcPend := false, short := false, credit := 163840, creditAt := now
           endCode := 1, endCause := 0, slipRead := true }

/-- The slip's bytes taken through checks 4 to 8 (R506). -/
def Mach.telAccept (m : Mach) (c : Nat) (b : List Byte) : Mach :=
  let s := slipOf b
  let m1 := m.modTel c fun t => t.begin s m.tim.mono
  let cause := m1.slipFault s b
  if cause = 0 then m1 else m1.telFail c cause

/-- The slip at the channel's address read and checked (R506); a HOLD slip waits. `bad` says that a word of it is
uncorrectable (R467). -/
def Mach.telRead (m : Mach) (c : Nat) (bad : Bool) : Mach :=
  let a := (m.tel c).cur
  let m0 := m.modTel c fun t => { t with slipRead := false, slip := {}, bytes := 0, acked := 0, crc := 0xFFFFFFFF, doneFolios := 0 }
  if !m.inDdr a 64 then m0.telFail c 3
  else
    let m1 := m0.touchDdr a 64
    if bad then (m1.storeEcc a).telFail c 5
    else
      let b := readBytes m.mem a 64
      if (slipOf b).kind = 15 then m1.modTel c fun t => { t with st := .waiting, slip := slipOf b, slipRead := true, out := [] }
      else m1.telAccept c b

/-- TELLER_GO and TELLER_ABORT (R505, R531), by the value written to `TEL.CTL_c`. -/
def Mach.telCtl (m : Mach) (c : Nat) (v : Word) : Mach :=
  let t := m.tel c
  match t.st with
  | .idle | .halted =>
    if bitOf v 0 then
      m.modTel c fun t => { t with st := .fetch, aborting := false, cur := m.pnat (0xE02 + 16 * c) * 2 ^ 32 + m.pnat (0xE01 + 16 * c) }
    else m
  | .posting => if bitOf v 1 then m.modTel c fun t => { t with aborting := true } else m
  | .fetch =>
    if bitOf v 1 then
      m.modTel c fun t => { t with st := if m.inDdr t.cur 64 then .posting else .halted, endCode := 3, endCause := 0, result := if m.inDdr t.cur 64 then t.result else 3
                                   cause := if m.inDdr t.cur 64 then t.cause else 0
                                   slip := {}, bytes := 0, acked := 0, crc := 0xFFFFFFFF, doneFolios := 0, out := [] }
    else m
  | _ =>
    if bitOf v 1 then ((m.recFree c).modTel c fun t => { t with st := .draining, aborting := true, folio := [] }).telSettle c else m

/-- SLIP_FETCH (R504, R506): a channel in FETCH reads its slip; it waits while DDR5 is unavailable (R517). -/
def Mach.slipFetch (m : Mach) (c : Nat) (bad : Bool) : Mach :=
  if (m.tel c).st == .fetch && m.ddrUp then m.telRead c bad else m

/-- HOLD_REREAD (R507): a channel that holds a HOLD slip reads it again. -/
def Mach.holdReread (m : Mach) (c : Nat) (bad : Bool) : Mach :=
  let t := m.tel c
  if t.st == .waiting && t.slip.kind == 15 && m.ddrUp then m.telRead c bad else m

/-- Every HOLD slip read again at a beat boundary; `bad` lists the channels whose read met an uncorrectable error. -/
def Mach.holdRereads (m : Mach) (bad : List (Fin 16)) : Mach :=
  (List.range 16).foldl (fun m c => m.holdReread c (bad.any fun b => b.val == c)) m

/-! ### Claims (R514, R515) -/

/-- Bytes of a folio's slot as a claim moves them, or its record. -/
def Mach.claimBytes (m : Mach) (s : Slip) (idx : Nat) : List Byte × Nat :=
  if s.kind = 1 then (readBytes m.mem (m.slotAddr idx) m.qre.cfg.slotSize, 0)
  else match portOfDest s.dest with
    | some p => m.chooseRecord p idx
    | none => ([], 0)

/-- FOLIO_CLAIM (R514, R515, R586): a SLOTS or RECORDS slip that is ready to move its next folio claims the oldest one.
(DEDUCED, log 45) -/
def Mach.folioClaim (m : Mach) (c : Nat) : Mach :=
  let t := m.tel c
  if !(t.st == .moving && t.slip.kind != 0 && t.folio.isEmpty && decide (t.claims.length < t.slip.count) && !t.short && m.ddrUp
      && decide (m.qre.claimed < m.qre.headers) && (t.bound.isNone || t.bound == some m.qre.qid)) then m
  else
    let idx := m.qre.claimed
    let (bytes, cond) := m.claimBytes t.slip idx
    let m1 := (({ m with qre := { m.qre with claimed := idx + 1 } } : Mach).touchDdr (m.slotAddr idx) m.qre.cfg.slotSize).modTel c fun t =>
      { t with claims := t.claims ++ [idx], bound := some m.qre.qid }
    if !m.slotShows (m.slotAddr idx) m.qre.qid idx then m1.telFail c 6
    else if t.slip.dest == 1 && !m.destInDdr t.slip t.bytes bytes.length then m1.telFail c 4
    else
      let m2 := m1.modTel c fun t => { t with folio := bytes, ends := t.ends ++ [t.bytes + bytes.length] }
      if t.slip.kind = 2 then m2.recordSent ((portOfDest t.slip.dest).getD 0) idx cond else m2

/-! ### Moving (R509 to R513, R517 to R522) -/

/-- The reference rate of R519 in tenths of a byte per ns, by destination. -/
def Mach.refRate (m : Mach) (dest : Nat) : Nat :=
  if dest = 0 then 250 else if dest = 1 then [768, 832, 896, 960, 1024].getD m.store.speed 768 else 125

/-- A credit after the time since instant `was`, in 1/640 byte, capped at 4,096 bytes (R519). -/
def creditNow (credit was now share rate : Nat) : Nat := min (4096 * 640) (credit + (now - was) * share * rate / 2 ^ 39)

/-- Whether a channel's source is DDR5. -/
def Mach.readsDdr (m : Mach) (s : Slip) : Bool := s.kind != 0 || m.inDdr s.src s.count

/-- The bytes and destination address of a channel's next write, none when it has nothing to issue (R509). -/
def Tel.nextWrite (t : Tel) : Option (Nat × Nat) :=
  let left := if t.slip.kind = 0 then t.slip.count - t.bytes else t.folio.length
  let a := t.slip.addrOf t.bytes
  if t.st != .moving || left = 0 then none else some (a, min left (256 - a % 256))

/-- The shared stage-2 credits brought to this instant (R521). -/
def Mach.sharedNow (m : Mach) : Vector Nat 4 :=
  Vector.ofFn fun d => creditNow (vget m.tels.shared d) m.tels.sharedAt m.tim.mono 8 (m.refRate d.val)

/-- What a write of n bytes takes from the shared credit of destination d: DDR5 counts reads and writes (R521). -/
def Mach.sharedCost (m : Mach) (s : Slip) (d n : Nat) : Nat :=
  (if d = s.dest then n else 0) + (if d = 1 && m.readsDdr s then n else 0)

/-- Whether credits, gates and limits let channel c issue its next write; on a Volume port that is not joined the engine sends none
(R710, R715). -/
def Mach.telCan (m : Mach) (c : Nat) : Bool :=
  let t := m.tel c
  let pace := m.pval (0xE03 + 16 * c)
  match t.nextWrite with
  | none => false
  | some (_, n) =>
    decide (t.out.length < 32) && (m.ddrUp || !(m.readsDdr t.slip || t.slip.dest == 1)) && (!bitOf pace 1 || m.qre.hiFill)
      && (!bitOf pace 0 || decide (640 * n ≤ creditNow t.credit t.creditAt m.tim.mono (fld pace 8 7) (m.refRate t.slip.dest)))
      && (!m.stageOn 2 || (List.range 4).all fun d => decide (640 * m.sharedCost t.slip d n ≤ vget m.sharedNow d))
      && (match portOfDest t.slip.dest with
          | none => true
          | some p =>
            let q := m.portOf p
            m.portUp p && (p == 0 || m.joined p) && !q.txq.any (fun k => k.cls == 0) && decide (wordsOf n ≤ q.avail.p)
              && (t.slip.kind != 2 || q.recBy.isNone || q.recBy == some c))

/-- The channel that R513 serves next: the first that can issue a write, from the channel after the one served last. -/
def Mach.telNext (m : Mach) : Option Nat :=
  ((List.range 16).map fun i => (m.tels.last + 1 + i) % 16).find? m.telCan

/-- Credits taken by a write of n bytes (R519, R521). -/
def Mach.telCharge (m : Mach) (c n : Nat) : Mach :=
  let t := m.tel c
  let pace := m.pval (0xE03 + 16 * c)
  let m1 := m.modTel c fun t => if bitOf pace 0 then
      { t with credit := creditNow t.credit t.creditAt m.tim.mono (fld pace 8 7) (m.refRate t.slip.dest) - 640 * n, creditAt := m.tim.mono }
    else t
  if m.stageOn 2 then
    { m1 with tels := { m1.tels with
      shared := Vector.ofFn fun d => vget m.sharedNow d - 640 * m.sharedCost t.slip d n, sharedAt := m.tim.mono } }
  else m1

/-- After a write is issued: the header read again behind a folio's last byte (R515), and the drain once all is issued. -/
def Mach.telIssued (m : Mach) (c : Nat) : Mach :=
  let t := m.tel c
  if t.slip.kind = 0 then
    if t.bytes = t.slip.count then (m.modTel c fun t => { t with st := .draining }).telSettle c else m
  else if t.folio.isEmpty then
    let idx := t.claims.getLastD 0
    if t.bound != some m.qre.qid || !m.slotShows (m.slotAddr idx) m.qre.qid idx then m.telFail c 6
    else if t.claims.length = t.slip.count || t.short then (m.modTel c fun t => { t with st := .draining }).telSettle c
    else m.telShort c
  else m

/-- An uncorrectable word met where a channel reads its source: in DDR5 (R467) or in Ledger SRAM (R499). -/
def Mach.sourceEcc (m : Mach) (t : Tel) : Mach :=
  if t.slip.kind != 0 then
    m.storeEcc (m.slotAddr (t.claims.getLastD 0) + if t.slip.kind = 1 then t.bytes - t.ends.dropLast.getLastD 0 else 0)
  else if m.readsDdr t.slip then m.storeEcc (t.slip.src + t.bytes)
  else if inLedger t.slip.src t.slip.count then m.ldgEcc (some (t.slip.src + t.bytes - ledgerBase))
  else m

/-- TELLER_WRITE_ISSUE (R509, R513): the next channel in turn that can issues one write. `bad` says that a source word is
uncorrectable (R467), cause 5. -/
def Mach.tellerWrite (m : Mach) (bad : Bool) : Mach :=
  match m.telNext with
  | none => m
  | some c =>
    let t := m.tel c
    match t.nextWrite with
    | none => m
    | some (a, n) =>
      let m0 := { m with tels := { m.tels with last := c } }
      let m0 := if m.readsDdr t.slip then m0.touchDdr (t.slip.src + t.bytes) n else m0
      if bad then (m0.sourceEcc t).telFail c 5
      else
        let bytes := if t.slip.kind = 0 then readBytes m.mem (t.slip.src + t.bytes) n else t.folio.take n
        let first := t.bytes == (t.ends.dropLast.getLastD 0)
        let last := decide (t.folio.length ≤ n)
        let rec? := if t.slip.kind = 2 then some (first, last) else none
        let m1 := (m0.telCharge c n).telIssue c a bytes rec?
        let m2 := m1.modTel c fun t => { t with bytes := t.bytes + n, folio := t.folio.drop n }
        let m3 := match rec?, portOfDest t.slip.dest with
          | some _, some p => m2.modPort p fun q => { q with recBy := if last then none else some c }
          | _, _ => m2
        m3.telIssued c

/-! ### Acknowledgments (R511, R523, R529) -/

/-- Acknowledged writes at the front of the list counted and taken into the data CRC. -/
def Tel.popAcked : Nat → Tel → Tel
  | 0, t => t
  | fuel + 1, t =>
    match t.out with
    | w :: rest =>
      if w.acked then
        ({ t with out := rest, acked := t.acked + w.bytes.length, crc := crc32Run t.crc w.bytes } : Tel).popAcked fuel
      else t
    | [] => t

/-- Folios all of whose bytes are acknowledged. -/
def Tel.countFolios (t : Tel) : Tel := { t with doneFolios := t.ends.countP fun e => decide (e ≤ t.acked) }

/-- Whether the half point is reached (R529). -/
def Tel.atHalf (t : Tel) : Bool :=
  if t.slip.kind = 0 then decide ((t.slip.count + 1) / 2 ≤ t.acked) else decide ((t.slip.count + 1) / 2 ≤ t.doneFolios)

/-- The outstanding writes with the one of a tag acknowledged. -/
def ackWrite (tag : BitVec 16) (l : List TelWrite) : List TelWrite :=
  l.map fun x => if x.tag = tag then { x with acked := true } else x

/-- One outstanding write of channel c, by its tag, acknowledged. (DEDUCED, log 46) -/
def Mach.telAck (m : Mach) (c : Nat) (tag : BitVec 16) (bad : Bool) : Mach :=
  let t := m.tel c
  match t.out.find? fun w => w.tag == tag && !w.acked with
  | none => m
  | some w =>
    if bad then m.telFail c 8
    else if t.crcPend then m.modTel c fun t => { t with out := [], crcPend := false }
    else
      let m1 := m.modTel c fun t =>
        let t1 := { t with out := ackWrite tag t.out
                           total := t.total + BitVec.ofNat 64 w.bytes.length }
        (t1.popAcked (t1.out.length)).countFolios
      let t1 := m1.tel c
      let m2 := if t1.atHalf && !t1.half then
          let m2 := m1.modTel c fun t => { t with half := true }
          if t1.slip.halfIrq then m2.telIrq c 0 else m2
        else m1
      m2.telSettle c

/-- WRITE_ACK on port i (R511, R557): the packet names the write by its tag. -/
def Mach.ackPacket (m : Mach) (i : Nat) (tag : BitVec 16) (status : BitVec 3) : Mach :=
  if !m.portUp i then m
  else
    let c := tag.toNat % 16
    let m1 := m.acceptPkt i 2 0
    if portOfDest (m1.tel c).slip.dest = some i then m1.telAck c tag (status != 0) else m1

/-- WRITE_ACK by the memory controller (R511): the oldest outstanding write of channel c to DDR5 is stored. -/
def Mach.ackStore (m : Mach) (c : Nat) : Mach :=
  let t := m.tel c
  if t.slip.dest != 1 || !m.ddrUp then m
  else match t.out.find? fun w => !w.acked with
    | none => m
    | some w => ((m.poke w.addr w.bytes).touchDdr w.addr w.bytes.length).telAck c w.tag false

/-- A beat waited by every write outstanding, but not while DDR5 is unavailable to the channel (R512, R517). -/
def Mach.telAge (m : Mach) : Mach :=
  { m with tels := { m.tels with ch := vmap (fun t =>
    if !m.ddrUp && (m.readsDdr t.slip || t.slip.dest == 1) then t
    else { t with out := t.out.map fun w => { w with age := w.age + 1 } }) m.tels.ch } }

/-- TELLER_TIMEOUT (R512, R531): a write of channel c has waited `TEL.TIMEOUT_c` beats. -/
def Mach.telTimeout (m : Mach) (c : Nat) : Mach :=
  let t := m.tel c
  if t.out.any fun w => !w.acked && decide (m.pnat (0xE05 + 16 * c) ≤ w.age) then
    if t.aborting && t.st == .draining then m.modTel c fun t => { t with st := .posting, endCode := 3, endCause := 0, out := [] }
    else m.telFail c 9
  else m

/-- Every channel's timeout at a beat boundary. -/
def Mach.telTimeouts (m : Mach) : Mach := (List.range 16).foldl (fun m c => m.telTimeout c) m

/-! ### Posting (R525 to R528, R531, R532) -/

/-- The 16 status bytes of a slip (R501, R526). -/
def Tel.status (t : Tel) (c : Nat) : List Byte :=
  leBytes (t.endCode.toNat + 16 * t.endCause.toNat + 4096 * c) 4 ++ leBytes (if t.slip.kind = 0 then 0 else t.doneFolios) 4
    ++ leBytes (t.crc ^^^ 0xFFFFFFFF).toNat 4 ++ leBytes t.acked 4

/-- A slip's folios marked releasable, and the released count advanced (R527). -/
def Mach.telRelease (m : Mach) (t : Tel) : Mach :=
  if t.slip.release && t.bound == some m.qre.qid then
    let fresh := t.claims.filter fun i => decide (m.qre.released ≤ i)
    ({ m with qre := { m.qre with releasable := m.qre.releasable ++ fresh } } : Mach).releaseTo m.qre.released
  else m

/-- SLIP_POSTED (R525 to R527, R530 to R532): the status write is stored. -/
def Mach.slipPosted (m : Mach) (c : Nat) : Mach :=
  let t := m.tel c
  if t.st != .posting || t.crcPend || !m.ddrUp then m
  else
    let m1 := (m.poke (t.cur + 48) (t.status c)).touchDdr (t.cur + 48) 16
    let m2 := m1.modTel c fun t => { t with result := t.endCode, cause := t.endCause, tag := t.slip.tag }
    if t.endCode = 4 then m2.telErrorEnd c t.endCause.toNat
    else if t.endCode = 3 then (m2.modTel c fun t => { t with st := .halted }).telIrq c 3
    else
      let m3 := (m2.modTel c fun t => { t with done := t.done + 1 }).telRelease t
      let m4 := if t.slip.fullIrq then m3.telIrq c 1 else m3
      m4.modTel c fun t =>
        if t.aborting then { t with st := .halted }
        else if t.slip.last then { t with st := .idle }
        else { t with st := .fetch, cur := t.slip.next }

/-! ### Shedding and link-down (R533, R534) -/

/-- Slips to port p end with cause 7 (R533). -/
def Mach.telPortDown (m : Mach) (p : Nat) : Mach :=
  (List.range 16).foldl (fun m c =>
    let t := m.tel c
    let live := t.st == .moving || t.st == .draining || (t.st == .posting && t.crcPend)
    if live && portOfDest t.slip.dest == some p then m.telFail c 7 else m) m

/-- Stage 6 abandons every channel (R534). -/
def Mach.telAbandon (m : Mach) : Mach :=
  { m with tels := { m.tels with ch := vmap (fun t =>
    if t.st == .idle || t.st == .halted then { t with st := .idle }
    else { t with st := .idle, result := 3, cause := 10, out := [], folio := [], crcPend := false }) m.tels.ch } }

/-- The state that `TEL.STAT_c` reports (ch. 16, Channels): WAITING covers a closed FILL gate, a folio to claim and DDR5
training. -/
def Mach.telShown (m : Mach) (c : Nat) : Nat :=
  let t := m.tel c
  match t.st with
  | .idle => 0
  | .fetch => 1
  | .waiting => 2
  | .moving =>
    if (bitOf (m.pval (0xE03 + 16 * c)) 1 && !m.qre.hiFill) || (t.slip.kind != 0 && t.folio.isEmpty)
      || (!m.ddrUp && (m.readsDdr t.slip || t.slip.dest == 1)) then 2 else 3
  | .draining => 4
  | .posting => 5
  | .halted => 6

end Sys2Proof.Machine
end

