-- ==== Sys2Proof/Machine/Volume.lean ====
section
/-! DEFINITION. Machine/Volume.lean: Volumes of several engines: join, offsets, alignment, digest, arming, triggers and
stops (ch. 22). -/

namespace Sys2Proof.Machine

/-- The Volume record changed. -/
def Mach.modVol (m : Mach) (f : Vol → Vol) : Mach := { m with vol := f m.vol }

/-! ### Readings of a signed quantity -/

/-- A signed value saturated to n bits, in two's complement. -/
def satInt (z : Int) (n : Nat) : Nat := ofInt (clampZ (-(2 ^ (n - 1))) (2 ^ (n - 1) - 1) z) n

/-- The mean of a list, rounded as R278; 0 of an empty one. -/
def meanOf (l : List Int) : Int := if l.isEmpty then 0 else roundDiv l.sum l.length

/-- Whether a magnitude in 2^-48 s exceeds p ps times n. -/
def exceedsPs (z : Int) (p n : Nat) : Bool := decide (p * n * 2 ^ 48 < z.natAbs * 10 ^ 12)

/-! ### Digest (R726, R727) -/

/-- The tap range address a as its value in use reads (R427). -/
def Mach.tapUse (m : Mach) (a : Nat) : Word :=
  let (s, t) := tapOf a
  if setLen s ≤ t then 0
  else
    let u := if t ≤ (setLen s - 1) / 2 then t else setLen s - 1 - t
    (m.dec.use.lookup (0x2000 + 384 * s + u)).getD (factoryTap s u)

/-- The addresses of R726 and their values in use. -/
def Mach.digestList (m : Mach) : List (Nat × Word) :=
  [0x0401, 0x0404, 0x0840, 0x0880, 0x0B00, 0x0B01, 0x0C04, 0x0C05, 0x0C06, 0x0C0A].map (fun a => (a, m.use a))
    ++ (List.range 1536).map (fun i => (0x2000 + i, m.tapUse (0x2000 + i)))
    ++ [0x2900, 0x2902, 0x2903].map fun a => (a, m.use a)

/-- The digest (R726). -/
def Mach.digestNow (m : Mach) : Word := crc32c (m.digestList.flatMap fun e => leBytes e.1 2 ++ leBytes e.2.toNat 4)

/-- A message to the principal. -/
def Mach.toPrincipal (m : Mach) (op f2 f4 : Nat) : Mach := if m.vol.east then m.sendVol 1 0 false op f2 f4 else m

/-- A DIGEST sent to the principal by a joined member (R711, R727). -/
def Mach.sendDigest (m : Mach) : Mach := if m.isMember then m.toPrincipal 0x43 0 m.vol.digest.toNat else m

/-! ### ADRIFT (R722) -/

/-- The ADRIFT condition that holds on a member, 1 to 5 in the order of R722, 0 when none does. -/
def Mach.adriftCond (m : Mach) : Nat :=
  let last := m.vol.ests.take 16
  if !m.isMember then 0
  else if !m.vol.everAligned then 1
  else if exceedsPs last.sum 1000 last.length then 2
  else if m.vol.markBad then 3
  else if m.vol.lastExch + 256 ≤ m.tim.beats then 4
  else if m.tim.holding then 5
  else 0

/-- The ADRIFT condition brought up to date, logged and counted at its onset. -/
def Mach.volAdrift (m : Mach) : Mach :=
  let c := m.adriftCond
  if c = 0 then m.noteNow.modVol fun v => { v with adrift := false }
  else if m.vol.adrift then m
  else
    (m.modVol fun v => { v with adrift := true, aligned := false, adrifts := v.adrifts + 1 }).note 0x10 |>.logEvent .management 0x0D06 c 0

/-! ### States (R711) -/

/-- A change of Volume state, logged. -/
def Mach.volGo (m : Mach) (st : VolSt) : Mach :=
  if m.vol.st = st then m
  else (m.modVol fun v => { v with st }).logEvent .management 0x0D03
    (match st with | .off => 0 | .forming => 1 | .formed => 2 | .broken => 3) 0

/-- Whether the conditions for FORMED hold. -/
def Mach.volReady (m : Mach) : Bool :=
  m.vol.east && m.vol.west &&
    (m.volPos != 0 || (List.range 8).all fun p => p == 0 || decide (m.volSize ≤ p) || m.vol.present.getLsbD p)

/-- One step of the Volume's states. -/
def Mach.volStep (m : Mach) : Mach :=
  if !m.volOn then m.volGo .off
  else match m.vol.st with
    | .off => m.volGo .forming
    | .forming => if m.volReady then (m.volGo .formed).sendDigest else m
    | .formed => if m.vol.east && m.vol.west then m else m.volGo .broken
    | .broken => if m.portUp 1 && m.portUp 2 then m.volGo .forming else m

/-- The Volume state brought up to date. -/
def Mach.volState (m : Mach) : Mach := m.volStep.volStep.volAdrift

/-- A port joined (R709): what is counted since joining starts again. -/
def Mach.volJoin (m : Mach) (i : Nat) : Mach :=
  let m1 := m.modVol fun v =>
    if i = 1 then { v with east := true, sentAt := none, echo := none, turn := none }
    else { v with west := true, exch := 0, ests := [], got := none, lastExch := m.tim.beats, everAligned := false, aligned := false, offset := 0 }
  let m2 := if m1.volPos = 0 then m1.modVol fun v => { v with present := 0, posn := Vector.replicate 8 {} } else m1
  m2.volState

/-- A joined Volume port lost its join or left UP (R711, R741): during a Volume quire the quire stops and the others are
told at once. -/
def Mach.volLeave (m : Mach) (i : Nat) : Mach :=
  if !m.joined i then m.volState
  else
    let m1 := m.modVol fun v => if i = 1 then { v with east := false } else { v with west := false }
    let m2 := if m1.running && m1.qre.cfg.volume then m1.volumeStop.bcast 0x49 1 0 else m1
    m2.volState

/-- The positions east and west of this engine (ch. 22, Ring and positions). -/
def Mach.neighbour (m : Mach) (i : Nat) : Nat :=
  let n := max 1 m.volSize
  if i = 1 then (m.volPos + 1) % n else (m.volPos + n - 1) % n

/-- A port that fails its join check (R709, R710), logged once for each time it enters UP. -/
def Mach.joinFail (m : Mach) (i code a : Nat) : Mach :=
  if (m.portOf i).joinTold then m
  else (m.modPort i fun p => { p with joinTold := true }).logEvent .management code a i none (some 8)

/-- Checks 1 and 2 of R709, on the partner's HELLO: whether they pass. -/
def Mach.helloJoins (m : Mach) (i : Nat) : Bool :=
  let p := m.portOf i
  p.part == 0x4810 && p.build == 1 && p.role.toNat == 3 - i

/-- A Volume port has entered UP (R709): JOIN is sent, and checks 1 and 2 are taken. -/
def Mach.volPortUp (m : Mach) (i : Nat) : Mach :=
  let m1 := m.sendPkt i (.ctrl false (volBody m.volPos (m.neighbour i) false 0x40 (m.volPos + 256 * m.volSize) 0))
  let p := m1.portOf i
  if p.part != 0x4810 || p.build != 1 then m1.joinFail i 0x0D01 (p.part.toNat + 65536 * p.build.toNat)
  else if p.role.toNat != 3 - i then m1.joinFail i 0x0D02 p.pos.toNat
  else m1.volState

/-- JOIN (R709) on port i: check 3 of the partner's size and position. -/
def Mach.joinMsg (m : Mach) (i pos size : Nat) : Mach :=
  if !m.portUp i || i = 0 then m
  else
    let m1 := m.acceptPkt i 1 8
    if !m1.helloJoins i || !m1.volOn then m1
    else if size = m.volSize && pos = m.neighbour i then m1.volJoin i
    else (m1.joinFail i 0x0D02 pos).volLeave i

/-! ### Messages (R713, R714) -/

/-- A message that travels east: acted on where it is addressed or broadcast, and forwarded where its origin and target
are other positions; a broadcast ends at its origin. A port that is not joined carries nothing (R710). -/
def Mach.volMsg (m : Mach) (v : VMsg) (op f2 f4 : Nat) (act : Mach → Mach) : Mach :=
  if !m.portUp v.port || v.port = 0 then m
  else
    let m0 := m.acceptPkt v.port 1 8
    if !m0.joined v.port || v.origin.val = m0.volPos then m0
    else
      let mine := v.bcast || v.target.val == m0.volPos
      let m1 := if mine then act m0 else m0
      if (v.bcast || v.target.val != m0.volPos) && m1.vol.east then
        m1.sendPkt 1 (.ctrl false (volBody v.origin.val v.target.val v.bcast op f2 f4))
      else m1

/-- UNKNOWN_VOLUME_MESSAGE (R714). -/
def Mach.unknownMsg (m : Mach) (v : VMsg) : Mach :=
  if !m.portUp v.port || v.port = 0 then m
  else
    let m0 := m.acceptPkt v.port 1 8
    if m0.joined v.port then m0.modVol fun v => { v with badMsg := v.badMsg + 1 } else m0

/-! ### SYNC exchanges (R716 to R718) -/

/-- This engine's own offset from the principal, 2^-48 s. -/
def Mach.theta (m : Mach) : Int := if m.volPos = 0 then 0 else m.vol.offset

/-- Whether ring calibration's window covers a Volume beat (R725). -/
def Vol.ringAt (v : Vol) (n : Int) : Bool :=
  match v.rcal with
  | some s => decide ((s : Int) ≤ n) && decide (n < s + 4096)
  | none => false

/-- The SYNC due at this beat boundary is sent on a joined east port (R716, R725). Before a member's first alignment its offset is 0,
and the Volume beat its own beat count. -/
def Mach.syncSend (m : Mach) : Mach :=
  let n := m.volBeat
  if m.vol.east && (n % 16 == 0 || m.vol.ringAt n) then
    m.modVol fun v => { v with sentAt := some (n.toNat, (m.tim.stampOf m.tim.boundary).toNat), echo := none, turn := none }
  else m

/-- An exchange whose echo and VTURN have both arrived (R717): d is computed, and VHOP sent. (PRESUMED, log 70) -/
def Mach.hopDone (m : Mach) : Mach :=
  match m.vol.sentAt, m.vol.echo, m.vol.turn with
  | some (n, t), some (n1, t1, t4), some (n2, turn) =>
    if n % 65536 = n1 % 65536 ∧ n % 65536 = n2 then
      let d := ((t4 - t1) - turn).fdiv 2
      (m.modVol fun v => { v with hopDly := BitVec.ofInt 32 d, echo := none, turn := none }).sendVol 1 (m.neighbour 1) false 0x42
        (satInt (m.theta.fdiv 64) 16) (ofInt (t1 - t + d) 32)
    else m
  | _, _, _ => m

/-- SYNC (R717): on the west port a SYNC with echo 0 is timestamped, `seen` its detection (t2) and `sent` the leaving of
the echo (t3), and answered with VTURN; on the east port an echo is taken with t1 = `sent` and t4 = `seen`. Instants are in
2^-48 s. Every other SYNC is dropped. -/
def Mach.syncFlit (m : Mach) (i : Nat) (echo : Bool) (count time : Nat) (sent seen : Int) : Mach :=
  if !m.portUp i || !m.joined i then m
  else if i = 2 && !echo then
    (m.modVol fun v => { v with got := some (count, time, seen) }).sendVol 2 (m.neighbour 2) false 0x41 (count % 65536) (ofInt (sent - seen) 32)
  else if i = 1 && echo then (m.modVol fun v => { v with echo := some (count, sent, seen) }).hopDone
  else m

/-- VTURN (R717) on the east port: the count it answers and t3 - t2. -/
def Mach.vturn (m : Mach) (i count turn : Nat) : Mach :=
  if !m.portUp i || i = 0 then m
  else
    let m0 := m.acceptPkt i 1 8
    if i = 1 && m0.joined 1 then (m0.modVol fun v => { v with turn := some (count, turn) }).hopDone else m0

/-- VHOP (R718) on the west port: the sender's offset in 2^-42 s and x + d. It ends an exchange on the west hop.
(DEDUCED, log 67) (PRESUMED, log 70) -/
def Mach.vhop (m : Mach) (i : Nat) (thetaW : Int) (xd : Nat) : Mach :=
  if !m.portUp i || i = 0 then m
  else
    let m0 := m.acceptPkt i 1 8
    match m0.vol.got with
    | none => m0
    | some (n, t, t2) =>
      if i = 2 && m0.joined 2 then
        let th := t2 - (t + xd) + thetaW * 64
        (m0.modVol fun v =>
          let ests := (th :: v.ests).take 256
          { v with ests := if m0.volPos = 0 then v.ests else ests, offset := if m0.volPos = 0 then 0 else meanOf ests
                   ring := if v.ringAt n then (th :: v.ring).take 4096 else v.ring
                   exch := min 256 (v.exch + 1), lastExch := m0.tim.beats, got := none, hopUp := some (n, t - thetaW * 64) }).volAdrift
      else m0

/-! ### Alignment (R719 to R721) -/

/-- Step 1 of R720 at this beat boundary, with an offset in 2^-48 s: u and c are fixed. (DEDUCED, log 67) (DESIGN CHOICE, log 68) -/
def Mach.alignStart (m : Mach) (theta : Int) (ring : Bool) : Mach :=
  match m.vol.hopUp with
  | none => m
  | some (_, base) =>
    let u := (m.tim.boundary : Int) + m.tim.off - theta * uStamp
    let delta := (base * uStamp - u) % ((1024 * uNs : Nat) : Int)
    let c := (roundDiv delta uNs).toNat % 1024
    m.modVol fun v => { v with align := some { k := m.tim.beats, u, c, theta, ring } }

/-- VOLUME_ALIGN (R719): a member aligns at the first beat boundary at which the conditions hold. Its west neighbour is
the principal, or aligned when it counts Volume beats in its SYNC. -/
def Mach.volumeAlign (m : Mach) (neighbour : Bool) : Mach :=
  if m.isMember && m.vol.st == .formed && (m.vol.adrift || !m.vol.everAligned) && m.vol.align.isNone && decide (256 ≤ m.vol.exch)
      && (m.volPos == 1 || neighbour) && !m.running && !m.tim.holding && m.tim.clk == 0 then m.alignStart m.vol.offset false
  else m

/-- The end of step 2 and step 3 of R720 at the boundaries that follow: at k + 1 time, the Volume beat and TIMEVALID are set; at k + 2 the
slice clocks restart. (DESIGN CHOICE, log 68) -/
def Mach.alignBeat (m : Mach) : Mach :=
  match m.vol.align with
  | none => m
  | some a =>
    if m.tim.beats = a.k + 1 then
      let t := a.u + ((1024 + a.c) * uNs : Nat)
      let (n, base) := m.vol.hopUp.getD (0, 0)
      let beat : Int := n + roundDiv (t - base * uStamp) (1024 * uNs)
      { m with
        tim := { m.tim with off := t - m.tim.mono, timeValid := true }
        vol := { m.vol with align := some { a with set := true }, beatOfs := beat - m.beat
                            ests := m.vol.ests.map (· - a.theta), offset := m.vol.offset - a.theta } }
    else if m.tim.beats = a.k + 2 then
      if m.tim.core.active || m.tim.synth.active || !m.tim.synthLock || !m.domUp 3 || m.fe.gating then m else m.restartSlices
    else m

/-- VSYNC_MARK (R720 step 4, R722, R725): a mark arrives `diff` ps after this engine's boundary of its Volume beat. (DEDUCED, log 69) -/
def Mach.vsyncMark (m : Mach) (diff : Int) : Mach :=
  if !m.isMember then m
  else
    let bad (m : Mach) : Bool := decide (1000 < (diff - (fld (m.pval 0x2904) 0 16 : Nat)).natAbs)
    match m.vol.align with
    | some a =>
      if !a.set then m
      else
        let m0 := if a.ring then (m.pset 0x2904 (BitVec.ofNat 32 (ofInt diff 16))).modVol fun v => { v with ringDone := true } else m
        let b := bad m0
        let off := diff - (fld (m0.pval 0x2904) 0 16 : Nat)
        let m1 := m0.modVol fun v => { v with align := none, markBad := b, aligned := !b, everAligned := v.everAligned || !b, aligns := if b then v.aligns else v.aligns + 1 }
        let m2 := if b then m1.logEvent .management 0x0D05 (satInt off 32) 0 none (some 8)
          else m1.logEvent .management 0x0D04 (satInt a.theta 32) a.c
        m2.volAdrift
    | none =>
      if m.vol.everAligned then (m.modVol fun v => { v with markBad := bad m }).volAdrift else m

/-! ### Ring calibration (R724, R725) -/

/-- The Volume beat nearest this one with given low 32 bits. -/
def Mach.nearBeat (m : Mach) (lo : Word) : Int := m.volBeat + (lo - BitVec.ofInt 32 m.volBeat).toInt

/-- VOL_RINGCAL (R724): 1 landed on a FORMED principal with no quire running. -/
def Mach.ringCal (m : Mach) (v : Word) : Mach :=
  if bitOf v 0 && m.isPrincipal && m.vol.st == .formed && !m.running then
    let s := m.volBeat + 64
    (m.bcast 0x4A 0 (ofInt s 32)).modVol fun x => { x with rcal := some s.toNat, ring := [] }
  else m

/-- RCAL (R725) received. -/
def Mach.rcalMsg (m : Mach) (v : VMsg) (s : Word) : Mach :=
  m.volMsg v 0x4A 0 s.toNat fun m => m.modVol fun x => { x with rcal := some (m.nearBeat s).toNat, ring := [] }

/-- RING_CAL_ALIGN (R725): at Volume beat S + 4,096. (DESIGN CHOICE, log 73) -/
def Mach.ringCalAlign (m : Mach) : Mach :=
  match m.vol.rcal with
  | none => m
  | some s =>
    if m.volBeat < s + 4096 then m
    else
      let mean := meanOf m.vol.ring
      let m1 := m.modVol fun v => { v with rcal := none }
      if m.vol.ring.isEmpty then m1
      else if m.isPrincipal then
        let m2 := m1.modVol fun v => { v with closure := BitVec.ofInt 32 mean }
        if exceedsPs mean 5 1 then m2.logEvent .management 0x0D07 (ofInt mean 32) 0 none (some 8) else m2
      else if m.isMember && m.vol.align.isNone && !m.running then m1.alignStart mean true
      else m1

/-! ### Digest comparison (R728) -/

/-- Positions 1 to n - 1 of the Volume. -/
def Mach.members (m : Mach) : List Nat := (List.range 8).filter fun p => p != 0 && decide (p < m.volSize)

/-- Positions that are ready with a digest equal to the principal's (R733). -/
def Mach.readyMembers (m : Mach) : List Nat :=
  m.members.filter fun p => m.vol.rdyMask.getLsbD p && (vget m.vol.posn p).digest == m.vol.digest

/-- ARMGO (R733, R734) broadcast by the principal, with the positions left out and arm beat A. (DEDUCED, log 72) -/
def Mach.armGo (m : Mach) (left : BitVec 8) (a : Int) : Mach :=
  match m.vol.arm with
  | none => m
  | some r =>
    (m.bcast 0x46 left.toNat (ofInt a 32)).modVol fun v =>
      { v with arm := none, armSt := 2, absent := left, goBeat := some (BitVec.ofInt 32 a, r.qid, left) }

/-- The principal's check of R733 after a READY, and where a digest has come to agree. (DEDUCED, log 72) -/
def Mach.armCheck (m : Mach) : Mach :=
  match m.vol.arm with
  | none => m
  | some _ => if m.readyMembers.length = m.members.length then m.armGo 0 (m.volBeat + 32) else m

/-- The principal compares digests at step 9 (R728). (DEDUCED, log 71) -/
def Mach.digestCheck (m : Mach) : Mach :=
  if !m.isPrincipal then m
  else
    let differs := m.members.filter fun p => m.vol.present.getLsbD p && (vget m.vol.posn p).digest != m.vol.digest
    let mask : BitVec 8 := BitVec.ofNat 8 ((differs.map (2 ^ ·)).sum)
    let fresh := mask &&& ~~~m.vol.mismatch
    let m1 := m.modVol fun v => { v with mismatch := mask }
    if fresh = 0 then m1
    else
      let m2 := m1.logEvent .management 0x0D08 mask.toNat 0 none (some 8)
      if m2.running && m2.qre.cfg.volume then
        let stop := ofInt (m2.volBeat + 32) 32
        (m2.bcast 0x49 0 stop).modVol fun v => { v with stopBeat := some (w32 stop) }
      else m2

/-- The digest of step 9 (R727): computed when `due`, and sent by a member. -/
def Mach.digestStep (m : Mach) (due : Bool) : Mach :=
  if due then
    let own (v : Vol) : Vol :=
      let d := m.digestNow
      { v with digest := d, posn := if m.isPrincipal then vmod v.posn 0 fun p => { p with digest := d, digBeat := BitVec.ofInt 32 m.volBeat } else v.posn }
    (((m.modVol own).sendDigest).digestCheck).armCheck
  else m.digestCheck

/-- DIGEST (R711, R728) received. -/
def Mach.digestMsg (m : Mach) (v : VMsg) (d : Word) : Mach :=
  m.volMsg v 0x43 0 d.toNat fun m =>
    if m.isPrincipal then
      (m.modVol fun x => { x with present := x.present ||| (1 <<< v.origin.val)
                                  posn := vmod x.posn v.origin.val fun p => { p with digest := d, digBeat := BitVec.ofInt 32 m.volBeat } }).volState.armCheck
    else m

/-! ### Arming (R730 to R735) -/

/-- A member's readiness (R732). -/
def Mach.readiness (m : Mach) : BitVec 16 :=
  let arm := m.armFault m.quireCfg
  if !m.boot.acqReady then 0x10
  else if m.vol.adrift then 0x20
  else if m.running then 0x30
  else if arm != 0 then BitVec.ofNat 16 (0x40 + 256 * arm)
  else 1

/-- READY sent by a member with this readiness (R732). -/
def Mach.sendReady (m : Mach) (bits : BitVec 16) : Mach :=
  (m.modVol fun v => { v with sentReady := some bits }).toPrincipal 0x45 bits.toNat m.vol.digest.toNat

/-- ARMREQ (R732) received. -/
def Mach.armReq (m : Mach) (v : VMsg) (qid : Word) : Mach :=
  m.volMsg v 0x44 0 qid.toNat fun m =>
    if m.isMember then (m.modVol fun x => { x with req := some qid }).sendReady m.readiness else m

/-- READY sent again when the member's state has changed before ARMGO or ARMCANCEL (R732). -/
def Mach.readyAgain (m : Mach) : Mach :=
  if m.isMember && m.vol.req.isSome && m.vol.sentReady != some m.readiness then m.sendReady m.readiness else m

/-- READY (R733, R735) received. -/
def Mach.readyMsg (m : Mach) (v : VMsg) (bits : BitVec 16) (d : Word) : Mach :=
  m.volMsg v 0x45 bits.toNat d.toNat fun m =>
    let o := v.origin.val
    let bit : BitVec 8 := 1 <<< o
    if !m.isPrincipal then m
    else
      let m1 := m.modVol fun x => { x with
        posn := vmod x.posn o fun p => { p with digest := d, ready := bits, rdyBeat := BitVec.ofInt 32 m.volBeat } }
      if m1.vol.arm.isSome then
        (m1.modVol fun x => if bits.getLsbD 0 then { x with rdyMask := x.rdyMask ||| bit, notMask := x.notMask &&& ~~~bit }
          else { x with rdyMask := x.rdyMask &&& ~~~bit, notMask := x.notMask ||| bit }).armCheck
      else if m1.vol.armSt == 2 && !bits.getLsbD 0 then m1.modVol fun x => { x with absent := x.absent ||| bit }
      else m1

/-- ARMGO (R735) received. -/
def Mach.armGoMsg (m : Mach) (v : VMsg) (left : BitVec 8) (a : Word) : Mach :=
  m.volMsg v 0x46 left.toNat a.toNat fun m =>
    match m.vol.req with
    | some qid => m.modVol fun x => { x with req := none, sentReady := none, goBeat := some (a, qid, left) }
    | none => m

/-- ARMCANCEL (R734) received. -/
def Mach.armCancel (m : Mach) (v : VMsg) (qid : Word) : Mach :=
  m.volMsg v 0x47 0 qid.toNat fun m =>
    if m.vol.req = some qid then m.modVol fun x => { x with req := none, sentReady := none } else m

/-- ARM_WAIT_EXPIRY (R734): at Volume beat k + `VOL.ARMWAIT` the principal cancels, or arms without the absent members. -/
def Mach.armExpiry (m : Mach) : Mach :=
  match m.vol.arm with
  | none => m
  | some r =>
    let wait := fld (m.pval 0x2903) 0 16
    if !m.isPrincipal || decide (m.volBeat < (r.k : Int) + m.vol.beatOfs + wait) then m
    else
      let out := m.members.filter fun p => !m.readyMembers.contains p
      let mask : BitVec 8 := BitVec.ofNat 8 ((out.map (2 ^ ·)).sum)
      if bitOf (m.pval 0x2900) 1 then
        (m.armGo mask (m.volBeat + 32)).logEvent .management 0x0D0A mask.toNat 0
      else
        let m1 := (m.bcast 0x47 0 r.qid.toNat).modVol fun v => { v with arm := none, armSt := 3 }
        let m2 := ({ m1 with qre := { m1.qre with volPending := false } } : Mach).refuseArm r.qid 6
        m2.logEvent .management 0x0D09 mask.toNat 0 none (some 8)

/-- VOLUME_ARM (R735): at Volume beat A every engine not left out arms; one that runs a quire, or that shedding keeps from arming (R112,
R113), cannot, and a member that cannot tells the principal. (DEDUCED, log 72) (DESIGN CHOICE, log 107) -/
def Mach.volumeArm (m : Mach) : Mach :=
  match m.vol.goBeat with
  | none => m
  | some (a, qid, left) =>
    if BitVec.ofInt 32 m.volBeat != a then m
    else
      let m1 := m.modVol fun v => { v with goBeat := none }
      if left.getLsbD m.volPos then m1
      else
        let m2 := if m1.running || m1.armShed m1.quireCfg then m1.refuseArm (m1.pval 0xC02) 0 else m1.armQuire (some qid)
        if m2.isMember && !(m2.qre.st == .running && m2.qre.cfg.volume) then m2.sendReady (m2.readiness &&& ~~~1) else m2

/-! ### Triggers (R736 to R739) -/

/-- VTRIG (R738, R739) received by a member in a Volume quire: `idx` is the folio index's low 16 bits, `t` those of its
instant. -/
def Mach.vtrig (m : Mach) (v : VMsg) (idx : BitVec 16) (t : Word) : Mach :=
  m.volMsg v 0x48 idx.toNat t.toNat fun m =>
    if !(m.isMember && m.qre.st == .running && m.qre.cfg.volume) then m
    else
      let m0 := if m.qre.cur.isSome then m.folioEnd else m
      if m0.qre.st != .running then m0
      else
        let now := m0.now.toNat
        let stamp : BitVec 96 := BitVec.ofInt 96 ((now : Int) - ((now : Int) - t.toNat) % (2 ^ 32 : Int))
        let c := m0.qre.cfg
        let inst := ((stamp.toNat * uStamp : Nat) - m0.tim.off) * ((c.den * 4096 : Nat) : Int)
        let n := ((m0.qre.folios : Int) + (idx - BitVec.ofNat 16 m0.qre.folios).toInt).toNat
        let m1 := { m0 with qre := { m0.qre with folios := n } }
        let first := c.firstOf inst
        let at0 := c.startInst first
        let late := decide (at0 + ((12000 * uNs * (c.den * 4096) : Nat) : Int) < c.scale m1.tim.mono)
        let m2 := m1.openFolio first stamp 0 0 7
        if late || m1.inSettle at0 || m1.beforeEpoch at0 then
          let m3 := match m2.qre.cur with
            | some f =>
              { m2 with qre := { m2.qre with cur := none, lastEnd := m1.qre.lastEnd
                                             pend := m2.qre.pend ++ [{ f with held := 0, trunc := true, stored := true, beat2 := m2.tim.beats }] } }
            | none => m2
          let m4 := m3.modVol fun v => { v with trigMiss := v.trigMiss + 1, missLog := true }
          if m3.vol.missLog then m4 else m4.logEvent .management 0x0D0B m4.qre.qid.toNat 0
        else m2

/-! ### Stops (R740, R741) -/

/-- VSTOP (R741) received: at once, or at a stop beat. -/
def Mach.vstop (m : Mach) (v : VMsg) (atOnce : Bool) (beat : Word) : Mach :=
  m.volMsg v 0x49 (b2n atOnce) beat.toNat fun m =>
    if !(m.running && m.qre.cfg.volume) then m
    else if atOnce then m.volumeStop
    else m.modVol fun x => { x with stopBeat := some beat }

/-- VOLUME_STOP (R740): at the stop beat the Volume quire closes with cause 8. (DEDUCED, log 71) -/
def Mach.volumeStopBeat (m : Mach) : Mach :=
  match m.vol.stopBeat with
  | none => m
  | some b =>
    if BitVec.ofInt 32 m.volBeat != b then m
    else
      let m1 := m.modVol fun v => { v with stopBeat := none }
      if m1.running && m1.qre.cfg.volume then m1.volumeStop else m1

end Sys2Proof.Machine
end

