-- ==== Sys2Proof/Machine/Spine.lean ====
section
/-! DEFINITION. Machine/Spine.lean: the Spine link: training, control flits, packets, retry, link-down (ch. 17). -/

namespace Sys2Proof.Machine

/-- Lanes of a port (ch. 17, Ports). -/
def laneCount (i : Nat) : Nat := if i = 0 then 4 else 2

/-- Whether port i may train or run (R269, R577): LINK usable, the port enabled, no shedding, and for a Volume port a
Volume configured. -/
def Mach.portAllowed (m : Mach) (i : Nat) : Bool :=
  m.domUp 5 && bitOf (m.pval 0xF00) i && (i == 0 || (m.volOn && !m.stageOn 2)) && decide (m.pwr.stage < 6)

/-- Where a port rests that does not run: OFF without its domain or its enable bit, else IDLE. -/
def Mach.restState (m : Mach) (i : Nat) : PortSt := if m.domUp 5 && bitOf (m.pval 0xF00) i then .idle else .off

/-- An attempt started at training step 1 (R547, R551). -/
def Port.attempt (p : Port) : Port :=
  { p with st := .train, step := 1, hold := false, told := false, lanes := vmap (fun l => { l with seen := false, ready := false }) p.lanes }

/-! ### Link-down (R575, R576) -/

/-- What a port loses when it leaves UP (R576, R588), and the DOWN flit it sends while its lanes `run`. -/
def Port.drop (p : Port) (cause : Nat) (run : Bool) : Port :=
  { p with st := .down, step := 0, hold := true, cause := BitVec.ofNat 4 cause, downs := p.downs + 1
           sentDown := if run then some (BitVec.ofNat 4 cause) else p.sentDown
           unacked := [], txq := [], replays := 0, avail := {}, credit := {}, given := {}, freed := {}, expect := 0, next := 0
           discarding := false, sender := {}, recBy := none }

/-- Link-down of port i with a cause; no effect on a port that is not UP (R575, R576, R198, R533, R741). The lanes run while LINK is on
and SPN_REFCLK is there. -/
def Mach.linkDown (m : Mach) (i cause : Nat) : Mach :=
  if !m.portUp i then m
  else
    let m1 := (m.breakRecord i).modPort i fun p => p.drop cause (m.domUp 5 && m.spn.refclk)
    let m2 := m1.logEvent .data 0x0904 i cause none (some 6)
    let m3 := if i = 0 then ({ m2 with ctl := { m2.ctl with ctrlOut := [] } } : Mach).sessionReset .host 4 else m2
    let m4 := m3.telPortDown i
    if i = 0 then m4 else m4.volLeave i

/-- A training step of port i fails (R551): electrical idle is held, and SPN_TRAINFAIL logged at the 8th failure. -/
def Mach.stepFail (m : Mach) (i : Nat) : Mach :=
  let p := m.portOf i
  if (p.st == .train || p.st == .hello) && !p.hold then
    let m1 := m.modPort i fun p => { p with st := .train, step := 1, hold := true, fails := p.fails + 1 }
    if p.fails + 1 = 8 then m1.logEvent .data 0x0902 i 8 none (some 6) else m1
  else m

/-- A cause that takes an UP port down and fails a training step (R575, R870). -/
def Mach.portLost (m : Mach) (i cause : Nat) : Mach := if m.portUp i then m.linkDown i cause else m.stepFail i

/-- Ports that may not run come to rest, with link-down for one that is UP; a port whose cause has ended is IDLE
(R577, R870). -/
def Mach.portsSettle (m : Mach) (cause : Nat) : Mach :=
  (List.range 3).foldl (fun m i =>
    let st := (m.portOf i).st
    if m.portAllowed i then
      if st == .off then m.modPort i fun p => { p with st := .idle } else m
    else
      let m1 := m.linkDown i cause
      if m.portUp i && m.domUp 5 then m1
      else if st == .down && m.domUp 5 && bitOf (m.pval 0xF00) i then m1
      else m1.modPort i fun p => { p with st := m.restState i, step := 0, hold := false }) m

/-! ### Training (R547 to R551) -/

/-- TRAINING_START (R268, R269): an IDLE port starts training, SPN_REFCLK being present. -/
def Mach.trainPort (m : Mach) (i : Nat) : Mach :=
  let m0 := { m with spn := { m.spn with refclk := true } }
  if (m0.portOf i).st == .idle && m0.portAllowed i && m0.boot.ready then m0.modPort i Port.attempt else m0

/-- A lane's transmit taps after a request word (R548, R549): the pre-tap and post-tap steps asked for, within their limits,
the main tap being the rest of 64; or the preset. (DEDUCED, log 47) -/
def Lane.request (l : Lane) (w : Word) : Lane :=
  if fld w 6 2 = 1 then { l with pre := 4, main := 52, post := 8 }
  else
    let step (mag lim req : Nat) : Nat := if req = 1 then mag - 1 else if req = 2 then min lim (mag + 1) else mag
    let pre := step l.pre 16 (fld w 0 2)
    let post := step l.post 22 (fld w 4 2)
    { l with pre, post, main := 64 - pre - post }

/-- Whether every lane of port i satisfies p. -/
def Port.allLanes (p : Port) (i : Nat) (q : Lane → Bool) : Bool := (List.range (laneCount i)).all fun l => q (vget p.lanes l)

/-- TRAINING_FRAME (R540, R547 to R549, R575): steps 1 and 2 of training; in UP a link-down with cause 5. -/
def Mach.trainFrame (m : Mach) (i : Nat) (f : FrameObs) : Mach :=
  let p := m.portOf i
  if p.st == .up then m.linkDown i 5
  else if p.st == .train && !p.hold && decide (p.step ≤ 2) && decide (f.lane.val < laneCount i) then
    m.modPort i fun p =>
      let p1 := { p with lanes := vmod p.lanes f.lane.val fun l =>
        { l.request f.request with inv := f.inverted, seen := true, ready := l.ready || bitOf f.status 8 } }
      let p2 := if p1.step = 1 && p1.allLanes i (·.seen) then { p1 with step := 2 } else p1
      if p2.step = 2 && p2.allLanes i (·.ready) then { p2 with step := 3 } else p2
  else m

/-- TRAINING_RESTART (R551, R870): the idle hold ends and step 1 begins. -/
def Mach.trainRestart (m : Mach) (i : Nat) : Mach :=
  let p := m.portOf i
  if p.st == .train && p.hold && m.portAllowed i then m.modPort i Port.attempt else m

/-- SPN_NOPARTNER (R550): logged once per attempt. -/
def Mach.noPartner (m : Mach) (i : Nat) : Mach :=
  let p := m.portOf i
  if p.st == .train && p.step == 1 && !p.hold && !p.told && !p.lanes.toList.any (·.seen) then
    (m.modPort i fun p => { p with told := true }).logEvent .data 0x0901 i 0
  else m

/-- RX_ADAPTATION_END (R547): step 3 completes. -/
def Mach.rxAdapted (m : Mach) (i : Nat) : Mach :=
  let p := m.portOf i
  if p.st == .train && p.step == 3 && !p.hold then m.modPort i fun p => { p with step := 4 } else m

/-- ALIGN (R546, R547): at step 4 the codewords are locked and the lanes deskewed, `skews` in 1/8 ns, and step 5 begins;
in UP it confirms the alignment. -/
def Mach.alignFlit (m : Mach) (i : Nat) (skews : Vector Byte 4) : Mach :=
  let p := m.portOf i
  if p.st == .train && p.step == 4 && !p.hold then
    m.modPort i fun p => { p with st := .hello, step := 5, lanes := Vector.ofFn fun (l : Fin 4) => { vget p.lanes l with skew := vget skews l } }
  else m

/-- ALIGN_MISSING (R546, R575, R870). -/
def Mach.alignMissing (m : Mach) (i : Nat) : Mach :=
  let p := m.portOf i
  if p.st == .train && decide (p.step < 4) then m else m.portLost i 2

/-- Whether a HELLO passes training step 5 on port i (R554). -/
def helloOk (i : Nat) (h : HelloObs) : Bool :=
  h.version == 1 && decide (34 ≤ h.p.toNat) && decide (3 ≤ h.n.toNat) && decide (34 ≤ h.c.toNat) &&
    (if i = 0 then h.role == 4 else h.role == 1 || h.role == 2)

/-- A port that enters UP with the partner's HELLO (R554, R561, R566). -/
def Port.enterUp (p : Port) (h : HelloObs) : Port :=
  let w : Words := { p := h.p.toNat, n := h.n.toNat, c := h.c.toNat }
  { p with st := .up, fails := 0, told := false, joinTold := false, part := h.part, build := h.build, role := h.role.setWidth 3
           pos := h.pos.setWidth 3, credit := w, avail := w, given := {}, freed := {}, expect := 0, next := 0, unacked := [], txq := []
           replays := 0, discarding := false }

/-- HELLO (R554, R709): at step 5 the partner's HELLO is checked; the port enters UP, and a Volume port sends JOIN. -/
def Mach.hello (m : Mach) (i : Nat) (h : HelloObs) : Mach :=
  if (m.portOf i).st != .hello then m
  else if !helloOk i h then m.stepFail i
  else
    let m1 := m.modPort i fun p => p.enterUp h
    if i = 0 then m1 else m1.volPortUp i

/-- RETRAIN_AFTER_DOWN (R577): 100 µs in DOWN are over. -/
def Mach.retrainDown (m : Mach) (i : Nat) : Mach :=
  if (m.portOf i).st != .down then m
  else if m.portAllowed i then m.modPort i Port.attempt
  else m.modPort i fun p => { p with st := m.restState i, step := 0, hold := false }

/-- SPN_RETRAIN (R575, R870), by the value written. -/
def Mach.spnRetrain (m : Mach) (v : Word) : Mach :=
  (List.range 3).foldl (fun m i =>
    if !bitOf v i then m
    else if m.portUp i then m.linkDown i 6
    else if (m.portOf i).st == .train || (m.portOf i).st == .hello then
      m.modPort i fun p => { p with st := .train, step := 1, hold := true }
    else m) m

/-- SPN_CTL_WRITE (R575, R870): the landed enables take effect. -/
def Mach.spnCtl (m : Mach) (v : Word) : Mach := (m.pset 0xF00 v).portsSettle 6

/-- LOSS_OF_SIGNAL (R575, R870) on port i, or on every port with the loss of SPN_REFCLK. -/
def Mach.lossOfSignal (m : Mach) (i : Option (Fin 3)) : Mach :=
  match i with
  | some i => m.portLost i 1
  | none => (List.range 3).foldl (fun m i => m.portLost i 1) { m with spn := { m.spn with refclk := false } }

/-! ### Control flits (R552, R565, R568) -/

/-- IDLE (R545): a received IDLE flit is dropped. -/
def Mach.idleFlit (m : Mach) : Mach := m

/-- Words freed since the last count, modulo 65,536. -/
def freedSince (new : BitVec 16) (old : Nat) : Nat := (new - BitVec.ofNat 16 old).toNat

/-- CREDIT (R567, R568): the cumulative counts restore credits, and waiting packets are sent. -/
def Mach.creditFlit (m : Mach) (i : Nat) (fp fn fc : BitVec 16) : Mach :=
  if !m.portUp i then m
  else m.modPort i fun p =>
    { p with avail := { p := p.avail.p + freedSince fp p.given.p, n := p.avail.n + freedSince fn p.given.n, c := p.avail.c + freedSince fc p.given.c }
             given := { p := fp.toNat, n := fn.toNat, c := fc.toNat } }.pump

/-- A replay of port i from its oldest unacknowledged packet (R565): the fifth want of progress on one packet is link-down
with cause 3. (DEDUCED, log 48) -/
def Mach.replay (m : Mach) (i : Nat) : Mach :=
  let p := m.portOf i
  if p.unacked.isEmpty then m
  else if 4 ≤ p.replays then m.linkDown i 3
  else m.modPort i fun p => { p with replays := p.replays + 1, replayed := p.replayed + 1 }

/-- LINKACK (R564, R565): packets before number `next` are acknowledged; with NAK the rest are replayed. -/
def Mach.linkAck (m : Mach) (i : Nat) (nak : Bool) (next : BitVec 12) : Mach :=
  if !m.portUp i then m
  else
    let p := m.portOf i
    let known := next == p.next || p.unacked.any fun e => e.1 == next
    if !known then m
    else
      let rest := p.unacked.dropWhile fun e => e.1 != next
      let m1 := m.modPort i fun p =>
        { p with unacked := rest, replays := if rest.length < p.unacked.length then 0 else p.replays }.pump
      if nak then m1.replay i else m1

/-- REPLAY_TIMEOUT (R565). -/
def Mach.replayTimeout (m : Mach) (i : Nat) : Mach := if m.portUp i then m.replay i else m

/-- DOWN (R575, R870). -/
def Mach.downFlit (m : Mach) (i : Nat) : Mach := m.portLost i 4

/-- Whether port i receives the FEC stream: from training step 4 to UP. -/
def Mach.streams (m : Mach) (i : Nat) : Bool :=
  let p := m.portOf i
  p.st == .up || p.st == .hello || (p.st == .train && p.step == 4)

/-- A NAK LINKACK that names the expected number (R562). -/
def Port.nak (p : Port) : Port := { p with discarding := true, sentAck := some (true, p.expect) }

/-- UNCORRECTABLE_CODEWORD (R544, R562). -/
def Mach.uncorrectable (m : Mach) (i : Nat) : Mach :=
  if !m.streams i then m
  else
    let m1 := m.modPort i fun p => { p with unc := p.unc + 1 }
    if m.portUp i && !(m.portOf i).discarding then m1.modPort i Port.nak else m1

/-- DISCARDED_PACKET (R562): the first discard sends a NAK. -/
def Mach.discardPkt (m : Mach) (i : Nat) : Mach :=
  if m.portUp i && !(m.portOf i).discarding then m.modPort i Port.nak else m

/-- NAK_REPEAT (R562): the NAK is sent again until the expected packet arrives. -/
def Mach.nakRepeat (m : Mach) (i : Nat) : Mach :=
  if m.portUp i && (m.portOf i).discarding then m.modPort i Port.nak else m

/-- IGNORED_CONTROL_FLIT (R552). -/
def Mach.badFlit (m : Mach) (i : Nat) : Mach := if m.streams i then m.modPort i fun p => { p with badCtl := p.badCtl + 1 } else m

/-- A packet discarded under R560: counted and logged. -/
def Mach.badPacket (m : Mach) (i : Nat) (type : Byte) : Mach :=
  (m.modPort i fun p => { p with badPkt := p.badPkt + 1 }).logEvent .data 0x0903 i type.toNat (if i = 0 then some .host else none)

/-- MALFORMED_PACKET (R560): accepted for sequencing, discarded, counted and logged. (DEDUCED, log 88) -/
def Mach.malformed (m : Mach) (i : Nat) (type : Byte) : Mach :=
  if !m.portUp i then m
  else (m.modPort i fun p => { p with expect := p.expect + 1, discarding := false, sentAck := some (false, p.expect + 1) }).badPacket i type

/-! ### Requests to the engine (R569, R570, R592, R710, R715) -/

/-- Whether port i takes packets: the host port, or a joined Volume port (R710, R715). -/
def Mach.takes (m : Mach) (i : Nat) : Bool := i == 0 || m.joined i

/-- The status of a request for n bytes at an address (R558, R569). -/
def Mach.rangeStatus (m : Mach) (a n : Nat) (write : Bool) : Nat :=
  if m.inDdr a n then (if m.ddrUp then 0 else 3)
  else if inLedger a n || inVault a n then (if write then 2 else 0)
  else 1

/-- Whether n bytes at an address make a WRITE body: 1 to 256, inside one 256-byte block (R557). -/
def bodyOk (a n : Nat) : Bool := decide (1 ≤ n) && decide (a % 256 + n ≤ 256)

/-- WRITE (R569, R570): checked against the memory ranges, stored, and acknowledged; a body outside R557 is malformed (R560).
(DEDUCED, log 88) -/
def Mach.writePacket (m : Mach) (i : Nat) (tag : BitVec 16) (addr : BitVec 64) (data : List Byte) : Mach :=
  if !m.portUp i then m
  else if !bodyOk addr.toNat data.length then (m.acceptPkt i 0 data.length).badPacket i 1
  else
    let m0 := m.acceptPkt i 0 data.length
    if !m0.takes i then m0
    else
      let st := m0.rangeStatus addr.toNat data.length true
      let m1 := if st = 0 then (m0.poke addr.toNat data).touchDdr addr.toNat data.length else m0
      m1.sendPkt i (.writeAck tag (BitVec.ofNat 3 st))

/-- The pieces of a READ_DATA answer: no piece crosses a 256-byte boundary (R557, R570). -/
def readPieces : Nat → Nat → Nat → List (Nat × Nat)
  | 0, _, _ => []
  | fuel + 1, a, n => if n = 0 then [] else
      let k := min n (256 - a % 256)
      (a, k) :: readPieces fuel (a + k) (n - k)

/-- READ_REQ (R569, R570) for n bytes: READ_DATA packets in ascending address order, or one with the failing status. `ecc`
is the first byte of a word that is uncorrectable (R216, R467, R499). (DEDUCED, log 88) -/
def Mach.readRequest (m : Mach) (i : Nat) (tag : BitVec 16) (addr : BitVec 64) (n : Nat) (ecc : Option Nat) : Mach :=
  if !m.portUp i then m
  else if n = 0 || decide (4096 < n) then (m.acceptPkt i 1 8).badPacket i 3
  else
    let m0 := m.acceptPkt i 1 8
    if !m0.takes i then m0
    else
      let a := addr.toNat
      let ok := m0.rangeStatus a n false = 0
      let st := if ok && ecc.isSome then 3 else m0.rangeStatus a n false
      let m1 := if m0.inDdr a n && m0.ddrUp then m0.touchDdr a n else m0
      let m1 := match ecc with | some i => if ok then m1.readEcc (a + i) else m1 | none => m1
      if st != 0 then m1.sendPkt i (.readData tag a [] true (BitVec.ofNat 2 st))
      else
        let ps := readPieces 18 a n
        ps.foldl (fun m p => m.sendPkt i (.readData tag p.1 (readBytes m.mem p.1 p.2) (p.1 + p.2 == a + n) 0)) m1

/-- FOLIO on a port that takes packets (R592, R710). -/
def Mach.folioIn (m : Mach) (i : Nat) (tag : BitVec 16) (data : List Byte) (first last : Bool) : Mach :=
  if m.portUp i && !bodyOk 0 data.length then (m.acceptPkt i 0 data.length).badPacket i 7
  else if m.portUp i && !m.takes i then m.acceptPkt i 0 data.length
  else m.folioPacket i tag data first last

/-- KEY_REQUEST on a port that takes packets (R590, R710). -/
def Mach.keyIn (m : Mach) (i : Nat) (qid : Word) : Mach :=
  if m.portUp i && !m.takes i then m.acceptPkt i 0 8 else m.keyRequest i qid

/-- WRITE_ACK on a port that takes packets (R511, R710). -/
def Mach.ackIn (m : Mach) (i : Nat) (tag : BitVec 16) (status : BitVec 3) : Mach :=
  if m.portUp i && !m.takes i then m.acceptPkt i 2 0 else m.ackPacket i tag status

/-- WRITE_ACK (R511): a packet, or a DDR5 store of a channel's oldest outstanding write. -/
def Mach.writeAck (m : Mach) (a : AckObs) : Mach :=
  match a with
  | .packet p tag status => m.ackIn p.val tag status
  | .store c => m.ackStore c.val

/-- EVENT_SEND (R574): the oldest waiting EVENT is sent on the host port when P credits allow. -/
def Mach.eventSend (m : Mach) : Mach :=
  match m.spn.evq with
  | [] => m
  | e :: rest =>
    let p := m.portOf 0
    if m.portUp 0 && !p.txq.any (fun k => k.cls == 0) && p.maySend (.event e) then
      ({ m with spn := { m.spn with evq := rest } } : Mach).modPort 0 fun p => p.transmit (.event e)
    else m

/-! ### Volume configuration (R712) -/

/-- VOL_CONFIG_WRITE (R712): a landing `VOL.CTL`, `VOL.POS` or `VOL.SIZE` (r = 0, 1, 2). A change of bit 0, of the position or of
the size takes both Volume ports down, retrains them at once, and clears the offset and the aligned state. -/
def Mach.volConfig (m : Mach) (r : Nat) (v : Word) : Mach :=
  let a := 0x2900 + r
  let old := m.pval a
  let changed := if r = 0 then bitOf old 0 != bitOf v 0 else old != v
  let m1 := m.pset a v
  if !changed then m1
  else
    let m2 := (m1.linkDown 1 6).linkDown 2 6
    let m3 := m2.modVol fun x => { x with east := false, west := false, aligned := false, everAligned := false, beatOfs := 0, align := none
                                          rcal := none, arm := none, req := none, sentReady := none, goBeat := none, stopBeat := none
                                          present := 0, mismatch := 0, markBad := false, ringDone := false, ests := [], exch := 0, offset := 0 }
    let start (m : Mach) (i : Nat) : Mach :=
      if m.portAllowed i && m.boot.ready then m.modPort i Port.attempt
      else m.modPort i fun p => { p with st := m.restState i, step := 0, hold := false }
    (start (start m3 1) 2).volState

end Sys2Proof.Machine
end

