-- ==== Sys2Proof/Machine/Scanout.lean ====
section
/-! DEFINITION. Machine/Scanout.lean: scan-out: modes, composition, flips, outputs, mode changes, low refresh (ch. 19). -/

namespace Sys2Proof.Machine

/-- The display record changed. -/
def Mach.modDsp (m : Mach) (f : Dsp → Dsp) : Mach := { m with dsp := f m.dsp }

/-! ### Modes (R607, R620) -/

/-- A mode's timing: active, front porch, sync, back porch and total on each axis, pixel clock in 100 Hz, refresh in Hz. -/
structure Mode where
  h : Nat × Nat × Nat × Nat × Nat
  v : Nat × Nat × Nat × Nat × Nat
  clk : Nat
  hz  : Nat
  deriving DecidableEq, Repr, Inhabited

/-- The modes (R607). -/
def modes : List Mode := [
  { h := (1280, 48, 32, 80, 1440), v := (800, 3, 6, 14, 823), clk := 711072, hz := 60 },
  { h := (1920, 88, 44, 148, 2200), v := (1080, 4, 5, 36, 1125), clk := 1485000, hz := 60 },
  { h := (1920, 48, 32, 80, 2080), v := (1200, 3, 6, 26, 1235), clk := 1541280, hz := 60 },
  { h := (2560, 48, 32, 80, 2720), v := (1440, 3, 5, 33, 1481), clk := 2416992, hz := 60 },
  { h := (2560, 48, 32, 80, 2720), v := (1600, 3, 6, 37, 1646), clk := 2686272, hz := 60 },
  { h := (3840, 176, 88, 296, 4400), v := (2160, 8, 10, 72, 2250), clk := 2970000, hz := 30 },
  { h := (3840, 176, 88, 296, 4400), v := (2160, 8, 10, 72, 2250), clk := 5940000, hz := 60 },
  { h := (1080, 40, 20, 60, 1200), v := (1920, 8, 4, 28, 1960), clk := 1411200, hz := 60 }]

/-- Mode k. -/
def modeOf (k : Nat) : Mode := modes.getD (k % 8) default

/-- The DSI lane rate in Mbit/s for a number of lanes (R620). -/
def Mode.laneRate (d : Mode) (lanes : Nat) : Nat := (d.clk * 2760 + lanes * 10 ^ 7 - 1) / (lanes * 10 ^ 7) * 10

/-- The DP link rate code of a mode (R607). -/
def dpRate (k : Nat) : Nat := if k = 6 then 2 else if 3 ≤ k && k ≤ 5 then 1 else 0

/-- Word w of `DSP.MTAB_m_w` (R856). -/
def modeWord (k w : Nat) : Word :=
  let d := modeOf k
  let porch (x : Nat × Nat × Nat × Nat × Nat) : Nat := x.2.1 + 2 ^ 10 * x.2.2.1 + 2 ^ 20 * x.2.2.2.1
  w32 (match w with
  | 0 => d.h.1
  | 1 => porch d.h
  | 2 => d.h.2.2.2.2
  | 3 => d.v.1
  | 4 => porch d.v
  | 5 => d.v.2.2.2.2
  | 6 => d.clk
  | _ => d.laneRate 4 + 2 ^ 16 * dpRate k + 2 ^ 24 * d.hz)

/-- DSI data lanes in use (R620). -/
def Mach.dsiLanes (m : Mach) : Nat := fld (m.use 0x2610) 0 2 + 1

/-- Whether the DSI output is enabled. -/
def Mach.dsiOn (m : Mach) : Bool := bitOf (m.use 0x2602) 2

/-- Whether the DSI output works in command mode. -/
def Mach.cmdMode (m : Mach) : Bool := m.dsiOn && bitOf (m.use 0x2602) 4

/-- Whether mode k passes the checks of R629. -/
def Mach.modeOk (m : Mach) (k : Nat) : Bool :=
  !m.dsiOn || (bitOf (m.use 0x2611) k && decide ((modeOf k).laneRate m.dsiLanes ≤ 4500))

/-! ### Composition (R610 to R613) -/

/-- One component of blend (R610). -/
def blend1 (a t b : Nat) : Nat := (a * t + (255 - a) * b + 127) / 255

/-- blend of two colours with blue in [7:0], green in [15:8] and red in [23:16] (R610). -/
def blend (a : Nat) (t b : Nat) : Nat :=
  blend1 a (nfld t 0 8) (nfld b 0 8) + 2 ^ 8 * blend1 a (nfld t 8 8) (nfld b 8 8) + 2 ^ 16 * blend1 a (nfld t 16 8) (nfld b 16 8)

/-- Colour map entry i in use (R612, R614). -/
def Mach.cmapEntry (m : Mach) (i : Nat) : Nat := (m.dsp.cmap.getD i (Config.colourMap i)).toNat

/-- The background and waveform plane at screen pixel (x, y) (R611 steps 1 and 2, R612). -/
def Mach.lowerPixel (m : Mach) (x y : Nat) : Nat :=
  let bg := m.useN 0x2600
  let x0 := fld (m.use 0x2606) 0 16
  let y0 := fld (m.use 0x2606) 16 16
  let w := fld (m.use 0x2607) 0 16
  let h := fld (m.use 0x2607) 16 16
  if bitOf (m.use 0x2602) 0 && decide (x0 ≤ x) && decide (x < x0 + w) && decide (y0 ≤ y) && decide (y < y0 + h) then
    let c := (x - x0) * 2048 / w
    let r := 1023 - (y - y0) * 1024 / h
    let e := m.cmapEntry (min 255 (readNat m.mem (cellAddr c r) 2 >>> m.useN 0x260A))
    blend (nfld e 24 8) e bg
  else bg

/-- The host plane's address in use. -/
def Mach.planeAddr (m : Mach) : Nat := m.useN 0x2604 * 2 ^ 32 + m.useN 0x2603

/-- The output pixel at (x, y) (R611, R613). -/
def Mach.pixel (m : Mach) (x y : Nat) : Nat :=
  let p := readNat m.mem (m.planeAddr + y * m.useN 0x2605 + 4 * x) 4
  if bitOf (m.use 0x2602) 1 && !m.dsp.invalid then blend (nfld p 24 8) p (m.lowerPixel x y) else m.lowerPixel x y

/-! ### Values taken into use (R613 to R618) -/

/-- Why the host plane in use is invalid, 1 to 3 in the order of R613, 0 when it is valid. (DEDUCED, log 49) -/
def Mach.planeFault (m : Mach) : Nat :=
  let d := modeOf m.dsp.mode
  let stride := m.useN 0x2605
  if stride < 4 * d.h.1 then 1
  else if !m.inDdr m.planeAddr (stride * (d.v.1 - 1) + 4 * d.h.1) then 2
  else if !m.ddrUp then 3
  else 0

/-- The host plane's validity after a value of it is taken into use (R613). -/
def Mach.planeCheck (m : Mach) : Mach :=
  let c := m.planeFault
  let m1 := m.modDsp fun d => { d with invalid := c != 0 }
  if c != 0 && !m.dsp.invalid then m1.logEvent .data 0x0A01 c 0 else m1

/-- The colour map loaded (R614); `bad` says that DDR5 showed an uncorrectable word. -/
def Mach.cmapLoad (m : Mach) (bad : Bool) : Mach :=
  let a := m.useN 0x2609 * 2 ^ 32 + m.useN 0x2608
  let cause := if !m.inDdr a 1024 then 1 else if !m.ddrUp then 2 else if bad then 4 else 0
  if cause = 0 then
    ({ m with dsp := { m.dsp with cmapBad := false, cmap := (List.range 256).map fun i => w32 (readNat m.mem (a + 4 * i) 4) } } : Mach).touchDdr a 1024
  else
    let m1 := if cause = 4 then m.storeEcc a else m
    (m1.modDsp fun d => { d with cmapBad := true }).logEvent .data 0x0A02 cause 0

/-- The DSI output's start sequence begun in the mode in use (R621, R622). -/
def Mach.dsiBegin (m : Mach) : Mach :=
  m.modDsp fun d => { d with dsi := .starting, dsiJoin := false
                             dcs := [0x01, 0x3A] ++ (if m.cmdMode then [0x35, 0x2A, 0x2B] else []) ++ [0x11] }

/-- The parameters of a DCS command in the mode in use (R621): 16-bit ends of a range, each most significant byte first, which is
PRESUMED of MIPI DCS (log 125). -/
def Mach.dcsParams (m : Mach) (code : Byte) : List Byte :=
  let d := modeOf m.dsp.mode
  let range (n : Nat) : List Byte := [0, 0, BitVec.ofNat 8 ((n - 1) / 256), BitVec.ofNat 8 (n - 1)]
  match code.toNat with
  | 0x3A => [0x77]
  | 0x35 => [0x00]
  | 0x2A => range d.h.1
  | 0x2B => range d.v.1
  | _ => []

/-- A mode that fails R629 noted in `DSP.BADMODE` and logged. -/
def Mach.badMode (m : Mach) (k : Nat) : Mach :=
  (m.modDsp fun d => { d with badMode := (d.badMode &&& 1) ||| w32 (1 + 16 * k) }).logEvent .data 0x0A06 k 0

/-- The DSI output as its enable in use asks, while scan-out is not OFF: begun, held, or off (R622, R640); TE_IN counts in command mode
only (R623). -/
def Mach.dsiFollow (m : Mach) : Mach :=
  let m := if m.cmdMode then m else m.modDsp fun d => { d with teLock := false, teLost := false }
  if !m.dsiOn then m.modDsp fun d => { d with dsi := .off, dsiJoin := false }
  else if m.dsp.dsi != .off then m
  else if m.modeOk m.dsp.mode then m.dsiBegin
  else (m.badMode m.dsp.mode).modDsp fun d => { d with dsi := .held }

/-- DP link training started (R625, R627). -/
def Mach.dpTrain (m : Mach) : Mach :=
  let d := m.dsp.dp
  if !d.connected || !bitOf (m.use 0x2602) 3 then m
  else if d.lanes < 4 || d.maxRate < dpRate m.dsp.mode then
    (m.modDsp fun x => { x with dpJoin := false, dp := { x.dp with training := false, trained := false, failed := false } }).logEvent .data 0x0A04 d.lanes d.maxRate
  else m.modDsp fun x => { x with dpJoin := false, dp := { x.dp with training := true, trained := false, failed := false } }

/-- The DisplayPort output as its enable in use asks (R624): stopped, or trained when a sink is connected. -/
def Mach.dpFollow (m : Mach) : Mach :=
  if !bitOf (m.use 0x2602) 3 then m.modDsp fun x => { x with dpJoin := false, dp := { x.dp with training := false, trained := false } }
  else if m.dsp.dp.training || m.dsp.dp.trained then m else m.dpTrain

/-- Waiting frame-bound values at the addresses that `p` admits taken into use together (R616 to R618). (DEDUCED, log 50) -/
def Mach.dspTake (m : Mach) (p : Nat → Bool) (bad : Bool) : Mach :=
  let take := (m.par.frame.map (·.1)).filter p
  if take.isEmpty then m
  else
    let m1 := { m with par := { m.par with frame := m.par.frame.filter fun e => !p e.1 } }
    let m2 := m1.modDsp fun d => { d with busy := true }
    let flip := take.any fun a => a == 0x2603 || a == 0x2604
    let m3 := if flip then m2.modDsp fun d => { d with flipWait := false, flipNow := true, flipCnt := d.flipCnt + 1 } else m2
    let m4 := if flip || take.contains 0x2605 then m3.planeCheck else m3
    let m5 := if take.any fun a => a == 0x2608 || a == 0x2609 then m4.cmapLoad bad else m4
    if m5.dsp.st != .off && take.contains 0x2602 then m5.dsiFollow.dpFollow else m5

/-- Every waiting value but `DSP.MODE` taken into use. (DESIGN CHOICE, log 123) -/
def Mach.dspTakeAll (m : Mach) (bad : Bool) : Mach := m.dspTake (· != 0x2601) bad

/-- FLIP_REQUEST (R618): a commit that writes `DSP.FB_LO` or `DSP.FB_HI` requests a flip; one that replaces a waiting flip
is counted. -/
def Mach.flipRequest (m : Mach) : Mach :=
  if m.dsp.flipWait then m.modDsp fun d => { d with flipDrop := d.flipDrop + 1 } else m.modDsp fun d => { d with flipWait := true }

/-- DSP values have landed at the addresses `as` (R616, R617, R628, R630): with scan-out OFF or STARTING they are taken into use
at once; a `DSP.MODE` other than the mode in use waits for a frame end and, if it passes R629, cancels the refresh level. -/
def Mach.dspLanded (m : Mach) (as : List Nat) : Mach :=
  let mode := as.contains 0x2601
  let k := m.pnat 0x2601 % 8
  let use (m : Mach) : Mach :=
    if mode then ({ m with par := { m.par with frame := mdel m.par.frame 0x2601 } } : Mach).modDsp fun d => { d with mode := k } else m
  match m.dsp.st with
  | .off => use (m.dspTakeAll false)
  | .starting =>
    let m1 := m.dspTakeAll false
    if mode then ((use m1).modDsp fun d => { d with dsi := .off }).dsiFollow else m1
  | _ =>
    let m1 := m.modDsp fun d => { d with landedNow := as.foldl addAddr d.landedNow }
    if mode then m1.modDsp fun d => { d with newMode := k != d.mode, level := if k != d.mode && m.modeOk k then .full else d.level }
    else m1

/-! ### Frames (R616, R619, R628 to R636) -/

/-- The instant of the first active pixel of a frame that starts now, as time (R618). (DEDUCED, log 50) -/
def Mach.firstPixel (m : Mach) : BitVec 96 :=
  let d := modeOf m.dsp.mode
  let pixels := (d.v.2.2.1 + d.v.2.2.2.1) * d.h.2.2.2.2 + d.h.2.2.1 + d.h.2.2.2.1
  m.tim.stampRat (m.tim.mono * d.clk + pixels * (10 ^ 7 * uNs)) d.clk

/-- A frame starts (R618, R619): the counter advances, outputs that are ready join, and a flip taken into use is shown unless
the frame is dark. (DEDUCED, log 50) -/
def Mach.frameStart (m : Mach) (dark : Bool) : Mach :=
  let d := m.dsp
  let join := d.dsi == .on && !d.dsiJoin && !dark
  let show_ := d.flipNow && !dark
  m.modDsp fun d =>
    { d with
      frame := (d.frame + 1) % 2 ^ 64, dark, under := false, busy := false
      dsiJoin := d.dsiJoin || join, dpJoin := if dark then d.dpJoin else d.dp.trained && d.dp.modes.getLsbD d.mode
      dcs := (if join then [0x29] else if m.cmdMode && d.dsiJoin then [] else d.dcs) ++ (if m.cmdMode && (d.dsiJoin || join) then [0x2C, 0x3C] else [])
      flipNum := if show_ then w32 (d.frame + 1) else d.flipNum, flipTs := if show_ then m.firstPixel else d.flipTs
      flipNow := d.flipNow && dark }

/-- The summary of the frame that ends (R619). -/
def Mach.frameSummary (m : Mach) : Mach :=
  m.modDsp fun d =>
    let lv := match d.level with | .full => 0 | .half => 1 | .low20 => 2
    { d with fstat := w32 (b2n d.dark + 2 * b2n d.under + 4 * lv + 16 * b2n (!d.dark && d.flipNum == w32 d.frame && d.flipCnt != 0)) }

/-- Whether every enabled output permits a level with this rate (R635). -/
def Mach.permits (m : Mach) (rate : Nat) : Bool :=
  bitOf (m.use 0x2602) 5 && (!m.dsiOn || bitOf (m.use 0x2610) 2 || m.dsp.dsi == .held) &&
  (!m.dsp.dpJoin || (m.dsp.dp.ignoreMsa && m.dsp.dp.minRate != 0 && decide (m.dsp.dp.minRate.toNat ≤ rate)))

/-- The refresh level after the frame that ends (R634 to R636). -/
def Mach.levelStep (m : Mach) : Mach :=
  if m.dsp.busy then m.modDsp fun d => { d with level := .full, statics := 0 }
  else
    let n := m.dsp.statics + 1
    let hz := (modeOf m.dsp.mode).hz
    let next : Option (Level × Nat) :=
      match m.dsp.level with
      | .full => if hz / 2 < 20 then some (.low20, 20) else some (.half, hz / 2)
      | .half => some (.low20, 20)
      | .low20 => none
    match next with
    | some (l, rate) =>
      if fld (m.use 0x260B) 0 8 ≤ n && m.permits rate then m.modDsp fun d => { d with level := l, statics := 0, teLock := false }
      else m.modDsp fun d => { d with statics := n }
    | none => m.modDsp fun d => { d with statics := n }

/-- Whether the value landed at address a waits for the end of its landing beat's work (R616, R628). -/
def Mach.dspHeld (m : Mach) (a : Nat) : Bool := m.dsp.landedNow.contains a && decide (m.tim.clk < 968)

/-- A waiting `DSP.MODE` at a frame end (R628, R629, R631 step 1). -/
def Mach.modeStep (m : Mach) : Mach :=
  if (m.par.frame.lookup 0x2601).isNone || m.dspHeld 0x2601 then m.frameStart false
  else
    let k := m.pnat 0x2601 % 8
    let m1 := { m with par := { m.par with frame := mdel m.par.frame 0x2601 } }.modDsp fun d => { d with newMode := false }
    if k = m.dsp.mode then m1.frameStart false
    else if !m.modeOk k then ((m1.pset 0x2601 (w32 m.dsp.mode)).badMode k).frameStart false
    else
      let m2 := m1.modDsp fun d => { d with
        st := .changing, change := 1, level := .full, statics := 0, mode := k
        retrain := (modeOf k).clk != (modeOf d.mode).clk || dpRate k != dpRate d.mode }
      (m2.frameStart true).modDsp fun d => { d with dcs := if d.dsi == .on then d.dcs ++ [0x28] else d.dcs }

/-- Step 2 of R631: video stops; the DSI output changes its rate, or a held one starts; the DP link trains again. -/
def Mach.modeStep2 (m : Mach) : Mach :=
  let m1 := m.modDsp fun d => { d with change := 2, dcs := if m.cmdMode && d.dsi == .on then [0x2A, 0x2B] else d.dcs, dsiJoin := false }
  let m2 := if m1.dsp.dsi == .held && m1.modeOk m1.dsp.mode then m1.dsiBegin else m1
  let m3 := if m2.dsp.retrain && m2.dsp.dp.trained then m2.dpTrain else m2
  (m3.modDsp fun d => { d with retrain := false }).frameStart true

/-- FRAME_END (R619, R628, R631, R634): the frame in progress ends and the next starts. -/
def Mach.frameEnd (m : Mach) : Mach :=
  match m.dsp.st with
  | .running => m.frameSummary.levelStep.modeStep
  | .changing => if m.dsp.change = 1 then m.frameSummary.modeStep2 else m.frameSummary.frameStart true
  | _ => m

/-- VBLANK (R614, R616, R630, R640): waiting values that landed in beat work now ended are taken into use, unless a mode
change holds them; a held DSI output whose mode now passes starts. -/
def Mach.vblank (m : Mach) (bad : Bool) : Mach :=
  if m.dsp.st != .running then m
  else
    let m1 := if m.dsp.newMode then m else m.dspTake (fun a => a != 0x2601 && !m.dspHeld a) bad
    if m1.dsp.dsi == .held && m1.dsiOn && m1.modeOk m1.dsp.mode then m1.dsiBegin else m1

/-- N0_START (R630, R631 step 3, R633): both enabled outputs are ready and the first frame of the new mode starts with the
held values. -/
def Mach.n0Start (m : Mach) (bad : Bool) : Mach :=
  if m.dsp.st != .changing || m.dsp.change != 2 || m.dsp.dsi == .starting || m.dsp.dp.training then m
  else
    let m1 := m.modDsp fun d => { d with st := .running, change := 0, statics := 0, newMode := (m.pnat 0x2601 % 8) != d.mode }
    let m2 := ((m1.dspTakeAll bad).planeCheck).frameStart false
    m2.modDsp fun d => { d with busy := true }

/-! ### Start and stop (R639 to R641) -/

/-- SCANOUT_START (R274, R639, R640): outputs start in the mode that `DSP.MODE` holds, and with no DSI output to wait for
the first frame is sent at once. -/
def Mach.scanStart (m : Mach) : Mach :=
  if m.dsp.st != .off || !m.domUp 6 || !m.boot.ready || !(m.store.st == .trained || m.store.st == .failed) then m
  else
    let m0 := { m with par := { m.par with frame := [] } }.modDsp fun d =>
      { d with st := .starting, mode := m.pnat 0x2601 % 8, newMode := false, level := .full, statics := 0, dsi := .off, underLog := none }
    let m1 := m0.dsiFollow
    if m1.dsp.dsi == .starting then m1 else (m1.modDsp fun d => { d with st := .running }).frameStart false

/-- SCAN switched off (R641): scan-out is OFF at once; a waiting `DSP.MODE` waits on until scan-out starts again, the other
waiting values are in use from here (R617). (DESIGN CHOICE, log 123) -/
def Mach.scanOff (m : Mach) : Mach :=
  if m.dsp.st == .off then m
  else
    let m1 := m.modDsp fun d => { d with
      st := .off, change := 0, level := .full, statics := 0, dsi := .off, dsiJoin := false, dp := { cause := d.dp.cause }, dpJoin := false, newMode := false
      teLock := false, retrain := false }
    m1.dspTakeAll false

/-- DSI_START (R622, R640): an enabled DSI output that is off or held starts when the mode in use passes R629. -/
def Mach.dsiStart (m : Mach) : Mach :=
  if m.dsp.st != .off && m.dsiOn && (m.dsp.dsi == .off || m.dsp.dsi == .held) && m.modeOk m.dsp.mode then m.dsiBegin else m

/-- DSI_START_DONE (R622, R639): the start sequence ends; the first frame starts, or the output joins at the next frame. -/
def Mach.dsiDone (m : Mach) : Mach :=
  if m.dsp.dsi != .starting then m
  else
    let m1 := m.modDsp fun d => { d with dsi := .on }
    if m1.dsp.st == .starting then (m1.modDsp fun d => { d with st := .running }).frameStart false else m1

/-! ### TE_IN and DisplayPort (R623 to R627) -/

/-- TE_EDGE (R623): in command mode at FULL the edge holds the frame timing locked, or not yet. -/
def Mach.teEdge (m : Mach) (locked : Bool) : Mach :=
  if m.cmdMode && m.dsp.st == .running then
    m.modDsp fun d => { d with teLost := false, teLock := locked && d.level == .full }
  else m

/-- DSP_TELOST (R623): 3 frame periods without an edge. -/
def Mach.teLost (m : Mach) : Mach :=
  if m.cmdMode && m.dsp.st == .running && !m.dsp.teLost then
    (m.modDsp fun d => { d with teLost := true, teLock := false }).logEvent .data 0x0A03 0 0
  else m

/-- DP_CONNECT (R625, R626): the sink is read and the link trained, unless the sink cannot be driven. -/
def Mach.dpConnect (m : Mach) (o : SinkObs) : Mach :=
  if m.dsp.st == .off || !bitOf (m.use 0x2602) 3 then m
  else
    (m.modDsp fun d => { d with dp := { connected := true, cause := d.dp.cause, ignoreMsa := o.ignoreMsa, edid := o.edid, modes := o.modes, minRate := o.minRate
                                        lanes := o.lanes, maxRate := o.maxRate } }).dpTrain

/-- DP_IRQ_HPD (R627): the link is retrained when it has lost clock recovery or equalisation, or when training had
failed. -/
def Mach.dpIrq (m : Mach) (lost : Bool) : Mach :=
  let d := m.dsp.dp
  if d.connected && !d.training && (lost || d.failed) then m.dpTrain else m

/-- DP_DISCONNECT (R625). -/
def Mach.dpDisconnect (m : Mach) : Mach := m.modDsp fun d => { d with dp := { cause := d.dp.cause }, dpJoin := false }

/-- DP_TRAINING_DONE (R627): trained at the rate of the mode in use, or failed with a cause. -/
def Mach.dpDone (m : Mach) (cause : Option Byte) : Mach :=
  if !m.dsp.dp.training then m
  else match cause with
    | none => m.modDsp fun d => { d with dp := { d.dp with training := false, trained := true, rate := BitVec.ofNat 2 (dpRate d.mode) } }
    | some c =>
      (m.modDsp fun d => { d with dp := { d.dp with training := false, trained := false, cause := c, failed := true } }).logEvent .data 0x0A05 c.toNat 0

/-- DSP_DPRETRAIN (R627), by the value written. -/
def Mach.dpRetrain (m : Mach) (v : Word) : Mach := if bitOf v 0 then m.dpTrain else m

/-! ### Underrun (R637) -/

/-- DSP_UNDERRUN (R637): a line whose host pixel is due before its data; `ecc` gives the address of an uncorrectable word
that made it. -/
def Mach.underrun (m : Mach) (ecc : Option Nat) : Mach :=
  if m.dsp.st != .running || !bitOf (m.use 0x2602) 1 || m.dsp.invalid then m
  else
    let m0 := match ecc with | some a => m.storeEcc a | none => m
    let m1 := m0.modDsp fun d => { d with underrun := d.underrun + 1, under := true }
    let say := match m.dsp.underLog with | none => true | some b => decide (b + 1048576 ≤ m.tim.beats)
    if say then
      (m1.modDsp fun d => { d with underLog := some m.tim.beats, underAt := d.underrun }).logEvent .data 0x0A07
        (m1.dsp.underrun - m1.dsp.underAt).toNat 0
    else m1

/-- The DSI lane rate in use, `DSP.DSIRATE`. -/
def Mach.dsiRate (m : Mach) : Nat := if m.dsp.dsi == .on || m.dsp.dsi == .starting then (modeOf m.dsp.mode).laneRate m.dsiLanes else 0

end Sys2Proof.Machine
end

