-- ==== Sys2Proof/Machine/Power.lean ====
section
/-! DEFINITION. Machine/Power.lean: domains, rail monitors and load shedding (ch. 03). -/

namespace Sys2Proof.Machine

/-! ### Rails (R104 to R107) -/

/-- The nominal voltage of a rail in mV. -/
def railNominal (r : Nat) : Nat := [800, 750, 900, 1200, 900, 1200, 1100, 1800, 3300].getD r 0

/-- The stage-k threshold of rail r in µV, for these PWR values. -/
def thresholdUv (thr r : Nat) : Nat := railNominal r * (1000 - thr)

/-- The stage-k threshold of rail r, k from 1, in µV. -/
def Mach.threshold (m : Mach) (r k : Nat) : Nat := thresholdUv (m.pnat (0x503 + k)) r

/-- The stage-k recovery level of rail r in µV. -/
def Mach.recovery (m : Mach) (r k : Nat) : Nat := m.threshold r k + railNominal r * m.pnat 0x50A

/-- Whether rail r counts for shedding (R106, R130). -/
def Mach.railOn (m : Mach) (r : Nat) : Bool := bitOf (m.pval 0x502) r && !(vget m.pwr.rails r).absent

/-- Rail r changed. -/
def Mach.modRail (m : Mach) (r : Nat) (f : Rail → Rail) : Mach := { m with pwr := { m.pwr with rails := vmod m.pwr.rails r f } }

/-- Samples of rail r: the latest and the lowest of them. A recovery level that the lowest does not exceed starts its count anew. (DESIGN
CHOICE, log 22) -/
def Mach.railSample (m : Mach) (r mv low : Nat) : Mach :=
  let m1 := m.modRail r fun x => { x with
    mv, lowS := min x.lowS low, lowH := min x.lowH low, lowNow := min x.lowNow low
    above := x.above.mapIdx fun i n => if m.recovery r (i + 1) < 1000 * low then n else 0 }
  if m1.pwr.stage != 0 then { m1 with pwr := { m1.pwr with low := vmod m1.pwr.low r fun x => min x low } } else m1

/-- The closing beat interval counted for rail r, by its lowest sample in it (R117). -/
def Mach.railInterval (m : Mach) (r : Nat) : Mach :=
  m.modRail r fun x => { x with
    lowNow := x.mv, above := x.above.mapIdx fun i n => if m.recovery r (i + 1) < 1000 * x.lowNow then min (n + 1) 64 else 0 }

/-- What the rail monitors saw in the closing beat interval; a rail not listed held its latest sample. (DESIGN CHOICE, log 22) -/
def Mach.railsBeat (m : Mach) (obs : List RailObs) : Mach :=
  (List.range 9).foldl (fun m r =>
    match obs.find? fun o => o.rail.val == r with
    | some o => (m.railSample r o.mv (min o.low o.mv)).railInterval r
    | none => m.railInterval r) m

/-- Whether every rail that counts has exceeded its stage-k recovery level throughout the last 64 whole intervals. -/
def Mach.recovered (m : Mach) (k : Nat) : Bool :=
  (List.range 9).all fun r => !m.railOn r || vget (vget m.pwr.rails r).above (k - 1) == 64

/-! ### Domains (R91 to R96, R121, R130, R131) -/

/-- The rails of domain d (ch. 03, Model). -/
def domRails (d : Nat) : List Nat := [[0, 7, 8], [1], [3], [2], [1, 6], [4, 5, 1], [4, 5, 1], [3, 8]].getD d []

/-- The stage that sheds domain d (R112). -/
def domStage (d : Nat) : Nat := if d = 6 then 1 else if d = 2 ∨ d = 3 then 5 else 6

/-- Whether domain d is to be on (R92): requested, shed by no stage, and not kept off by the check of R130. -/
def Mach.domWant (m : Mach) (d : Nat) : Bool :=
  d == 0 || (bitOf (m.pval 0x501) d && !m.stageOn (domStage d) && !m.pwr.heldOff.getLsbD d)

/-- The state of domain d set. -/
def Mach.setDom (m : Mach) (d : Nat) (s : DomSt) : Mach := { m with pwr := { m.pwr with dom := vset m.pwr.dom d s } }

/-- Domain d, not KEEP, switched off with all that ends there (R112, R366, R471, R641); `cause` is the link-down cause.
(DEDUCED, log 33) (DEDUCED, log 41) -/
def Mach.domOff (m : Mach) (d cause : Nat) : Mach :=
  if vget m.pwr.dom d == .off then m
  else
    let m1 := m.setDom d .off
    match d with
    | 1 => { m1 with tim := { m1.tim.source true true with ckoParked := true, timeValid := false, core := { m1.tim.core with active := false, lock := false, again := false } } }
    | 2 => m1.powerFronts.auxOff
    | 3 =>
      let m2 := m1.mintStop.gateSlices
      let m3 := { m2 with tim := { m2.tim with synth := { m2.tim.synth with active := false, lock := false, again := false }, synthLock := false, ckoParked := true } }
      m3.trimIdle.mintUpdate
    | 4 =>
      let kept := m1.store.st == .trained
      { m1 with store := { m1.store with
        st := .untrained, kept, selfRef := kept, accessed := false, srCnt := if kept && !m1.store.selfRef then m1.store.srCnt + 1 else m1.store.srCnt } }
    | 5 => m1.portsSettle cause
    | 6 => m1.scanOff
    | 7 => ({ m1 with mnt := { m1.mnt with released := false } } : Mach).mintUpdate
    | _ => m1

/-- RAIL_ABSENT (R131). -/
def Mach.railAbsent (m : Mach) (r : Nat) : Mach := m.logEvent .management 0x0203 0 r none (some 1)

/-- A domain's rails checked before its first switch-on (R130): with one below its stage-1 recovery level the domain stays off, and the
rail is absent, logged once the read-in is done (R131). KEEP, which has no switch, is not checked. (DEDUCED, log 25) -/
def Mach.railCheck (m : Mach) (d : Nat) : Mach :=
  if m.pwr.checked.getLsbD d then m
  else
    let low := (domRails d).filter fun r => decide (1000 * (vget m.pwr.rails r).mv < m.recovery r 1)
    let m1 := { m with pwr := { m.pwr with
      checked := m.pwr.checked ||| (1 <<< d), heldOff := if low.isEmpty then m.pwr.heldOff else m.pwr.heldOff ||| (1 <<< d) } }
    low.foldl (fun m r =>
      let m1 := m.modRail r fun x => { x with absent := true }
      if m1.boot.readIn && !(vget m.pwr.rails r).absent then m1.railAbsent r else m1) m1

/-- A domain's switch-on starts (R94), after the check of its rails, where it is to be on and is off. -/
def Mach.switchOn (m : Mach) (d : Nat) : Mach :=
  let m1 := m.railCheck d
  if m1.domWant d && vget m1.pwr.dom d == .off then m1.setDom d .switching else m1

/-- The next domain waiting switched on in R121's order, once the one before it is usable; MINT, LINK and SCAN after the
read-in (R250). At most n domains are passed over. -/
def Mach.switchNextN : Nat → Mach → Mach
  | 0, m => m
  | n + 1, m =>
    if (List.range 8).any fun d => vget m.pwr.dom d == .switching then m
    else match m.pwr.switchQ with
      | [] => m
      | d :: q => if 5 ≤ d && !m.boot.readIn then m else switchNextN n (({ m with pwr := { m.pwr with switchQ := q } } : Mach).switchOn d)

/-- The next domain waiting switched on. -/
def Mach.switchNext (m : Mach) : Mach := switchNextN 8 m

/-- Domains that are to be on and are off, put in R121's order into the switch-on queue. (DEDUCED, log 108) -/
def Mach.queueDomains (m : Mach) : Mach :=
  let q := [1, 4, 2, 3, 7, 5, 6].filter fun d => m.pwr.switchQ.contains d || (m.domWant d && vget m.pwr.dom d == .off)
  ({ m with pwr := { m.pwr with switchQ := q } } : Mach).switchNext

/-- DOMAIN_USABLE (R94): domain d becomes usable. -/
def Mach.domUsable (m : Mach) (d : Nat) : Mach :=
  if vget m.pwr.dom d != .switching then m
  else
    let m1 := m.setDom d .usable
    let m2 := match d with
      | 1 =>
        let m2 := { m1 with ctl := { m1.ctl with keep := [], inKeep := false }, pwr := { m1.pwr with fromStage6 := false }, tim := (m1.tim.source true false).firstWindow }
        (m2.coreRelock (if m.pwr.fromStage6 then 3 else 0)).ldgCoreOn
      | 2 => m1.frontUp
      | 3 => m1.sliceUp.synthRelock
      | 4 => m1.trainingStart
      | 5 => m1.portsSettle 8
      | 6 => m1.scanStart
      | 7 => m1.mintUp
      | _ => m1
    m2.switchNext

/-- PWR_DOMEN_WRITE (R92, R94): a domain whose request ends is switched off, one newly requested switched on at this beat; while CORE
or the read-in is not ready for it, it waits in R121's order. (DEDUCED, log 108) -/
def Mach.domEnable (m : Mach) (v : Word) : Mach :=
  let was := m.pval 0x501
  let m1 := [6, 5, 7, 3, 2, 4].foldl (fun m d => if m.domWant d then m else m.domOff d 8) (m.pset 0x501 (v ||| 3))
  let go (d : Nat) : Bool := bitOf v d && !bitOf was d && !m1.pwr.switchQ.contains d && m1.domUp 1 && m1.boot.readIn
  (([6, 5, 7, 3, 2, 4].filter go).foldl Mach.switchOn m1).queueDomains

/-- Whether a commit of master k that makes `PWR.DOMEN` the value v is refused (R93). -/
def Mach.domRefused (m : Mach) (k : Master) (v : Word) : Bool :=
  let clears (d : Nat) : Bool := bitOf (m.pval 0x501) d && !bitOf v d
  ((clears 2 || clears 3 || clears 4) && m.running)
  || (clears 4 && m.tels.ch.toList.any fun t => t.st != .idle && t.st != .halted)
  || (clears 7 && m.trm.st != .held)
  || (clears 5 && k == .host)

/-! ### Stage entry (R109 to R116, R124) -/

/-- The shed record of a stage-6 entry now (R124): its bytes before and after those of VDD_KEEP, which come at the end of the write. -/
def Mach.shedRecord (m : Mach) (rail : Nat) : List Byte × List Byte :=
  let age (k : Nat) : Nat :=
    let ns := (m.tim.mono - vget m.pwr.entryTime k) / uNs
    if m.pwr.entered.getLsbD k && decide (ns < 2 ^ 32) then ns else 0xFFFFFFFF
  (leBytes m.beat 8 ++ leBytes m.now.toNat 12 ++ leBytes rail 1 ++ leBytes m.pwr.entered.toNat 1,
   (List.range 6).flatMap (fun k => leBytes (age k) 4) ++ leBytes (vget m.pwr.low rail) 2 ++ List.replicate 6 0)

/-- The 64 bytes of a shed record whose write ends with VDD_KEEP at `keep` mV (R124). -/
def shedBytes (r : List Byte × List Byte) (keep : Nat) : List Byte :=
  let body := r.1 ++ leBytes keep 2 ++ leBytes (ofInt ((keep : Int) - 700) 16) 2 ++ [0, 0] ++ r.2
  body ++ leBytes (crc32c body).toNat 4

/-- The shed record in progress ended at a beat boundary, in the ring's oldest entry, with its first n bytes written; whole it is a
valid entry (R101, R124, R125). (DESIGN CHOICE, log 20) -/
def Mach.shedWritten (m : Mach) (n : Nat) : Mach :=
  match m.pwr.record with
  | none => m
  | some r =>
    let i := m.vlt.nv.shedNext % 8
    { m.poke (vaultBase + 0xF_0000 + 64 * i) ((shedBytes r (vget m.pwr.rails 0).mv).take n) with
      pwr := { m.pwr with record := none, shedOk := if 64 ≤ n then m.pwr.shedOk ||| (1 <<< i) else m.pwr.shedOk }
      vlt := { m.vlt with nv := { m.vlt.nv with shedNext := (i + 1) % 8 } } }

/-- What entering stage 6 ends (R112, R209, R230, R244, R534, R675, R697). (DEDUCED, log 18) (DEDUCED, log 20) -/
def Mach.stageSix (m : Mach) (rail : Nat) : Mach :=
  let m1 := ((m.discard .spi).discard .host).dropInserts none
  let m2 := { m1 with ctl := { m1.ctl with keep := [], inKeep := true }, pwr := { m1.pwr with fromStage6 := true } }
  let m3 := if m2.vlt.op.isSome then { m2 with vlt := { m2.vlt with op := none, st := 3, cause := 13 } } else m2
  let m4 := ((m3.sealFails 9).telAbandon).asyStop
  let m5 := (((m4.domOff 4 7).domOff 5 7).domOff 7 7).domOff 1 7
  { m5 with pwr := { m5.pwr with record := some (m5.shedRecord rail), shedOk := m5.pwr.shedOk &&& ~~~((1 : BitVec 8) <<< (m5.vlt.nv.shedNext % 8)) } }

/-- The actions of stage k on entering it (R112, R262, R373). (DEDUCED, log 33) -/
def Mach.stageAction (m : Mach) (k rail : Nat) : Mach :=
  match k with
  | 1 => m.domOff 6 7
  | 2 => ({ m with tels := { m.tels with shared := Vector.replicate 4 163840, sharedAt := m.tim.mono } } : Mach).portsSettle 7
  | 3 => (if m.running && m.qre.cfg.preset != 0 then m.shedQuire else m).ldgStop
  | 4 =>
    let m1 : Mach := { m.shedQuire with pwr := { m.shedQuire.pwr with in34Down := true } }
    let m2 := { m1 with tim := { m1.tim with synth := { m1.tim.synth with active := false, again := false } }
                        fe := { m1.fe with cal := if m1.fe.cal == CalSt.running then CalSt.notRun else m1.fe.cal } }
    let g := groupsOf m2.fe.mode
    m2.undecide fun e =>
      let k := m2.entrySrc e - 1
      decide (k < 4) && !m2.slicePowered (64 * k + 64 * (g - 1))
  | 5 => ((m.shedQuire.domOff 3 7).domOff 2 7).mintUpdate
  | _ => m.stageSix rail

/-- One stage entered (R110, R111): counted and logged. -/
def Mach.noteEntry (m : Mach) (k rail : Nat) (first : Bool) : Mach :=
  let m1 := { m with pwr := { m.pwr with
    cnt := m.pwr.cnt + 1, lastRail := BitVec.ofNat 4 rail, lastStage := BitVec.ofNat 3 k, stgCnt := vmod m.pwr.stgCnt (k - 1) (· + 1)
    entered := m.pwr.entered ||| (1 <<< (k - 1)), entryTime := vset m.pwr.entryTime (k - 1) m.tim.mono } }
  m1.logEvent .management 0x0201 k rail none (if first then some 1 else none)

/-- SHED_ENTER (R104, R109 to R112): rail r crosses the thresholds that its last `PWR.FILT` samples, newest first, all lie below.
(DESIGN CHOICE, log 22) (DEDUCED, log 95) -/
def Mach.shedEnter (m : Mach) (r : Nat) (samples : List Nat) : Mach :=
  let m0 := m.railSample r (samples.headD 0) (samples.foldl min (samples.headD 0))
  let run := samples.take (m0.pnat 0x50B)
  let on (k : Nat) : Bool := decide (5 ≤ k) || bitOf (m0.pval 0x503) (k - 1)
  let crossed := (List.range 7).filter fun k =>
    k != 0 && m0.railOn r && on k && decide (run.length = m0.pnat 0x50B) && run.all fun mv => decide (1000 * mv < m0.threshold r k)
  let top := crossed.getLastD 0
  if top ≤ m0.pwr.stage then m0
  else
    let was := m0.pwr.stage
    let news := (List.range 7).filter fun k => decide (was < k) && decide (k ≤ top) && on k
    let m1 := { m0 with pwr := { m0.pwr with stage := top, hold := m0.pwr.hold || decide (4 ≤ top), low := if was = 0 then vmap (fun (x : Rail) => x.mv) m0.pwr.rails else m0.pwr.low } }
    let m2 := news.foldl (fun m k => m.noteEntry k r (was == 0 && some k == news.head?)) m1
    (news.foldl (fun m k => m.stageAction k r) (m2.chainFail 14)).switchNext

/-! ### Recovery (R117 to R123) -/

/-- Groups 2 and 3 powered again once stage 4 no longer applies (R94, R112, R295). (DEDUCED, log 24) -/
def Mach.slicesBack (m : Mach) : Mach :=
  if m.pwr.in34Down && !m.stageOn 4 then
    let m1 := { m with pwr := { m.pwr with in34Down := false } }
    if m1.domUp 3 then m1.sliceUp.synthRelock else m1
  else m

/-- A landing `PWR.STGEN` (R107), with its value before: the actions of a stage in force that is newly enabled begin, those of one
disabled end. (DEDUCED, log 23) -/
def Mach.stagesSettle (m : Mach) (old : Word) : Mach :=
  let begins (k : Nat) : Bool := m.stageOn k && !bitOf old (k - 1)
  let m1 := ([1, 2, 3, 4].filter begins).foldl (fun m k => m.stageAction k m.pwr.lastRail.toNat) m
  ((m1.slicesBack.queueDomains).portsSettle 7).mintUpdate

/-- Stages left down to stage `low` (R121): logged in descending order, and the domains they shed switched back on. (DEDUCED, log 24) -/
def Mach.leaveStages (m : Mach) (low : Nat) : Mach :=
  let was := m.pwr.stage
  if was ≤ low then m
  else
    let gone := ((List.range 7).filter fun k => decide (low < k) && decide (k ≤ was) && (decide (5 ≤ k) || bitOf (m.pval 0x503) (k - 1))).reverse
    let m1 := { m.noteNow with pwr := { m.pwr with stage := low, entered := if low = 0 then 0 else m.pwr.entered } }
    let m2 := gone.foldl (fun m k => m.logEvent .management 0x0202 k 0) m1
    (((m2.slicesBack.queueDomains.portsSettle 7).mintUpdate).asyStart).isoCheck

/-- The lowest stage that stays in force: the highest enabled one at or below the stage in force whose recovery level has not
held (R107, R117). -/
def Mach.stageKept (m : Mach) : Nat :=
  ((List.range 7).filter fun k =>
    k != 0 && decide (k ≤ m.pwr.stage) && (decide (5 ≤ k) || bitOf (m.pval 0x503) (k - 1)) && !m.recovered k).getLastD 0

/-- SHED_EXIT (R117, R118): stages 1 to 3 left by themselves, at a beat boundary. -/
def Mach.shedExit (m : Mach) : Mach := if m.pwr.hold || m.tim.clk != 0 then m else m.leaveStages m.stageKept

/-- PWR_RECOVER (R119, R120, R123): the commanded hold cleared when every rail has recovered from stage 4. -/
def Mach.pwrRecover (m : Mach) (v : Word) : Mach :=
  if bitOf v 0 && m.pwr.hold && m.recovered 4 then ({ m with pwr := { m.pwr with hold := false } } : Mach).shedExit else m

/-- RAIL_RETURN (R131): domains kept off whose rails have all exceeded their stage-1 recovery levels for 64 intervals switch on, and
those rails count again; before the read-in too. (DESIGN CHOICE, log 109) -/
def Mach.railReturn (m : Mach) : Mach :=
  let back := (List.range 8).filter fun d =>
    m.pwr.heldOff.getLsbD d && (domRails d).all fun r => vget (vget m.pwr.rails r).above 0 == 64
  if back.isEmpty then m
  else
    (back.foldl (fun m d => (domRails d).foldl (fun m r => m.modRail r fun x => { x with absent := false })
      { m with pwr := { m.pwr with heldOff := m.pwr.heldOff &&& ~~~((1 : BitVec 8) <<< d) } }) m).queueDomains

end Sys2Proof.Machine
end

