-- ==== Sys2Proof/Machine/Checks.lean ====
section
/-! DEFINITION. Machine/Checks.lean: the value checks of a STAGE (check 7 of R147) and the whole-commit checks of R176. -/

namespace Sys2Proof.Machine

/-! ### Values (R160, R189, R393, R394, R461) -/

/-- The highest qualifier of each kind of clearing entry (R394). -/
def maxQualifier (kind : Nat) : Nat := [0, 2, 2, 1, 1, 1, 1, 1].getD kind 0

/-- Whether a word is admitted as `CLR.CTL_e` (R378, R393, R394). -/
def clrCtlOk (v : Nat) : Bool :=
  decide (v &&& 0xFF882000 = 0) && decide (1 ≤ nfld v 1 3) && decide (nfld v 1 3 ≤ 5) && decide (nfld v 4 4 ≤ 7)
    && decide (nfld v 8 2 ≤ maxQualifier (nfld v 4 4)) && decide (nfld v 10 3 ≤ 4) && decide (nfld v 16 3 ≤ 4)
    && !(nfld v 1 3 == 5 && (nfld v 4 4 == 2 || nfld v 4 4 == 4 || nfld v 4 4 == 5))

/-- Whether a word is admitted as `QRE.MEMCFG` (R461, R474). -/
def memCfgOk (v : Nat) : Bool :=
  decide (v < 256) && decide (nfld v 0 3 ≤ 4) && decide (nfld v 3 2 ≤ 1) && decide (8 ≤ memGiB v) && decide (memGiB v ≤ 64)

/-- Whether a word is admitted as an escrow range (R189). -/
def escRangeOk (v : Word) : Bool :=
  let lo := fld v 0 16
  let hi := fld v 16 16
  v == 0 || (decide (0x100 ≤ lo) && decide (lo ≤ hi) && (decide (hi < 0x600) || decide (0x6FF < lo)))

/-- Whether a check admits a word. -/
def Chk.ok (c : Chk) (v : Word) : Bool :=
  match c with
  | .mask m => v.toNat &&& m == v.toNat
  | .rng lo hi => decide (lo ≤ v.toNat) && decide (v.toNat ≤ hi)
  | .srng lo hi => decide (lo ≤ v.toInt) && decide (v.toInt ≤ hi)
  | .oneOf vs => vs.contains v.toNat
  | .fields m fs => v.toNat &&& m == v.toNat && fs.all fun (lo, n, a, b) => decide (a ≤ fld v lo n) && decide (fld v lo n ≤ b)
  | .orZero lo hi => v == 0 || (decide (lo ≤ v.toNat) && decide (v.toNat ≤ hi))
  | .clrCtl => clrCtlOk v.toNat
  | .memCfg => memCfgOk v.toNat
  | .escRng => escRangeOk v

/-- Whether a STAGE of v to the defined address a passes check 7 of R147, the master and the stage apart. (DESIGN CHOICE, log 100) -/
def valueOk (a : Nat) (v : Word) : Bool :=
  match rowOf a with
  | some r => r.acc != .ro && r.chk.ok v
  | none => false

/-! ### Whole-commit checks (R176 check 3, R177) -/

/-- The value that a commit leaves at an address: its change, or the value at the start of the beat's work. -/
def Mach.withChanges (m : Mach) (ch : PMap) (a : Nat) : Word := (ch.lookup a).getD (m.pval a)

/-- Whether a commit arms a quire. -/
def arms (ch : PMap) : Bool := bitOf ((ch.lookup 0xC00).getD 0) 0

/-- Whether two different locks' ranges share an address, by these range words (R190). -/
def locksOverlap (val : Nat → Word) : Bool :=
  let ranges := (List.range 32).filterMap fun i =>
    let v := val (0x640 + i)
    if v == 0 then none else some (i / 4, fld v 0 16, fld v 16 16)
  ranges.any fun (n, lo, hi) => ranges.any fun (k, a, b) => n != k && decide (lo ≤ b) && decide (a ≤ hi)

/-- Whether the stage thresholds of these values rise strictly (R105). -/
def thresholdsRise (val : Nat → Word) : Bool :=
  (List.range 5).all fun i => decide ((val (0x504 + i)).toNat < (val (0x505 + i)).toNat)

/-- Whether a commit writes any of the addresses. -/
def writesAny (ch : PMap) (p : Nat → Bool) : Bool := ch.any fun e => p e.1

/-- An arm refused by the clocks or by shedding (R70, R112, R113), with the commit's own changes applied; preset OPEN ignores
`DEC.PEAK` (R421). (DEDUCED, log 23) -/
def Mach.armRefused (m : Mach) (ch : PMap) : Bool :=
  let v := m.withChanges ch
  arms ch && (!m.tim.slices || m.stageOn 5
    || (m.stageOn 4 && (decide (4 ≤ fld (v 0xC03) 0 4) || v 0x840 == 2))
    || (decide (3 ≤ m.pwr.stage) && v 0xB00 != 0))

/-- Whether a change of the Volume settings is refused (R712). -/
def Mach.volRefused (m : Mach) (ch : PMap) : Bool :=
  let v := m.withChanges ch
  m.running && (bitOf (v 0x2900) 0 != m.volOn || v 0x2901 != m.pval 0x2901 || v 0x2902 != m.pval 0x2902)

/-- Whether a whole-commit check of R176 check 3 fails for a commit of master k. (DEDUCED, log 21) -/
def Mach.commitRefused (m : Mach) (k : Master) (ch : PMap) : Bool :=
  m.armRefused ch
  || (match ch.lookup 0x501 with | some v => m.domRefused k v | none => false)
  || (writesAny ch (fun a => 0x504 ≤ a && a ≤ 0x509) && !thresholdsRise (m.withChanges ch))
  || (bitOf ((ch.lookup 0x50C).getD 0) 0 && !m.recovered 4)
  || (m.ctl.win.st == 1 && writesAny ch (fun a => (0x40 ≤ a && a ≤ 0x42) || (0x50 ≤ a && a ≤ 0x5F)))
  || (writesAny ch (fun a => 0x640 ≤ a && a < 0x660) && locksOverlap (m.withChanges ch))
  || m.volRefused ch
  || ((ch.lookup 0x2905).isSome && (!m.isPrincipal || m.running || m.vol.st != .formed))

/-! ### Acquisition blocks (R178) -/

/-- Whether an expert address lies in an acquisition block. -/
def acqExpert (a : Nat) : Bool :=
  (0x800 ≤ a && a < 0x900) || (0xA00 ≤ a && a < 0xE00) || (0x1000 ≤ a && a < 0x1A00) || (0x2000 ≤ a && a < 0x2600)

/-- Whether a basic parameter derives an expert parameter of an acquisition block (R837 to R839). -/
def acqBasic (a : Nat) : Bool :=
  (0x100 ≤ a && a < 0x134) || (0x140 ≤ a && a < 0x164 && a != 0x141 && a != 0x148) || (0x200 ≤ a && a < 0x3C0)

/-- Whether a change of the address touches an acquisition block. -/
def touchesAcq (a : Nat) : Bool := acqExpert a || acqBasic a

end Sys2Proof.Machine
end

