-- ==== Sys2Proof/Machine/Vault.lean ====
section
/-! DEFINITION. Machine/Vault.lean: the records an image may hold, program, erase, export, scrub and powered time (ch. 06, 24). -/

namespace Sys2Proof.Machine

/-! ### Records (R220 to R223) -/

/-- Whether a kind admits an address (R221). -/
def addrOk (kind a : Nat) : Bool :=
  match rowOf a with
  | none => kind = 4 && a == 0xFFFF
  | some r =>
    let rw := r.acc == .rw || r.acc == .rwp
    if kind = 1 then rw && ((!(decide (a < 0x100)) && !(decide (0x500 ≤ a) && decide (a < 0x600)) && !(decide (0x700 ≤ a) && decide (a < 0x800)))
      || a == 4 || a == 0x783)
    else if kind = 2 then r.ins
    else kind = 3 && decide (0x502 ≤ a) && decide (a ≤ 0x50B)

/-- Whether one record obeys R220 to R223, the order apart. -/
def recordOk (kind : Nat) (r : Nat × Nat × Word) : Bool :=
  addrOk kind r.1 && (r.2.1 == 0 || (r.2.1 == 1 && kind = 1 && isRwp r.1))
    && (if kind = 4 then decide (r.2.2.toNat < 2 ^ 14) else valueOk r.1 r.2.2)

/-- Whether addresses rise strictly (R220). -/
def risingFrom : Nat → List Nat → Bool
  | _, [] => true
  | lo, a :: t => decide (lo ≤ a) && risingFrom (a + 1) t

/-- Whether the records of an image of a kind obey R220 to R223. -/
def recordsOk (kind : Nat) (bs : List Byte) : Bool :=
  let rs := imgRecords bs
  let val (a : Nat) : Word := match rs.find? fun r => r.1 == a with | some r => r.2.2 | none => resetOf a
  risingFrom 0 (rs.map (·.1)) && rs.all (recordOk kind) && (kind != 3 || thresholdsRise val) && (kind != 1 || !locksOverlap val)

/-! ### Operations (R224 to R230, R245, R246) -/

/-- Where a program reads and an export writes. -/
def Mach.vaultSrc (m : Mach) : Nat := m.pnat 0x703 * 2 ^ 32 + m.pnat 0x702
/-- The destination of an export. -/
def Mach.vaultDst (m : Mach) : Nat := m.pnat 0x705 * 2 ^ 32 + m.pnat 0x704

/-- An operation refused with its cause; one that runs continues (R225 check 1). A program refused after its image was read leaves its
length (R248). -/
def Mach.vaultRefuse (m : Mach) (op cause : Nat) : Mach :=
  let read := op == 1 && (cause == 4 || cause == 9 || cause == 10)
  if read then { m with vlt := { m.vlt with st := 3, lastOp := 1, cause := BitVec.ofNat 8 cause, len := w32 (readNat m.mem (m.vaultSrc + 24) 4) } }
  else if m.vlt.op.isSome then { m with vlt := { m.vlt with cause := BitVec.ofNat 8 cause } }
  else { m with vlt := { m.vlt with st := 3, lastOp := BitVec.ofNat 4 op, cause := BitVec.ofNat 8 cause } }

/-- An operation started. -/
def Mach.vaultStart (m : Mach) (op : Nat) (o : VaultOp) : Mach :=
  { m with vlt := { m.vlt with st := 1, lastOp := BitVec.ofNat 4 op, cause := 0, op := some o } }

/-- Whether slot n holds the active insert or is named by a queued request (R225 check 11). -/
def Mach.slotBusy (m : Mach) (sec : Nat) : Bool :=
  decide (1 ≤ sec) && decide (sec ≤ 31) && (m.ins.active == sec || m.ins.queue.any fun r => r.slot == sec)

/-- The first check of R225 that a program fails, as its cause; 0 when checks 1 to 11 pass. (DEDUCED, log 76) -/
def Mach.programFault (m : Mach) : Nat :=
  let src := m.vaultSrc
  let hdr := readBytes m.mem src 64
  let len := imgNum hdr 24 4
  if m.vlt.op.isSome then 11
  else if !m.ddrUp then 2
  else if !m.inDdr src 64 || (headerOk hdr && !m.inDdr src len) then 1
  else if !headerOk hdr then 3
  else if !partOk hdr then 5
  else if imgNum hdr 16 8 != 0 && imgNum hdr 16 8 != m.vlt.serial.toNat then 6
  else match secOf (imgNum hdr 10 1) (imgNum hdr 11 1) with
    | none => 7
    | some sec =>
      if !lengthOk sec hdr then 8
      else
        let bs := readBytes m.mem src len
        if !imageCrcOk bs then 4
        else if !recordsOk (secKind sec) bs then 9
        else if m.slotBusy sec then 10
        else 0

/-- VAULT_PROGRAM (R224, R225). -/
def Mach.vaultProgram (m : Mach) : Mach :=
  let cause := m.programFault
  if cause != 0 then m.vaultRefuse 1 cause
  else
    let hdr := readBytes m.mem m.vaultSrc 64
    (m.vaultStart 1 (.program ((secOf (imgNum hdr 10 1) (imgNum hdr 11 1)).getD 0) (readBytes m.mem m.vaultSrc (imgNum hdr 24 4)))).touchDdr m.vaultSrc (imgNum hdr 24 4)

/-- VAULT_ERASE (R228) of the kind and slot in v. -/
def Mach.vaultErase (m : Mach) (v : Word) : Mach :=
  if m.vlt.op.isSome then m.vaultRefuse 2 11
  else match secOf (fld v 4 4) (fld v 8 5) with
    | none => m.vaultRefuse 2 7
    | some sec => if m.slotBusy sec then m.vaultRefuse 2 10 else m.vaultStart 2 (.erase sec)

/-- The length of an export (R245). -/
def exportLen : Nat := 393796

/-- The header of an export started now (R218, R245), before its CRC-32C. -/
def Mach.exportHeader (m : Mach) : List Byte :=
  [0x4A, 0x56, 0x4C, 0x54] ++ leBytes 1 2 ++ leBytes 0x4810 2 ++ leBytes 1 2 ++ [6, 0]
    ++ leBytes ((List.range 16).countP fun s => m.cal.valid.getLsbD s) 4 ++ leBytes m.vlt.serial.toNat 8 ++ leBytes exportLen 4
    ++ leBytes (m.vlt.powered % 2 ^ 32) 4 ++ leBytes m.now.toNat 12 ++ List.replicate 16 0

/-- The whole export as of now (R245, R246): certificates, the log ring and the shed records, each ring oldest first. (DEDUCED, log 78) -/
def Mach.exportBytes (m : Mach) : List Byte :=
  let h := m.exportHeader
  let ring (a n size first : Nat) : List Byte := (List.range n).flatMap fun i => readBytes m.mem (a + size * ((first + i) % n)) size
  let wrapped := readBytes m.mem (logAddr (m.flt.written % 4096)) 32 != List.replicate 32 0
  let shedFull := readBytes m.mem (vaultBase + 0xF_0000 + 64 * (m.vlt.nv.shedNext % 8)) 64 != List.replicate 64 0
  let body := h ++ leBytes (crc32c h).toNat 4
    ++ (List.range 16).flatMap (fun s => if m.cal.valid.getLsbD s then readBytes m.mem (certBase s) 0x4000 else List.replicate 0x4000 0)
    ++ ring (logAddr 0) 4096 32 (if wrapped then m.flt.written % 4096 else 0)
    ++ ring (vaultBase + 0xF_0000) 8 64 (if shedFull then m.vlt.nv.shedNext else 0)
  body ++ leBytes (crc32c body).toNat 4

/-- VAULT_EXPORT (R245). -/
def Mach.vaultExport (m : Mach) : Mach :=
  if m.vlt.op.isSome then m.vaultRefuse 3 11
  else if !m.ddrUp then m.vaultRefuse 3 2
  else if !m.inDdr m.vaultDst exportLen then m.vaultRefuse 3 1
  else m.vaultStart 3 (.exporting m.vaultDst m.exportBytes)

/-- A landing `VLT.CTL` (R224, R248). -/
def Mach.vaultCtl (m : Mach) (v : Word) : Mach :=
  match fld v 0 2 with
  | 1 => m.vaultProgram
  | 2 => m.vaultErase v
  | 3 => m.vaultExport
  | _ => m

/-- A bank written with an image, the rest of the bank 0. (DEDUCED, log 75) -/
def Mach.writeBank (m : Mach) (sec : Nat) (b : Bool) (bytes : List Byte) : Mach :=
  let a := vaultBase + bankOffset sec b
  ({ m with mem := clearBytes m.mem a (bankSize sec) } : Mach).poke a bytes

/-- The section's bank b activated after a program (R226, R229, R248). (DEDUCED, log 77) -/
def Mach.activateBank (m : Mach) (sec : Nat) (b : Bool) (bytes : List Byte) : Mach :=
  let nv := m.vlt.nv.record sec (some b)
  let m1 := { m with vlt := { m.vlt with nv, copyB := nv.governing == some true } }
  if sec = 0 then { m1 with vlt := { m1.vlt with baseBank := some b } }
  else if sec = 32 then { m1 with vlt := { m1.vlt with polBank := some b } }
  else if sec = 33 then { m1 with vlt := { m1.vlt with mintBank := some b, mintCode := some (BitVec.ofNat 14 (imgNum bytes 68 4)) } }
  else m1.slotValid sec true

/-- A Vault operation ends with a status and a length. -/
def Mach.vaultEnd (m : Mach) (st : BitVec 2) (cause : BitVec 8) (len : Nat) : Mach :=
  { m with vlt := { m.vlt with op := none, st, cause, len := w32 len } }

/-- VAULT_OP_DONE (R226 to R229, R245); `bad` lists Vault words that the readback or the export found uncorrectable (R216). A Mint power-up
code that was erased is used until the next read-in. (DEDUCED, log 77) (DESIGN CHOICE, log 115) -/
def Mach.vaultDone (m : Mach) (e : VaultEnd) (bad : List Nat) : Mach :=
  match m.vlt.op with
  | none => m
  | some (.program sec bytes) =>
    if e == .uncorrectable then m.vaultEnd 3 14 bytes.length
    else
      let b := match m.vlt.nv.active sec with | some false => true | _ => false
      let m1 := m.writeBank sec b bytes
      if e == .readback || !bad.isEmpty then (m1.vaultHit bad).vaultEnd 3 12 bytes.length else (m1.activateBank sec b bytes).vaultEnd 2 0 bytes.length
  | some (.erase sec) =>
    let nv := m.vlt.nv.record sec none
    let m1 := { m with vlt := { m.vlt with nv, copyB := nv.governing == some true } }
    (if 1 ≤ sec ∧ sec ≤ 31 then m1.slotValid sec false else m1).vaultEnd 2 0 m.vlt.len.toNat
  | some (.exporting dst bytes) =>
    if e == .uncorrectable then m.vaultEnd 3 14 bytes.length
    else (((m.poke dst bytes).touchDdr dst bytes.length).vaultHit bad).vaultEnd 2 0 bytes.length

/-- A reset in the middle of a program (R101, R255): the first `words` 64-bit words of the operation are written, the image
before the 256 words of the directory copy; a copy cut short fails its CRC-32C. -/
def Mach.vaultCut (m : Mach) (words : Nat) : Mach :=
  match m.vlt.op with
  | some (.program sec bytes) =>
    let b := match m.vlt.nv.active sec with | some false => true | _ => false
    let all := (bytes.length + 7) / 8
    let m1 := m.poke (vaultBase + bankOffset sec b) (bytes.take (8 * words))
    if words ≤ all then m1
    else if all + 256 ≤ words then m1.activateBank sec b bytes
    else if m.vlt.nv.governing == some false then { m1 with vlt := { m1.vlt with nv := { m1.vlt.nv with dirB := { m1.vlt.nv.dirB with ok := false } } } }
    else { m1 with vlt := { m1.vlt with nv := { m1.vlt.nv with dirA := { m1.vlt.nv.dirA with ok := false } } } }
  | _ => m

/-! ### Errors, scrubs and powered time (R211 to R216) -/

/-- VAULT_SCRUB_START (R215): every 2,592,000 powered seconds. -/
def Mach.scrubStart (m : Mach) : Mach :=
  if !m.vlt.scrubbing && decide (m.vlt.nv.scrubEnd + 2592000 ≤ m.vlt.powered) then { m with vlt := { m.vlt with scrubbing := true } } else m

/-- VLT_SCRUBNOW (R215). -/
def Mach.scrubNow (m : Mach) (v : Word) : Mach := if bitOf v 0 then { m with vlt := { m.vlt with scrubbing := true } } else m

/-- VAULT_SCRUB (R215, R216, R698): a scrub ends with words corrected and words found uncorrectable. -/
def Mach.scrubbed (m : Mach) (corrected : Nat) (bad : List Nat) : Mach :=
  if !m.vlt.scrubbing then m
  else
    let m1 := { m with vlt := { m.vlt with
      scrubbing := false, eccCorr := m.vlt.eccCorr + BitVec.ofNat 16 corrected
      nv := { m.vlt.nv with corrected := BitVec.ofNat 16 corrected, scrubs := m.vlt.nv.scrubs + 1, scrubEnd := m.vlt.powered } } }
    (((m1.vaultEcc bad).slotsHit bad).checkCerts false bad |>.imagesHit bad).logEvent .management 0x0401 corrected bad.length

/-- POWERED_SECOND (R214): one powered second more, saved at each multiple of 3,600. -/
def Mach.poweredSecond (m : Mach) : Mach :=
  let p := m.vlt.powered + 1
  { m with vlt := { m.vlt with powered := p, nv := if p % 3600 = 0 then { m.vlt.nv with powered := p } else m.vlt.nv } }

end Sys2Proof.Machine
end

