-- ==== Sys2Proof/Machine/Land.lean ====
section
/-! DEFINITION. Machine/Land.lean: what a landing parameter does (R9, R18, R23 to R26, R39, R40, R165, R198, R236). -/

namespace Sys2Proof.Machine

/-! ### Values -/

/-- The landing of one value at address a (R23), with what that parameter starts at once. `k` is the master that wrote it.
(DEDUCED, log 36) (DEDUCED, log 55) -/
def Mach.landOne (m : Mach) (k : Option Master) (a : Nat) (v : Word) : Mach :=
  if 0x2000 ≤ a ∧ a < 0x2600 then m.landTap a v
  else if 0x2900 ≤ a ∧ a < 0x2903 then m.volConfig (a - 0x2900) v
  else if a = 0x501 then m.domEnable v
  else if a = 0x502 then m.pset a (v ||| 1)
  else if a = 0x503 then (m.pset a (v ||| 0x30)).stagesSettle (m.pval a)
  else if a = 0xF00 then m.spnCtl v
  else
    let m1 := m.land a v
    if 0x100 ≤ a ∧ a < 0x400 then { m1 with ctl := { m1.ctl with basicsLanded := m1.ctl.basicsLanded ++ [(a, k)] } }
    else if a = 0x401 then m1.refFreqLanded
    else if 0x900 ≤ a ∧ a < 0x904 then m1.mintRelease
    else if 0x904 ≤ a ∧ a < 0x907 then m1.mintReload
    else if a = 0x907 then m1.mintRate
    else if a = 0xA01 ∨ a = 0xA02 ∨ (a = 0xA03 ∧ bitOf v 0) then m1.auxHoldStart
    else if 0xA24 ≤ a ∧ a < 0xA28 then { m1 with trg := { m1.trg with seq := vset m1.trg.seq (a - 0xA24) none } }
    else if 0x1800 ≤ a ∧ a < 0x1A00 ∧ a % 8 < 6 then m1.entryLanded m ((a - 0x1800) / 8)
    else if a = 0xC0B ∨ a = 0xC0C then m1.watermark
    else if 0x2700 ≤ a ∧ a < 0x2780 then (m1.cfgLanded ((a - 0x2700) / 4)).isoCheck
    else if 0x2780 ≤ a ∧ a < 0x27A0 then m1.cfgLanded (a - 0x2780)
    else if 0x27C0 ≤ a ∧ a < 0x27D0 ∧ v ≠ m.pval a then m1.coefLanded ((a - 0x27C0) / 2)
    else if a = 0x27D0 then m1.asyCtl
    else if a = 0x27DB then m1.isoCheck
    else if a = 0x27F0 then m1.isoCtl
    else m1

/-- Whether the parameter at address a is quire-bound, the FIR taps apart. -/
def quireBound (a : Nat) : Bool :=
  (match rowOf a with | some r => r.cls == .quire | none => false) && !(0x2000 ≤ a && a < 0x2600)

/-- Values that one step lands together, rising by address (R23, R26, R39, R40): they become current, `pin` pins the RWP ones,
a written plane base requests a flip (R618), and the quire-bound ones whose landing point has come are taken into use
together. -/
def Mach.landValues (m : Mach) (k : Option Master) (pin : Bool) (vs : PMap) : Mach :=
  let olds := (vs.filter fun e => quireBound e.1).map fun e => (e.1, m.use e.1)
  let dsp := (vs.map (·.1)).filter fun a => 0x2600 ≤ a && a < 0x2700
  let m0 := if dsp.any fun a => a == 0x2603 || a == 0x2604 then m.flipRequest else m
  let m1 := vs.foldl (fun m e => m.landOne k e.1 e.2) m0
  let m2 := if pin then vs.foldl (fun m e => m.pin e.1) m1 else m1
  let m3 := if dsp.isEmpty then m2 else m2.dspLanded dsp
  let m4 := m3.takeUse (olds.filter fun e => (m3.par.quire.lookup e.1).isNone)
  m4.serve

/-! ### Commands -/

/-- One insert request queued (R236, R237); a full queue refuses one of `INS.APPLY` with result 4. -/
def Mach.queueInsert (m : Mach) (k : Option Master) (apply : Bool) (slot : Nat) : Mach :=
  if m.ins.queue.length < 8 then
    { m with ins := { m.ins with queue := m.ins.queue ++ [{ apply, slot, master := k, after := m.tim.beats }] } }
  else { m with ins := { m.ins with result := 4 } }

/-- WINDOW_READ and WINDOW_WRITE (R165, R166): a window operation starts, unless one is running (R168). -/
def Mach.winStart (m : Mach) (v : Word) : Mach :=
  if m.ctl.win.st == 1 then m
  else { m with ctl := { m.ctl with win :=
    { st := 1, write := fld v 0 2 == 2, addr := m.pnat 0x41 * 2 ^ 32 + m.pnat 0x40, len := fld v 4 4 + 1 } } }

/-- Why a window operation transfers nothing (R167, R259); 0 for none. -/
def Mach.winFault (m : Mach) : Nat :=
  let w := m.ctl.win
  let inside (i : Nat) : Bool := m.inDdr (w.addr + 4 * i) 4 || inLedger (w.addr + 4 * i) 4 || inVault (w.addr + 4 * i) 4
  let ddr (i : Nat) : Bool := m.inDdr (w.addr + 4 * i) 4
  if !(List.range w.len).all inside then 1
  else if (List.range w.len).any ddr && !m.ddrUp then 2
  else if w.write && !(List.range w.len).all ddr then 3
  else 0

/-- The word at an engine address (R5). -/
def Mach.word (m : Mach) (a : Nat) : Word := w32 (readNat m.mem a 4)

/-- WINDOW_DONE (R166, R167): the operation ends. `ecc` is the first word whose read met an uncorrectable error. With no word transferred
`WIN.STAT`[7:4] is 0. (DESIGN CHOICE, log 116) -/
def Mach.winDone (m : Mach) (ecc : Option Nat) : Mach :=
  let w := m.ctl.win
  if w.st != 1 then m
  else if m.winFault != 0 then
    { m with ctl := { m.ctl with win := { w with st := 3, cause := BitVec.ofNat 4 m.winFault, words := 0 } } }
  else
    let m0 := if m.inDdr w.addr (4 * w.len) then m.touchDdr w.addr (4 * w.len) else m
    if w.write then
      let m1 := (List.range w.len).foldl (fun m i => m.poke (w.addr + 4 * i) (leBytes (m.pnat (0x50 + i)) 4)) m0
      { m1 with ctl := { m1.ctl with win := { w with st := 2, cause := 0, words := BitVec.ofNat 4 (w.len - 1) } } }
    else
      let bad : Bool := match ecc with | some i => decide (i < w.len) | none => false
      let n := match ecc with | some i => min i w.len | none => w.len
      let m1 := (List.range n).foldl (fun m i => m.pset (0x50 + i) (m.word (w.addr + 4 * i))) m0
      let m2 := if bad then m1.readEcc (w.addr + 4 * n) else m1
      { m2 with ctl := { m2.ctl with win :=
        { w with st := if bad then 3 else 2, cause := if bad then 4 else 0, words := BitVec.ofNat 4 (n - 1) } } }

/-- A landing write to a WO or W1C parameter that acts at once (R9); `k` wrote it, and `raised` are the alert classes raised
since its commit was sealed (R746). (DEDUCED, log 8) -/
def Mach.landCommand (m : Mach) (k : Option Master) (raised : BitVec 11) (a : Nat) (v : Word) : Mach :=
  if 0xE00 ≤ a ∧ a < 0xF00 then
    let c := (a - 0xE00) / 16
    if a % 16 = 0 then m.telCtl c v else m.modTel c fun t => { t with irq := t.irq &&& ~~~(v.setWidth 4) }
  else
    match a with
    | 0x14 => m.alertClear v raised
    | 0x40D => m.setArm v
    | 0x413 => m.adjRequest v
    | 0x415 => m.relockRetry v
    | 0x50C => m.pwrRecover v
    | 0x70F => m.scrubNow v
    | 0x911 => m.complyClear v
    | 0x912 => m.faultClear v
    | 0xB02 => m.firdef v
    | 0xC00 => m.armLand v
    | 0xC01 => m.qreStop v
    | 0xC0D => m.qreRelease v
    | 0xD05 => m.ldgClose v
    | 0xD06 => m.ldgFree v
    | 0xD47 => m.histClear v
    | 0xF01 => m.spnRetrain v
    | 0x261B => m.dpRetrain v
    | 0x2621 => m.modDsp fun d => { d with badMode := d.badMode &&& ~~~v }
    | 0x27D3 => m.kickLanded v
    | 0x27D4 => m.trkClear v
    | 0x27D5 => { m with asy := { m.asy with fresh := m.asy.fresh &&& ~~~v } }
    | 0x27D6 => m.calCmd v
    | 0x27DA => m.owClear v
    | 0x27E9 => { m with asy := { m.asy with limStat := m.asy.limStat &&& ~~~(v.setWidth 4) } }
    | 0x2804 => m.calRun v
    | 0x2805 => m.calAbort v
    | 0x2809 => m.draftClear v
    | 0x2905 => m.ringCal v
    | 0x2A03 => m.fltTest k v
    | _ => m

/-- A landing write that takes effect after every other change of its commit (R165, R198, R224, R236, R696). `bad` says that a
certificate annex word was uncorrectable. (DEDUCED, log 8) -/
def Mach.landLast (m : Mach) (k : Option Master) (bad : Bool) (a : Nat) (v : Word) : Mach :=
  match a with
  | 0x42 => m.winStart v
  | 0x600 =>
    let m1 := if bitOf v 0 then m.sessionReset .spi 2 else m
    if bitOf v 1 then m1.sessionReset .host 3 else m1
  | 0x701 => m.vaultCtl v
  | 0x780 => m.queueInsert k (fld v 8 2 == 1) (fld v 0 5)
  | 0x280A => m.calSeal v bad
  | _ => m

/-- Whether writing the address is a command of `landLast`. -/
def landsLast (a : Nat) : Bool := a == 0x42 || a == 0x600 || a == 0x701 || a == 0x780 || a == 0x280A

/-- Whether the address holds a value: RW or RWP, and the quire-bound `QRE.MEMRETRAIN`, which waits like one (R23). -/
def holdsValue (a : Nat) : Bool :=
  a == 0xC43 || match rowOf a with | some r => r.acc == .rw || r.acc == .rwp | none => false

/-! ### Pins (R42, R208, R855) -/

/-- UNPIN (R42, R207, R208, R855): a landing `ID.UNPIN` of master k, by the locks and range words of this beat's step 1. -/
def Mach.unpinWrite (m : Mach) (k : Option Master) (locks : Vector Lock 8) (val : Nat → Word) (v : Word) : Mach :=
  let others (a : Nat) : Bool := match coverOwner locks val a with | some h => some h != k | none => false
  let release (as : List Nat) : Mach :=
    let m1 := as.foldl (fun m a => m.unpin a) m
    { m1 with ctl := { m1.ctl with unpinned := as.foldl addAddr m1.ctl.unpinned } }
  if v.toNat = 0xFFFF then release (m.par.pins.filter fun a => !others a)
  else if isRwp v.toNat && !others v.toNat then release [v.toNat]
  else m

/-! ### A commit's changes -/

/-- Changes of one commit landing (R18, R20, R40 to R42, R165): the release of `ID.UNPIN` first, then values, then commands,
each rising by address, then what comes after every other change, a session reset the last. (DEDUCED, log 8) -/
def Mach.landChanges (m : Mach) (k : Option Master) (locks : Vector Lock 8) (val : Nat → Word) (raised : BitVec 11) (bad : Bool)
    (ch : PMap) : Mach :=
  let m1 := match ch.lookup 5 with | some v => m.unpinWrite k locks val v | none => m
  let m2 := m1.landValues k true (ch.filter fun e => holdsValue e.1)
  let m3 := (ch.filter fun e => !holdsValue e.1 && !landsLast e.1).foldl (fun m e => m.landCommand k raised e.1 e.2) m2
  let m4 := (ch.filter fun e => landsLast e.1 && e.1 != 0x600).foldl (fun m e => m.landLast k bad e.1 e.2) m3.serve
  match ch.lookup 0x600 with | some v => m4.landLast k bad 0x600 v | none => m4

/-- PARAM_WRITE (R9): one change of master k landing by itself; a word that no STAGE admits, or that a whole-commit check refuses
(R176), changes nothing. (DESIGN CHOICE, log 7) -/
def Mach.landWrite (m : Mach) (k : Master) (a : Nat) (v : Word) : Mach :=
  if valueOk a v && !m.commitRefused k [(a, v)] then
    let m1 := m.noteNow.landChanges (some k) m.ctl.locks m.pval 0 false [(a, v)]
    { m1 with ctl := { m1.ctl with digestDue := true } }
  else m

/-- A written register's value landing (R9, R23, R40); a word that no STAGE admits changes nothing. -/
def Mach.landReg (m : Mach) (a : Nat) (v : Word) : Mach := if valueOk a v then m.noteNow.landValues none true [(a, v)] else m

/-- ASSAY_START (R676): `ASY.CTL` written with bit 0 set, or its other conditions come to hold. -/
def Mach.assayStart (m : Mach) (v : Option Word) : Mach :=
  match v with
  | some w => if bitOf w 0 then m.landReg 0x27D0 w else m
  | none => m.asyStart

end Sys2Proof.Machine
end

