-- ==== Sys2Proof/Machine/Recompute.lean ====
section
/-! DEFINITION. Machine/Recompute.lean: step 5 of a beat's work: basic to expert recomputation (R39, R42, R207, R763, R839 to
R847). -/

namespace Sys2Proof.Machine

/-- A derived value before it is clamped, with the range of its field (R843); `bits` is the field's width. -/
structure Derived where
  z    : Int
  lo   : Int
  hi   : Int
  bits : Nat := 32

/-- A value that no clamp limits. -/
def exact (n : Nat) : Derived := { z := n, lo := 0, hi := 0xFFFFFFFF }

/-- A value in the range 0 to hi. -/
def upTo (z : Int) (hi : Nat) : Derived := { z, lo := 0, hi }

/-- R_k in µV for a code of `FE.RANGE_k` (R839). -/
def rangeUv (code : Nat) : Nat := if code = 0 then 250000 else if code = 1 then 500000 else 1000000

/-- The address of `FE.RANGE_k`, k from 0. -/
def feRange (k : Nat) : Nat := 0x800 + 16 * k

/-- The sample clock in MHz in use times the groups per input in use (rows 19 to 21). -/
def Mach.gTimesF (m : Mach) : Nat := groupsOf (m.useN 0x840) * (10000 + 100 * m.useN 0x404)

/-- The input that `CLR.CTL_t` names, from 0; none for AUX (R839, R396). -/
def Mach.slotInput (m : Mach) (t : Nat) : Option Nat :=
  let s := m.entrySrc t
  if 1 ≤ s ∧ s ≤ 4 then some (s - 1) else none

/-- L(x) of R839 for input k. -/
def Mach.levelOf (m : Mach) (k : Nat) (x : Int) : Int :=
  roundDiv (65536 * x) (rangeUv (m.useN (feRange k))) - 2 * sext (m.useN (feRange k + 1)) 16

/-- The served mask of a `FE.MODE` value (row 10). -/
def servedNat (mode : Nat) : Nat := if mode = 0 then 0xF else if mode = 1 then 0x5 else 0x1

/-- The fields of the expert value that R839 derives at address a, low field first; none for an address it does not derive. -/
def Mach.derive (m : Mach) (a : Nat) : List Derived :=
  if 0x1800 ≤ a ∧ a < 0x19C0 then
    let t := (a - 0x1800) / 8
    let b := 0x200 + 8 * t
    match a % 8, m.slotInput t with
    | 0, _ => [exact (m.pnat b)]
    | 1, some k =>
      [{ z := m.levelOf k (m.pval (b + 1)).toInt, lo := -32768, hi := 32767, bits := 16 },
       { z := roundDiv (65536 * m.pnat (b + 2)) (rangeUv (m.useN (feRange k))), lo := 0, hi := 4095, bits := 12 }]
    | 2, some k => [{ z := m.levelOf k (m.pval (b + 3)).toInt, lo := -32768, hi := 32767, bits := 16 }]
    | 3, _ => [upTo (roundDiv (16 * m.pnat (b + 4) * m.gTimesF) 1000000) 0xFFFFFFFF]
    | 4, _ => [upTo (roundDiv (16 * m.pnat (b + 5) * m.gTimesF) 1000000) 0xFFFFFFFF]
    | 5, _ => [exact (m.pnat (b + 6))]
    | 6, _ => []
    | 7, _ => []
    | _, _ => [exact 0]
  else if 0x800 ≤ a ∧ a < 0x840 then
    let b := 0x100 + (a - 0x800) / 16 * 16
    match a % 16 with
    | 0 => [exact (match m.pnat b with | 250 => 0 | 500 => 1 | _ => 2)]
    | 1 =>
      [{ z := roundDiv (32768 * (m.pval (b + 1)).toInt) (rangeUv (m.pnat (a - 1))), lo := -32768, hi := 32767, bits := 16 }]
    | 2 => [exact (match m.pnat (b + 2) with | 4000 => 0 | 8000 => 1 | 13000 => 2 | _ => 3)]
    | _ => []
  else
    match a with
    | 0x841 => [exact (((List.range 4).map fun k => m.pnat (0x103 + 16 * k) * 2 ^ k).sum)]
    | 0x840 => [exact (m.pnat 0x140)]
    | 0x404 => [upTo (((m.pnat 0x141 - 10000) / 100 : Nat) : Int) 60]
    | 0x403 => [exact (match m.pnat 0x148 with | 0 => 1 | 1 => 0 | _ => 2)]
    | 0x880 => [exact (m.pnat 0x149)]
    | 0xB00 => [exact (m.pnat 0x143)]
    | 0xB01 => [exact (m.pnat 0x144)]
    | 0xC03 => [exact (m.pnat 0x142 &&& servedNat (m.pnat 0x840) &&& m.pnat 0x841)]
    | 0xC04 => [exact (if m.pnat 0x145 = 0 then 67108863 else m.pnat 0x145 / 64 - 1)]
    | 0xC05 => [upTo (((m.pnat 0xC04 + 1) * m.pnat 0x146 / 100 : Nat) : Int) 0x3FFFFFF]
    | 0xC06 => [exact (m.pnat 0x147)]
    | 0xA20 => [exact (1000 * m.pnat 0x14A % 2 ^ 32)]
    | 0xA21 => [upTo ((1000 * m.pnat 0x14A / 2 ^ 32 : Nat) : Int) 0xF]
    | 0xA22 => [exact (m.pnat 0x14B)]
    | 0xA01 => [upTo (2048 + roundDiv (100000 * (m.pval 0x150).toInt) 48828125) 4095]
    | 0xA02 => [upTo (roundDiv (100000 * m.pnat 0x151) 48828125) 127]
    | 0xD00 => [exact (m.pnat 0x160)]
    | 0xD01 => [exact (m.pnat 0x161)]
    | 0xD03 => [exact (m.pnat 0x163)]
    | 0xD02 => [exact (if m.pnat 0x162 = 0 then min 262144 (64 * (m.pnat 0xC04 + 1)) else m.pnat 0x162)]
    | 0x2601 => [exact (m.pnat 0x170)]
    | 0x27F0 => [exact (m.pnat 0x182 + 128 * m.pnat 0x181 + 256 * m.pnat 0x183)]
    | 0x27F1 => [upTo (roundDiv (256 * m.pnat 0x180) 100) 23040]
    | 0x2810 => [exact (m.pnat 0x184)]
    | _ => []

/-- The basic parameters whose landing recomputes the expert parameter at address a (R839), the slots' in the order of R839. -/
def parentsOf (a : Nat) : List Nat :=
  if 0x1800 ≤ a ∧ a < 0x19C0 then
    let b := 0x200 + 8 * ((a - 0x1800) / 8)
    ([[b], [b, b + 1, b + 2], [b, b + 3], [b + 4], [b + 5], [b + 6], [], []] : List (List Nat)).getD (a % 8) []
  else if 0x800 ≤ a ∧ a < 0x840 then
    let b := 0x100 + (a - 0x800) / 16 * 16
    match a % 16 with
    | 0 => [b]
    | 1 => [b + 1, b]
    | 2 => [b + 2]
    | _ => []
  else
    let ons := [0x103, 0x113, 0x123, 0x133]
    match a with
    | 0x841 => ons
    | 0x840 => [0x140]
    | 0x404 => [0x141]
    | 0x403 => [0x148]
    | 0x880 => [0x149]
    | 0xB00 => [0x143]
    | 0xB01 => [0x144]
    | 0xC03 => 0x142 :: 0x140 :: ons
    | 0xC04 => [0x145]
    | 0xC05 => [0x145, 0x146]
    | 0xC06 => [0x147]
    | 0xA20 => [0x14A]
    | 0xA21 => [0x14A]
    | 0xA22 => [0x14B]
    | 0xA01 => [0x150]
    | 0xA02 => [0x151]
    | 0xD00 => [0x160]
    | 0xD01 => [0x161]
    | 0xD03 => [0x163]
    | 0xD02 => [0x162, 0x145]
    | 0x2601 => [0x170]
    | 0x27F0 => [0x182, 0x181, 0x183]
    | 0x27F1 => [0x180]
    | 0x2810 => [0x184]
    | _ => []

/-- The derived expert parameters of rows 1 to 8 of R839, in recomputation order. -/
def rows1to8 : List Nat :=
  ((List.range 3).flatMap fun q => (List.range 4).map fun k => 0x800 + 16 * k + q) ++ [0x841, 0x840, 0x404, 0x403, 0x880]

/-- Rows 9 to 17. -/
def rows9to17 : List Nat := [0xB00, 0xB01, 0xC03, 0xC04, 0xC05, 0xC06, 0xA20, 0xA21, 0xA22, 0xA01, 0xA02]

/-- Rows 18 to 22, row by row. -/
def rows18to22 : List Nat :=
  ([[0], [1], [2], [3, 4], [5]] : List (List Nat)).flatMap fun qs => (List.range 56).flatMap fun t => qs.map fun q => 0x1800 + 8 * t + q

/-- Rows 23 to 28. -/
def rows23to28 : List Nat := [0xD00, 0xD01, 0xD03, 0xD02, 0x2601, 0x27F0, 0x27F1, 0x2810]

/-- Whether an address belongs to rows 19 to 21 (R841). -/
def useRow (a : Nat) : Bool := 0x1800 ≤ a && a < 0x19C0 && 1 ≤ a % 8 && a % 8 ≤ 4

/-- The word of these fields after R843's clamps, and whether one was clamped. -/
def packDerived : List Derived → Nat × Bool
  | [] => (0, false)
  | d :: ds =>
    let (n, c) := packDerived ds
    let z := clampZ d.lo d.hi d.z
    (ofInt z d.bits + 2 ^ (if d.bits = 32 then 0 else 16) * n, c || z != d.z)

/-- What step 5 has to go by: the locks and range words of step 1 (R187), the landed basic parameters with their writers, the
addresses to recompute regardless, those that an insert removal restored (R240), and the expert addresses whose recomputation
cannot complete (R763). -/
structure Recomp where
  locks    : Vector Lock 8
  val      : Nat → Word
  landed   : List (Nat × Option Master)
  named    : List Nat
  restored : List Nat
  bad      : List Nat

/-- Whether expert address a is recomputed (R39, R42, R207, R240, R841, R845). -/
def Mach.recomputes (m : Mach) (r : Recomp) (a : Nat) : Bool :=
  let writers := r.landed.filter fun e => (parentsOf a).contains e.1
  let holder := coverOwner r.locks r.val a
  let byBasic := !writers.isEmpty && (match holder with | some h => writers.any fun e => e.2 == some h | none => true)
  let byUse := m.ctl.useRecomp && useRow a && holder.isNone
  !m.pinned a && !r.restored.contains a && (byBasic || byUse || r.named.contains a)

/-- A group of rows on its way: the engine, the engine with the group's values already current, and those values. -/
structure RowRun where
  real    : Mach
  scratch : Mach
  vals    : PMap := []

/-- One row's parameter computed (R763, R839, R840, R843, R844). -/
def RowRun.one (r : Recomp) (x : RowRun) (a : Nat) : RowRun :=
  if !x.scratch.recomputes r a || (x.scratch.derive a).isEmpty then x
  else if r.bad.contains a then
    let by_ := (r.landed.find? fun e => (parentsOf a).contains e.1).getD ((parentsOf a).headD 0, none)
    { x with real := x.real.logEvent .control 0x0006 a by_.1 by_.2 (some 9) }
  else
    let (n, c) := packDerived (x.scratch.derive a)
    let real := if c then { x.real with par := { x.real.par with clampAddr := BitVec.ofNat 16 a, clamps := x.real.par.clamps + 1 } } else x.real
    if w32 n = x.scratch.pval a then { x with real }
    else { real, scratch := x.scratch.pset a (w32 n), vals := mput x.vals a (w32 n) }

/-- Rows recomputed in order, and their values landed together. -/
def Mach.recomputeRows (m : Mach) (r : Recomp) (as : List Nat) : Mach :=
  let x := as.foldl (RowRun.one r) { real := m, scratch := m }
  x.real.landValues none false x.vals

/-- Whether step 5 has anything to do. -/
def Mach.recompDue (m : Mach) : Bool := !m.ctl.basicsLanded.isEmpty || !m.ctl.unpinned.isEmpty || m.ctl.useRecomp

/-- Step 5 done: what it had to go by is used up. -/
def Mach.recompDone (m : Mach) : Mach :=
  { m with ctl := { m.ctl with basicsLanded := [], unpinned := [], restored := [], useRecomp := false } }

/-- Step 5 (R15, R840, R841): `before` is the engine as the beat's work found it. -/
def Mach.recompute (m : Mach) (before : Mach) (bad : List Nat) : Mach :=
  if !m.recompDue then m
  else
    let r : Recomp :=
      { locks := m.ctl.locksStep1, val := before.pval, landed := m.ctl.basicsLanded, named := m.ctl.unpinned
        restored := m.ctl.restored, bad }
    ((m.recomputeRows r rows1to8).recomputeRows r (rows9to17 ++ rows18to22 ++ rows23to28)).recompDone

end Sys2Proof.Machine
end

