-- ==== Sys2Proof/Machine/Insert.lean ====
section
/-! DEFINITION. Machine/Insert.lean: insert requests and the application and removal of inserts at step 2 (R206, R236 to
R244). -/

namespace Sys2Proof.Machine

/-- The records of insert slot n in its active bank (R220). -/
def Mach.slotRecords (m : Mach) (n : Nat) : List (Nat × Nat × Word) :=
  match m.vlt.nv.active n with
  | some b => imgRecords (m.bankBytes n b)
  | none => []

/-- The addresses that a request writes (R238): those of the KEEP list for the active insert, else the slot's records. -/
def Mach.insertAddrs (m : Mach) (r : InsReq) : List Nat :=
  if !r.apply && m.ins.active == r.slot then m.ins.list
  else if m.vlt.slots.getLsbD r.slot then (m.slotRecords r.slot).map (·.1) else []

/-- The check of R238 that a request fails, as its result; 0 for none. -/
def Mach.insertFault (m : Mach) (r : InsReq) : Nat :=
  if r.apply then (if !m.vlt.slots.getLsbD r.slot then 1 else if m.ins.active != 0 && m.ins.active != r.slot then 2 else 0)
  else if m.ins.active != r.slot then 3 else 0

/-- The words of R243 written with a result and the counts of this request. (DEDUCED, log 82) -/
def Mach.insertStat (m : Mach) (result : Nat) (written : Nat := 0) (skipped : Nat := 0) : Mach :=
  { m with ins := { m.ins with
    result := BitVec.ofNat 4 result, lastBeat := m.beatLo, written := BitVec.ofNat 9 written, skipped := BitVec.ofNat 9 skipped } }

/-- What R243 reports of an operation that landed, with INS_SKIP (R206). -/
def Mach.insertDone (m : Mach) (slot written skipped : Nat) : Mach :=
  let m1 := m.insertStat 0 written skipped
  let m2 := { m1 with ins := { m1.ins with ops := m.ins.ops + 1 } }
  if skipped = 0 then m2 else m2.logEvent .control 0x0302 slot skipped

/-- An insert applied (R206, R239): its values, then what it commands (`DEC.FIRDEF`, R441). `locked` says which addresses are skipped. -/
def Mach.insertApply (m : Mach) (r : InsReq) (locked : Nat → Bool) : Mach :=
  let recs := m.slotRecords r.slot
  let vs : PMap := (recs.filter fun (e : Nat × Nat × Word) => !locked e.1).map fun e => (e.1, e.2.2)
  let m1 := { m with ins := { m.ins with active := r.slot, list := recs.map fun (e : Nat × Nat × Word) => e.1 } }
  let m2 := m1.landValues r.master true (vs.filter fun e => holdsValue e.1)
  let m3 := (vs.filter fun e => !holdsValue e.1).foldl (fun m e => m.landCommand r.master 0 e.1 e.2) m2
  m3.insertDone r.slot vs.length (recs.length - vs.length)

/-- The value that a removal restores at an address, and whether it is a base record's with its pin bit (R240). -/
def Mach.restoredValue (m : Mach) (a : Nat) : Word × Option Bool :=
  match m.vlt.base.find? fun b => b.addr == a with
  | some b => (b.value, some b.pin)
  | none => (if 0x2000 ≤ a && a < 0x2600 then factoryAt a else resetOf a, none)

/-- The active insert removed (R206, R240). -/
def Mach.insertRemove (m : Mach) (r : InsReq) (locked : Nat → Bool) : Mach :=
  let as := m.ins.list.filter fun a => !locked a
  let m1 := { m with ins := { m.ins with active := 0, list := [] } }
  let m2 := m1.landValues r.master false ((as.filter holdsValue).map fun a => (a, (m.restoredValue a).1))
  let m3 := as.foldl (fun m1 a => if (m.restoredValue a).2 == some true then m1.pin a else m1.unpin a) m2
  let based := as.filter fun a => (m.restoredValue a).2.isSome
  let named := as.filter fun a => (m.restoredValue a).2.isNone
  let m4 := { m3 with ctl := { m3.ctl with restored := m3.ctl.restored ++ based, unpinned := named.foldl addAddr m3.ctl.unpinned } }
  m4.insertDone r.slot as.length (m.ins.list.length - as.length)

/-- Step 2 of a beat's work (R15, R21, R238, R243): the oldest request, if it was queued before this boundary. `bad` lists Vault words that
reading its slot finds uncorrectable (R216); `locked` gives the addresses that R206 skips for a master. -/
def Mach.insertStep (m : Mach) (ready : Bool) (bad : List Nat) (locked : Option Master → Nat → Bool) : Mach :=
  match m.ins.queue with
  | [] => m
  | r :: rest =>
    if m.tim.beats ≤ r.after then m
    else
    let m := if r.apply && bankHit r.slot bad (m.vlt.nv.active r.slot) then m.vaultHit bad else m
    if !ready && (m.insertAddrs r).any touchesAcq then m.insertStat 5
    else
      let m1 := { m with ins := { m.ins with queue := rest } }
      let fault := m1.insertFault r
      if fault != 0 then m1.insertStat fault
      else m1.behalf r.master fun m1 => if r.apply then m1.insertApply r (locked r.master) else m1.insertRemove r (locked r.master)

end Sys2Proof.Machine
end

