-- ==== Sys2Proof/Machine/Boot.lean ====
section
/-! DEFINITION. Machine/Boot.lean: reset and the first second (R100, R101, R232 to R235, R249 to R274, R866). -/

namespace Sys2Proof.Machine

/-! ### Reset -/

/-- The engine in reset with a cause (R101, R253, R255): what the Vault holds is kept, and a program or shed record in progress, or with
neither the log record at the head of its queue (R753, R757), has written the first `words` 64-bit words. (DESIGN CHOICE, log 80) -/
def Mach.enterReset (m : Mach) (cause : BitVec 2) (words : Nat) : Mach :=
  let m0 := if m.vlt.op.isNone && m.pwr.record.isNone then m.recordCut words else m
  let m1 := ((m0.sealFails 0).vaultCut words).shedWritten (8 * min words 7)
  { vlt := { nv := m1.vlt.nv }, boot := { cause }, mem := m1.mem.filter fun c => decide (vaultBase ≤ c.1) }

/-- RESET_RELEASE (R100, R121, R130, R800): power-on reset is released with the rails listed at these voltages in mV, the others at
nominal. With TESTMODE high the engine enters factory test, and does nothing until the next reset. (DEDUCED, log 25)
(DESIGN CHOICE, log 120) -/
def Mach.resetRelease (m : Mach) (rails : List (Fin 9 × Nat)) (test : Bool) : Mach :=
  if !m.boot.inReset || m.boot.factory then m
  else if test then { m with boot := { m.boot with factory := true } }
  else
    let mv (r : Fin 9) : Nat := (rails.lookup r).getD (railNominal r.val)
    let m1 := { m with boot := { m.boot with inReset := false }
                       pwr := { m.pwr with rails := Vector.ofFn fun r => { mv := mv r, lowS := mv r, lowH := mv r, lowNow := mv r }
                                           switchQ := [4, 2, 3, 7, 5, 6] } }
    let m2 := m1.railCheck 1
    if m2.domWant 1 then m2 else (m2.setDom 1 .off).switchNext

/-! ### The Vault read-in (R232 to R234, R866) -/

/-- The engine's serial number (R769): the value that two of its three factory copies hold. (DESIGN CHOICE, log 79) -/
def Mach.readSerial (m : Mach) : Option Nat :=
  let c (i : Nat) : Nat := readNat m.mem (vaultBase + 0x1000 + 8 * i) 8
  if c 0 = c 1 ∨ c 0 = c 2 then some (c 0) else if c 1 = c 2 then some (c 1) else none

/-- A base value read (R232, R257): it stands in the parameter space for the recomputation of R233 and waits to be taken into use. -/
def Mach.baseSet (m : Mach) (a : Nat) (v : Word) : Mach :=
  let m1 := { m with boot := { m.boot with base := mput m.boot.base a v } }
  if 0x2000 ≤ a ∧ a < 0x2600 then m1 else m1.pset a v

/-- A base value taken into use (R23, R257): a quire-bound or frame-bound value joins those that the same beat takes into use. -/
def Mach.baseLand (m : Mach) (a : Nat) (v : Word) : Mach :=
  if 0x2000 ≤ a ∧ a < 0x2600 then { m with dec := { m.dec with taps := mput m.dec.taps a v, waiting := true } }
  else if a = 0x501 then m.domEnable v
  else if a = 0x503 then (m.pset a (v ||| 0x30)).stagesSettle (m.pval a)
  else
    let old := m.use a
    let m1 := m.pset a v
    match rowOf a with
    | some r =>
      match r.cls with
      | .quire => { m1 with par := { m1.par with quire := mput m1.par.quire a old } }
      | .frame => { m1 with par := { m1.par with frame := mput m1.par.frame a old } }
      | .beat => m1
    | none => m1

/-- The expert parameters derived from the basic records recomputed at the read-in (R232 step 4, R839). -/
def Mach.baseRecompute (m : Mach) (basics : List Nat) : Mach :=
  (rows1to8 ++ rows9to17 ++ rows18to22 ++ rows23to28).foldl (fun m a =>
    if (parentsOf a).any basics.contains && !(m.derive a).isEmpty then
      let (n, c) := packDerived (m.derive a)
      let m1 := if c then { m with par := { m.par with clampAddr := BitVec.ofNat 16 a, clamps := m.par.clamps + 1 } } else m
      if w32 n = m.pval a then m1 else m1.baseSet a (w32 n)
    else m) m

/-- The base configuration applied (R232 step 4, R233, R854). -/
def Mach.applyBase (m : Mach) (recs : List BaseRec) : Mach :=
  let basics := recs.filter fun r => decide (0x100 ≤ r.addr) && decide (r.addr < 0x400)
  let experts := recs.filter fun r => !(decide (0x100 ≤ r.addr) && decide (r.addr < 0x400))
  let m1 := (basics.foldl (fun m r => m.baseSet r.addr r.value) m).baseRecompute (basics.map (·.addr))
  experts.foldl (fun m r => let m1 := m.baseSet r.addr r.value; if r.pin then m1.pin r.addr else m1) m1

/-- The shed record ring read (R125): its valid entries found, and one whose CRC-32C fails logged. -/
def Mach.readShed (m : Mach) (bad : List Nat) : Mach :=
  let entry (i : Nat) : List Byte := readBytes m.mem (vaultBase + 0xF_0000 + 64 * i) 64
  let used := (List.range 8).filter fun i => (entry i).any (· != 0)
  let good := used.filter fun i =>
    leNat ((entry i).drop 60) == (crc32c ((entry i).take 60)).toNat
      && !bad.any fun o => decide (0xF_0000 + 64 * i ≤ o) && decide (o < 0xF_0000 + 64 * (i + 1))
  let m1 := { m with pwr := { m.pwr with shedOk := BitVec.ofNat 8 ((good.map (2 ^ ·)).sum) } }
  used.foldl (fun m i => if good.contains i then m else m.logEvent .management 0x0204 i 0) m1

/-- Steps 1 to 3 of R232, with the directory copies as read. -/
def Mach.readPolicy (m : Mach) (bad : List Nat) : Mach :=
  let hitA := bad.any fun o => decide (o < 0x800)
  let hitB := bad.any fun o => decide (0x800 ≤ o) && decide (o < 0x1000)
  let n := m.vlt.nv
  let nv := { n with dirA := { n.dirA with ok := n.dirA.ok && !hitA }, dirB := { n.dirB with ok := n.dirB.ok && !hitB } }
  let m1 := ({ m with vlt := { m.vlt with
    nv, serial := BitVec.ofNat 64 (m.readSerial.getD 0), copyB := nv.governing == some true, powered := nv.powered } } : Mach).vaultEcc bad
  let m1 := if m.readSerial.isNone then m1.logEvent .management 0x0402 0x1000 0 none (some 2) else m1
  let m2 := if nv.dir.isNone then m1.logEvent .management 0x0407 0 0 none (some 2) else m1
  let (m3, pol) := m2.chooseBank 32 bad
  let m4 := match pol with
    | some (b, bs) =>
      let m4 := (imgRecords bs).foldl (fun (m : Mach) (r : Nat × Nat × Word) =>
        m.pset r.1 (if r.1 = 0x502 then r.2.2 ||| 1 else if r.1 = 0x503 then r.2.2 ||| 0x30 else r.2.2)) m3
      let m4 := if m4.pval 0x503 = m3.pval 0x503 then m4 else m4.stagesSettle (m3.pval 0x503)
      { m4 with vlt := { m4.vlt with polBank := some b } }
    | none => m3
  let (m5, mint) := m4.chooseBank 33 bad
  match mint with
  | some (b, bs) => { m5 with vlt := { m5.vlt with mintBank := some b, mintCode := some (BitVec.ofNat 14 (imgNum bs 68 4)) } }
  | none => m5

/-- Step 4 of R232. -/
def Mach.readBase (m : Mach) (bad : List Nat) : Mach :=
  let (m1, base) := m.chooseBank 0 bad
  let m2 := match base with
    | some (b, bs) =>
      let recs := (imgRecords bs).map fun (r : Nat × Nat × Word) => ({ addr := r.1, value := r.2.2, pin := r.2.1 == 1 } : BaseRec)
      let m2 := { m1 with vlt := { m1.vlt with baseBank := some b, base := recs, gen := w32 (imgNum bs 28 4) } }
      let m3 := m2.applyBase recs
      { m3 with par := { m3.par with landed := m2.par.landed } }
    | none => m1
  { m2 with boot := { m2.boot with step4 := true } }

/-- Step 5 of R232, and the `INS.BOOT` request of R235. -/
def Mach.readRest (m : Mach) (bad : List Nat) : Mach :=
  let m1 := (List.range 32).foldl (fun m n =>
    match m.vlt.nv.active n with
    | some b => if n != 0 && (m.bankImage n b bad).isSome then m.slotValid n true else m
    | none => m) m
  let m2 := ({ m1 with cal := { m1.cal with lastEp := m1.vlt.nv.lastEp } } : Mach).checkCerts true bad
  let m3 := (m2.logFind bad).readShed bad
  let slot := fld (m3.baseVal 0x783) 0 5
  if slot = 0 then m3 else m3.queueInsert none true slot

/-- VAULT_READ_IN (R232): the read-in completes; `bad` lists the offsets of words found uncorrectable.
(DEDUCED, log 25) (DESIGN CHOICE, log 89) (DESIGN CHOICE, log 109) -/
def Mach.vaultReadIn (m : Mach) (bad : List Nat) : Mach :=
  if m.boot.inReset || m.boot.readIn then m
  else
    let m0 := ((m.readPolicy bad).readBase bad).readRest bad
    let m1 := (List.range 9).foldl (fun m r => if (vget m.pwr.rails r).absent then m.railAbsent r else m) m0
    (({ m1 with boot := { m1.boot with readIn := true } } : Mach).trainingStart).switchNext

/-- BASE_CONFIG_TAKE_INTO_USE (R257, R272): the base values taken into use at the first beat after the read-in, with the use
recomputation they bring on; the Assay starts. -/
def Mach.baseTake (m : Mach) : Mach :=
  if !m.boot.readIn || m.boot.baseInUse then m
  else
    let m0 := m.boot.base.foldl (fun m e => m.baseLand e.1 e.2) { m with boot := { m.boot with baseInUse := true } }
    let m1 := ({ m0 with boot := { m0.boot with base := [] } } : Mach).takeWaiting
    let m2 := m1.dspLanded (m1.par.frame.map (·.1))
    ((((m2.refFreqLanded).recompute m []).volState).asyStart).mintUpdate

/-! ### READY and ACQ_READY -/

/-- READY_RISE (R251 to R253, R273, R274): READY rises at a beat boundary after the read-in and the start-up check. -/
def Mach.readyRise (m : Mach) : Mach :=
  if m.boot.ready || !m.boot.baseInUse then m
  else
    let m1 := ({ m with boot := { m.boot with ready := true } } : Mach).logEvent .management 0x0001 m.boot.cause.toNat 0
    (m1.isoCtl).scanStart

/-- ACQ_READY_RISE (R263, R284): ACQ_READY rises at the first beat boundary at which R263 holds. -/
def Mach.acqReadyRise (m : Mach) : Mach :=
  if m.boot.acqReady || m.fe.cal != .passed || m.store.st != .trained || !m.tim.slices then m
  else ({ m with boot := { m.boot with acqReady := true } } : Mach).overloadAtReady

end Sys2Proof.Machine
end

