-- ==== Sys2Proof/Machine/Commit.lean ====
section
/-! DEFINITION. Machine/Commit.lean: leases and the landing of commits: steps 1, 3 and 4 of a beat's work (R148, R175 to R187,
R196 to R204, R762). -/

namespace Sys2Proof.Machine

/-! ### Step 1 (R196, R199, R203, R204) -/

/-- Lock n at step 1. (DEDUCED, log 81) -/
def Mach.leaseStep (m : Mach) (n : Nat) : Mach :=
  let l := vget m.ctl.locks n
  match l.st with
  | .free => m
  | .forfeit => { m with ctl := { m.ctl with locks := vset m.ctl.locks n { l with st := .free } } }
  | .held =>
    if l.lease = 0 then
      let m1 := m.forfeit n 1
      match l.owner with
      | some k => m1.discard k
      | none => m1
    else { m with ctl := { m.ctl with locks := vset m.ctl.locks n { l with lease := l.lease - 1 } } }

/-- Step 1: every lock, and the locks as they stand at its end (R187). -/
def Mach.leases (m : Mach) : Mach :=
  let m1 := (List.range 8).foldl Mach.leaseStep m
  { m1 with ctl := { m1.ctl with locksStep1 := m1.ctl.locks } }

/-! ### Which commit a master's step takes (R176, R178, R180) -/

/-- The commit that a master's step takes through checks 3 and 4, if any, and what the session becomes by taking it. `before` is
the engine as the work found it. In stage 6 nothing is deferred (R115). -/
def Mach.taken (m : Mach) (before : Mach) (k : Master) : Option Commit :=
  let s := m.session k
  let held := !(before.session k).deferred.isEmpty
  if before.boot.acqReady && !s.deferred.isEmpty && decide (m.pwr.stage < 6) then s.deferred.head?
  else match s.due with
    | some c =>
      if m.pwr.stage < 6 && (held || (!before.boot.acqReady && c.changes.any fun e => touchesAcq e.1)) then none
      else some c
    | none => none

/-- The changes of a master's commit that passes check 3 in this beat's work, for the other master's check 4 (R183). -/
def Mach.passing (m : Mach) (before : Mach) (k : Master) : PMap :=
  match m.taken before k with
  | some c => if before.commitRefused k c.changes then [] else c.changes
  | none => []

/-- Whether a change of master k is lost (R183, R184), an `ID.UNPIN` for the one address it names too (R208); `other` lists what the
other master's commit writes. (DEDUCED, log 13) -/
def Mach.loses (m : Mach) (before : Mach) (k : Master) (other : List Nat) (e : Nat × Word) : Bool :=
  let foreign (a : Nat) : Bool := match coverOwner m.ctl.locksStep1 before.pval a with | some h => h != k | none => false
  foreign e.1 || (e.1 == 5 && e.2.toNat != 0xFFFF && foreign e.2.toNat) ||
    (k == .host && other.contains e.1 && (coverOwner m.ctl.locksStep1 before.pval e.1).isNone)

/-! ### Landing -/

/-- The result of commit c of master k, in its commit result word while that describes it (R154, R181), and for the CTRL response that
waits for it (R172). -/
def Mach.noteResult (m : Mach) (k : Master) (c : Commit) (r : CRes) : Mach :=
  let m1 := if (m.session k).count = c.num then m.setSession k { m.session k with cres := r } else m
  if k == .spi then m1
  else { m1 with ctl := { m1.ctl with ctrlOut := m1.ctl.ctrlOut.map fun x => if x.wait.any (·.2 == c.num) then { x with res := r.code } else x } }

/-- Commit c, already taken from its session, goes through checks 3 and 4 (R176, R181, R186). (DEDUCED, log 6) -/
def Mach.landCommit (m : Mach) (before : Mach) (k : Master) (other : List Nat) (annexBad : Bool) (c : Commit) : Mach :=
  if before.commitRefused k c.changes then m.noteResult k c { code := 4 }
  else
    let kept := c.changes.filter fun e => !m.loses before k other e
    let lost := c.changes.length - kept.length
    let m1 := m.landChanges (some k) m.ctl.locksStep1 before.pval c.raised annexBad kept
    let s := m1.session k
    let m2 := m1.setSession k { s with land := m1.beatLo, lost := s.lost + w32 lost }
    let m3 := m2.noteResult k c
      { code := if lost = 0 then 0 else 5, landed := BitVec.ofNat 9 kept.length, lost := BitVec.ofNat 9 lost }
    { m3 with ctl := { m3.ctl with digestDue := true } }

/-- A sealed commit that reached its landing beat without being taken is deferred, or refused as its master's 17th (R178,
R179). -/
def Mach.deferCommit (m : Mach) (k : Master) (c : Commit) : Mach :=
  let s := m.session k
  if 16 ≤ s.deferred.length then
    (m.setSession k { s with due := none, refused := s.refused + 1 }).noteResult k c { code := 4 }
  else (m.setSession k { s with due := none, deferred := s.deferred ++ [c] }).noteResult k c { code := 7, busy := true }

/-- STAGE_BAD (R762): a staging area or sealed commit of master k holds an uncorrectable error; both are discarded. (DEDUCED, log 94) -/
def Mach.stageBad (m : Mach) (k : Master) : Mach :=
  let s := m.session k
  let n := (m.staging k).length + ((s.commit.toList ++ s.due.toList).map (·.changes.length)).sum
  if n = 0 then m
  else (m.discard k true false).logEvent .control 0x0005 (match k with | .spi => 1 | .host => 2) n none (some 9)

/-- The step of master k (R15 steps 3 and 4, R176, R180): the oldest deferred commit released, or the sealed commit landed or
deferred. (DEDUCED, log 94) -/
def Mach.commitStep (m : Mach) (before : Mach) (k : Master) (o : BeatObs) : Mach :=
  let m0 := if o.badStage.contains k && (m.session k).due.isSome then m.stageBad k else m
  let other := if k == .host then m0.ctl.spiWrote else []
  let m1 := if k == .spi then { m0 with ctl := { m0.ctl with spiWrote := (m0.passing before .spi).map (·.1) } } else m0
  let s := m1.session k
  let m2 := match m1.taken before k with
    | some c =>
      let left := if s.deferred.head? == some c then { s with deferred := s.deferred.drop 1 } else { s with due := none }
      (m1.setSession k left).landCommit before k other o.annexBad c
    | none => m1
  match (m2.session k).due with
  | some c => m2.deferCommit k c
  | none => m2

end Sys2Proof.Machine
end

