-- ==== Sys2Proof/Machine/Beat.lean ====
section
/-! DEFINITION. Machine/Beat.lean: the beat boundary and its work (R15), and the responses that the host port sends (R171,
R172). -/

namespace Sys2Proof.Machine

/-! ### CTRL responses (R143, R170 to R172) -/

/-- The packet body of a CTRL response. -/
def CtrlResp.body (r : CtrlResp) : List Byte := [r.tag, r.stat] ++ leBytes r.addr.toNat 2 ++ leBytes r.data.toNat 4

/-- The responses that nothing holds back. (DESIGN CHOICE, log 111) -/
def readyResps : List CtrlResp → List CtrlResp × List CtrlResp
  | [] => ([], [])
  | r :: rs => if r.wait.isSome then ([], r :: rs) else let (a, b) := readyResps rs; (r :: a, b)

/-- Responses sent on the host port in arrival order, as far as the first that waits for its landing beat (R171), a denied COMMIT's
after it too. (DESIGN CHOICE, log 111) -/
def Mach.flushCtrl (m : Mach) : Mach :=
  let (out, left) := readyResps m.ctl.ctrlOut
  out.foldl (fun m r => m.sendPkt 0 (.ctrl true r.body)) { m with ctl := { m.ctl with ctrlOut := left } }

/-- A status byte (R143): before READY and with NOTREADY bits [7:4] are 0. -/
def Mach.statByte (m : Mach) (bits : BitVec 3) (code : Nat) : Byte :=
  if !m.boot.ready || code = 1 then BitVec.ofNat 8 code else BitVec.ofNat 8 (code + 16 * bits.toNat)

/-- The response of a sealed CTRL COMMIT once its landing beat's work ends (R172). (DEDUCED, log 14) (DESIGN CHOICE, log 112) -/
def Mach.ctrlLanded (m : Mach) : Mach :=
  let fin (r : CtrlResp) : CtrlResp :=
    match r.wait with
    | some (b, _) =>
      if b ≤ m.tim.beats then { r with wait := none, stat := m.statByte (m.statusBits .host) r.res.toNat } else r
    | none => r
  ({ m with ctl := { m.ctl with ctrlOut := m.ctl.ctrlOut.map fin } } : Mach).flushCtrl

/-! ### The boundary -/

/-- The state bits at the ends of k more core clocks noted (R143). -/
def pushBits (k : Nat) (bits : BitVec 3) : List (Nat × BitVec 3) → List (Nat × BitVec 3)
  | (n, b) :: t => if b = bits then (n + k, b) :: t else (k, bits) :: (n, b) :: t
  | [] => [(k, bits)]

/-- The engine with the state bits that it shows to the SPI port at the ends of the next k core clocks noted (R143).
(DESIGN CHOICE, log 9) -/
def Mach.noteBits (m : Mach) (k : Nat) : Mach :=
  { m with ctl := { m.ctl with port := { m.ctl.port with bits := pushBits k (m.statusBits .spi) m.ctl.port.bits } } }

/-- Time at core clock n of the beat interval. -/
def Mach.runTo (m : Mach) (n : Nat) : Mach :=
  { m.noteBits (n - m.tim.clk) with tim := { m.tim.advance (n - m.tim.clk) with clk := n } }

/-- The hold of an alignment (R720 step 2), 1,000 core clocks after its boundary: the slice clocks are gated and the core clock pauses.
(DESIGN CHOICE, log 68) -/
def Mach.alignHold (m : Mach) : Mach :=
  match m.vol.align with
  | some a =>
    let m1 := m.gateSlices
    { m1 with tim := m1.tim.hold a.c, vol := { m1.vol with align := some { a with held := true } } }
  | none => m

/-- Time at core clock n of the beat interval, an alignment's hold on the way. (DESIGN CHOICE, log 68) -/
def Mach.passTo (m : Mach) (n : Nat) : Mach :=
  if (m.vol.align.any fun a => !a.held) && decide (1000 ≤ n) then ((m.runTo 1000).alignHold).runTo n else m.runTo n

/-- A session at a beat boundary: a sealed commit reaches its landing beat (R175). -/
def Session.reach (s : Session) (b : Nat) : Session :=
  match s.commit with
  | some c => if c.landing ≤ b then { s with commit := none, due := some c } else s
  | none => s

/-- The state bits at the end of the core clock i clocks back, 0 for the latest. (DESIGN CHOICE, log 9) -/
def bitsBack : Nat → List (Nat × BitVec 3) → BitVec 3
  | _, [] => 0
  | i, (n, b) :: t => if i < n then b else bitsBack (i - n) t

/-- What the FEC, the error correction of DDR5 and the Vault, and with no quire running the decimator did in the closing interval, counted
(R248, R426, R467, R544, R856). (DESIGN CHOICE, log 122) -/
def Mach.corrections (m : Mach) (o : BeatObs) : Mach :=
  let m1 := o.symbols.foldl (fun m (x : Fin 3 × Fin 4 × Nat) =>
    if m.streams x.1 && decide (x.2.1.val < laneCount x.1) then
      m.modPort x.1 fun p => { p with lanes := vmod p.lanes x.2.1 fun l => { l with corr := l.corr + w32 x.2.2 } }
    else m) m
  let m2 := if m1.ddrUp then { m1 with store := { m1.store with eccCor := m1.store.eccCor + w32 o.ddrFixed } } else m1
  { m2 with vlt := { m2.vlt with eccCorr := m2.vlt.eccCorr + BitVec.ofNat 16 o.vaultFixed }
            dec := { m2.dec with clamps := if m2.running then m2.dec.clamps else m2.dec.clamps + w32 o.clamped } }

/-- A beat boundary opens: time reaches it and the beat counter advances (R7, R75), the interval it closes is accounted for (R31,
R117), and ACQ_READY rises when R263 holds. -/
def Mach.openBeat (m : Mach) (o : BeatObs) : Mach :=
  let m0 := m.passTo 1024
  let t := m0.tim
  let m1 := { m0 with
    tim := { t with beats := m.tim.beats + 1, clk := 0, boundary := t.mono, earlier := t.regimes
                    regimes := [{ clk := 0, mono := t.mono, phase := t.refPhase, holding := t.holding, stopped := t.refStopped }] }
    ctl := { m0.ctl with spi := m0.ctl.spi.reach (m.tim.beats + 1), host := m0.ctl.host.reach (m.tim.beats + 1) }
    flt := { m0.flt with eventSent := 0, step := 0 }
    dsp := { m0.dsp with landedNow := [] }
    trm := if m.tim.beats + 1 = m0.trm.startBeat then { m0.trm with startT := t.mono } else m0.trm }
  ((((((m1.closeInterval).railsBeat o.rails).shedWritten 64).corrections o).countClamps).asyBoundary).acqReadyRise

/-- PENDING_ARM (R447): with no quire running a pending arm takes effect. (DESIGN CHOICE, log 106) -/
def Mach.pendingArm (m : Mach) : Mach := if m.qre.armPending && !m.running then m.behalf m.qre.armBy Mach.armNow else m

/-- What is due at the boundary before step 1: base values (R257), waiting quire-bound values (R24), a time step before a pending
arm (R83, R447), Volume arms and stops (R735, R740), windows and holds that end, shedding recovery (R117, R131), and the other
events that a beat boundary brings. (DESIGN CHOICE, log 4) (DEDUCED, log 5) -/
def Mach.boundaryWork (m : Mach) (o : BeatObs) : Mach :=
  let m1 := ((m.relockAgain.pilotReturn.baseTake.alignBeat).settlingEnd.modeRestart).auxHoldEnd
  let m2 := (m1.shedExit.railReturn).mintBias o.mintBias
  let m3 := (if m2.boot.baseInUse then m2.takeWaiting else m2).pilotRestart
  let m4 := ((m3.timeStep.pendingArm).armExpiry).volumeArm.volumeStopBeat
  let m5 := ((m4.chainBeat.calMeasure o.measured).calStart.playStart).isoStale
  let m6 := (((m5.holdRereads o.slipBad).telAge).telTimeouts).certCheck
  let m7 := (((m6.ringCalAlign).syncSend).volAdrift).readyAgain
  let m8 := (m7.decayBeat.decayPass).selfRefresh
  { m8 with store := { m8.store with accessed := false } }

/-- Step 6 (R15, R319, R322): a pending trim set lands with no folio open, else it waits and may open a gap. -/
def Mach.trimStep (m : Mach) : Mach :=
  let m1 := m.trimLand
  ({ m1 with trm := m1.trm.countWait } : Mach).gapOpen

/-- Whether step 2 skips a change to address a of a request of master k (R187, R206, R235). -/
def Mach.insertLocked (m : Mach) (before : Mach) (k : Option Master) (a : Nat) : Bool :=
  match coverOwner m.ctl.locksStep1 before.pval a with
  | some h => some h != k
  | none => false

/-- Step i of R15, from 1. `before` is the engine as the work found it. (DEDUCED, log 15) -/
def Mach.workStep (m : Mach) (before : Mach) (o : BeatObs) (i : Nat) : Mach :=
  match i with
  | 1 => m.leases
  | 2 => m.insertStep before.boot.acqReady o.vaultBad (m.insertLocked before)
  | 3 => m.behalf (some .spi) (·.commitStep before .spi o)
  | 4 => m.behalf (some .host) (·.commitStep before .host o)
  | 5 => (m.recompute before o.recompBad).timeStep.armLanded
  | 6 => m.trimStep
  | 7 => m.asyStep7
  | 8 => m.latchFlags
  | 9 =>
    let m1 := m.digestStep m.ctl.digestDue
    { m1 with ctl := { m1.ctl with digestDue := false, spiWrote := [] } }
  | _ => m

/-- FOLIO_HEADER_WRITE at a beat (R32, R453): the header of every folio whose last sample lies before this boundary. -/
def Mach.headersDue (m : Mach) : Mach :=
  (m.qre.pend.filter fun f => decide (f.beat2 < m.tim.beats)).foldl (fun m f => m.writeHeader f) m

/-- What follows step 9: headers (R32), slips that end SHORT (R516), `ASY.KICK` requests (R649), and the responses of sealed
CTRL COMMITs (R172). (DEDUCED, log 5) -/
def Mach.closeWork (m : Mach) : Mach :=
  let m1 := ({ m with flt := { m.flt with step := 10 } } : Mach).headersDue
  let m2 := (((m1.telShorts).kicks.flushDropped).eventSend).ctrlLanded
  { m2 with flt := { m2.flt with step := 11 } }

/-! ### The work of a boundary on the state -/

/-- The state with a beat boundary open: the one in progress, or a new one (R15). (DESIGN CHOICE, log 4) -/
def State.opened (s : State) (o : BeatObs) : State :=
  if s.work < 9 then s
  else
    let m := s.m.openBeat o
    { s with m := m.boundaryWork o, before := some m, work := 0 }

/-- The state with steps up to n of the work in progress done. (DESIGN CHOICE, log 4) -/
def State.workTo (s : State) (o : BeatObs) (n : Nat) : State :=
  let before := s.before.getD s.m
  let m := ((List.range 10).filter fun i => decide (s.work < i) && decide (i ≤ n)).foldl
    (fun m i => ({ m with flt := { m.flt with step := i } } : Mach).workStep before o i) s.m
  { s with m, work := max s.work n }

/-- BEAT (R15): the boundary and all its work. In reset there is none. (DESIGN CHOICE, log 4) -/
def State.beat (s : State) (o : BeatObs) : State :=
  if s.m.boot.inReset then s
  else
    let s1 := (s.opened o).workTo o 9
    { s1 with m := s1.m.closeWork, before := none, work := 9 }

/-- A boundary's work as far as step n, for an event of that step; no effect in reset or when the step is done. (DESIGN CHOICE, log 4) -/
def State.beatTo (s : State) (o : BeatObs) (n : Nat) : State :=
  if s.m.boot.inReset then s else (s.opened o).workTo o n

/-- Whether step n of a boundary's work is still to come. -/
def State.stepAhead (s : State) (n : Nat) : Bool := s.work == 9 || decide (s.work < n)

/-- The number of the boundary whose work is in progress, or of the next one. -/
def State.boundary (s : State) : Nat := if s.work < 9 then s.m.tim.beats else s.m.tim.beats + 1

/-- One core clock with no command waiting (R7): time advances; the next beat boundary stays ahead until a BEAT brings it.
(DESIGN CHOICE, log 2) -/
def Mach.clock (m : Mach) : Mach :=
  if m.boot.inReset || decide (1023 ≤ m.tim.clk) then m else m.passTo (m.tim.clk + 1)

/-- What a step does on an empty queue. (DESIGN CHOICE, log 2) (DESIGN CHOICE, log 97) -/
def State.tick (s : State) : State := { s with m := s.m.clock }

/-- The step of a master's commits (R15). -/
def stepOf : Master → Nat
  | .spi => 3
  | .host => 4

/-- COMMIT_LAND (R176): master k's sealed commit goes through its landing beat's step; no effect while it has none due. -/
def State.commitLand (s : State) (k : Master) (o : BeatObs) : State :=
  let d := if s.work < 9 then (s.m.session k).due else (s.m.session k).commit
  if d.isSome && s.stepAhead (stepOf k) then s.beatTo o (stepOf k) else s

/-- DEFERRED_RELEASE (R180): with ACQ_READY high as the work starts, master k's oldest deferred commit is released. -/
def State.deferredRelease (s : State) (k : Master) (o : BeatObs) : State :=
  if (s.before.getD s.m).boot.acqReady && !(s.m.session k).deferred.isEmpty && s.stepAhead (stepOf k) then s.beatTo o (stepOf k) else s

/-- LEASE_EXPIRY (R196): lock n, HELD with its lease run out, meets step 1. -/
def State.leaseExpiry (s : State) (n : Fin 8) (o : BeatObs) : State :=
  let l := vget s.m.ctl.locks n.val
  if l.st == .held && l.lease == 0 && s.stepAhead 1 then s.beatTo o 1 else s

/-- INSERT_APPLY and INSERT_REMOVE (R238): the oldest request, of the kind `apply` says, meets step 2. -/
def State.insertNow (s : State) (apply : Bool) (o : BeatObs) : State :=
  match s.m.ins.queue with
  | r :: _ => if r.apply == apply && decide (r.after < s.boundary) && s.stepAhead 2 then s.beatTo o 2 else s
  | [] => s

/-- TRIM_EPOCH_LAND (R319): a pending set meets step 6 with no folio open. -/
def State.trimEpochLand (s : State) (o : BeatObs) : State :=
  if s.m.trm.pending.isSome && s.m.qre.cur.isNone && s.stepAhead 6 then s.beatTo o 6 else s

end Sys2Proof.Machine
end

