-- ==== Sys2Proof/Machine/Read.lean ====
section
/-! DEFINITION. Machine/Read.lean: what a READ of each parameter returns (R87, R157 to R160 and the field tables of the
chapters), and what reading changes. -/

namespace Sys2Proof.Machine

/-- A number with bit lo + i set where f i holds, i below n. -/
def maskAt (lo n : Nat) (f : Nat → Bool) : Nat := ((List.range n).map fun i => 2 ^ (lo + i) * b2n (f i)).sum

/-- A detector state in a field (R392, R856). -/
def Det.code : Det → Nat
  | .undecided => 0 | .low => 1 | .high => 2

/-- A master in a field: 1 SPI port, 2 Spine host port, 0 none (R174, R210). -/
def masterCode : Option Master → Nat
  | none => 0 | some .spi => 1 | some .host => 2

/-! ### Identity and status (R154, R167, R174; ch. 01) -/

/-- A commit result word (R154). -/
def CRes.word (r : CRes) : Word :=
  w32 (r.code.toNat + 16 * b2n r.busy + 2 ^ 8 * r.landed.toNat + 2 ^ 17 * r.lost.toNat)

/-- `ID.*`, `ST.*` and `WIN.STAT`, read by master k. (DEDUCED, log 87) -/
def Mach.rdId (m : Mach) (k : Master) (a : Nat) : Word :=
  match a with
  | 0x00 => 0x4810
  | 0x01 => 1
  | 0x02 => w32 m.vlt.serial.toNat
  | 0x03 => w32 (m.vlt.serial.toNat / 2 ^ 32)
  | 0x06 => 6214
  | 0x07 => w32 (masterCode (some k))
  | 0x10 => w32 (b2n (!m.par.quire.isEmpty || m.dec.waiting) + 2 * b2n (!m.par.frame.isEmpty)
      + 4 * b2n (!m.ctl.spi.deferred.isEmpty || !m.ctl.host.deferred.isEmpty))
  | 0x11 => w32 m.par.pins.length
  | 0x12 => w32 m.hall.latched.toNat
  | 0x13 => w32 (b2n m.boot.ready + 2 * b2n m.boot.acqReady + 4 * b2n (decide (6 ≤ m.pwr.stage)) + 8 * b2n m.isMember)
  | 0x14 => w32 m.flt.alert.toNat
  | 0x15 => m.ctl.spi.cres.word
  | 0x16 => m.ctl.host.cres.word
  | 0x17 => w32 (m.ctl.port.crcErr.toNat + 2 ^ 16 * m.ctl.port.frmErr.toNat)
  | 0x43 => w32 (m.ctl.win.st.toNat + 2 ^ 4 * m.ctl.win.words.toNat + 2 ^ 8 * m.ctl.win.cause.toNat)
  | _ => 0

/-! ### Timebase (R90) -/

/-- The reference states in the coding of `TIM.STAT`[1:0]. -/
def RefState.code : RefState → Nat
  | .freerun => 0 | .locking => 1 | .locked => 2 | .holdover => 3

/-- `TIM.*`. -/
def Mach.rdTim (m : Mach) (a : Nat) : Word :=
  let t := m.tim
  match a with
  | 0x400 => w32 (t.ref.code + 4 * b2n t.ref100 + 8 * b2n t.holding + 2 ^ 4 * b2n t.synthLock + 2 ^ 5 * b2n t.slices
      + 2 ^ 6 * b2n t.timeValid + 2 ^ 7 * b2n t.action.isSome + 2 ^ 8 * b2n (t.core.active || t.synth.active)
      + 2 ^ 9 * b2n t.ppsValid + 2 ^ 10 * b2n t.qualifying + 2 ^ 11 * b2n t.exhausted)
  | 0x406 => m.beatLo
  | 0x407 => w32 (m.beat / 2 ^ 32)
  | 0x408 => word96 m.now 0
  | 0x409 => word96 m.now 1
  | 0x40A => word96 m.now 2
  | 0x40E => word96 (BitVec.ofNat 96 t.ppsCap) 0
  | 0x40F => word96 (BitVec.ofNat 96 t.ppsCap) 1
  | 0x410 => word96 (BitVec.ofNat 96 t.ppsCap) 2
  | 0x411 => t.ppsCnt
  | 0x412 => t.ppsBad
  | 0x414 => t.relocks
  | _ => 0

/-! ### Power (R128, R856) -/

/-- A level in µV rounded to mV (R278). -/
def roundMv (uv : Nat) : Nat := (roundDiv uv 1000).toNat

/-- `PWR.*`, read by master k. -/
def Mach.rdPwr (m : Mach) (k : Master) (a : Nat) : Word :=
  let p := m.pwr
  if a = 0x500 then
    w32 (p.stage + 8 * b2n p.hold + maskAt 4 8 (fun d => vget p.dom d != .off) + 2 ^ 12 * b2n p.in34Down
      + maskAt 13 9 fun r => decide (1000 * (vget p.rails r).mv < m.threshold r 1))
  else if a = 0x50D then p.cnt
  else if a = 0x50E then w32 (p.lastRail.toNat + 16 * p.lastStage.toNat)
  else if 0x510 ≤ a ∧ a < 0x519 then
    let r := vget p.rails (a - 0x510)
    w32 (r.mv % 2 ^ 16 + 2 ^ 16 * ((match k with | .spi => r.lowS | .host => r.lowH) % 2 ^ 16))
  else if a = 0x519 then w32 ((List.range 8).countP fun i => p.shedOk.getLsbD i)
  else if 0x520 ≤ a ∧ a < 0x556 then
    let r := (a - 0x520) / 6
    let s := (a - 0x520) % 6 + 1
    w32 (roundMv (m.threshold r s) + 2 ^ 16 * roundMv (m.recovery r s))
  else if 0x560 ≤ a ∧ a < 0x566 then vget p.stgCnt (a - 0x560)
  else 0

/-! ### Sessions and escrow (R210) -/

/-- `PRT.*` and `ESC.*`. -/
def Mach.rdPrt (m : Mach) (a : Nat) : Word :=
  let defer (s : Session) : Word := w32 (s.deferred.length + 2 ^ 8 * s.refused.toNat)
  let lock (n : Nat) : Lock := vget m.ctl.locks n
  match a with
  | 0x601 => defer m.ctl.spi
  | 0x602 => defer m.ctl.host
  | 0x603 => m.ctl.spi.land
  | 0x604 => m.ctl.host.land
  | 0x605 => m.ctl.spi.lost
  | 0x606 => m.ctl.host.lost
  | 0x607 => w32 (m.ctl.spi.disc.toNat + 2 ^ 16 * m.ctl.host.disc.toNat)
  | 0x628 => m.ctl.forfeits
  | _ =>
    if 0x610 ≤ a ∧ a < 0x618 then
      let l := lock (a - 0x610)
      w32 ((match l.st with | .free => 0 | .held => 1 | .forfeit => 2) + 4 * masterCode l.owner + 16 * l.cause.toNat)
    else if 0x618 ≤ a ∧ a < 0x620 then w32 (lock (a - 0x618)).lease
    else 0

/-! ### Vault and inserts (R248, R856) -/

/-- `VLT.*` and `INS.*`. -/
def Mach.rdVlt (m : Mach) (a : Nat) : Word :=
  let v := m.vlt
  let i := m.ins
  match a with
  | 0x700 => w32 (v.st.toNat + 16 * v.lastOp.toNat + 2 ^ 8 * v.cause.toNat)
  | 0x706 => v.len
  | 0x707 => w32 (b2n v.baseBank.isSome + 2 * b2n (v.baseBank == some true) + 4 * b2n v.polBank.isSome + 8 * b2n (v.polBank == some true)
      + 16 * b2n v.mintBank.isSome + 32 * b2n (v.mintBank == some true) + 64 * b2n v.copyB)
  | 0x708 => w32 v.powered
  | 0x709 => w32 (v.powered / 2 ^ 32)
  | 0x70A => w32 (v.nv.corrected.toNat + 2 ^ 16 * v.nv.scrubs.toNat)
  | 0x70B => w32 (v.powered - v.nv.scrubEnd)
  | 0x70C => w32 (v.eccCorr.toNat + 2 ^ 16 * v.eccUnc.toNat)
  | 0x70E => v.gen
  | 0x781 => w32 (i.active + 2 ^ 8 * i.queue.length + 2 ^ 12 * i.result.toNat + 2 ^ 16 * i.written.toNat)
  | 0x782 => v.slots
  | 0x784 => w32 i.skipped.toNat
  | 0x785 => i.lastBeat
  | 0x786 => i.ops
  | _ =>
    if 0x790 ≤ a ∧ a < 0x7CE then
      let n := (a - 0x790) / 2 + 1
      let bs := match v.nv.active n with | some b => m.bankBytes n b | none => []
      if (a - 0x790) % 2 = 0 then
        w32 ((if bs.isEmpty then 0 else imgCount bs % 2 ^ 9) + 2 ^ 9 * b2n (v.slots.getLsbD n) + 2 ^ 10 * b2n (v.nv.active n == some true))
      else if bs.isEmpty then 0 else w32 (imgNum bs 28 4)
    else 0

/-! ### Front end, slices and live trim (R303, R304, R332, R333, R856) -/

/-- `FE.CALSTAT`[8:4] (R297, R303): the measurement in progress while calibration runs, 0 before the first; afterwards a free value.
(DESIGN CHOICE, log 83) -/
def Mach.measurement (m : Mach) : Nat :=
  if m.fe.meas = 0 then 0
  else if m.fe.cal == .running then min m.fe.meas 24
  else Config.measurement m.fe.calStart % 32

/-- `FE.*` and the global `TRM.*`, read by master k. -/
def Mach.rdFe (m : Mach) (k : Master) (a : Nat) : Word :=
  let f := m.fe
  let t := m.trm
  if a < 0x840 then
    let x := vget f.front ((a - 0x800) / 16)
    if a % 16 = 3 then
      w32 (b2n x.firing + 2 * b2n (x.isOver || (match k with | .spi => x.ovlS | .host => x.ovlH)) + 4 * b2n x.settle.isSome + 8 * b2n x.powered)
    else if a % 16 = 4 then x.cnt else 0
  else if 0x890 ≤ a then (if a < 0x89C then vget t.models (a - 0x890) else 0)
  else
    match a with
    | 0x842 => w32 (f.mode + 4 * b2n f.gating + 8 * b2n (f.front.toList.any (·.settle.isSome))
        + maskAt 4 4 (fun i => (vget f.front i).powered) + maskAt 8 4 fun i => (vget f.front i).firing)
    | 0x843 => w32 ((match f.cal with | .notRun => 0 | .running => 1 | .passed => 2 | .failed => 3) + 16 * m.measurement
        + 2 ^ 9 * f.failing + 2 ^ 24 * f.lowest)
    | 0x844 => f.calBeat
    | 0x845 => f.settleRej
    | 0x884 => w32 ((match t.st with | .idle => 0 | .unsettled => 1 | .settled => 2 | .held => 3) + 4 * b2n t.pending.isSome
        + 8 * b2n t.gap + 16 * b2n t.inUse.settled + 32 * b2n (m.mnt.st == .pilot) + 64 * b2n t.inUse.sub + 2 ^ 7 * min 16 t.blocks)
    | 0x885 => w32 t.epoch
    | 0x886 => t.epochBeat
    | 0x887 => w32 t.wait
    | 0x888 => t.epochRej
    | 0x889 => t.gapRej
    | 0x88E => w32 t.inUse.clamped.length
    | _ => if 0x88A ≤ a ∧ a < 0x88E then vget t.inUse.pamp (a - 0x88A) else 0

/-- `SLC.*` and the per-slice `TRM.*` of slice n. (DEDUCED, log 85) -/
def Mach.rdSlice (m : Mach) (a : Nat) : Word :=
  let n := (a - 0x1000) / 8
  let c := m.trm.inUse.coef n
  let fig := (m.fe.figs.lookup n).getD {}
  let input := inputOfSlice m.fe.mode n
  match a % 8 with
  | 0 => w32 (b2n (m.fe.corr.lookup n).isSome + 2 * b2n (m.fe.failFig.lookup n).isSome + 4 * ((m.fe.failFig.lookup n).getD 0)
      + 16 * b2n (m.slicePowered n) + 32 * (if m.slicePowered n then input + 1 else 0) + 2 ^ 8 * (n / 64))
  | 1 => w32 fig.ofs.toNat
  | 2 => w32 fig.gain.toNat
  | 3 => w32 (fig.noise.toNat + 2 ^ 8 * fig.lin.toNat)
  | 4 => w32 (ofInt c.o 16)
  | 5 => w32 (ofInt c.g 16)
  | 6 => w32 (ofInt c.t 16)
  | _ => w32 (((m.trm.inUse.clamped.lookup n).getD 0).toNat + 8 * min 16 (vget m.trm.inUse.skews input))

/-! ### Mint (R368, R856) -/

/-- `MNT.*`. (DEDUCED, log 86) -/
def Mach.rdMnt (m : Mach) (a : Nat) : Word :=
  let n := m.mnt
  let pu := if n.st = .off then m.vlt.mintCode else n.pu
  match a with
  | 0x910 => w32 ((match n.st with | .off => 0 | .powerup => 1 | .forced => 2 | .pilot => 3 | .static => 4 | .play => 5)
      + 8 * b2n (n.phase != .none) + 16 * n.span.toNat + 2 ^ 6 * b2n (bitOf (m.pval 0x908) 0) + 2 ^ 7 * b2n n.opened
      + 2 ^ 8 * b2n n.loaded + 2 ^ 16 * m.mintShown.toNat)
  | 0x911 => w32 n.comply.toNat
  | 0x912 => w32 n.fault.toNat
  | 0x913 => n.trips
  | 0x914 => w32 ((pu.getD 0x2000).toNat + 2 ^ 16 * b2n pu.isNone)
  | _ => if 0x940 ≤ a ∧ a < 0x97F then w32 (vget m.vlt.nv.segTrim (a - 0x940)).toNat else 0

/-! ### Trigger and clearing table (R392, R419, R856) -/

/-- `TRG.DSTATE_e` (R856). -/
def Mach.detWord (m : Mach) (e : Nat) : Word :=
  let x := vget m.trg.entries e
  let c := m.entryCfg e
  let v := patternVal (fun i => (m.entryCfg i).kind == 7) (fun i => (vget m.trg.entries i).a) c.terms
  w32 (x.a.code + 4 * x.b.code + 16 * b2n x.pend.isSome + 32 * b2n (c.kind == 7 && v == some true) + 64 * b2n (c.kind == 7 && v.isNone))

/-- `TRG.*`. -/
def Mach.rdTrg (m : Mach) (a : Nat) : Word :=
  let t := m.trg
  let undec (lo : Nat) : Word := w32 (maskAt 0 32 fun i => (vget t.entries (lo + i)).a == .undecided)
  let bad (lo : Nat) : Word := w32 (maskAt 0 32 fun i => (m.entryCfg (lo + i)).bad)
  match a with
  | 0xA00 => w32 (t.aux.code + 4 * b2n t.auxHold.isSome + 8 * b2n (bitOf (m.pval 0xA03) 0 && m.domUp 2) + maskAt 4 4 m.delivers)
  | 0xA04 => t.detCnt
  | 0xA05 => t.fallback
  | 0xA06 => t.lastDet
  | 0xA08 => word96 t.lastTs 0
  | 0xA09 => word96 t.lastTs 1
  | 0xA0A => word96 t.lastTs 2
  | 0xA18 => undec 0
  | 0xA19 => undec 32
  | 0xA1A => bad 0
  | 0xA1B => bad 32
  | 0xA23 => w32 (maskAt 0 4 fun s => (vget t.seq s).isSome)
  | 0xA28 => t.accept
  | 0xA29 => t.busyRej
  | 0xA2A => t.holdRej
  | 0xA2B => t.rateRej
  | 0xA2C => t.armRej
  | 0xA2D => t.lastWin
  | 0xA2E => w32 t.lastMask.toNat
  | 0xA2F => w32 (t.lastMask.toNat / 2 ^ 32)
  | 0xA30 => w32 t.credits
  | 0xA31 => t.marks
  | 0xA32 => word96 t.markTs 0
  | 0xA33 => word96 t.markTs 1
  | 0xA34 => word96 t.markTs 2
  | 0xA35 => w32 t.holdCnt
  | _ => if 0xA40 ≤ a ∧ a < 0xA80 then m.detWord (a - 0xA40) else 0

/-! ### Decimator, quires and store (R427, R441, R474, R856) -/

/-- A FIR tap as landed, with its mirrored half, and 0 beyond its set (R427). -/
def Mach.rdTap (m : Mach) (a : Nat) : Word :=
  let (s, t) := tapOf a
  let n := setLen s
  if n ≤ t then 0
  else
    let u := if t ≤ (n - 1) / 2 then t else n - 1 - t
    ((m.dec.taps.lookup (0x2000 + 384 * s + u)).getD (factoryTap s u)) &&& 0x3FFFF

/-- Whether set s in use is replaced: a tap in use differs from its factory value (R430). -/
def Mach.replaced (m : Mach) (s : Nat) : Bool :=
  m.dec.use.any fun e => decide ((tapOf e.1).1 = s) && e.2 != factoryAt e.1

/-- `DEC.*`. -/
def Mach.rdDec (m : Mach) (a : Nat) : Word :=
  let p := m.useN 0xB00
  match a with
  | 0xB03 => w32 (p + 8 * b2n (bitOf (m.use 0xB01) 0) + maskAt 4 4 m.replaced + 2 ^ 8 * b2n (m.stageOn 3))
  | 0xB08 => m.dec.clamps
  | 0xB09 => word96 m.dec.anchor 0
  | 0xB0A => word96 m.dec.anchor 1
  | 0xB0B => word96 m.dec.anchor 2
  | 0xB0C => w32 (groupDelay p)
  | 0xB0D => w32 (presetRow p).1
  | _ => if 0xB04 ≤ a ∧ a < 0xB08 then vget m.dec.sums (a - 0xB04) else 0

/-- `QRE.*` (R474, R536). (DEDUCED, log 87) -/
def Mach.rdQre (m : Mach) (a : Nat) : Word :=
  let q := m.qre
  let s := m.store
  match a with
  | 0xC10 => w32 ((match q.st with | .idle => 0 | .running => 1 | .finishing => 2 | .closed => 3)
      + 4 * b2n (q.armPending || q.volPending) + 8 * b2n q.hiFill + 16 * q.closeCause.toNat + 2 ^ 8 * q.armCause.toNat)
  | 0xC11 => q.qid
  | 0xC12 => w32 q.folios
  | 0xC13 => w32 q.headers
  | 0xC14 => w32 q.fill
  | 0xC15 => q.overwrites
  | 0xC16 => q.armBeat
  | 0xC17 => w32 q.claimed
  | 0xC41 => w32 ((match s.st with | .untrained => 0 | .training => 1 | .trained => 2 | .failed => 3) + 16 * s.failStep.toNat
      + 2 ^ 8 * b2n s.selfRef + 2 ^ 12 * s.failSub.toNat)
  | 0xC42 => w32 s.size
  | 0xC44 => s.eccCor
  | 0xC45 => s.eccUnc
  | 0xC46 => 1500
  | 0xC47 => s.srCnt
  | _ => if 0xC80 ≤ a ∧ a < 0xCC0 then (s.trn.lookup a).getD 0 else 0

/-! ### Ledger (R500) -/

/-- The page states in the coding of `LDG.STAT`. -/
def PageSt.code : PageSt → Nat
  | .empty => 0 | .accumulating => 1 | .closed => 2 | .clearing => 3

/-- `LDG.*`. -/
def Mach.rdLdg (m : Mach) (a : Nat) : Word :=
  let l := m.ldg
  if a = 0xD07 then
    w32 ((vget l.pages 0).st.code + 4 * (vget l.pages 1).st.code + 16 * l.backlog.length + 2 ^ 11 * b2n (m.stageOn 3)
      + 2 ^ 12 * b2n l.decaying + 2 ^ 13 * b2n l.clearing)
  else if 0xD08 ≤ a ∧ a < 0xD0F then vget l.skip (a - 0xD08)
  else if 0xD10 ≤ a ∧ a < 0xD30 then
    let p := vget l.pages ((a - 0xD10) / 16)
    match a % 16 with
    | 0 => p.qid
    | 1 => p.qlast
    | 2 => w32 p.count
    | 3 => w32 (p.flags.toNat + 2 ^ 16 * p.cert.toNat)
    | 4 => w32 (p.preset + 8 * b2n p.peak + 16 * p.inputs.toNat + 2 ^ 8 * p.cause.toNat + 2 ^ 12 * b2n p.damaged)
    | 5 => w32 p.first
    | 6 => w32 p.bins
    | 7 => p.openB
    | 8 => p.closeB
    | 9 => w32 (p.trim1.toNat + 2 ^ 16 * p.trim2.toNat)
    | _ => 0
  else if a = 0xD48 then l.hfolios
  else 0

/-! ### Tellers (R536) -/

/-- Whether channel c waits for its RATE credit (R519). -/
def Mach.telRateWait (m : Mach) (c : Nat) : Bool :=
  let t := m.tel c
  let pace := m.pval (0xE03 + 16 * c)
  match t.nextWrite with
  | some (_, n) => bitOf pace 0 && decide (creditNow t.credit t.creditAt m.tim.mono (fld pace 8 7) (m.refRate t.slip.dest) < 640 * n)
  | none => false

/-- `TEL.*`. -/
def Mach.rdTel (m : Mach) (a : Nat) : Word :=
  let c := (a - 0xE00) / 16
  let t := m.tel c
  match a % 16 with
  | 7 => w32 (m.telShown c + 8 * b2n (m.telRateWait c) + 16 * b2n (bitOf (m.pval (0xE03 + 16 * c)) 1 && !m.qre.hiFill)
      + 32 * b2n (m.stageOn 2) + 2 ^ 8 * t.result.toNat + 2 ^ 12 * t.cause.toNat + 2 ^ 16 * t.out.length)
  | 8 => w32 t.cur
  | 9 => w32 (t.cur / 2 ^ 32)
  | 10 => t.done
  | 11 => w32 t.total.toNat
  | 12 => w32 (t.total.toNat / 2 ^ 32)
  | 13 => w32 t.irq.toNat
  | 14 => t.tag
  | 15 => t.errs
  | _ => 0

/-! ### Spine (R580, R606, R856) -/

/-- The port states in the coding of `SPN.STAT_p`. -/
def PortSt.code : PortSt → Nat
  | .off => 0 | .idle => 1 | .train => 2 | .hello => 3 | .up => 4 | .down => 5

/-- `SPN.*` and `XFR.*`. -/
def Mach.rdSpn (m : Mach) (a : Nat) : Word :=
  let s := m.spn
  if a = 0xF02 then w32 (b2n s.refclk)
  else if a = 0xF03 then w32 (s.drop.toNat + 2 ^ 16 * s.dropCtrl.toNat)
  else if 0xF04 ≤ a ∧ a < 0xF0C then
    let g := a - 0xF04
    if g < 4 then (vget (m.portOf 0).lanes g).corr else (vget (m.portOf (1 + (g - 4) / 2)).lanes (g % 2)).corr
  else if 0xF10 ≤ a ∧ a < 0xF40 then
    let i := (a - 0xF10) / 16
    let p := m.portOf i
    match a % 16 with
    | 0 => w32 (p.st.code + 16 * p.step + 2 ^ 8 * p.cause.toNat + maskAt 12 (laneCount i) (fun l => (vget p.lanes l).inv) + 2 ^ 16 * min 255 p.fails)
    | 1 => (List.range (laneCount i)).foldl (fun w l => w + (vget p.lanes l).corr) 0
    | 2 => p.unc
    | 3 => w32 (p.badPkt.toNat + 2 ^ 16 * p.badCtl.toNat)
    | 4 => p.replayed
    | 5 => p.downs
    | 6 => w32 (p.part.toNat + 2 ^ 16 * p.build.toNat)
    | 7 => w32 (p.role.toNat + 2 ^ 8 * p.pos.toNat)
    | 8 => w32 (p.credit.p + 2 ^ 16 * p.credit.n)
    | 9 => w32 p.credit.c
    | l =>
      let x := vget p.lanes (l - 10)
      if l - 10 < laneCount i then w32 (x.pre + 2 ^ 8 * x.main + 2 ^ 16 * x.post + 2 ^ 24 * x.skew.toNat) else 0
  else if 0xF90 ≤ a ∧ a < 0xFC0 then
    let p := m.portOf ((a - 0xF90) / 16)
    match a % 16 with
    | 3 => w32 (p.window.length + 16 * b2n p.rxRec.isSome)
    | 4 => p.rxRecs
    | 5 => p.rxBad
    | 6 => p.missQid
    | 7 => w32 p.missIdx
    | 8 => p.keyReqTx
    | _ => 0
  else if 0xFC0 ≤ a ∧ a < 0xFCC then
    let x := (m.portOf ((a - 0xFC0) / 4)).sender
    match a % 4 with
    | 0 => x.qid.getD 0
    | 1 => w32 (x.key + 2 ^ 20 * b2n x.held)
    | 2 => w32 (x.deltas + 2 ^ 9 * b2n x.force)
    | _ => 0
  else if 0xFD0 ≤ a ∧ a < 0xFE8 then
    (((m.portOf ((a - 0xFD0) / 8)).window[(a - 0xFD0) % 8]?).map (·.qid)).getD 0
  else
    match a with
    | 0xF82 => s.keys
    | 0xF83 => s.deltas
    | 0xF84 => s.forced
    | 0xF85 => s.keyMiss
    | 0xF86 => w32 (s.keyReqOk.toNat + 2 ^ 16 * s.keyReqNo.toNat)
    | _ => 0

/-! ### Scan-out (R642, R856) -/

/-- `DSP.*`. -/
def Mach.rdDsp (m : Mach) (a : Nat) : Word :=
  let d := m.dsp
  let p := d.dp
  let lv (l : Level) : Nat := match l with | .full => 0 | .half => 1 | .low20 => 2
  match a with
  | 0x2612 => w32 m.dsiRate
  | 0x2618 => w32 (b2n p.connected + 2 * b2n p.trained + 4 * p.rate.toNat
      + 16 * b2n (d.dpJoin && p.connected && p.trained && p.modes.getLsbD d.mode && d.st == .running) + 32 * b2n p.ignoreMsa
      + 2 ^ 8 * p.cause.toNat + 2 ^ 16 * p.edid.toNat)
  | 0x2619 => w32 p.modes.toNat
  | 0x261A => w32 p.minRate.toNat
  | 0x2620 => w32 (d.mode + 8 * b2n (d.st == .changing) + 16 * lv d.level + 2 ^ 6 * b2n d.flipWait + 2 ^ 7 * b2n d.dark
      + 2 ^ 8 * b2n d.teLock + 2 ^ 9 * b2n d.teLost + 2 ^ 10 * b2n d.invalid + 2 ^ 11 * b2n d.cmapBad
      + 2 ^ 12 * (match d.st with | .off => 0 | .starting => 1 | .running => 2 | .changing => 3) + 2 ^ 14 * b2n (d.dsi == .held))
  | 0x2621 => d.badMode
  | 0x2622 => w32 d.frame
  | 0x2623 => w32 (d.frame / 2 ^ 32)
  | 0x2624 => d.fstat
  | 0x2625 => word96 d.flipTs 0
  | 0x2626 => word96 d.flipTs 1
  | 0x2627 => word96 d.flipTs 2
  | 0x2628 => d.flipCnt
  | 0x2629 => d.flipDrop
  | 0x262A => d.underrun
  | 0x262B => w32 m.dspTol
  | 0x262C => d.flipNum
  | _ => if 0x2640 ≤ a ∧ a < 0x2680 then modeWord ((a - 0x2640) / 8) (a % 8) else 0

/-! ### Assay and Isotherm (R678, R679) -/

/-- `ASY.*` and `ISO.*`. -/
def Mach.rdAsy (m : Mach) (a : Nat) : Word :=
  let y := m.asy
  let i := m.iso
  if 0x2700 ≤ a ∧ a < 0x2780 then
    let x := vget y.accs ((a - 0x2700) / 4)
    w32 (ofInt (if a % 4 = 1 then x.mean else if a % 4 = 2 then x.loCopy else x.hiCopy) 32)
  else if 0x27A0 ≤ a ∧ a < 0x27C0 then
    let x := vget y.accs (a - 0x27A0)
    w32 (x.means.toNat + 2 ^ 16 * x.lastFlags.toNat + 2 ^ 20 * min 255 x.dropped + 2 ^ 28 * min 15 x.replaced)
  else
    match a with
    | 0x27D2 => w32 (b2n y.sar1.isSome + 2 * b2n y.sar2.isSome + 4 * b2n y.int.isSome + 8 * b2n y.low + 16 * b2n (y.calSt == 1)
        + 32 * b2n (y.wire != .none) + 64 * b2n (bitOf (m.pval 0x27DB) 15) + 2 ^ 7 * b2n (!y.started) + 2 ^ 8 * y.reqs.length)
    | 0x27D5 => y.fresh
    | 0x27D8 => w32 (y.calSt.toNat + 4 * y.calSet.toNat + 32 * y.calPt.toNat + 2 ^ 8 * y.calCause.toNat
        + maskAt 12 8 fun x => (vget y.u0 x).isSome)
    | 0x27DA => w32 y.owStat.toNat
    | 0x27DC => y.missed
    | 0x27DD => y.convs
    | 0x27E9 => w32 y.limStat.toNat
    | 0x27F6 => w32 ((match i.st with | .off => 0 | .warming => 1 | .locked => 2 | .ool => 3 | .fault => 4) + 8 * i.cause.toNat
        + 2 ^ 16 * min 65535 i.dutyUse)
    | 0x27F7 => w32 (ofInt i.temp 32)
    | 0x27F8 => w32 (min 65535 (i.integ * 65536 / isoOne))
    | _ => 0

/-! ### Calibration (R705, R856, R857) -/

/-- `CAL.*`. -/
def Mach.rdCal (m : Mach) (a : Nat) : Word :=
  let c := m.cal
  let bytes (bs : List Byte) (lo : Nat) : Word := w32 (leNat ((bs.drop lo).take 4))
  match a with
  | 0x2806 => w32 ((match c.st with | .idle => 0 | .running => 1 | .done => 2 | .failed => 3) + 16 * c.cause.toNat + 2 ^ 10 * c.point
      + 2 ^ 16 * c.points)
  | 0x2807 => w32 (maskAt 0 32 fun e => (c.draft.lookup e).isSome)
  | 0x2808 => w32 (maskAt 0 4 fun e => (c.draft.lookup (32 + e)).isSome)
  | 0x280D => w32 (c.sealSt.toNat + 2 ^ 8 * c.sealCause.toNat)
  | 0x280E => w32 c.lastEp
  | 0x2811 => w32 (c.epoch.toNat + 2 ^ 16 * c.slot + 2 ^ 20 * b2n m.certExpired)
  | 0x2812 => w32 c.valid.toNat
  | _ =>
    if 0x2820 ≤ a ∧ a < 0x2830 then (if c.valid.getLsbD (a - 0x2820) then w32 (vget c.slotEp (a - 0x2820)).toNat else 0)
    else if 0x2830 ≤ a ∧ a < 0x2840 then bytes c.useHdr (4 * (a - 0x2830))
    else if 0x2840 ≤ a ∧ a < 0x28D0 then
      let w := (a - 0x2840) % 4
      bytes c.useEnt (32 * ((a - 0x2840) / 4) + (if w = 3 then 28 else 4 * w))
    else 0

/-! ### Volumes (R743, R856, R858) -/

/-- `VOL.*`. -/
def Mach.rdVol (m : Mach) (a : Nat) : Word :=
  let v := m.vol
  match a with
  | 0x2906 => w32 ((match v.st with | .off => 0 | .forming => 1 | .formed => 2 | .broken => 3) + 4 * b2n m.isPrincipal + 8 * b2n v.aligned
      + 16 * b2n v.adrift + 32 * b2n v.ringDone + 64 * b2n (m.running && m.qre.cfg.volume) + 2 ^ 7 * b2n v.east + 2 ^ 8 * b2n v.west
      + 2 ^ 12 * min 256 v.exch)
  | 0x2907 => w32 v.mismatch.toNat
  | 0x2908 => w32 v.present.toNat
  | 0x2909 => w32 v.absent.toNat
  | 0x290A => w32 (v.armSt.toNat + 2 ^ 8 * v.rdyMask.toNat + 2 ^ 16 * v.notMask.toNat)
  | 0x290B => v.digest
  | 0x290C => w32 (ofInt v.beatOfs 64)
  | 0x290D => w32 (ofInt v.beatOfs 64 / 2 ^ 32)
  | 0x290E => w32 (ofInt (clampZ (-2 ^ 31) (2 ^ 31 - 1) v.offset) 32)
  | 0x290F => v.hopDly
  | 0x2910 => v.closure
  | 0x2911 => v.trigMiss
  | 0x2912 => v.localTrg
  | 0x2913 => v.aligns
  | 0x2914 => v.adrifts
  | 0x2915 => v.badMsg
  | _ =>
    if 0x2920 ≤ a ∧ a < 0x2940 ∧ m.isPrincipal ∧ v.st ≠ .off then
      let p := vget v.posn ((a - 0x2920) / 4)
      match a % 4 with
      | 0 => p.digest
      | 1 => w32 p.ready.toNat
      | 2 => p.digBeat
      | _ => p.rdyBeat
    else 0

/-! ### Alerts and the event log (R765, R856) -/

/-- `FLT.*` and `LOG.*`. -/
def Mach.rdFlt (m : Mach) (a : Nat) : Word :=
  let f := m.flt
  match a with
  | 0x2A02 => w32 (f.lastCode.toNat + 2 ^ 16 * f.lastClass.toNat)
  | 0x2A40 => w32 (logEntry (nextSeq f.written))
  | 0x2A41 => w32 f.written
  | 0x2A42 => w32 (f.written / 2 ^ 32)
  | 0x2A43 => f.dropped
  | 0x2A44 => w32 f.tokens
  | 0x2A45 => w32 f.queue.length
  | 0x2A46 => w32 f.badRec
  | _ =>
    if 0x2A10 ≤ a ∧ a < 0x2A1B then vget f.count (a - 0x2A10)
    else if 0x2A20 ≤ a ∧ a < 0x2A2B then vget f.lastBeat (a - 0x2A20)
    else if 0x2A30 ≤ a ∧ a < 0x2A3B then vget f.lastSeq (a - 0x2A30)
    else 0

/-! ### Reads (R87, R157, R158) -/

/-- A read-only or W1C parameter's value to master k. -/
def Mach.rdStatus (m : Mach) (k : Master) (a : Nat) : Word :=
  if a < 0x100 then m.rdId k a
  else if a < 0x400 then (if a = 0x14C then w32 (m.par.clampAddr.toNat + 2 ^ 16 * m.par.clamps.toNat) else 0)
  else if a < 0x500 then m.rdTim a
  else if a < 0x600 then m.rdPwr k a
  else if a < 0x700 then m.rdPrt a
  else if a < 0x800 then m.rdVlt a
  else if a < 0x900 then m.rdFe k a
  else if a < 0xA00 then m.rdMnt a
  else if a < 0xB00 then m.rdTrg a
  else if a < 0xC00 then m.rdDec a
  else if a < 0xD00 then m.rdQre a
  else if a < 0xE00 then m.rdLdg a
  else if a < 0xF00 then m.rdTel a
  else if a < 0x1000 then m.rdSpn a
  else if a < 0x1800 then m.rdSlice a
  else if a < 0x2000 then (vget m.trg.entries ((a - 0x1800) / 8)).hits
  else if a < 0x2600 then m.rdTap a
  else if a < 0x2700 then m.rdDsp a
  else if a < 0x2800 then m.rdAsy a
  else if a < 0x2900 then m.rdCal a
  else if a < 0x2A00 then m.rdVol a
  else m.rdFlt a

/-- The value of the parameter at address a to master k (R157, R158, R159); in reset the status words of the timebase, the Mint,
scan-out and the Assay have their reset value 0 (R90, R368, R642, R678). (DEDUCED, log 66) -/
def Mach.rdValue (m : Mach) (k : Master) (a : Nat) : Word :=
  match rowOf a with
  | none => 0
  | some r =>
    match r.acc with
    | .wo => 0
    | .rw | .rwp => if 0x2000 ≤ a ∧ a < 0x2600 then m.rdTap a else m.pval a
    | .ro | .w1c => if m.boot.inReset && [0x0400, 0x0910, 0x2620, 0x27D2].contains a then 0 else m.rdStatus k a

/-- The multi-word values read through shadows (R87, R392, R419, R441, R618, R619, R765): the address of word 0 and the words. -/
def shadowGroups : List (Nat × Nat) :=
  [(0x0002, 2), (0x0406, 2), (0x0408, 3), (0x040E, 3), (0x0A08, 3), (0x0A2E, 2), (0x0A32, 3), (0x0B09, 3), (0x2622, 2), (0x2625, 3),
   (0x2A41, 2)]

/-- The shadowed value that holds address a. -/
def shadowOf (a : Nat) : Option (Nat × Nat) := shadowGroups.find? fun g => decide (g.1 ≤ a) && decide (a < g.1 + g.2)

/-- The value a READ of address a by master k returns (R87): words after word 0 come from the master's shadow. `m` is the engine as
R157 has it read, `now` as it stands. -/
def Mach.readAs (m now : Mach) (k : Master) (a : Nat) : Word :=
  match shadowOf a with
  | some (w0, _) => if a = w0 then m.rdValue k a else ((now.session k).shadow.lookup a).getD 0
  | none => m.rdValue k a

/-- What a READ changes for its master: the shadow of a multi-word value (R87), the lowest sample of a rail (R128), and the overload
memory of an input (R303). `before` is the engine as R157 has it read. -/
def Mach.readEffect (m before : Mach) (k : Master) (a : Nat) : Mach :=
  match shadowOf a with
  | some (w0, n) =>
    if a = w0 then
      let s := m.session k
      m.setSession k { s with shadow := (List.range n).foldl (fun t i => mput t (w0 + i) (before.rdValue k (w0 + i))) s.shadow }
    else m
  | none =>
    if 0x510 ≤ a ∧ a < 0x519 then
      m.modRail (a - 0x510) fun r => match k with | .spi => { r with lowS := r.mv } | .host => { r with lowH := r.mv }
    else if 0x800 ≤ a ∧ a < 0x840 ∧ a % 16 = 3 then
      m.modFront ((a - 0x800) / 16) fun f => match k with | .spi => { f with ovlS := f.isOver } | .host => { f with ovlH := f.isOver }
    else m

end Sys2Proof.Machine
end

