-- ==== Sys2Proof/Machine/Port.lean ====
section
/-! DEFINITION. Machine/Port.lean: the SPI port's frames and the CTRL requests (R114, R115, R132 to R159, R170 to R173, R192 to
R195, R237). -/

namespace Sys2Proof.Machine

/-! ### Frames (R137 to R144) -/

/-- The bytes of a request frame before its CRC-8 (R138). -/
def requestBytes (q : Req) (op : Byte) : List Byte := op :: (leBytes q.addr.toNat 2).reverse ++ (leBytes q.data.toNat 4).reverse

/-- A response frame with its CRC-8 (R139, R140). -/
def responseFrame (stat : Byte) (addr : BitVec 16) (data : Word) : BitVec 64 :=
  let bs := stat :: (leBytes addr.toNat 2).reverse ++ (leBytes data.toNat 4).reverse
  BitVec.ofNat 64 (leNat (bs ++ [crc8 bs]).reverse)

/-- The master that a request comes from (R173: CTRL packets of the host port). -/
def Via.master : Via → Master
  | .spi .. => .spi
  | .ctrl _ => .host

/-- What a request is answered with: status code, address field, response data, and for a sealed COMMIT the number of the
beat boundary at which it lands and of the commit. -/
structure Reply where
  code : Nat
  addr : BitVec 16
  data : Word := 0
  wait : Option (Nat × Nat) := none
  deriving DecidableEq, Repr, Inhabited

/-- The response to the previous frame shifted out (R135, R139, R143). (DESIGN CHOICE, log 9) -/
def Mach.shiftOut (m : Mach) (early : Nat) : Mach :=
  let p := m.ctl.port
  let bits := if early = 0 then m.statusBits .spi else bitsBack (early - 1) p.bits
  { m with ctl := { m.ctl with port := { p with sdo := responseFrame (m.statByte bits p.code.toNat) p.addr p.data, bits := [] } } }

/-- A reply kept for the next frame, or sent as a CTRL response (R139, R170 to R172), whose bits [6:4] are taken now, or for a sealed
COMMIT when its landing beat's work ends. (DESIGN CHOICE, log 112) -/
def Mach.reply (m : Mach) (v : Via) (r : Reply) : Mach :=
  match v with
  | .spi .. => { m with ctl := { m.ctl with port := { m.ctl.port with code := BitVec.ofNat 4 r.code, addr := r.addr, data := r.data } } }
  | .ctrl tag =>
    let c : CtrlResp := { tag, stat := m.statByte (m.statusBits .host) r.code, addr := r.addr, data := r.data, wait := r.wait }
    ({ m with ctl := { m.ctl with ctrlOut := m.ctl.ctrlOut ++ [c] } } : Mach).flushCtrl

/-- The addresses of R114. -/
def keepAddr (a : Nat) : Bool := a < 0x100 || (0x500 ≤ a && a < 0x600) || (0x2A00 ≤ a && a < 0x2B00)

/-- Whether stage 6 handles an opcode with its address (R114). -/
def keepHandles (op : Nat) (a : Nat) : Bool :=
  match op with
  | 1 | 2 => keepAddr a
  | 0 | 3 | 4 | 6 | 7 | 8 | 9 => true
  | _ => false

/-- Checks 1 to 3 of R147 on a request with opcode op, as its status code; none when they pass. (DEDUCED, log 11) -/
def Mach.frameFault (m : Mach) (op : Byte) (q : Req) : Option Nat :=
  let bad : Bool := match q.via with | .spi sck crc _ => sck != 64 || crc8 (requestBytes q op) != crc | .ctrl _ => false
  if !m.boot.ready then some 1
  else if bad then some 2
  else if m.keepMode && !keepHandles op.toNat q.addr.toNat then some 1
  else none

/-- A discarded frame counted (R141). -/
def Mach.countBad (m : Mach) (v : Via) : Mach :=
  match v with
  | .spi sck _ _ =>
    let p := m.ctl.port
    { m with ctl := { m.ctl with port := if sck = 64 then { p with crcErr := p.crcErr + 1 } else { p with frmErr := p.frmErr + 1 } } }
  | .ctrl _ => m

/-- CTRL requests that the engine has not answered yet (R171, R572). (DEDUCED, log 12) -/
def Mach.ctrlWaiting (m : Mach) : Nat :=
  m.ctl.ctrlOut.length + (m.portOf 0).txq.countP fun k => match k with | .ctrl true _ => true | _ => false

/-- An accepted request carried out on behalf of its master, and answered (R751). (DEDUCED, log 64) -/
def Mach.serveFrame (m : Mach) (q : Req) (act : Mach → Mach × Reply) : Mach :=
  let (m1, r) := act { m with flt := { m.flt with origin := some (Via.master q.via) } }
  ({ m1 with flt := { m1.flt with origin := none } } : Mach).reply q.via r

/-- A request with opcode op taken by the engine: discarded under checks 1 to 3 of R147, or given to `act`, which answers it. A frame in
reset meets no response (R134); a CTRL packet needs the host port UP, and one beyond 16 outstanding is discarded and counted
(R572). (DESIGN CHOICE, log 9) (DEDUCED, log 11) (DEDUCED, log 12) -/
def Mach.frame (m : Mach) (op : Byte) (q : Req) (act : Mach → Mach × Reply) : Mach :=
  if m.boot.inReset then m
  else
    match q.via with
    | .spi sck _ early =>
      let m1 := m.shiftOut early
      match m1.frameFault op q with
      | some code =>
        (if code = 2 then m1.countBad q.via else m1).reply q.via { code, addr := if sck = 64 then q.addr else 0 }
      | none => m1.serveFrame q act
    | .ctrl _ =>
      if !m.portUp 0 then m
      else
        let m1 := m.acceptPkt 0 1 8
        if 16 ≤ m1.ctrlWaiting then { m1 with spn := { m1.spn with dropCtrl := m1.spn.dropCtrl + 1 } }
        else
          match m1.frameFault op q with
          | some code => m1.reply q.via { code, addr := q.addr }
          | none => m1.serveFrame q act

/-! ### Staging (R18, R114, R115, R147) -/

/-- Whether a STAGE that its address and value admit is refused for who sends it or when (check 7 of R147; R86, R114, R200, R579, R730).
(DESIGN CHOICE, log 100) -/
def Mach.stageRefused (m : Mach) (k : Master) (a : Nat) (v : Word) : Bool :=
  (k == .host && ((0x40 ≤ a && a ≤ 0x42) || (0x50 ≤ a && a ≤ 0x5F)))
  || (k == .host && a == 0x600 && bitOf v 0)
  || (k == .host && ((a == 0xF00 && !bitOf v 0) || (a == 0xF01 && bitOf v 0)))
  || (m.isMember && (a == 0xC00 || a == 0xC01 || a == 0x2905 || a == 0x40D || a == 0x413))
  || (m.usesKeep k && (a == 5 || a == 0x42))

/-- Checks 5 to 9 of R147 on a STAGE by master k, as its status code. `before` is the engine as R157 reads it (R43). -/
def Mach.stageCode (m before : Mach) (k : Master) (a : Nat) (v : Word) : Nat :=
  let st := m.staging k
  if !defined a then 3
  else if decide (0x400 ≤ a) && !bitOf (before.pval 4) 0 then 9
  else if !valueOk a v || m.stageRefused k a v then 4
  else if coverOwner m.ctl.locks m.pval a == some (Master.other k) then 8
  else if decide ((if m.usesKeep k then 64 else 512) ≤ st.length) && (st.lookup a).isNone then 6
  else 0

/-- STAGE (R18, R147) by master k. -/
def Mach.stage (m before : Mach) (k : Master) (q : Req) : Mach × Reply :=
  let code := m.stageCode before k q.addr.toNat q.data
  (if code = 0 then m.setStaging k (mput (m.staging k) q.addr.toNat q.data) else m, { code, addr := q.addr })

/-- ABORT (R150) by master k: how many addresses were staged. -/
def Mach.abort (m : Mach) (k : Master) (q : Req) : Mach × Reply :=
  (m.setStaging k [], { code := 0, addr := q.addr, data := w32 (m.staging k).length })

/-! ### COMMIT (R148, R149, R154, R762) -/

/-- The sealing checks of a COMMIT by master k with an expected count (R148, R149), as its status code. -/
def Mach.commitCode (m : Mach) (k : Master) (count : Nat) : Nat :=
  let n := (m.staging k).length
  if n = 0 || (count != 0 && count != n) || (m.session k).commit.isSome then 4
  else if 256 < n then 6
  else 0

/-- The staging area of master k sealed into a commit that lands at the next beat (R20, R148, R154); its result word shows code 0 and
counts 0 until then. (DESIGN CHOICE, log 113) -/
def Mach.sealCommit (m : Mach) (k : Master) : Mach :=
  let ch := m.staging k
  let m1 := m.setStaging k []
  let s := m1.session k
  m1.setSession k { s with
    commit := some { changes := ch, landing := m.tim.beats + 1, num := s.count + 1 }, count := s.count + 1, cres := { busy := true } }

/-- COMMIT by master k. `bad` says that the staging area holds an uncorrectable error, which discards the sealed commit
(R762). (DEDUCED, log 6) (DEDUCED, log 94) -/
def Mach.commit (m : Mach) (k : Master) (bad : Bool) (q : Req) : Mach × Reply :=
  let code := m.commitCode k (fld q.data 0 10)
  if code = 0 then
    let m1 := m.sealCommit k
    let m2 := if bad then m1.stageBad k else m1
    (m2, { code := 0, addr := q.addr, data := w32 m.tim.beats
           wait := if k == .host then some (m.tim.beats + 1, (m2.session k).count) else none })
  else (if code = 6 then m.setStaging k [] else m, { code, addr := q.addr })

/-! ### Escrow (R151, R152, R192 to R195) -/

/-- Whether master k holds lock n, or the other does. -/
def Mach.heldBy (m : Mach) (n : Nat) (k : Master) : Bool := (vget m.ctl.locks n).st == .held && (vget m.ctl.locks n).owner == some k

/-- Lock n changed. -/
def Mach.modLock (m : Mach) (n : Nat) (f : Lock → Lock) : Mach := { m with ctl := { m.ctl with locks := vmod m.ctl.locks n f } }

/-- Whether the fields of an escrow request fail check 7 of R147; `lease` says that it brings one. -/
def escFault (q : Req) (lease : Bool) : Bool :=
  q.addr.toNat / 8 != 0 || (lease && (fld q.data 0 21 == 0 || decide (1048576 < fld q.data 0 21)))

/-- The lock that an escrow request names. -/
def escLock (q : Req) : Nat := q.addr.toNat % 8

/-- ESC_TAKE (R192, R193) by master k; `spi` says that the SPI port takes a free lock in this core clock, which the host port then finds
taken (R152). -/
def Mach.escTake (m : Mach) (k : Master) (spi : Bool) (q : Req) : Mach × Reply :=
  let n := escLock q
  if escFault q true then (m, { code := 4, addr := q.addr })
  else if m.heldBy n (Master.other k) || (vget m.ctl.locks n).st == .forfeit then (m, { code := 8, addr := q.addr })
  else if m.heldBy n k then (m, { code := 4, addr := q.addr })
  else if spi && k == .host then (m, { code := 8, addr := q.addr })
  else (m.modLock n fun l => { l with st := .held, owner := some k, lease := fld q.data 0 21 }, { code := 0, addr := q.addr })

/-- ESC_RENEW (R194) by master k. -/
def Mach.escRenew (m : Mach) (k : Master) (q : Req) : Mach × Reply :=
  let n := escLock q
  if escFault q true || !m.heldBy n k then (m, { code := 4, addr := q.addr })
  else (m.modLock n fun l => { l with lease := fld q.data 0 21 }, { code := 0, addr := q.addr, data := w32 (vget m.ctl.locks n).lease })

/-- ESC_GIVE (R195) by master k. -/
def Mach.escGive (m : Mach) (k : Master) (q : Req) : Mach × Reply :=
  let n := escLock q
  if escFault q false || !m.heldBy n k then (m, { code := 4, addr := q.addr })
  else (m.modLock n fun l => { l with st := .free, lease := 0 }, { code := 0, addr := q.addr })

/-! ### Other opcodes -/

/-- NOP (R145). -/
def nopReply (q : Req) : Reply := { code := 0, addr := q.addr }

/-- READ (R157 to R159) by master k. `before` is the engine as R157 has it read. -/
def Mach.readParam (m before : Mach) (k : Master) (q : Req) : Mach × Reply :=
  let a := q.addr.toNat
  if defined a then (m.readEffect before k a, { code := 0, addr := q.addr, data := before.readAs m k a })
  else (m, { code := 3, addr := q.addr })

/-- An INSERT of master k queued (R236): the SPI port's ahead of those that the host port queued in this core clock.
(DESIGN CHOICE, log 10) -/
def Mach.queueFrame (m : Mach) (k : Master) (apply : Bool) (slot : Nat) : Mach :=
  let same (r : InsReq) : Bool := r.master == some .host && r.after == m.tim.beats && r.clk == some m.tim.clk
  let front := if k == .spi then (m.ins.queue.reverse.dropWhile same).reverse else m.ins.queue
  let r : InsReq := { apply, slot, master := some k, after := m.tim.beats, clk := some m.tim.clk }
  { m with ins := { m.ins with queue := front ++ r :: m.ins.queue.drop front.length } }

/-- INSERT (R236, R237) by master k; `spi` counts the requests that the SPI port queues in this core clock, ahead of the host port's. -/
def Mach.insertReq (m : Mach) (k : Master) (spi : Nat) (q : Req) : Mach × Reply :=
  if valueOk 0x780 q.data && decide (m.ins.queue.length + (if k == .host then spi else 0) < 8) then
    (m.queueFrame k (fld q.data 8 2 == 1) (fld q.data 0 5), { code := 0, addr := q.addr })
  else (m, { code := 4, addr := q.addr })

/-- The master status word (R153). -/
def Mach.statusWord (m : Mach) (k : Master) : Word :=
  let s := m.session k
  w32 ((m.staging k).length + 2 ^ 10 * b2n s.commit.isSome + 2 ^ 11 * b2n (!s.deferred.isEmpty) + 2 ^ 12 * b2n m.boot.acqReady
    + 2 ^ 13 * b2n m.alertPending + 2 ^ 14 * b2n (bitOf (m.pval 4) 0) + 2 ^ 15 * b2n (decide (6 ≤ m.pwr.stage))
    + maskAt 16 8 fun n => m.heldBy n k)

/-- STATUS (R153) by master k. -/
def Mach.status (m : Mach) (k : Master) (q : Req) : Reply := { code := 0, addr := q.addr, data := m.statusWord k }

/-- PARAM_WRITE (R9, R39): a change of master k lands by itself; outside a boundary's work its recomputation follows at once.
(DESIGN CHOICE, log 7) (DESIGN CHOICE, log 100) -/
def State.paramWrite (s : State) (k : Master) (a : Nat) (v : Word) : Host.Outcome State Fault Refusal :=
  s.run fun m =>
    let m1 := if m.stageRefused k a v then m else m.behalf (some k) (·.landWrite k a v)
    if s.work < 5 then m1 else if s.work < 9 then m1.armLanded else (m1.recompute m []).armLanded

/-- UNPIN (R42, R207): the pins that a landing `ID.UNPIN` of master k releases, with the recomputation of what they held.
(DESIGN CHOICE, log 7) -/
def State.unpinNow (s : State) (k : Master) (v : Word) : Host.Outcome State Fault Refusal :=
  s.run fun m =>
    let m1 := if valueOk 5 v then m.unpinWrite (some k) m.ctl.locks m.pval v else m
    if s.work < 9 then m1 else m1.recompute m []

/-- The engine as R157 has a READ see it: as it stood before the work in progress. (DESIGN CHOICE, log 4) -/
def State.view (s : State) : Mach := s.before.getD s.m

/-- The commands still waiting that are acted on in this core clock: those before the next beat boundary, since time passes only at one
or on an empty queue. (DESIGN CHOICE, log 10) -/
def State.sameClock (s : State) : List Instr := s.pending.takeWhile fun c => match c with | .beat _ => false | _ => true

/-- Whether the SPI port takes lock n in this core clock (R152). (DESIGN CHOICE, log 10) -/
def State.spiTakes (s : State) (n : Nat) : Bool :=
  s.sameClock.any fun c =>
    match c with
    | .escTake q => Via.master q.via == .spi && (s.m.frameFault 6 q).isNone && !escFault q true && escLock q == n
    | _ => false

/-- How many insert requests the SPI port queues in this core clock (R236). (DESIGN CHOICE, log 10) -/
def State.spiInserts (s : State) : Nat :=
  s.sameClock.countP fun c =>
    match c with
    | .insert q => Via.master q.via == .spi && (s.m.frameFault 5 q).isNone && valueOk 0x780 q.data
    | _ => false

end Sys2Proof.Machine
end

