-- ==== Sys2Proof/Machine/DoBeats.lean ====
section
/-! DEFINITION. Machine/DoBeats.lean: the meanings of the commands of the beat boundary and its steps (ch. 01, 05, 06, 09). -/

namespace Sys2Proof.Machine

/-- BEAT (R15): Each beat boundary runs the fixed sequence of control-plane and management-plane beat work. -/
def execBeat (o : BeatObs) (s : State) : Host.Outcome State Fault Refusal :=
  .next (s.beat o)

/-- COMMIT_LAND (R176): At its landing beat, a sealed commit passes the discard, deferral, whole-commit and two-masters checks,
and its changes land. -/
def execCommitLand (k : Master) (o : BeatObs) (s : State) : Host.Outcome State Fault Refusal :=
  .next (s.commitLand k o)

/-- DEFERRED_RELEASE (R180): At a beat starting with ACQ_READY high, the oldest DEFERRED commit of each master is released
through checks 3 and 4. -/
def execDeferredRelease (k : Master) (o : BeatObs) (s : State) : Host.Outcome State Fault Refusal :=
  .next (s.deferredRelease k o)

/-- LEASE_EXPIRY (R196): A HELD lock whose lease has run out enters FORFEIT, and its owner's staged, sealed and DEFERRED changes
are discarded. -/
def execLeaseExpiry (n : Fin 8) (o : BeatObs) (s : State) : Host.Outcome State Fault Refusal :=
  .next (s.leaseExpiry n o)

/-- TRIM_EPOCH_LAND (R319): A pending trim set lands as a new epoch at step 6 of the first beat with no folio open. -/
def execTrimEpochLand (o : BeatObs) (s : State) : Host.Outcome State Fault Refusal :=
  .next (s.trimEpochLand o)

/-- INSERT_APPLY (R239): At step 2, the oldest apply request writes its insert's values and pins, skipping locked changes. -/
def execInsertApply (o : BeatObs) (s : State) : Host.Outcome State Fault Refusal :=
  .next (s.insertNow true o)

/-- INSERT_REMOVE (R240): At step 2, a remove request restores base or reset values for every address of the active insert. -/
def execInsertRemove (o : BeatObs) (s : State) : Host.Outcome State Fault Refusal :=
  .next (s.insertNow false o)

end Sys2Proof.Machine
end

