-- ==== Sys2Proof/Machine/DoCertify.lean ====
section
/-! DEFINITION. Machine/DoCertify.lean: the meanings of the commands of the calibration chain (ch. 21). -/

namespace Sys2Proof.Machine

/-- CAL_RUN (R680): CAL.RUN checks the start conditions and starts a calibration chain run or refuses it. -/
def execCalRun (v : Word) (s : State) : Host.Outcome State Fault Refusal :=
  s.run fun m => if valueOk 0x2804 v then m.calRun v else m

/-- CAL_POINT_START (R684): A chain point starts at a beat, setting the Mint and front end. -/
def execCalPointStart (s : State) : Host.Outcome State Fault Refusal :=
  s.run fun m => m.calNext

/-- CAL_SETTLE_END (R684): CAL.SETTLE beats after a point starts, its INT conversions are issued. -/
def execCalSettleEnd (s : State) : Host.Outcome State Fault Refusal :=
  s.run fun m => m.calSettled

/-- CAL_COMPUTE (R686): After the closing STD point, the results are computed and written to the draft, or the run fails. -/
def execCalCompute (s : State) : Host.Outcome State Fault Refusal :=
  s.run fun m => m.calCompute

/-- CAL_ABORT (R690): CAL.ABORT fails a running chain with cause 18. -/
def execCalAbort (s : State) : Host.Outcome State Fault Refusal :=
  s.run fun m => m.calAbort 1

/-- CAL_DRAFTCLR (R691): CAL.DRAFTCLR empties the draft. -/
def execCalDraftclr (s : State) : Host.Outcome State Fault Refusal :=
  s.run fun m => m.draftClear 1

/-- CAL_SEAL (R696): CAL.SEAL checks the annex and starts sealing the draft into a certificate slot. -/
def execCalSeal (slot : Fin 16) (bad : Bool) (s : State) : Host.Outcome State Fault Refusal :=
  s.run fun m => m.calSeal (w32 slot.val) bad

/-- CERT_SEAL (R697): A seal completes with an epoch and readback, or fails on readback or stage 6. -/
def execCertSeal (bad : Bool) (s : State) : Host.Outcome State Fault Refusal :=
  s.run fun m => m.certSealed bad

end Sys2Proof.Machine
end

