-- ==== Sys2Proof/Machine/DoClock.lean ====
section
/-! DEFINITION. Machine/DoClock.lean: the meanings of the commands of the timebase (ch. 02). -/

namespace Sys2Proof.Machine

/-- TIME_SET_REQUEST (R82): TIM.SETARM = 1 requests a time set at a later valid PPS edge. -/
def execTimeSetRequest (s : State) : Host.Outcome State Fault Refusal :=
  s.run fun m => if m.isMember then m else m.setArm 1

/-- TIME_ACTION_CANCEL (R84): TIM.SETARM = 2 cancels the pending time action. -/
def execTimeActionCancel (s : State) : Host.Outcome State Fault Refusal :=
  s.run fun m => if m.isMember then m else m.setArm 2

/-- TIME_STEP_REQUEST (R83): A write to TIM.ADJ requests a signed time step. -/
def execTimeStepRequest (v : Word) (s : State) : Host.Outcome State Fault Refusal :=
  s.run fun m => if m.isMember then m else m.adjRequest v

/-- TIME_STEP (R83): A pending time step is added to time at the first beat with no quire running, and TIME_STEP is logged. -/
def execTimeStep (s : State) : Host.Outcome State Fault Refusal :=
  s.run fun m => m.timeStep

/-- RELOCK_RETRY (R69): TIM.RETRY clears the exhausted flag and starts a new relock attempt. -/
def execRelockRetry (s : State) : Host.Outcome State Fault Refusal :=
  s.run fun m => m.relockRetry 1

/-- REF_LOST (R52): A missing REFIN edge or excess phase error puts the reference PLL into HOLDOVER or FREERUN, and REF_LOST is
logged. -/
def execRefLost (phase : Bool) (s : State) : Host.Outcome State Fault Refusal :=
  s.run fun m => m.refLost phase

/-- QUALIFICATION_WINDOW_END (R869): At the end of each 1,024-beat window, REFIN qualifies or not; a LOCKING frequency test may
declare a loss. -/
def execQualificationWindowEnd (missing : Bool) (met : Option Bool) (s : State) : Host.Outcome State Fault Refusal :=
  s.run fun m => m.qualWindow missing met

/-- REF_LOCKED (R55): Once the phase error has stayed within 0.01 period for 64 beats, the reference PLL enters LOCKED. -/
def execRefLocked (s : State) : Host.Outcome State Fault Refusal :=
  s.run fun m => m.refLocked

/-- REF_ABSENT (R54): If REFIN has not qualified 20 ms after reset, REF_ABSENT is logged. -/
def execRefAbsent (s : State) : Host.Outcome State Fault Refusal :=
  s.run fun m => m.refAbsent

/-- CORE_PLL_UNLOCK (R57): Loss of core PLL lock starts a core relock on the holding oscillator and stops any running quire. -/
def execCorePllUnlock (s : State) : Host.Outcome State Fault Refusal :=
  s.run fun m => m.corePllUnlock

/-- CORE_PLL_LOCK (R59): The core PLL's lock detector first reports lock during a core relock. -/
def execCorePllLock (s : State) : Host.Outcome State Fault Refusal :=
  s.run fun m => m.corePllLock

/-- CORE_RELOCK_SWITCHBACK (R59): 64 µs after lock, the core clock moves back to the core PLL. -/
def execCoreRelockSwitchback (s : State) : Host.Outcome State Fault Refusal :=
  s.run fun m => if m.tim.core.active && m.tim.core.lock then m.coreSwitchback.trainingStart.mintDrive else m

/-- RELOCK_FAIL (R69): A relock not locked within its limit fails; after 4 consecutive failures the CLOCK fault is raised. -/
def execRelockFail (core : Bool) (s : State) : Host.Outcome State Fault Refusal :=
  s.run fun m => m.relockFail core

/-- SYNTH_UNLOCK (R68): Loss of synthesizer lock starts a synthesizer relock and stops a running quire. -/
def execSynthUnlock (s : State) : Host.Outcome State Fault Refusal :=
  s.run fun m => m.synthUnlock

/-- SYNTH_LOCK (R67): The synthesizer's lock detector first reports lock during a relock. -/
def execSynthLock (s : State) : Host.Outcome State Fault Refusal :=
  s.run fun m => m.synthLocked

/-- SLICE_CLOCK_RESTART (R67): 64 µs after synthesizer lock, the slice clocks restart and CLK_OUT's park ends. -/
def execSliceClockRestart (s : State) : Host.Outcome State Fault Refusal :=
  s.run fun m => if m.tim.synth.active && m.tim.synth.lock then m.sliceRestart.mintDrive else m

/-- PPS_EDGE (R80): A PPS_IN rising edge is counted, captured and judged valid or not. -/
def execPpsEdge (s : State) : Host.Outcome State Fault Refusal :=
  s.run fun m => m.ppsEdge

end Sys2Proof.Machine
end

