-- ==== Sys2Proof/Machine/DoControl.lean ====
section
/-! DEFINITION. Machine/DoControl.lean: the meanings of the commands of the control port and sessions (ch. 04, 05). -/

namespace Sys2Proof.Machine

/-- NOP (R145): NOP does nothing and collects the response to the previous frame. -/
def execNop (q : Req) (s : State) : Host.Outcome State Fault Refusal :=
  .next { s with m := s.m.frame 0x00 q fun m => (m, nopReply q) }

/-- READ (R157): READ returns a parameter's value as it stood before any beat work in progress. -/
def execRead (q : Req) (s : State) : Host.Outcome State Fault Refusal :=
  .next { s with m := s.m.frame 0x01 q fun m => m.readParam s.view (Via.master q.via) q }

/-- STAGE (R147): STAGE checks a frame in order and places an address and value in the master's staging area. -/
def execStage (q : Req) (s : State) : Host.Outcome State Fault Refusal :=
  .next { s with m := s.m.frame 0x02 q fun m => m.stage s.view (Via.master q.via) q }

/-- COMMIT (R148): COMMIT seals the staging area into one commit, after the empty, count and already-sealed checks. -/
def execCommit (q : Req) (bad : Bool) (s : State) : Host.Outcome State Fault Refusal :=
  .next { s with m := s.m.frame 0x03 q fun m => m.commit (Via.master q.via) bad q }

/-- ABORT (R150): ABORT discards the master's staging area without affecting sealed or DEFERRED commits. -/
def execAbort (q : Req) (s : State) : Host.Outcome State Fault Refusal :=
  .next { s with m := s.m.frame 0x04 q fun m => m.abort (Via.master q.via) q }

/-- INSERT (R236): An INSERT frame or CTRL packet queues an insert apply or remove request. -/
def execInsert (q : Req) (s : State) : Host.Outcome State Fault Refusal :=
  .next { s with m := s.m.frame 0x05 q fun m => m.insertReq (Via.master q.via) s.spiInserts q }

/-- ESC_TAKE (R192): ESC_TAKE makes a FREE lock HELD by the requesting master with the given lease. -/
def execEscTake (q : Req) (s : State) : Host.Outcome State Fault Refusal :=
  .next { s with m := s.m.frame 0x06 q fun m => m.escTake (Via.master q.via) (s.spiTakes (escLock q)) q }

/-- ESC_RENEW (R194): ESC_RENEW sets the remaining lease of a held lock to the requested lease. -/
def execEscRenew (q : Req) (s : State) : Host.Outcome State Fault Refusal :=
  .next { s with m := s.m.frame 0x07 q fun m => m.escRenew (Via.master q.via) q }

/-- ESC_GIVE (R195): ESC_GIVE makes a held lock FREE at once; the giver's changes land as ordinary changes. -/
def execEscGive (q : Req) (s : State) : Host.Outcome State Fault Refusal :=
  .next { s with m := s.m.frame 0x08 q fun m => m.escGive (Via.master q.via) q }

/-- STATUS (R153): STATUS returns the master status word. -/
def execStatus (q : Req) (s : State) : Host.Outcome State Fault Refusal :=
  .next { s with m := s.m.frame 0x09 q fun m => (m, m.status (Via.master q.via) q) }

/-- PARAM_WRITE (R9): A landed change to a register that has no row of its own takes its value according to its access code and
landing class. -/
def execParamWrite (k : Master) (a : BitVec 16) (v : Word) (s : State) : Host.Outcome State Fault Refusal :=
  s.paramWrite k a.toNat v

/-- UNPIN (R42): A write to ID.UNPIN releases one pin or all pins and recomputes the released parameters from their basic
parents. -/
def execUnpin (k : Master) (v : Word) (s : State) : Host.Outcome State Fault Refusal :=
  s.unpinNow k v

/-- SESSION_RESET_SPI (R198): PRT.SESRST bit 0 resets the SPI port session, discarding its commits and forfeiting its locks. -/
def execSessionResetSpi (s : State) : Host.Outcome State Fault Refusal :=
  s.run fun m => m.sessionReset .spi 2

/-- SESSION_RESET_HOST (R198): PRT.SESRST bit 1 resets the Spine host port session. -/
def execSessionResetHost (s : State) : Host.Outcome State Fault Refusal :=
  s.run fun m => m.sessionReset .host 3

/-- WINDOW_READ (R166): WIN.CTL read copies 1 to 16 words from engine memory into the window buffers. -/
def execWindowRead (len : Fin 16) (s : State) : Host.Outcome State Fault Refusal :=
  s.run fun m => m.winStart (w32 (1 + 16 * len.val))

/-- WINDOW_WRITE (R166): WIN.CTL write copies 1 to 16 window buffer words to engine memory. -/
def execWindowWrite (len : Fin 16) (s : State) : Host.Outcome State Fault Refusal :=
  s.run fun m => m.winStart (w32 (2 + 16 * len.val))

/-- WINDOW_DONE (R167): A window operation ends within 16 beats with success or with a failure cause in WIN.STAT. -/
def execWindowDone (ecc : Option Nat) (s : State) : Host.Outcome State Fault Refusal :=
  s.run fun m => m.winDone ecc

/-- UNDEFINED_OPCODE (R146): A frame or CTRL request whose opcode is 0x0A to 0xFF is answered DENIED and nothing in it is acted
on. -/
def execUndefinedOpcode (q : Req) (op : Byte) (s : State) : Host.Outcome State Fault Refusal :=
  if op.toNat < 10 then .next s else .next { s with m := s.m.frame op q fun m => (m, { code := 4, addr := q.addr }) }

end Sys2Proof.Machine
end

