-- ==== Sys2Proof/Machine/DoConverter.lean ====
section
/-! DEFINITION. Machine/DoConverter.lean: the meanings of the commands of the Mint (ch. 10). -/

namespace Sys2Proof.Machine

/-- MINT_APPLY (R336): Landed MNT values are applied 968 core clocks after the landing beat, which may release POWERUP or start
a span change. -/
def execMintApply (s : State) : Host.Outcome State Fault Refusal :=
  s.run fun m => m.mintApply

/-- SPAN_CHANGE_HOLD_END (R348): After the 2 µs differential-zero hold, the span or route is switched. -/
def execSpanChangeHoldEnd (s : State) : Host.Outcome State Fault Refusal :=
  s.run fun m => m.spanHoldEnd

/-- SPAN_CHANGE_CODE (R348): 100 ns after the span switch, the code of the state in effect is driven. -/
def execSpanChangeCode (s : State) : Host.Outcome State Fault Refusal :=
  s.run fun m => m.spanCode

/-- PLAYBACK_LOAD_DONE (R345): A playback RAM load from DDR5 ends, successfully or with MINT_WAVEFAIL. -/
def execPlaybackLoadDone (bad : Bool) (s : State) : Host.Outcome State Fault Refusal :=
  s.run fun m => m.playLoadDone bad

/-- PLAYBACK_START (R346): Playback starts at index 0 at the first beat after the load ends. -/
def execPlaybackStart (s : State) : Host.Outcome State Fault Refusal :=
  s.run fun m => m.playStart

/-- PLAYBACK_ADVANCE (R346): Every MNT.RATE + 1 Mint clocks, playback advances one index and wraps at the end. -/
def execPlaybackAdvance (s : State) : Host.Outcome State Fault Refusal :=
  s.run fun m => m.playAdvance

/-- MINT_COMPLY (R359): A compliance trip after 100 ns out of range forces the Mint, logs MINT_COMPLY and raises MINT. -/
def execMintComply (points : BitVec 3) (s : State) : Host.Outcome State Fault Refusal :=
  s.run fun m => m.mintComply points

/-- MINT_DISCONNECT (R360): A compliance condition still present 10 µs after FORCED opens the route and logs MINT_DISCONNECT. -/
def execMintDisconnect (s : State) : Host.Outcome State Fault Refusal :=
  s.run fun m => m.mintDisconnect

/-- MNT_COMPLY_CLEAR (R363): A W1C of MNT.COMPLY that leaves both fault words 0 ends FORCED and reconnects the route. -/
def execMntComplyClear (v : Word) (s : State) : Host.Outcome State Fault Refusal :=
  s.run fun m => m.complyClear v

/-- MNT_FAULT_CLEAR (R363): A W1C of MNT.FAULT clears fault bits and may end FORCED. -/
def execMntFaultClear (v : Word) (s : State) : Host.Outcome State Fault Refusal :=
  s.run fun m => m.faultClear v

end Sys2Proof.Machine
end

