-- ==== Sys2Proof/Machine/DoDisplay.lean ====
section
/-! DEFINITION. Machine/DoDisplay.lean: the meanings of the commands of scan-out (ch. 19). -/

namespace Sys2Proof.Machine

/-- SCANOUT_START (R639): Scan-out starts its outputs in the mode in DSP.MODE at the later of READY and DDR5 training end. -/
def execScanoutStart (s : State) : Host.Outcome State Fault Refusal :=
  s.run fun m => m.scanStart

/-- VBLANK (R616): At each VBLANK point, waiting display values and flips are taken into use and a colour map is loaded. -/
def execVblank (bad : Bool) (s : State) : Host.Outcome State Fault Refusal :=
  s.run fun m => m.vblank bad

/-- FRAME_END (R628): At a frame end, the frame summary is written, the refresh level may change and a waiting mode is accepted
or refused. -/
def execFrameEnd (s : State) : Host.Outcome State Fault Refusal :=
  s.run fun m => m.frameEnd

/-- N0_START (R631): When all enabled outputs are ready after a mode change, the first new-mode frame N0 starts with the held
values. -/
def execN0Start (bad : Bool) (s : State) : Host.Outcome State Fault Refusal :=
  s.run fun m => m.n0Start bad

/-- FLIP_REQUEST (R618): A write of DSP.FB requests a flip, replacing and counting any waiting one. -/
def execFlipRequest (hi : Bool) (v : Word) (s : State) : Host.Outcome State Fault Refusal :=
  s.run fun m => m.landReg (if hi then 0x2604 else 0x2603) v

/-- DSI_START (R622): The DSI output begins its LP-11, reset, format and sleep-exit start sequence. -/
def execDsiStart (s : State) : Host.Outcome State Fault Refusal :=
  s.run fun m => m.dsiStart

/-- DSI_START_DONE (R622): The DSI start sequence ends and the output joins at the next frame. -/
def execDsiStartDone (s : State) : Host.Outcome State Fault Refusal :=
  s.run fun m => m.dsiDone

/-- TE_EDGE (R623): A TE_IN rising edge adjusts the front porch to keep the command-mode lock. -/
def execTeEdge (locked : Bool) (s : State) : Host.Outcome State Fault Refusal :=
  s.run fun m => m.teEdge locked

/-- DSP_TELOST (R623): 3 frame periods without a TE_IN edge set nominal timing and log DSP_TELOST. -/
def execDspTelost (s : State) : Host.Outcome State Fault Refusal :=
  s.run fun m => m.teLost

/-- DP_CONNECT (R625): DP_HPD high for 100 ms reads DPCD and EDID and starts link training. -/
def execDpConnect (o : SinkObs) (s : State) : Host.Outcome State Fault Refusal :=
  s.run fun m => m.dpConnect o

/-- DP_IRQ_HPD (R627): A short DP_HPD low pulse reads link status and retrains if needed. -/
def execDpIrqHpd (lost : Bool) (s : State) : Host.Outcome State Fault Refusal :=
  s.run fun m => m.dpIrq lost

/-- DP_DISCONNECT (R625): DP_HPD low for 2 ms or longer disconnects the sink. -/
def execDpDisconnect (s : State) : Host.Outcome State Fault Refusal :=
  s.run fun m => m.dpDisconnect

/-- DP_TRAINING_DONE (R627): DP link training ends within 100 ms, either trained or failed with DSP_DPTRAIN. -/
def execDpTrainingDone (cause : Option Byte) (s : State) : Host.Outcome State Fault Refusal :=
  s.run fun m => m.dpDone cause

/-- DSP_DPRETRAIN (R627): DSP.DPRETRAIN starts DP link training again. -/
def execDspDpretrain (s : State) : Host.Outcome State Fault Refusal :=
  s.run fun m => m.dpRetrain 1

/-- DSP_UNDERRUN (R637): A host pixel due before its data arrives draws the rest of the line in background and counts an
underrun. -/
def execDspUnderrun (ecc : Option Nat) (s : State) : Host.Outcome State Fault Refusal :=
  s.run fun m => m.underrun ecc

end Sys2Proof.Machine
end

