-- ==== Sys2Proof/Machine/DoDomains.lean ====
section
/-! DEFINITION. Machine/DoDomains.lean: the meanings of the commands of power (ch. 03). -/

namespace Sys2Proof.Machine

/-- SHED_ENTER (R109): A rail crossing a stage threshold raises the stage in force within 64 core clocks and applies the stage
actions. -/
def execShedEnter (r : Fin 9) (samples : List Nat) (s : State) : Host.Outcome State Fault Refusal :=
  s.run fun m => m.shedEnter r.val samples

/-- SHED_EXIT (R117): After 64 whole beat intervals above recovery, stages 1 to 3 are left and their domains switched back on.
-/
def execShedExit (s : State) : Host.Outcome State Fault Refusal :=
  s.run fun m => m.shedExit

/-- PWR_RECOVER (R119): PWR.RECOVER clears the commanded hold if the rails have recovered, otherwise it is DENIED. -/
def execPwrRecover (s : State) : Host.Outcome State Fault Refusal :=
  s.run fun m => m.pwrRecover 1

/-- PWR_DOMEN_WRITE (R93): A PWR.DOMEN change switches domains on or off, subject to the refusal cases. -/
def execPwrDomenWrite (k : Master) (v : Word) (s : State) : Host.Outcome State Fault Refusal :=
  s.run fun m => if m.domRefused k v then m else m.landReg 0x501 v

/-- DOMAIN_USABLE (R94): A switched-on domain becomes usable and its follow-on starts, such as a relock, training or the next
domain. -/
def execDomainUsable (d : Fin 8) (s : State) : Host.Outcome State Fault Refusal :=
  s.run fun m => m.domUsable d.val

/-- RAIL_RETURN (R131): A domain held off by an absent rail switches on once its rails have recovered for 64 intervals. -/
def execRailReturn (s : State) : Host.Outcome State Fault Refusal :=
  s.run fun m => m.railReturn

end Sys2Proof.Machine
end

