-- ==== Sys2Proof/Machine/DoMeasure.lean ====
section
/-! DEFINITION. Machine/DoMeasure.lean: the meanings of the commands of the Assay and Isotherm (ch. 20). -/

namespace Sys2Proof.Machine

/-- ASSAY_START (R676): The Assay starts, issuing the requests due and discarding held zero points. -/
def execAssayStart (v : Option Word) (s : State) : Host.Outcome State Fault Refusal :=
  s.run fun m => m.assayStart v

/-- ASSAY_STOP (R675): Stopping the Assay discards pending requests, partial windows and calibration points. -/
def execAssayStop (v : Word) (s : State) : Host.Outcome State Fault Refusal :=
  s.run fun m => if bitOf v 0 then m else m.landReg 0x27D0 v

/-- ASSAY_REQUEST (R646): A start source issues an accumulator request after its delay, or drops it if one is pending. -/
def execAssayRequest (js : BitVec 32) (s : State) : Host.Outcome State Fault Refusal :=
  s.run fun m => m.assayRequest js

/-- PWM_PERIOD_START (R669): A PWM_HEAT period starts, driving the rising start and applying a new duty. -/
def execPwmPeriodStart (s : State) : Host.Outcome State Fault Refusal :=
  s.run fun m => m.pwmPeriod

/-- PWM_HIGH_END (R647): PWM_HEAT's high time ends, giving the falling start. -/
def execPwmHighEnd (s : State) : Host.Outcome State Fault Refusal :=
  s.run fun m => m.pwmHighEnd

/-- CONVERSION_END (R655): An Assay conversion ends and its result enters a window, a calibration point or an open-wire check.
-/
def execConversionEnd (c : Fin 3) (o : ConvObs) (s : State) : Host.Outcome State Fault Refusal :=
  s.run fun m => m.conversionEnd (s.before.getD s.m) c o

/-- ASY_KICK (R649): ASY.KICK issues one request for each named accumulator. (DESIGN CHOICE, log 7) -/
def execAsyKick (v : Word) (s : State) : Host.Outcome State Fault Refusal :=
  s.run fun m => (m.kickLanded v).kicks

/-- ASY_TRKCLR (R657): ASY.TRKCLR clears the named trackers after that beat's copy. (DESIGN CHOICE, log 7) -/
def execAsyTrkclr (v : Word) (s : State) : Host.Outcome State Fault Refusal :=
  s.run fun m => if s.work < 9 then m.trkClear v else (m.trkClear v).trackers

/-- ASY_CFG_WRITE (R658): A new ASY.CFG or ASY.TIME discards the accumulator's request, window and tracker. -/
def execAsyCfgWrite (j : Fin 32) (time : Bool) (v : Word) (s : State) : Host.Outcome State Fault Refusal :=
  s.run fun m => m.landReg (if time then 0x2780 + j.val else 0x2700 + 4 * j.val) v

/-- ASY_CAL_ZERO (R661): ASY.CALCMD with point 1 starts a zero calibration point for a set. -/
def execAsyCalZero (set : Fin 8) (k : Fin 17) (s : State) : Host.Outcome State Fault Refusal :=
  s.run fun m => (m.calCmd (w32 (set.val + 8 + 256 * k.val))).serve

/-- ASY_CAL_FULL (R662): ASY.CALCMD with point 2 starts a full-scale point that computes offset and gain. -/
def execAsyCalFull (set : Fin 8) (k : Fin 17) (s : State) : Host.Outcome State Fault Refusal :=
  s.run fun m => (m.calCmd (w32 (set.val + 16 + 256 * k.val))).serve

/-- OPEN_WIRE_CHECK (R665): At its interval, an open-wire check waits for the input and applies the check current. -/
def execOpenWireCheck (e : Fin 4) (s : State) : Host.Outcome State Fault Refusal :=
  s.run fun m => m.wireDue e.val

/-- OPEN_WIRE_SETTLED (R665): 100 µs after the check current is applied, the check conversion is requested. -/
def execOpenWireSettled (s : State) : Host.Outcome State Fault Refusal :=
  s.run fun m => m.wireSettled

/-- ISO_CTL_WRITE (R671): ISO.CTL turns the Isotherm loop on or off and clears an over-temperature fault. -/
def execIsoCtlWrite (v : Word) (s : State) : Host.Outcome State Fault Refusal :=
  s.run fun m => m.landReg 0x27F0 v

/-- ISO_STALE (R672): 65,536 beats without a loop update put the Isotherm into FAULT cause 3. -/
def execIsoStale (s : State) : Host.Outcome State Fault Refusal :=
  s.run fun m => m.isoStale

end Sys2Proof.Machine
end

