-- ==== Sys2Proof/Machine/DoMemory.lean ====
section
/-! DEFINITION. Machine/DoMemory.lean: the meanings of the commands of the DDR5 store (ch. 14). -/

namespace Sys2Proof.Machine

/-- DDR5_TRAINING_START (R258): DDR5 training starts once the base configuration is applied and the core runs from the core PLL.
-/
def execDdr5TrainingStart (s : State) : Host.Outcome State Fault Refusal :=
  s.run fun m => m.trainingStart

/-- DDR5_TRAINING_END (R465): Training ends, making DDR5 available, or fails at a step with STORE_TRAIN_FAIL and the STORE
alert. -/
def execDdr5TrainingEnd (o : TrainObs) (s : State) : Host.Outcome State Fault Refusal :=
  s.run fun m => m.trainingEnd o

/-- QRE_MEMRETRAIN (R463): QRE.MEMRETRAIN starts full DDR5 training. -/
def execQreMemretrain (s : State) : Host.Outcome State Fault Refusal :=
  s.run fun m => m.landReg 0xC43 1

/-- DDR5_REFRESH (R466): At each refresh interval, an all-bank refresh is issued and MR4 is read. -/
def execDdr5Refresh (fast : Bool) (s : State) : Host.Outcome State Fault Refusal :=
  s.run fun m => m.refresh fast

/-- PRECHARGE_POWER_DOWN (R468): A subchannel idle for 256 core clocks enters precharge power-down. -/
def execPrechargePowerDown (c : Fin 4) (s : State) : Host.Outcome State Fault Refusal :=
  s.run fun m => m.powerDown c.val

/-- SELF_REFRESH_ENTER (R470): Both channels enter self-refresh at a beat when tolerances allowed it and nothing accessed DDR5.
-/
def execSelfRefreshEnter (s : State) : Host.Outcome State Fault Refusal :=
  s.run fun m => m.selfRefresh

/-- SELF_REFRESH_EXIT (R470): A low tolerance or an access request starts the self-refresh exit. -/
def execSelfRefreshExit (s : State) : Host.Outcome State Fault Refusal :=
  s.run fun m => m.selfRefreshExit

end Sys2Proof.Machine
end

