-- ==== Sys2Proof/Machine/DoPackets.lean ====
section
/-! DEFINITION. Machine/DoPackets.lean: the meanings of the commands of Spine packets (ch. 17, 18). -/

namespace Sys2Proof.Machine

/-- WRITE (R569): A WRITE packet is checked against memory ranges, stored and answered with WRITE_ACK. -/
def execWrite (p : Fin 3) (tag : BitVec 16) (addr : BitVec 64) (data : List Byte) (s : State) : Host.Outcome State Fault Refusal :=
  s.run fun m => m.writePacket p.val tag addr data

/-- READ_REQ (R570): A READ_REQ is answered with READ_DATA packets in ascending address order. -/
def execReadReq (p : Fin 3) (tag : BitVec 16) (addr : BitVec 64) (n : Nat) (ecc : Option Nat) (s : State) : Host.Outcome State Fault Refusal :=
  s.run fun m => m.readRequest p.val tag addr n ecc

/-- FOLIO (R594): A FOLIO packet carries record bytes; a record is checked and rebuilt into a receive slot. -/
def execFolio (p : Fin 3) (tag : BitVec 16) (data : List Byte) (first : Bool) (last : Bool) (s : State) : Host.Outcome State Fault Refusal :=
  s.run fun m => m.folioIn p.val tag data first last

/-- KEY_REQUEST (R590): A KEY_REQUEST for the bound quire sets the sender's force flag. -/
def execKeyRequest (p : Fin 3) (qid : Word) (s : State) : Host.Outcome State Fault Refusal :=
  s.run fun m => m.keyIn p.val qid

/-- EVENT_SEND (R574): A queued EVENT packet is sent when P credits allow; a 65th waiting EVENT is dropped. -/
def execEventSend (s : State) : Host.Outcome State Fault Refusal :=
  s.run fun m => m.eventSend

/-- MALFORMED_PACKET (R560): A packet with a correct CRC-16 but an unknown type, length or flags is accepted for sequencing,
discarded, logged as SPN_BADPKT and counted. -/
def execMalformedPacket (p : Fin 3) (type : Byte) (s : State) : Host.Outcome State Fault Refusal :=
  s.run fun m => m.malformed p.val type

/-- DISCARDED_PACKET (R562): A packet whose CRC-16 fails or whose sequence number is not the expected one is discarded with
every later packet, and a NAK LINKACK is sent. -/
def execDiscardedPacket (p : Fin 3) (s : State) : Host.Outcome State Fault Refusal :=
  s.run fun m => m.discardPkt p.val

end Sys2Proof.Machine
end

