-- ==== Sys2Proof/Machine/DoPages.lean ====
section
/-! DEFINITION. Machine/DoPages.lean: the meanings of the commands of the Ledger (ch. 15). -/

namespace Sys2Proof.Machine

/-- LEDGER_TAKE (R482): The Ledger takes a folio from its backlog, checks it and skips it or starts accumulating it. -/
def execLedgerTake (bad : Bool) (ecc : Option Nat) (s : State) : Host.Outcome State Fault Refusal :=
  s.run fun m => m.ledgerTake bad ecc

/-- LEDGER_FOLIO_DONE (R484): A folio's bin updates finish, which may close the page by target, count or quire close. -/
def execLedgerFolioDone (ecc : Option Nat) (s : State) : Host.Outcome State Fault Refusal :=
  s.run fun m => m.ledgerDone ecc

/-- LDG_CLOSE (R485): LDG.CLOSE closes the accumulating page after the folio in progress. -/
def execLdgClose (s : State) : Host.Outcome State Fault Refusal :=
  s.run fun m => m.ldgClose 1

/-- LDG_FREE (R487): LDG.FREE moves a CLOSED page to CLEARING. -/
def execLdgFree (v : BitVec 2) (s : State) : Host.Outcome State Fault Refusal :=
  s.run fun m => m.ldgFree (v.setWidth 32)

/-- PAGE_CLEAR_DONE (R487): A clearing page becomes EMPTY within 64 beats. -/
def execPageClearDone (p : Fin 2) (s : State) : Host.Outcome State Fault Refusal :=
  s.run fun m => m.pageCleared p.val

/-- DECAY_PASS (R495): Every LDG.DECAYINT beats, a histogram decay pass starts. -/
def execDecayPass (s : State) : Host.Outcome State Fault Refusal :=
  s.run fun m => m.decayPass

/-- DECAY_PASS_END (R495): A decay pass ends within 256 beats. -/
def execDecayPassEnd (s : State) : Host.Outcome State Fault Refusal :=
  s.run fun m => m.decayEnd

/-- LDG_HCLEAR (R496): LDG.HCLEAR starts clearing every histogram cell. -/
def execLdgHclear (s : State) : Host.Outcome State Fault Refusal :=
  s.run fun m => m.histClear 1

/-- HISTOGRAM_CLEAR_DONE (R496): The histogram clear finishes within 32 beats. -/
def execHistogramClearDone (s : State) : Host.Outcome State Fault Refusal :=
  s.run fun m => m.histCleared

end Sys2Proof.Machine
end

