-- ==== Sys2Proof/Machine/DoPorts.lean ====
section
/-! DEFINITION. Machine/DoPorts.lean: the meanings of the commands of Spine ports: training, flits and link state (ch. 17). -/

namespace Sys2Proof.Machine

/-- TRAINING_START (R268): A Spine port starts training at its scheduled time. -/
def execTrainingStart (p : Fin 3) (s : State) : Host.Outcome State Fault Refusal :=
  s.run fun m => m.trainPort p.val

/-- TRAINING_FRAME (R548): A received training frame drives lock, polarity and equalization requests; while UP it causes
link-down. -/
def execTrainingFrame (p : Fin 3) (f : FrameObs) (s : State) : Host.Outcome State Fault Refusal :=
  s.run fun m => m.trainFrame p.val f

/-- TRAINING_STEP_FAIL (R551): A training step that exceeds its limit fails and electrical idle is held. -/
def execTrainingStepFail (p : Fin 3) (s : State) : Host.Outcome State Fault Refusal :=
  s.run fun m => m.stepFail p.val

/-- TRAINING_RESTART (R551): After the idle hold, training restarts at step 1, with SPN_TRAINFAIL after 8 failures. -/
def execTrainingRestart (p : Fin 3) (s : State) : Host.Outcome State Fault Refusal :=
  s.run fun m => m.trainRestart p.val

/-- SPN_NOPARTNER (R550): 100 ms into an attempt without partner frames, SPN_NOPARTNER is logged. -/
def execSpnNopartner (p : Fin 3) (s : State) : Host.Outcome State Fault Refusal :=
  s.run fun m => m.noPartner p.val

/-- HELLO (R554): A HELLO flit is checked at step 5 and the port enters UP, after which JOIN is sent on Volume ports. -/
def execHello (p : Fin 3) (h : HelloObs) (s : State) : Host.Outcome State Fault Refusal :=
  s.run fun m => m.hello p.val h

/-- SYNC (R717): A received SYNC is timestamped and answered with an echo and a VTURN, or completes an exchange. -/
def execSync (p : Fin 3) (echo : Bool) (count : BitVec 64) (time : BitVec 96) (sent : Int) (seen : Int) (s : State) : Host.Outcome State Fault Refusal :=
  s.run fun m => m.syncFlit p.val echo count.toNat time.toNat sent seen

/-- IDLE (R545): A received IDLE control flit is dropped. -/
def execIdle (_p : Fin 3) (s : State) : Host.Outcome State Fault Refusal :=
  s.run fun m => m.idleFlit

/-- ALIGN (R546): A received ALIGN flit confirms codeword alignment. -/
def execAlign (p : Fin 3) (skews : Vector Byte 4) (s : State) : Host.Outcome State Fault Refusal :=
  s.run fun m => m.alignFlit p.val skews

/-- ALIGN_MISSING (R546): Three consecutive missing ALIGN positions declare link-down cause 2. -/
def execAlignMissing (p : Fin 3) (s : State) : Host.Outcome State Fault Refusal :=
  s.run fun m => m.alignMissing p.val

/-- CREDIT (R568): A CREDIT flit restores the sender's credits from cumulative counts. -/
def execCredit (p : Fin 3) (fp : BitVec 16) (fn : BitVec 16) (fc : BitVec 16) (s : State) : Host.Outcome State Fault Refusal :=
  s.run fun m => m.creditFlit p.val fp fn fc

/-- LINKACK (R565): A LINKACK frees acknowledged packets, or with NAK starts a replay. -/
def execLinkack (p : Fin 3) (nak : Bool) (next : BitVec 12) (s : State) : Host.Outcome State Fault Refusal :=
  s.run fun m => m.linkAck p.val nak next

/-- DOWN (R575): A received DOWN flit declares link-down cause 4. -/
def execDown (p : Fin 3) (s : State) : Host.Outcome State Fault Refusal :=
  s.run fun m => m.downFlit p.val

/-- UNCORRECTABLE_CODEWORD (R544): An uncorrectable codeword is counted, its flits are unused and a NAK follows. -/
def execUncorrectableCodeword (p : Fin 3) (s : State) : Host.Outcome State Fault Refusal :=
  s.run fun m => m.uncorrectable p.val

/-- NAK_REPEAT (R562): Every 8 µs until the expected packet arrives, the NAK LINKACK is repeated. -/
def execNakRepeat (p : Fin 3) (s : State) : Host.Outcome State Fault Refusal :=
  s.run fun m => m.nakRepeat p.val

/-- REPLAY_TIMEOUT (R565): 8 µs without LINKACK progress replays from the oldest unacknowledged packet. -/
def execReplayTimeout (p : Fin 3) (s : State) : Host.Outcome State Fault Refusal :=
  s.run fun m => m.replayTimeout p.val

/-- LOSS_OF_SIGNAL (R575): Loss of signal, clock lock or SPN_REFCLK for 1 µs declares link-down cause 1. -/
def execLossOfSignal (p : Option (Fin 3)) (s : State) : Host.Outcome State Fault Refusal :=
  s.run fun m => m.lossOfSignal p

/-- RETRAIN_AFTER_DOWN (R577): After 100 µs in DOWN, training restarts unless the cause still holds. -/
def execRetrainAfterDown (p : Fin 3) (s : State) : Host.Outcome State Fault Refusal :=
  s.run fun m => m.retrainDown p.val

/-- SPN_RETRAIN (R870): SPN.RETRAIN declares link-down cause 6 on an UP port, or restarts training in TRAIN or HELLO. -/
def execSpnRetrain (v : BitVec 3) (s : State) : Host.Outcome State Fault Refusal :=
  s.run fun m => m.spnRetrain (v.setWidth 32)

/-- SPN_CTL_WRITE (R870): Clearing a port bit in SPN.CTL takes the port to OFF; setting it lets it train. -/
def execSpnCtlWrite (v : BitVec 3) (s : State) : Host.Outcome State Fault Refusal :=
  s.run fun m => m.landReg 0xF00 (v.setWidth 32)

/-- IGNORED_CONTROL_FLIT (R552): A control flit with a wrong CRC-32C or an unknown code is ignored and counted in
SPN.PKTERR_p[31:16]. -/
def execIgnoredControlFlit (p : Fin 3) (s : State) : Host.Outcome State Fault Refusal :=
  s.run fun m => m.badFlit p.val

/-- RX_ADAPTATION_END (R547): The receiver's CTLE and DFE adaptation of training step 3 completes and the port moves on to
training step 4. -/
def execRxAdaptationEnd (p : Fin 3) (s : State) : Host.Outcome State Fault Refusal :=
  s.run fun m => m.rxAdapted p.val

end Sys2Proof.Machine
end

