-- ==== Sys2Proof/Machine/DoQuires.lean ====
section
/-! DEFINITION. Machine/DoQuires.lean: the meanings of the commands of quires and folios (ch. 13, 14). -/

namespace Sys2Proof.Machine

/-- QUIRE_BOUND_TAKE_INTO_USE (R24): Waiting quire-bound values are taken into use at the first beat after the running quire
closes. -/
def execQuireBoundTakeIntoUse (s : State) : Host.Outcome State Fault Refusal :=
  s.run fun m => m.takeWaiting

/-- QRE_ARM (R447): QRE.ARM arms a quire at once when none is running, or else becomes the pending arm. -/
def execQreArm (s : State) : Host.Outcome State Fault Refusal :=
  s.run fun m => if m.isMember || m.armRefused [(0xC00, 1)] then m else if s.work < 5 then m.armLand 1 else m.qreArm 1

/-- PENDING_ARM (R447): A pending arm takes effect at the first beat after the running quire closes. -/
def execPendingArm (s : State) : Host.Outcome State Fault Refusal :=
  s.run fun m => m.pendingArm

/-- QRE_STOP (R450): QRE.STOP = 1 ends a running quire at once, truncating the open folio and cancelling a pending arm. -/
def execQreStop (s : State) : Host.Outcome State Fault Refusal :=
  s.run fun m => if m.isMember then m else m.qreStop 1

/-- QRE_FINISH (R450): QRE.STOP = 2 puts a running quire into FINISHING. -/
def execQreFinish (s : State) : Host.Outcome State Fault Refusal :=
  s.run fun m => if m.isMember then m else m.qreStop 2

/-- QRE_RELEASE (R456): QRE.RELEASE adds n to the released count. -/
def execQreRelease (v : Word) (s : State) : Host.Outcome State Fault Refusal :=
  s.run fun m => if valueOk 0xC0D v then m.qreRelease v else m

/-- FOLIO_END (R451): A folio's last sample is stored, which may close the quire by count, FINISH or ring full. -/
def execFolioEnd (s : State) : Host.Outcome State Fault Refusal :=
  s.run fun m => m.folioEnd

/-- FOLIO_HEADER_WRITE (R453): At the first beat after a folio's last sample, its header with the hallmark is written and the
folio is offered to the Ledger. -/
def execFolioHeaderWrite (s : State) : Host.Outcome State Fault Refusal :=
  s.run fun m => m.headersDue.telShorts

/-- QRE_OVERFLOW (R473): A writer buffer overflow closes the quire with cause 7. -/
def execQreOverflow (held : Nat) (s : State) : Host.Outcome State Fault Refusal :=
  s.run fun m => m.qreOverflow held

end Sys2Proof.Machine
end

