-- ==== Sys2Proof/Machine/DoRecords.lean ====
section
/-! DEFINITION. Machine/DoRecords.lean: the meanings of the commands of alerts and the event log (ch. 23). -/

namespace Sys2Proof.Machine

/-- LOG_RECORD_WRITE (R753): A queued log record is written into its Vault ring entry within 4 µs. -/
def execLogRecordWrite (s : State) : Host.Outcome State Fault Refusal :=
  s.run fun m => m.logWrite

/-- LOG_TOKEN (R755): Every 5 ms of powered time, one log token is added, up to 2,000. -/
def execLogToken (s : State) : Host.Outcome State Fault Refusal :=
  s.run fun m => m.logToken

/-- FLT_TEST (R749): FLT.TEST raises the named classes and logs FLT_TEST. -/
def execFltTest (k : Master) (v : BitVec 11) (s : State) : Host.Outcome State Fault Refusal :=
  s.run fun m => m.fltTest (some k) (v.setWidth 32)

/-- ALERT_CLEAR (R746): A W1C of ST.ALERT clears bits, except classes raised since the commit was sealed. -/
def execAlertClear (v : BitVec 11) (raised : BitVec 11) (s : State) : Host.Outcome State Fault Refusal :=
  s.run fun m => m.alertClear (v.setWidth 32) raised

end Sys2Proof.Machine
end

