-- ==== Sys2Proof/Machine/DoRing.lean ====
section
/-! DEFINITION. Machine/DoRing.lean: the meanings of the commands of Volumes (ch. 22). -/

namespace Sys2Proof.Machine

/-- JOIN (R709): A JOIN message is checked for part, role and position, and the port is joined or carries nothing. -/
def execJoin (p : Fin 3) (pos : Fin 8) (size : BitVec 4) (s : State) : Host.Outcome State Fault Refusal :=
  s.run fun m => m.joinMsg p.val pos.val size.toNat

/-- VTURN (R717): A VTURN completes a SYNC exchange, and the sender computes the hop delay and sends VHOP. -/
def execVturn (p : Fin 3) (count : BitVec 16) (turn : Word) (s : State) : Host.Outcome State Fault Refusal :=
  s.run fun m => m.vturn p.val count.toNat turn.toNat

/-- VHOP (R718): A VHOP gives a member one estimate of its offset from the principal. -/
def execVhop (p : Fin 3) (theta : BitVec 16) (xd : Word) (s : State) : Host.Outcome State Fault Refusal :=
  s.run fun m => m.vhop p.val theta.toInt xd.toNat

/-- DIGEST (R728): A member's DIGEST is stored for the principal's comparison and may complete FORMED. -/
def execDigest (v : VMsg) (d : Word) (s : State) : Host.Outcome State Fault Refusal :=
  s.run fun m => m.digestMsg v d

/-- ARMREQ (R732): A member answers ARMREQ with READY and its readiness. -/
def execArmreq (v : VMsg) (qid : Word) (s : State) : Host.Outcome State Fault Refusal :=
  s.run fun m => m.armReq v qid

/-- READY (R733): A READY message updates the principal, which broadcasts ARMGO when all members are ready. -/
def execReady (v : VMsg) (bits : BitVec 16) (d : Word) (s : State) : Host.Outcome State Fault Refusal :=
  s.run fun m => m.readyMsg v bits d

/-- ARMGO (R735): ARMGO fixes the Volume arm beat A and the positions left out. -/
def execArmgo (v : VMsg) (left : BitVec 8) (a : Word) (s : State) : Host.Outcome State Fault Refusal :=
  s.run fun m => m.armGoMsg v left a

/-- ARMCANCEL (R734): ARMCANCEL abandons a Volume arm in progress. -/
def execArmcancel (v : VMsg) (qid : Word) (s : State) : Host.Outcome State Fault Refusal :=
  s.run fun m => m.armCancel v qid

/-- VTRIG (R738): A member opens the folio named by a VTRIG at its own samples after t, or records a miss. -/
def execVtrig (v : VMsg) (idx : BitVec 16) (t : Word) (s : State) : Host.Outcome State Fault Refusal :=
  s.run fun m => m.vtrig v idx t

/-- VSTOP (R741): A VSTOP sets the stop beat of the Volume quire, or with the at-once bit closes it at once. -/
def execVstop (v : VMsg) (atOnce : Bool) (beat : Word) (s : State) : Host.Outcome State Fault Refusal :=
  s.run fun m => m.vstop v atOnce beat

/-- RCAL (R725): RCAL starts ring calibration at beat S, with a SYNC at every beat. -/
def execRcal (v : VMsg) (beat : Word) (s : State) : Host.Outcome State Fault Refusal :=
  s.run fun m => m.rcalMsg v beat

/-- VOLUME_ALIGN (R720): A member aligns at a beat: it holds the core clock, then sets its time and beat offset. -/
def execVolumeAlign (near : Bool) (s : State) : Host.Outcome State Fault Refusal :=
  s.run fun m => m.volumeAlign near

/-- VSYNC_MARK (R720): A VSYNC mark arrives and the member checks its alignment against it. -/
def execVsyncMark (diff : Int) (s : State) : Host.Outcome State Fault Refusal :=
  s.run fun m => m.vsyncMark diff

/-- ARM_WAIT_EXPIRY (R734): At k + VOL.ARMWAIT without readiness, the principal cancels or arms without the absent members. -/
def execArmWaitExpiry (s : State) : Host.Outcome State Fault Refusal :=
  s.run fun m => m.armExpiry

/-- VOLUME_ARM (R735): At Volume beat A, every engine not left out arms the Volume quire. -/
def execVolumeArm (s : State) : Host.Outcome State Fault Refusal :=
  s.run fun m => m.volumeArm

/-- VOLUME_STOP (R740): At the VSTOP stop beat, members close their quire with cause 8. -/
def execVolumeStop (s : State) : Host.Outcome State Fault Refusal :=
  s.run fun m => m.volumeStopBeat

/-- VOL_RINGCAL (R724): VOL.RINGCAL on a FORMED principal broadcasts RCAL for beat S. -/
def execVolRingcal (s : State) : Host.Outcome State Fault Refusal :=
  s.run fun m => if !m.isPrincipal || m.running || m.vol.st != .formed then m else m.ringCal 1

/-- RING_CAL_ALIGN (R725): At S + 4,096, members align on averaged offsets and the principal writes the closure. -/
def execRingCalAlign (s : State) : Host.Outcome State Fault Refusal :=
  s.run fun m => m.ringCalAlign

/-- VOL_CONFIG_WRITE (R712): A change to VOL.CTL, VOL.POS or VOL.SIZE retrains both Volume ports and clears the alignment. -/
def execVolConfigWrite (r : Fin 3) (v : Word) (s : State) : Host.Outcome State Fault Refusal :=
  s.run fun m => if m.volRefused [(0x2900 + r.val, v)] then m else m.landReg (0x2900 + r.val) v

/-- UNKNOWN_VOLUME_MESSAGE (R714): A Volume message with an unknown opcode is discarded and counted in VOL.BADMSG. -/
def execUnknownVolumeMessage (v : VMsg) (s : State) : Host.Outcome State Fault Refusal :=
  s.run fun m => m.unknownMsg v

end Sys2Proof.Machine
end

