-- ==== Sys2Proof/Machine/DoSafe.lean ====
section
/-! DEFINITION. Machine/DoSafe.lean: the meanings of the commands of the Vault and inserts (ch. 06). -/

namespace Sys2Proof.Machine

/-- VAULT_PROGRAM (R225): VLT.CTL program checks an image and writes it into the section's inactive bank. -/
def execVaultProgram (kind : Fin 16) (slot : Fin 32) (s : State) : Host.Outcome State Fault Refusal :=
  s.run fun m => m.vaultCtl (w32 (1 + 16 * kind.val + 256 * slot.val))

/-- VAULT_ERASE (R228): VLT.CTL erase marks a section invalid in the directory. -/
def execVaultErase (kind : Fin 16) (slot : Fin 32) (s : State) : Host.Outcome State Fault Refusal :=
  s.run fun m => m.vaultCtl (w32 (2 + 16 * kind.val + 256 * slot.val))

/-- VAULT_EXPORT (R245): VLT.CTL export writes a kind 6 export to DDR5. -/
def execVaultExport (s : State) : Host.Outcome State Fault Refusal :=
  s.run fun m => m.vaultCtl 3

/-- VAULT_OP_DONE (R227): A program, erase or export finishes with success or a failure cause. -/
def execVaultOpDone (o : VaultObs) (s : State) : Host.Outcome State Fault Refusal :=
  s.run fun m => m.vaultDone o.how o.bad

/-- VAULT_SCRUB_START (R215): Every 2,592,000 powered seconds, a Vault scrub starts. -/
def execVaultScrubStart (s : State) : Host.Outcome State Fault Refusal :=
  s.run fun m => m.scrubStart

/-- VLT_SCRUBNOW (R215): VLT.SCRUBNOW starts a Vault scrub. -/
def execVltScrubnow (s : State) : Host.Outcome State Fault Refusal :=
  s.run fun m => m.scrubNow 1

/-- VAULT_SCRUB (R215): A scrub finishes within 60 s and logs words corrected and uncorrectable. -/
def execVaultScrub (corrected : Nat) (bad : List Nat) (s : State) : Host.Outcome State Fault Refusal :=
  s.run fun m => m.scrubbed corrected bad

/-- POWERED_SECOND (R214): Each 400,000,000 holding-oscillator clocks add one powered second, saved to the Vault every 3,600. -/
def execPoweredSecond (s : State) : Host.Outcome State Fault Refusal :=
  s.run fun m => m.poweredSecond

/-- INS_APPLY_REQUEST (R236): INS.APPLY with operation 1 queues an apply request. -/
def execInsApplyRequest (k : Master) (slot : Fin 32) (s : State) : Host.Outcome State Fault Refusal :=
  s.run fun m => if slot.val = 0 then m else m.queueInsert (some k) true slot.val

/-- INS_REMOVE_REQUEST (R236): INS.APPLY with operation 2 queues a remove request. -/
def execInsRemoveRequest (k : Master) (slot : Fin 32) (s : State) : Host.Outcome State Fault Refusal :=
  s.run fun m => if slot.val = 0 then m else m.queueInsert (some k) false slot.val

end Sys2Proof.Machine
end

