-- ==== Sys2Proof/Machine/DoSlices.lean ====
section
/-! DEFINITION. Machine/DoSlices.lean: the meanings of the commands of the front end, slices and live trim (ch. 08, 09). -/

namespace Sys2Proof.Machine

/-- FOREGROUND_CAL_START (R260): Foreground calibration starts at the first beat at which clocks, base values and the front end
are ready. -/
def execForegroundCalStart (s : State) : Host.Outcome State Fault Refusal :=
  s.run fun m => m.calStart

/-- FOREGROUND_CAL_END (R300): Calibration ends: either all slices pass and their corrections load, or SLICECAL_FAIL is logged.
-/
def execForegroundCalEnd (obs : List SliceObs) (s : State) : Host.Outcome State Fault Refusal :=
  s.run fun m => m.calEnd obs

/-- OVERLOAD_FIRE (R281): An input's overload comparator fires; the firing is counted and FE_OVERLOAD may be logged. -/
def execOverloadFire (o : OverloadObs) (s : State) : Host.Outcome State Fault Refusal :=
  s.run fun m => m.overloadFire o.k.val o.p o.n

/-- OVERLOAD_END (R282): 16 ns after the comparator last releases, the input leaves overload. -/
def execOverloadEnd (k : Fin 4) (s : State) : Host.Outcome State Fault Refusal :=
  s.run fun m => m.overloadEnd k.val

/-- SETTLING_END (R285): An input's 16-beat settling window ends. -/
def execSettlingEnd (s : State) : Host.Outcome State Fault Refusal :=
  s.run fun m => m.settlingEnd

/-- MODE_CHANGE_CLOCK_RESTART (R291): At beat k + 4 after a mode change, the slice clocks restart. -/
def execModeChangeClockRestart (s : State) : Host.Outcome State Fault Refusal :=
  s.run fun m => m.modeRestart

/-- TRIM_BLOCK_END (R313): At the end of a block of 2^16 conversions, the trim estimator forms a coefficient set that may become
pending. -/
def execTrimBlockEnd (o : BlockObs) (s : State) : Host.Outcome State Fault Refusal :=
  s.run fun m => m.trimBlock o

/-- TRIM_GAP_OPEN (R322): Under GAP, a set pending for TRM.MAXWAIT beats opens a gap in which triggers are refused. -/
def execTrimGapOpen (s : State) : Host.Outcome State Fault Refusal :=
  s.run fun m => m.gapOpen

end Sys2Proof.Machine
end

