-- ==== Sys2Proof/Machine/DoSlips.lean ====
section
/-! DEFINITION. Machine/DoSlips.lean: the meanings of the commands of the tellers (ch. 16). -/

namespace Sys2Proof.Machine

/-- TELLER_GO (R505): GO on an IDLE or HALTED channel fetches the slip at TEL.HEAD. -/
def execTellerGo (c : Fin 16) (s : State) : Host.Outcome State Fault Refusal :=
  s.run fun m => m.telCtl c.val 1

/-- TELLER_ABORT (R531): ABORT stops a channel's writes and leads to an ABORTED posting and HALTED. -/
def execTellerAbort (c : Fin 16) (s : State) : Host.Outcome State Fault Refusal :=
  s.run fun m => m.telCtl c.val 2

/-- SLIP_FETCH (R506): A fetched slip passes the slip checks or ends with ERROR. -/
def execSlipFetch (c : Fin 16) (bad : Bool) (s : State) : Host.Outcome State Fault Refusal :=
  s.run fun m => m.slipFetch c.val bad

/-- HOLD_REREAD (R507): At each beat, a channel holding a HOLD slip rereads it and proceeds when it is no longer HOLD. -/
def execHoldReread (c : Fin 16) (bad : Bool) (s : State) : Host.Outcome State Fault Refusal :=
  s.run fun m => m.holdReread c.val bad

/-- FOLIO_CLAIM (R514): A SLOTS or RECORDS slip claims the next folio whose header is written, and the record kind is decided.
-/
def execFolioClaim (c : Fin 16) (s : State) : Host.Outcome State Fault Refusal :=
  s.run fun m => m.folioClaim c.val

/-- TELLER_WRITE_ISSUE (R509): A channel issues its next write of up to 256 bytes once credits, gates and outstanding limits
allow. -/
def execTellerWriteIssue (bad : Bool) (s : State) : Host.Outcome State Fault Refusal :=
  s.run fun m => m.tellerWrite bad

/-- WRITE_ACK (R511): A write acknowledgment, a WRITE_ACK packet or a DDR5 store, advances a slip toward its half point and
completion, or ends it with ERROR. -/
def execWriteAck (a : AckObs) (s : State) : Host.Outcome State Fault Refusal :=
  s.run fun m => m.writeAck a

/-- TELLER_TIMEOUT (R512): A write unacknowledged for TEL.TIMEOUT beats ends the slip with ERROR cause 9. -/
def execTellerTimeout (c : Fin 16) (s : State) : Host.Outcome State Fault Refusal :=
  s.run fun m => m.telTimeout c.val

/-- SLIP_POSTED (R527): Once the status write is stored, folios are marked releasable, the full interrupt is raised and the next
slip is fetched. -/
def execSlipPosted (c : Fin 16) (s : State) : Host.Outcome State Fault Refusal :=
  s.run fun m => m.slipPosted c.val

end Sys2Proof.Machine
end

