-- ==== Sys2Proof/Machine/DoStart.lean ====
section
/-! DEFINITION. Machine/DoStart.lean: the meanings of the commands of reset and the first second (ch. 07). -/

namespace Sys2Proof.Machine

/-- RESET_RELEASE (R100): Power-on reset is released at the later of 100 µs after VDD_KEEP reaches 0.76 V and the rising edge of
RESET_N. -/
def execResetRelease (o : ReleaseObs) (s : State) : Host.Outcome State Fault Refusal :=
  .next { s with m := s.m.resetRelease o.rails o.test }

/-- BROWNOUT_RESET (R101): VDD_KEEP below 0.70 V for 1 µs puts the engine in reset; a Vault word being written either completes
or keeps its old value. -/
def execBrownoutReset (words : Nat) (s : State) : Host.Outcome State Fault Refusal :=
  .next { s with m := s.m.enterReset 3 words, work := 9, before := none }

/-- RESET_N_ASSERT (R255): RESET_N held low for 1 µs or longer resets the engine, which then restarts the start-up timetable. -/
def execResetNAssert (words : Nat) (s : State) : Host.Outcome State Fault Refusal :=
  .next { s with m := s.m.enterReset 2 words, work := 9, before := none }

/-- VAULT_READ_IN (R232): After reset the engine reads the directory, shedding policy, Mint code and base configuration, then
slot validity, certificates, log position and shed records. -/
def execVaultReadIn (bad : List Nat) (s : State) : Host.Outcome State Fault Refusal :=
  s.run fun m => m.vaultReadIn bad

/-- READY_RISE (R251): READY rises at the first beat after the read-in and the start-up check end; START is logged and frames
are accepted. -/
def execReadyRise (s : State) : Host.Outcome State Fault Refusal :=
  s.run fun m => m.readyRise

/-- BASE_CONFIG_TAKE_INTO_USE (R257): At the first beat after the read-in, base values are taken into use; this may start a
reference change, a synthesizer relock or a use recomputation. -/
def execBaseConfigTakeIntoUse (s : State) : Host.Outcome State Fault Refusal :=
  s.run fun m => m.baseTake

/-- ACQ_READY_RISE (R263): ACQ_READY rises at the first beat after foreground calibration passes, DDR5 training ends and the
slice clocks run. -/
def execAcqReadyRise (s : State) : Host.Outcome State Fault Refusal :=
  s.run fun m => m.acqReadyRise

end Sys2Proof.Machine
end

