-- ==== Sys2Proof/Machine/DoTrigger.lean ====
section
/-! DEFINITION. Machine/DoTrigger.lean: the meanings of the commands of trigger detection, clearing and the decimator taps (ch.
11 to 13). -/

namespace Sys2Proof.Machine

/-- AUX_HOLD_END (R377): 8 beats after an AUX change, the AUX comparator leaves its UNDECIDED hold. -/
def execAuxHoldEnd (s : State) : Host.Outcome State Fault Refusal :=
  s.run fun m => m.auxHoldEnd

/-- CLEARING_ROUND (R401): Detections arriving in one core clock are contested, and the winner's action and all executors'
actions execute. -/
def execClearingRound (obs : List Obs) (s : State) : Host.Outcome State Fault Refusal :=
  s.run fun m => m.clearingRound obs

/-- RATE_CREDIT (R416): Every 250 core clocks, one rate credit is added, up to 64. -/
def execRateCredit (s : State) : Host.Outcome State Fault Refusal :=
  s.run fun m => m.rateCredit

/-- DEC_FIRDEF (R429): DEC.FIRDEF restores every tap of the named sets to their factory values. -/
def execDecFirdef (v : BitVec 4) (s : State) : Host.Outcome State Fault Refusal :=
  s.run fun m => m.firdef (v.setWidth 32)

/-- DETECTOR_CHANGE (R371): A level detector or the AUX window comparator changes state on a trimmed sample or a comparator
transition, for example leaving UNDECIDED or cancelling a RUNT, without reporting a detection. -/
def execDetectorChange (obs : List Obs) (s : State) : Host.Outcome State Fault Refusal :=
  s.run fun m => m.detectorChange obs

end Sys2Proof.Machine
end

