-- ==== Sys2Proof/Machine/Dispatch.lean ====
section
/-! DEFINITION. Machine/Dispatch.lean: the effect of each command on everything but the queue. -/

namespace Sys2Proof.Machine

/-- The effect of a command, by its meaning. -/
def exec (i : Instr) (s : State) : Host.Outcome State Fault Refusal :=
  match i with
  | .resetRelease o => Sys2Proof.Machine.execResetRelease o s
  | .brownoutReset words => Sys2Proof.Machine.execBrownoutReset words s
  | .resetNAssert words => Sys2Proof.Machine.execResetNAssert words s
  | .vaultReadIn bad => Sys2Proof.Machine.execVaultReadIn bad s
  | .readyRise => Sys2Proof.Machine.execReadyRise s
  | .baseConfigTakeIntoUse => Sys2Proof.Machine.execBaseConfigTakeIntoUse s
  | .acqReadyRise => Sys2Proof.Machine.execAcqReadyRise s
  | .beat o => Sys2Proof.Machine.execBeat o s
  | .nop q => Sys2Proof.Machine.execNop q s
  | .read q => Sys2Proof.Machine.execRead q s
  | .stage q => Sys2Proof.Machine.execStage q s
  | .commit q bad => Sys2Proof.Machine.execCommit q bad s
  | .abort q => Sys2Proof.Machine.execAbort q s
  | .insert q => Sys2Proof.Machine.execInsert q s
  | .escTake q => Sys2Proof.Machine.execEscTake q s
  | .escRenew q => Sys2Proof.Machine.execEscRenew q s
  | .escGive q => Sys2Proof.Machine.execEscGive q s
  | .status q => Sys2Proof.Machine.execStatus q s
  | .commitLand k o => Sys2Proof.Machine.execCommitLand k o s
  | .deferredRelease k o => Sys2Proof.Machine.execDeferredRelease k o s
  | .leaseExpiry n o => Sys2Proof.Machine.execLeaseExpiry n o s
  | .paramWrite k a v => Sys2Proof.Machine.execParamWrite k a v s
  | .unpin k v => Sys2Proof.Machine.execUnpin k v s
  | .sessionResetSpi => Sys2Proof.Machine.execSessionResetSpi s
  | .sessionResetHost => Sys2Proof.Machine.execSessionResetHost s
  | .windowRead len => Sys2Proof.Machine.execWindowRead len s
  | .windowWrite len => Sys2Proof.Machine.execWindowWrite len s
  | .windowDone ecc => Sys2Proof.Machine.execWindowDone ecc s
  | .quireBoundTakeIntoUse => Sys2Proof.Machine.execQuireBoundTakeIntoUse s
  | .timeSetRequest => Sys2Proof.Machine.execTimeSetRequest s
  | .timeActionCancel => Sys2Proof.Machine.execTimeActionCancel s
  | .timeStepRequest v => Sys2Proof.Machine.execTimeStepRequest v s
  | .timeStep => Sys2Proof.Machine.execTimeStep s
  | .relockRetry => Sys2Proof.Machine.execRelockRetry s
  | .refLost phase => Sys2Proof.Machine.execRefLost phase s
  | .qualificationWindowEnd missing met => Sys2Proof.Machine.execQualificationWindowEnd missing met s
  | .refLocked => Sys2Proof.Machine.execRefLocked s
  | .refAbsent => Sys2Proof.Machine.execRefAbsent s
  | .corePllUnlock => Sys2Proof.Machine.execCorePllUnlock s
  | .corePllLock => Sys2Proof.Machine.execCorePllLock s
  | .coreRelockSwitchback => Sys2Proof.Machine.execCoreRelockSwitchback s
  | .relockFail core => Sys2Proof.Machine.execRelockFail core s
  | .synthUnlock => Sys2Proof.Machine.execSynthUnlock s
  | .synthLock => Sys2Proof.Machine.execSynthLock s
  | .sliceClockRestart => Sys2Proof.Machine.execSliceClockRestart s
  | .ppsEdge => Sys2Proof.Machine.execPpsEdge s
  | .shedEnter r samples => Sys2Proof.Machine.execShedEnter r samples s
  | .shedExit => Sys2Proof.Machine.execShedExit s
  | .pwrRecover => Sys2Proof.Machine.execPwrRecover s
  | .pwrDomenWrite k v => Sys2Proof.Machine.execPwrDomenWrite k v s
  | .domainUsable d => Sys2Proof.Machine.execDomainUsable d s
  | .railReturn => Sys2Proof.Machine.execRailReturn s
  | .ddr5TrainingStart => Sys2Proof.Machine.execDdr5TrainingStart s
  | .ddr5TrainingEnd o => Sys2Proof.Machine.execDdr5TrainingEnd o s
  | .qreMemretrain => Sys2Proof.Machine.execQreMemretrain s
  | .foregroundCalStart => Sys2Proof.Machine.execForegroundCalStart s
  | .foregroundCalEnd obs => Sys2Proof.Machine.execForegroundCalEnd obs s
  | .overloadFire o => Sys2Proof.Machine.execOverloadFire o s
  | .overloadEnd k => Sys2Proof.Machine.execOverloadEnd k s
  | .settlingEnd => Sys2Proof.Machine.execSettlingEnd s
  | .modeChangeClockRestart => Sys2Proof.Machine.execModeChangeClockRestart s
  | .trimBlockEnd o => Sys2Proof.Machine.execTrimBlockEnd o s
  | .trimEpochLand o => Sys2Proof.Machine.execTrimEpochLand o s
  | .trimGapOpen => Sys2Proof.Machine.execTrimGapOpen s
  | .mintApply => Sys2Proof.Machine.execMintApply s
  | .spanChangeHoldEnd => Sys2Proof.Machine.execSpanChangeHoldEnd s
  | .spanChangeCode => Sys2Proof.Machine.execSpanChangeCode s
  | .playbackLoadDone bad => Sys2Proof.Machine.execPlaybackLoadDone bad s
  | .playbackStart => Sys2Proof.Machine.execPlaybackStart s
  | .playbackAdvance => Sys2Proof.Machine.execPlaybackAdvance s
  | .mintComply points => Sys2Proof.Machine.execMintComply points s
  | .mintDisconnect => Sys2Proof.Machine.execMintDisconnect s
  | .mntComplyClear v => Sys2Proof.Machine.execMntComplyClear v s
  | .mntFaultClear v => Sys2Proof.Machine.execMntFaultClear v s
  | .auxHoldEnd => Sys2Proof.Machine.execAuxHoldEnd s
  | .clearingRound obs => Sys2Proof.Machine.execClearingRound obs s
  | .rateCredit => Sys2Proof.Machine.execRateCredit s
  | .decFirdef v => Sys2Proof.Machine.execDecFirdef v s
  | .qreArm => Sys2Proof.Machine.execQreArm s
  | .pendingArm => Sys2Proof.Machine.execPendingArm s
  | .qreStop => Sys2Proof.Machine.execQreStop s
  | .qreFinish => Sys2Proof.Machine.execQreFinish s
  | .qreRelease v => Sys2Proof.Machine.execQreRelease v s
  | .folioEnd => Sys2Proof.Machine.execFolioEnd s
  | .folioHeaderWrite => Sys2Proof.Machine.execFolioHeaderWrite s
  | .qreOverflow held => Sys2Proof.Machine.execQreOverflow held s
  | .ddr5Refresh fast => Sys2Proof.Machine.execDdr5Refresh fast s
  | .prechargePowerDown c => Sys2Proof.Machine.execPrechargePowerDown c s
  | .selfRefreshEnter => Sys2Proof.Machine.execSelfRefreshEnter s
  | .selfRefreshExit => Sys2Proof.Machine.execSelfRefreshExit s
  | .ledgerTake bad ecc => Sys2Proof.Machine.execLedgerTake bad ecc s
  | .ledgerFolioDone ecc => Sys2Proof.Machine.execLedgerFolioDone ecc s
  | .ldgClose => Sys2Proof.Machine.execLdgClose s
  | .ldgFree v => Sys2Proof.Machine.execLdgFree v s
  | .pageClearDone p => Sys2Proof.Machine.execPageClearDone p s
  | .decayPass => Sys2Proof.Machine.execDecayPass s
  | .decayPassEnd => Sys2Proof.Machine.execDecayPassEnd s
  | .ldgHclear => Sys2Proof.Machine.execLdgHclear s
  | .histogramClearDone => Sys2Proof.Machine.execHistogramClearDone s
  | .tellerGo c => Sys2Proof.Machine.execTellerGo c s
  | .tellerAbort c => Sys2Proof.Machine.execTellerAbort c s
  | .slipFetch c bad => Sys2Proof.Machine.execSlipFetch c bad s
  | .holdReread c bad => Sys2Proof.Machine.execHoldReread c bad s
  | .folioClaim c => Sys2Proof.Machine.execFolioClaim c s
  | .tellerWriteIssue bad => Sys2Proof.Machine.execTellerWriteIssue bad s
  | .writeAck a => Sys2Proof.Machine.execWriteAck a s
  | .tellerTimeout c => Sys2Proof.Machine.execTellerTimeout c s
  | .slipPosted c => Sys2Proof.Machine.execSlipPosted c s
  | .trainingStart p => Sys2Proof.Machine.execTrainingStart p s
  | .trainingFrame p f => Sys2Proof.Machine.execTrainingFrame p f s
  | .trainingStepFail p => Sys2Proof.Machine.execTrainingStepFail p s
  | .trainingRestart p => Sys2Proof.Machine.execTrainingRestart p s
  | .spnNopartner p => Sys2Proof.Machine.execSpnNopartner p s
  | .hello p h => Sys2Proof.Machine.execHello p h s
  | .sync p echo count time sent seen => Sys2Proof.Machine.execSync p echo count time sent seen s
  | .idle p => Sys2Proof.Machine.execIdle p s
  | .align p skews => Sys2Proof.Machine.execAlign p skews s
  | .alignMissing p => Sys2Proof.Machine.execAlignMissing p s
  | .credit p fp fn fc => Sys2Proof.Machine.execCredit p fp fn fc s
  | .linkack p nak next => Sys2Proof.Machine.execLinkack p nak next s
  | .down p => Sys2Proof.Machine.execDown p s
  | .write p tag addr data => Sys2Proof.Machine.execWrite p tag addr data s
  | .readReq p tag addr n ecc => Sys2Proof.Machine.execReadReq p tag addr n ecc s
  | .folio p tag data first last => Sys2Proof.Machine.execFolio p tag data first last s
  | .keyRequest p qid => Sys2Proof.Machine.execKeyRequest p qid s
  | .uncorrectableCodeword p => Sys2Proof.Machine.execUncorrectableCodeword p s
  | .nakRepeat p => Sys2Proof.Machine.execNakRepeat p s
  | .replayTimeout p => Sys2Proof.Machine.execReplayTimeout p s
  | .lossOfSignal p => Sys2Proof.Machine.execLossOfSignal p s
  | .retrainAfterDown p => Sys2Proof.Machine.execRetrainAfterDown p s
  | .spnRetrain v => Sys2Proof.Machine.execSpnRetrain v s
  | .spnCtlWrite v => Sys2Proof.Machine.execSpnCtlWrite v s
  | .eventSend => Sys2Proof.Machine.execEventSend s
  | .scanoutStart => Sys2Proof.Machine.execScanoutStart s
  | .vblank bad => Sys2Proof.Machine.execVblank bad s
  | .frameEnd => Sys2Proof.Machine.execFrameEnd s
  | .n0Start bad => Sys2Proof.Machine.execN0Start bad s
  | .flipRequest hi v => Sys2Proof.Machine.execFlipRequest hi v s
  | .dsiStart => Sys2Proof.Machine.execDsiStart s
  | .dsiStartDone => Sys2Proof.Machine.execDsiStartDone s
  | .teEdge locked => Sys2Proof.Machine.execTeEdge locked s
  | .dspTelost => Sys2Proof.Machine.execDspTelost s
  | .dpConnect o => Sys2Proof.Machine.execDpConnect o s
  | .dpIrqHpd lost => Sys2Proof.Machine.execDpIrqHpd lost s
  | .dpDisconnect => Sys2Proof.Machine.execDpDisconnect s
  | .dpTrainingDone cause => Sys2Proof.Machine.execDpTrainingDone cause s
  | .dspDpretrain => Sys2Proof.Machine.execDspDpretrain s
  | .dspUnderrun ecc => Sys2Proof.Machine.execDspUnderrun ecc s
  | .assayStart v => Sys2Proof.Machine.execAssayStart v s
  | .assayStop v => Sys2Proof.Machine.execAssayStop v s
  | .assayRequest js => Sys2Proof.Machine.execAssayRequest js s
  | .pwmPeriodStart => Sys2Proof.Machine.execPwmPeriodStart s
  | .pwmHighEnd => Sys2Proof.Machine.execPwmHighEnd s
  | .conversionEnd c o => Sys2Proof.Machine.execConversionEnd c o s
  | .asyKick v => Sys2Proof.Machine.execAsyKick v s
  | .asyTrkclr v => Sys2Proof.Machine.execAsyTrkclr v s
  | .asyCfgWrite j time v => Sys2Proof.Machine.execAsyCfgWrite j time v s
  | .asyCalZero set k => Sys2Proof.Machine.execAsyCalZero set k s
  | .asyCalFull set k => Sys2Proof.Machine.execAsyCalFull set k s
  | .openWireCheck e => Sys2Proof.Machine.execOpenWireCheck e s
  | .openWireSettled => Sys2Proof.Machine.execOpenWireSettled s
  | .isoCtlWrite v => Sys2Proof.Machine.execIsoCtlWrite v s
  | .isoStale => Sys2Proof.Machine.execIsoStale s
  | .calRun v => Sys2Proof.Machine.execCalRun v s
  | .calPointStart => Sys2Proof.Machine.execCalPointStart s
  | .calSettleEnd => Sys2Proof.Machine.execCalSettleEnd s
  | .calCompute => Sys2Proof.Machine.execCalCompute s
  | .calAbort => Sys2Proof.Machine.execCalAbort s
  | .calDraftclr => Sys2Proof.Machine.execCalDraftclr s
  | .calSeal slot bad => Sys2Proof.Machine.execCalSeal slot bad s
  | .certSeal bad => Sys2Proof.Machine.execCertSeal bad s
  | .join p pos size => Sys2Proof.Machine.execJoin p pos size s
  | .vturn p count turn => Sys2Proof.Machine.execVturn p count turn s
  | .vhop p theta xd => Sys2Proof.Machine.execVhop p theta xd s
  | .digest v d => Sys2Proof.Machine.execDigest v d s
  | .armreq v qid => Sys2Proof.Machine.execArmreq v qid s
  | .ready v bits d => Sys2Proof.Machine.execReady v bits d s
  | .armgo v left a => Sys2Proof.Machine.execArmgo v left a s
  | .armcancel v qid => Sys2Proof.Machine.execArmcancel v qid s
  | .vtrig v idx t => Sys2Proof.Machine.execVtrig v idx t s
  | .vstop v atOnce beat => Sys2Proof.Machine.execVstop v atOnce beat s
  | .rcal v beat => Sys2Proof.Machine.execRcal v beat s
  | .volumeAlign near => Sys2Proof.Machine.execVolumeAlign near s
  | .vsyncMark diff => Sys2Proof.Machine.execVsyncMark diff s
  | .armWaitExpiry => Sys2Proof.Machine.execArmWaitExpiry s
  | .volumeArm => Sys2Proof.Machine.execVolumeArm s
  | .volumeStop => Sys2Proof.Machine.execVolumeStop s
  | .volRingcal => Sys2Proof.Machine.execVolRingcal s
  | .ringCalAlign => Sys2Proof.Machine.execRingCalAlign s
  | .volConfigWrite r v => Sys2Proof.Machine.execVolConfigWrite r v s
  | .logRecordWrite => Sys2Proof.Machine.execLogRecordWrite s
  | .logToken => Sys2Proof.Machine.execLogToken s
  | .fltTest k v => Sys2Proof.Machine.execFltTest k v s
  | .alertClear v raised => Sys2Proof.Machine.execAlertClear v raised s
  | .vaultProgram kind slot => Sys2Proof.Machine.execVaultProgram kind slot s
  | .vaultErase kind slot => Sys2Proof.Machine.execVaultErase kind slot s
  | .vaultExport => Sys2Proof.Machine.execVaultExport s
  | .vaultOpDone o => Sys2Proof.Machine.execVaultOpDone o s
  | .vaultScrubStart => Sys2Proof.Machine.execVaultScrubStart s
  | .vltScrubnow => Sys2Proof.Machine.execVltScrubnow s
  | .vaultScrub corrected bad => Sys2Proof.Machine.execVaultScrub corrected bad s
  | .poweredSecond => Sys2Proof.Machine.execPoweredSecond s
  | .insApplyRequest k slot => Sys2Proof.Machine.execInsApplyRequest k slot s
  | .insRemoveRequest k slot => Sys2Proof.Machine.execInsRemoveRequest k slot s
  | .insertApply o => Sys2Proof.Machine.execInsertApply o s
  | .insertRemove o => Sys2Proof.Machine.execInsertRemove o s
  | .undefinedOpcode q op => Sys2Proof.Machine.execUndefinedOpcode q op s
  | .malformedPacket p type => Sys2Proof.Machine.execMalformedPacket p type s
  | .discardedPacket p => Sys2Proof.Machine.execDiscardedPacket p s
  | .ignoredControlFlit p => Sys2Proof.Machine.execIgnoredControlFlit p s
  | .unknownVolumeMessage v => Sys2Proof.Machine.execUnknownVolumeMessage v s
  | .detectorChange obs => Sys2Proof.Machine.execDetectorChange obs s
  | .rxAdaptationEnd p => Sys2Proof.Machine.execRxAdaptationEnd p s

end Sys2Proof.Machine
end

