-- ==== Sys2Proof/Machine/Step.lean ====
section
/-! DEFINITION. Machine/Step.lean: one step of the block: the command at the front of the queue, or a core clock. -/

namespace Sys2Proof.Machine

/-- One step: the front command takes effect on the state with the rest of the queue; with no command waiting one core clock
passes (DESIGN CHOICE, log 2). (DESIGN CHOICE, log 10) (DESIGN CHOICE, log 98) -/
def step (s : State) : Host.Outcome State Fault Refusal :=
  match s.pending with
  | [] => .next s.tick
  | c :: rest => exec c { s with pending := rest }

/-- The state with the command that a word spells put at the front of its queue; unchanged where it spells none. (DESIGN CHOICE, log 3) -/
def State.withFetchWord (s : State) (nbits w : Nat) : State :=
  match decodeTableWord nbits w with
  | some c => { s with pending := c :: s.pending }
  | none => s

end Sys2Proof.Machine
end

