-- ==== Sys2Proof/Machine/Pins.lean ====
section
/-! DEFINITION. Machine/Pins.lean: the levels of the output pins that follow from the state (ch. 02, 04, 10, 20, 22, 25). -/

namespace Sys2Proof.Machine

/-- READY is high (R161). -/
def Mach.readyPin (m : Mach) : Bool := m.boot.ready

/-- ALERT_N is driven low (R162, R254); released otherwise. -/
def Mach.alertPin (m : Mach) : Bool := m.alertPending

/-- SDO in bit time i of a frame, from 63 down, with CS_N low in it or high (R133 to R135): the response frame's bit, or none for high
impedance. The frame shifted out is that of the latest frame command. -/
def Mach.sdoPin (m : Mach) (csLow : Bool) (i : Fin 64) : Option Bool :=
  if csLow && !m.boot.inReset then some (m.ctl.port.sdo.getLsbD i.val) else none

/-- PWM_HEAT is high (R669, R673). -/
def Mach.pwmPin (m : Mach) : Bool := m.iso.high

/-- What CLK_OUT carries: low, the sample clock divided by 16, in units of 6.25 MHz, or REFCLEAN, in MHz. -/
inductive ClkOut where
  | low
  | sample (u : Nat)
  | refclean (mhz : Nat)
  deriving DecidableEq, Repr

/-- CLK_OUT (R72, R73, R867): the source that `TIM.CKOSEL` selects, or low while it is parked. -/
def Mach.clkOut (m : Mach) : ClkOut :=
  if m.tim.ckoParked then .low
  else match fld (m.pval 0x405) 0 2 with
    | 1 => .sample (100 + m.useN 0x404)
    | 2 => .refclean (if m.tim.ref100 then 100 else 10)
    | _ => .low

/-- The level that a principal drives on VSYNC: high for 8 core clocks from each mark (R708); none where the pin is an input or
high impedance. -/
def Mach.vsyncPin (m : Mach) : Option Bool :=
  if m.isPrincipal then some (decide (0 < m.tim.beats) && m.beat % 1024 == 0 && decide (m.tim.clk < 8)) else none

/-! ### The Mint (R334, R335, R342, R354, R366) -/

/-- The full-scale current of a span, in µA (R334). -/
def fullScaleUa (span : BitVec 2) : Nat := 2500 * 2 ^ span.toNat

/-- The P and N leg currents of a code and a span, in 1/16,384 µA (R335). -/
def legCurrents (code : BitVec 14) (span : BitVec 2) : Nat × Nat :=
  (code.toNat * fullScaleUa span, (16384 - code.toNat) * fullScaleUa span)

/-- The differential current of a code and a span, in 1/16,384 µA (R335). -/
def diffCurrent (code : BitVec 14) (span : BitVec 2) : Int := (2 * (code.toNat : Int) - 16384) * fullScaleUa span

/-- The leg currents that the Mint drives now; none in OFF. -/
def Mach.mintLegs (m : Mach) : Option (Nat × Nat) :=
  if m.mnt.st == .off then none else some (legCurrents m.mintShown m.mnt.span)

/-- Where the converter's output goes (ch. 10, Routes). -/
inductive MintDest where
  | nowhere | load | balls | inject (k : Nat)
  deriving DecidableEq, Repr, Inhabited

/-- The destination of the route in effect (R354, R360, R366). -/
def Mach.mintDest (m : Mach) : MintDest :=
  if m.mnt.st == .off then .nowhere
  else match fld (m.mnt.route.setWidth 32) 0 2 with
    | 0 => .load
    | 1 => .balls
    | _ => .inject (fld (m.mnt.route.setWidth 32) 4 2)

/-- CAL_OUTP/N are high impedance: the route in effect does not drive them (R342, R366). -/
def Mach.calOutHighZ (m : Mach) : Bool := m.mintDest != .balls

/-- The pilot couplers that are closed, bit k - 1 for input k: in PILOT, on the internal load, those of the served inputs (R311, R342). -/
def Mach.couplers (m : Mach) : BitVec 4 :=
  if m.mnt.st == .pilot && m.mintDest == .load then servedMask m.fe.mode else 0

/-- The calibration switches that are closed, bit k - 1 for input k: the injected input's (R342, R354, R366). -/
def Mach.calSwitches (m : Mach) : BitVec 4 :=
  match m.mintDest with
  | .inject k => 1 <<< k
  | _ => 0

/-! ### DDR5 (R809) -/

/-- A_RESET_n and B_RESET_n are high: training has started since reset. The low pulse before a later full training takes no time here. -/
def Mach.ddrResetPin (m : Mach) : Bool := m.store.size != 0

/-! ### The Assay inputs (R665, R667) -/

/-- The check currents on the P and N balls of external input e, in µA (R665): a pull-up on P, and on a REFSNS pair a pull-down on N. -/
def Mach.checkCurrent (m : Mach) (e : Nat) : Int × Int :=
  let i : Int := if bitOf (m.pval 0x27D9) 4 then 10 else 1
  if m.asy.wire == .current e || m.asy.wire == .converting e then (i, if e < 2 then -i else 0) else (0, 0)

/-- The test DAC's voltage in mV on the Assay input that it drives, disconnected from its source (R667). -/
def Mach.tdacMv (m : Mach) (input : Nat) : Option Nat := if m.tdacOn input then some (10 * fld (m.pval 0x27DB) 0 8) else none

end Sys2Proof.Machine
end

