-- ==== Sys2Proof/Safety.lean ====
section
/-! DEFINITION. Safety.lean: what counts as a sound state of the block, and the terms that claims about commands are stated in. -/

namespace Sys2Proof.Machine

/-! ### Sound states -/

/-- The discipline of a beat boundary's work (R15, R157): the engine as it stood before the work is kept exactly while the work
is in progress. -/
def State.orderly (s : State) : Bool := decide (s.work ≤ 9) && (s.before.isSome == decide (s.work < 9))

/-- A sound state: orderly, with its memory in canonical form. -/
def State.sound (s : State) : Bool := s.orderly && Memory.wf s.m.mem

/-- The engine is out of reset, so that commands act on it (R100, R101). -/
abbrev State.awake (s : State) : Prop := s.m.boot.inReset = false

/-- The state with its engine replaced: nothing else changes, neither the queue nor the work in progress. -/
abbrev State.withEngine (s : State) (m : Mach) : State := { s with m := m }

/-- Whether a command puts the engine in reset (R101, R255). -/
def entersReset : Instr → Bool
  | .brownoutReset _ | .resetNAssert _ => true
  | _ => false

/-- Whether a command leaves or enters reset. -/
def movesReset : Instr → Bool
  | .resetRelease _ | .brownoutReset _ | .resetNAssert _ => true
  | _ => false

/-! ### The work of a boundary (R15) -/

/-- The engine after steps 1 to n of a boundary's work, `before` being the engine as the work found it. -/
def Mach.stepsTo (m before : Mach) (o : BeatObs) : Nat → Mach
  | 0 => m
  | n + 1 => ({ m.stepsTo before o n with flt := { (m.stepsTo before o n).flt with step := n + 1 } } : Mach).workStep before o (n + 1)

/-! ### Control requests (R137 to R147, R170 to R173) -/

/-- Whether a request with opcode op passes the checks that come before its own: a whole frame with its CRC-8, or a packet on a
port that is UP with room among the outstanding requests, after READY, and handled where only KEEP is left (R114). -/
def Mach.admits (m : Mach) (op : Byte) (q : Req) : Bool :=
  (match q.via with
   | .spi sck crc _ => sck == 64 && crc8 (requestBytes q op) == crc
   | .ctrl _ => m.portUp 0 && decide ((m.acceptPkt 0 1 8).ctrlWaiting < 16))
  && m.boot.ready && (!m.keepMode || keepHandles op.toNat q.addr.toNat)

/-- The engine once it has taken a request: the previous response shifted out, or the packet accepted; it acts on behalf of the
request's master (R135, R751). -/
def Mach.received (m : Mach) (q : Req) : Mach :=
  let m1 := match q.via with | .spi _ _ early => m.shiftOut early | .ctrl _ => m.acceptPkt 0 1 8
  { m1 with flt := { m1.flt with origin := some (Via.master q.via) } }

/-- The engine once it has answered a request. -/
def Mach.answered (m : Mach) (q : Req) (r : Reply) : Mach := ({ m with flt := { m.flt with origin := none } } : Mach).reply q.via r

end Sys2Proof.Machine
end

