-- ==== Sys2Proof/Certificates/Slice0/Obligations.lean ====
section
/-! DEFINITION. Certificates/Slice0/Obligations.lean: what the provers are asked to prove of the model, statement by statement,
each with the rules of the spec that it rests on. -/

open Sys2Proof Sys2Proof.Machine

/-- Chapter 01 (R15) and the block's queue: a step takes the command at the front of the queue and is what that command does to
the state with the rest of the queue; with no command waiting one core clock passes (log 2). -/
def Obligations.StepTakesTheFrontCommand : Prop :=
  (∀ (c : Instr) (rest : List Instr) (s : State), s.pending = c :: rest → step s = exec c { s with pending := rest }) ∧
  (∀ s : State, s.pending = [] → step s = .next s.tick)

/-- R100, R253, R836, R848: the state after reset: held in reset with the power-on cause, every parameter at its reset value, no
pin, no alert, nothing staged, every lock FREE, no domain beyond KEEP usable, nothing listed in memory; sound. -/
def Obligations.ResetLeavesTheResetValues : Prop :=
  State.reset.pending = [] ∧ State.reset.m.boot = { inReset := true, cause := 1 } ∧
  (∀ a, State.reset.m.pval a = resetOf a ∧ State.reset.m.use a = resetOf a) ∧
  State.reset.m.par.pins = [] ∧ State.reset.m.flt.alert = 0 ∧ State.reset.m.ctl.spi = {} ∧ State.reset.m.ctl.host = {} ∧
  (∀ n : Fin 8, State.reset.m.ctl.locks[n] = {}) ∧ (∀ d : Fin 8, State.reset.m.domUp d.val = decide (d.val = 0)) ∧
  (∀ a, readByte State.reset.m.mem a = memDefault a) ∧ State.reset.sound = true

/-- R15, R157: the engine as it stood before a boundary's work is kept exactly while that work is in progress; every step keeps
this. -/
def Obligations.BeatWorkStaysOrderly : Prop :=
  ∀ s t : State, s.orderly = true → step s = .next t → t.orderly = true

/-- Every step keeps the memory of the engine in its canonical form: addresses rising, no byte listed at its default (the form
that MEMORY of this model takes for R5, R213, R461 and R475). -/
def Obligations.MemoryStaysCanonical : Prop :=
  ∀ s t : State, Memory.wf s.m.mem = true → step s = .next t → Memory.wf t.m.mem = true

/-- The parameter store keeps its canonical form: addresses rising, and no parameter listed at its reset value; every step keeps
this (the form this model keeps the parameters of chapters 27 and 28 in). -/
def Obligations.ParametersStayCanonical : Prop :=
  ∀ s t : State, swf resetOf s.m.par.landed = true → step s = .next t → swf resetOf t.m.par.landed = true

/-- R10, R222: only an expert parameter with access code RWP can be pinned, in every step from every state in which it was so; a
pin bit of 1 is admitted only in a kind 1 record that names such a parameter, and the pin bit of every other record is 0. -/
def Obligations.OnlyRwpParametersArePinned : Prop :=
  (∀ s t : State, (∀ a, s.m.pinned a = true → isRwp a = true) → step s = .next t → ∀ a, t.m.pinned a = true → isRwp a = true) ∧
  (∀ (m : Mach) (a b : Nat), (m.pin a).pinned b = (m.pinned b || (decide (b = a) && isRwp a))) ∧
  (∀ (kind addr pin : Nat) (v : Word), recordOk kind (addr, pin, v) =
    (addrOk kind addr && (decide (pin = 0) || (decide (pin = 1) && decide (kind = 1) && isRwp addr))))

/-- R252, R255: once READY is high it stays high, and the engine stays out of reset, until a brown-out or RESET_N resets it. -/
def Obligations.OnlyResetEndsReady : Prop :=
  ∀ s t : State, s.awake → s.m.boot.ready = true → (∀ c rest, s.pending = c :: rest → entersReset c = false) →
    step s = .next t → t.awake ∧ t.m.boot.ready = true

/-- R75: the beat counter is 0 at the first boundary after reset and advances by one, modulo 2^64, at every later one: only a step
that opens a boundary, which it does only when no boundary's work is in progress, advances it, and no command but a reset
changes it otherwise. -/
def Obligations.BeatCountAdvancesByOne : Prop :=
  (∀ s t : State, (∀ c rest, s.pending = c :: rest → entersReset c = false) → step s = .next t →
    t.m.tim.beats = s.m.tim.beats ∨ (s.awake ∧ 9 ≤ s.work ∧ t.m.tim.beats = s.m.tim.beats + 1)) ∧
  (∀ o : BeatObs, State.reset.m.tim.beats = 0 ∧ (State.reset.m.openBeat o).beat = 0) ∧
  (∀ (m : Mach) (o : BeatObs), 1 ≤ m.tim.beats → (m.openBeat o).beat = (m.beat + 1) % 2 ^ 64)

/-- R100, R101, R255: held in reset the engine does nothing: every command but the reset commands leaves the whole state as it
was. -/
def Obligations.NothingActsInReset : Prop :=
  ∀ (c : Instr) (s : State), s.m.boot.inReset = true → movesReset c = false → exec c s = .next s

/-- No command stops the engine, and none changes the commands waiting. -/
def Obligations.EveryCommandCompletes : Prop :=
  ∀ (c : Instr) (s : State), ∃ t, exec c s = .next t ∧ t.pending = s.pending

/-- R101, R253, R255: a brown-out and RESET_N put the engine in reset, each with its own cause: the work in progress ends, and all
state but the Vault is at its reset value; with no Vault program, seal, shed record or log record in progress the Vault keeps
every byte. -/
def Obligations.ResetKeepsOnlyTheVault : Prop :=
  (∀ (w : Nat) (s : State), ∃ t, exec (.brownoutReset w) s = .next t ∧ t.pending = s.pending ∧ t.work = 9 ∧ t.before = none ∧
    t.m = { vlt := { nv := t.m.vlt.nv }, boot := { inReset := true, cause := 3 }, mem := t.m.mem } ∧
    (∀ a, a < vaultBase → readByte t.m.mem a = memDefault a) ∧
    (s.m.vlt.op = none → s.m.cal.sealing = none → s.m.pwr.record = none → (s.m.flt.found = false ∨ s.m.flt.queue = []) →
      t.m.vlt.nv = s.m.vlt.nv ∧ ∀ a, vaultBase ≤ a → readByte t.m.mem a = readByte s.m.mem a)) ∧
  (∀ (w : Nat) (s : State), ∃ t, exec (.resetNAssert w) s = .next t ∧ t.pending = s.pending ∧ t.work = 9 ∧ t.before = none ∧
    t.m = { vlt := { nv := t.m.vlt.nv }, boot := { inReset := true, cause := 2 }, mem := t.m.mem } ∧
    (∀ a, a < vaultBase → readByte t.m.mem a = memDefault a) ∧
    (s.m.vlt.op = none → s.m.cal.sealing = none → s.m.pwr.record = none → (s.m.flt.found = false ∨ s.m.flt.queue = []) →
      t.m.vlt.nv = s.m.vlt.nv ∧ ∀ a, vaultBase ≤ a → readByte t.m.mem a = readByte s.m.mem a))

/-- R92, R94, R100, R104, R121, R130, R232, R233, R257, R272, R800: leaving reset takes the rails' voltages as their first
samples, and with CORE requested and its rail above the recovery level starts its switch-on, the other domains waiting behind
it; with TESTMODE high the engine only enters factory test, and stays in it. The Vault read-in completes once, with the serial
number and the operation seconds that the Vault holds and the log's place known. Base values are then taken into use once: a
beat-bound one is the current value, a quire-bound one no longer waits, and the Assay starts where `ASY.CTL`[0] is set. R251,
R253, R263, R274, R284: READY rises once the base values are in use, with the START event of the reset's cause logged, and
ACQ_READY once calibration has passed, DDR5 is trained and the slice clocks run, with OVERLOAD logged for an input whose
comparator fires then; each changes nothing else of the start-up state, and before that the commands change nothing. -/
def Obligations.StartUpRunsInOrder : Prop :=
  ((∀ (rails : List (Fin 9 × Nat)) (s : State), s.m.boot.inReset = true → s.m.boot.factory = false → ∃ t,
      exec (.resetRelease ⟨rails, false⟩) s = .next t ∧ t = s.withEngine
        { s.m with boot := { s.m.boot with inReset := false }, pwr := t.m.pwr, flt := t.m.flt, ctl := t.m.ctl, spn := t.m.spn } ∧
      (∀ r : Fin 9, t.m.pwr.rails[r].mv = (rails.lookup r).getD (railNominal r.val)) ∧
      (s.m.pwr.checked = 0 → s.m.pwr.heldOff = 0 → s.m.pwr.stage = 0 → (∀ d : Fin 8, s.m.pwr.dom[d] = .off ∨ d.val = 0 ∧ s.m.pwr.dom[d] = .usable) →
        s.m.domWant 1 = true → s.m.recovery 1 1 ≤ 1000 * (rails.lookup 1).getD 750 →
        t.m.pwr.dom = vset s.m.pwr.dom 1 .switching ∧ t.m.pwr.switchQ = [4, 2, 3, 7, 5, 6])) ∧
    (∀ (rails : List (Fin 9 × Nat)) (s : State), s.m.boot.inReset = true → s.m.boot.factory = false →
      exec (.resetRelease ⟨rails, true⟩) s = .next (s.withEngine { s.m with boot := { s.m.boot with factory := true } })) ∧
    (∀ (rails : List (Fin 9 × Nat)) (test : Bool) (s : State), s.awake ∨ s.m.boot.factory = true →
      exec (.resetRelease ⟨rails, test⟩) s = .next s) ∧
    (∀ (bad : List Nat) (s : State), s.awake → s.m.boot.readIn = false → s.m.boot.baseInUse = false → ∃ t,
      exec (.vaultReadIn bad) s = .next t ∧ t = s.withEngine t.m ∧
      (∃ base, t.m.boot = { s.m.boot with step4 := true, readIn := true, base }) ∧ t.m.vlt.serial = BitVec.ofNat 64 (s.m.readSerial.getD 0) ∧
      t.m.vlt.powered = s.m.vlt.nv.powered ∧ t.m.cal.lastEp = s.m.vlt.nv.lastEp ∧ t.m.flt.found = true ∧
      t.m.tim.beats = s.m.tim.beats ∧ ∀ a, ledgerBase ≤ a → readByte t.m.mem a = readByte s.m.mem a) ∧
    (∀ s : State, s.awake → s.m.boot.readIn = true → s.m.boot.baseInUse = false → s.m.running = false → ∃ t,
      exec .baseConfigTakeIntoUse s = .next t ∧ t = s.withEngine t.m ∧ t.m.boot = { s.m.boot with baseInUse := true, base := [] } ∧
      t.m.tim.beats = s.m.tim.beats ∧
      (s.m.boot.base = [] → s.m.asy.started = false → bitOf (s.m.pval 0x27D0) 0 = true → s.m.pwr.stage < 6 → t.m.asy.started = true) ∧
      (∀ (a : Nat) (v : Word), 0xA10 ≤ a → a ≤ 0xA14 → s.m.boot.base = [(a, v)] → swf resetOf s.m.par.landed = true → t.m.pval a = v) ∧
      (∀ (a : Nat) (v : Word), 0xC04 ≤ a → a ≤ 0xC09 → s.m.boot.base = [(a, v)] → s.m.par.quire = [] → s.m.cal.st = .idle →
        swf resetOf s.m.par.landed = true → t.m.use a = v)) ∧
    (∀ (bad : List Nat) (s : State), s.m.boot.readIn = true → exec (.vaultReadIn bad) s = .next s) ∧
    (∀ s : State, s.m.boot.readIn = false ∨ s.m.boot.baseInUse = true → exec .baseConfigTakeIntoUse s = .next s)) ∧
  ((∀ s : State, s.awake → s.m.boot.baseInUse = true → s.m.boot.ready = false → ∃ t, exec .readyRise s = .next t ∧
      t = s.withEngine t.m ∧ t.m.boot = { s.m.boot with ready := true } ∧ t.m.readyPin = true ∧ t.m.mem = s.m.mem ∧
      t.m.par.landed = s.m.par.landed ∧ t.m.tim = s.m.tim ∧
      (s.m.flt.sinceDrop = 0 → s.m.logFree = true → t.m.flt.queue.any (fun r =>
        r.code == 1 && r.plane == .management && r.a == w32 s.m.boot.cause.toNat && r.b == 0 && r.beat == s.m.beat) = true)) ∧
    (∀ s : State, s.awake → s.m.boot.acqReady = false → s.m.fe.cal = .passed → s.m.store.st = .trained → s.m.tim.slices = true → ∃ t,
      exec .acqReadyRise s = .next t ∧ t = s.withEngine { s.m with
        boot := { s.m.boot with acqReady := true }, fe := t.m.fe, flt := t.m.flt, ctl := t.m.ctl, spn := t.m.spn } ∧
      (∀ k : Fin 4, t.m.fe.front[k] =
        if s.m.fe.front[k].firing then { s.m.fe.front[k] with lastLog := some s.m.tim.beats } else s.m.fe.front[k]) ∧
      ((∀ k : Fin 4, s.m.fe.front[k].firing = false) → t.m.flt = s.m.flt)) ∧
    (∀ s : State, s.m.boot.baseInUse = false ∨ s.m.boot.ready = true → exec .readyRise s = .next s) ∧
    (∀ s : State, s.m.boot.acqReady = true ∨ s.m.fe.cal ≠ .passed ∨ s.m.store.st ≠ .trained ∨ s.m.tim.slices = false →
      exec .acqReadyRise s = .next s))

/-- R7, R15, R75: a BEAT with no work in progress opens a boundary, at which the beat counter advances and the core clock within
the interval starts anew, and does what is due before step 1, steps 1 to 9 in order, and what follows them. -/
def Obligations.BeatRunsItsStepsInOrder : Prop :=
  (∀ (o : BeatObs) (s : State), s.awake → s.work = 9 →
    exec (.beat o) s = .next { s with
      m := (((s.m.openBeat o).boundaryWork o).stepsTo (s.m.openBeat o) o 9).closeWork, work := 9, before := none }) ∧
  (∀ (m : Mach) (o : BeatObs), (m.openBeat o).tim.beats = m.tim.beats + 1 ∧ (m.openBeat o).tim.clk = 0 ∧
    (m.openBeat o).mem = m.mem) ∧
  (∀ (m b : Mach) (o : BeatObs), m.workStep b o 1 = m.leases ∧ m.workStep b o 2 = m.insertStep b.boot.acqReady o.vaultBad (m.insertLocked b) ∧
    m.workStep b o 3 = m.behalf (some .spi) (·.commitStep b .spi o) ∧ m.workStep b o 4 = m.behalf (some .host) (·.commitStep b .host o) ∧
    m.workStep b o 5 = (m.recompute b o.recompBad).timeStep.armLanded ∧ m.workStep b o 6 = m.trimStep ∧ m.workStep b o 7 = m.asyStep7 ∧
    m.workStep b o 8 = m.latchFlags ∧ m.workStep b o 9 = { m.digestStep m.ctl.digestDue with
      ctl := { (m.digestStep m.ctl.digestDue).ctl with digestDue := false, spiWrote := [] } })

/-- R176, R180, R181, R196, R238, R239, R240, R319: from a boundary that has not begun, a command that is due runs the boundary's
work as far as its own step: COMMIT_LAND and DEFERRED_RELEASE to step 3 for the SPI port and 4 for the host port, LEASE_EXPIRY
to step 1, INSERT_APPLY and INSERT_REMOVE to step 2, TRIM_EPOCH_LAND to step 6. With the steps before its own done it does
that step alone: the sealed commit leaves its session, landed or refused whole; the oldest deferred commit is released; the
lock enters FORFEIT; the oldest request leaves the queue and makes its slot's insert active or none; the pending set is in
use. With nothing due it changes nothing. -/
def Obligations.LandingCommandsRunToTheirStep : Prop :=
  (∀ (o : BeatObs) (s : State), s.awake → s.work = 9 →
    let upTo (n : Nat) : State :=
      { s with m := ((s.m.openBeat o).boundaryWork o).stepsTo (s.m.openBeat o) o n, work := n, before := some (s.m.openBeat o) }
    (∀ c, s.m.ctl.spi.commit = some c → c.landing ≤ s.m.tim.beats + 1 → exec (.commitLand .spi o) s = .next (upTo 3)) ∧
    (∀ c, s.m.ctl.host.commit = some c → c.landing ≤ s.m.tim.beats + 1 → exec (.commitLand .host o) s = .next (upTo 4)) ∧
    (s.m.boot.acqReady = true → s.before = none → s.m.ctl.spi.deferred ≠ [] → exec (.deferredRelease .spi o) s = .next (upTo 3)) ∧
    (s.m.boot.acqReady = true → s.before = none → s.m.ctl.host.deferred ≠ [] → exec (.deferredRelease .host o) s = .next (upTo 4)) ∧
    (∀ n : Fin 8, s.m.ctl.locks[n].st = .held → s.m.ctl.locks[n].lease = 0 → exec (.leaseExpiry n o) s = .next (upTo 1)) ∧
    (∀ r rest, s.m.ins.queue = r :: rest → r.apply = true → r.after ≤ s.m.tim.beats → exec (.insertApply o) s = .next (upTo 2)) ∧
    (∀ r rest, s.m.ins.queue = r :: rest → r.apply = false → r.after ≤ s.m.tim.beats → exec (.insertRemove o) s = .next (upTo 2)) ∧
    (s.m.trm.pending.isSome = true → s.m.qre.cur = none → exec (.trimEpochLand o) s = .next (upTo 6))) ∧
  (∀ (o : BeatObs) (s : State) (b : Mach), s.awake → s.before = some b →
    (∀ (k : Master) (c : Commit), s.work + 1 = stepOf k → (s.m.session k).due = some c → (s.m.session k).deferred = [] →
      (b.session k).deferred = [] → b.boot.acqReady = true → o.badStage.contains k = false → (s.m.session k).count = c.num →
      ∃ t, exec (.commitLand k o) s = .next t ∧ t = { s with m := t.m, work := stepOf k } ∧ (t.m.session k).due = none ∧
        (b.commitRefused k c.changes = true → (t.m.session k).cres = { code := 4 } ∧ t.m.par = s.m.par ∧ t.m.mem = s.m.mem) ∧
        (b.commitRefused k c.changes = false →
          ((t.m.session k).cres.code = 0 ∨ (t.m.session k).cres.code = 5) ∧ t.m.ctl.digestDue = true)) ∧
    (∀ (k : Master) (c : Commit) (rest : List Commit), s.work + 1 = stepOf k → b.boot.acqReady = true → s.m.pwr.stage < 6 →
      (s.m.session k).deferred = c :: rest → (s.m.session k).due = none → o.badStage.contains k = false →
      ∃ t, exec (.deferredRelease k o) s = .next t ∧ t = { s with m := t.m, work := stepOf k } ∧ (t.m.session k).deferred = rest) ∧
    (∀ n : Fin 8, s.work = 0 → s.m.ctl.locks[n].st = .held → s.m.ctl.locks[n].lease = 0 →
      ∃ t, exec (.leaseExpiry n o) s = .next t ∧ t = { s with m := t.m, work := 1 } ∧
        t.m.ctl.locks[n] = { s.m.ctl.locks[n] with st := .forfeit, cause := 1, lease := 0 } ∧ t.m.par = s.m.par ∧ t.m.mem = s.m.mem) ∧
    (∀ (r : InsReq) (rest : List InsReq), s.work = 1 → s.m.ins.queue = r :: rest → r.after < s.m.tim.beats → b.boot.acqReady = true →
      (r.apply = true → o.vaultBad = [] → s.m.vlt.slots.getLsbD r.slot = true → (s.m.ins.active = 0 ∨ s.m.ins.active = r.slot) →
        ∃ t, exec (.insertApply o) s = .next t ∧ t = { s with m := t.m, work := 2 } ∧
          t.m.ins.queue = rest ∧ t.m.ins.active = r.slot ∧ t.m.ins.result = 0 ∧ t.m.ins.ops = s.m.ins.ops + 1) ∧
      (r.apply = false → s.m.ins.active = r.slot →
        ∃ t, exec (.insertRemove o) s = .next t ∧ t = { s with m := t.m, work := 2 } ∧
          t.m.ins.queue = rest ∧ t.m.ins.active = 0 ∧ t.m.ins.list = [] ∧ t.m.ins.result = 0 ∧ t.m.ins.ops = s.m.ins.ops + 1)) ∧
    (∀ p, s.work = 5 → s.m.trm.pending = some p → s.m.qre.cur = none → s.m.trm.landedAt ≠ some s.m.tim.beats →
      ∃ t, exec (.trimEpochLand o) s = .next t ∧ t = { s with m := t.m, work := 6 } ∧
        t.m.trm.pending = none ∧ t.m.trm.inUse = p.set ∧ t.m.trm.landedAt = some s.m.tim.beats)) ∧
  (∀ (k : Master) (n : Fin 8) (o : BeatObs) (s : State),
    ((s.m.session k).commit = none → (s.m.session k).due = none → exec (.commitLand k o) s = .next s) ∧
    ((s.m.session k).deferred = [] → exec (.deferredRelease k o) s = .next s) ∧
    ((s.m.ctl.locks[n].st ≠ .held ∨ s.m.ctl.locks[n].lease ≠ 0) → exec (.leaseExpiry n o) s = .next s) ∧
    (s.m.ins.queue = [] → exec (.insertApply o) s = .next s ∧ exec (.insertRemove o) s = .next s) ∧
    ((s.m.trm.pending = none ∨ s.m.qre.cur ≠ none) → exec (.trimEpochLand o) s = .next s))

/-- R151, R152, R192, R193, R194, R195: with good fields, ESC_TAKE makes a FREE lock HELD by the requesting master with the lease
asked for, unless it is the host port's and the SPI port takes that lock in the same core clock, and answers LOCKED then, on
the other master's lock and on one in FORFEIT; ESC_RENEW sets a held lock's lease and returns the remaining one; ESC_GIVE
makes it FREE; what is not the master's to renew or give is DENIED, and so is a lock above 7 or a lease of 0 or above
1,048,576. No other lock changes. R196, R204: at step 1 a HELD lock whose lease has run out enters FORFEIT with cause 1 and no
lease, one whose lease has not run out loses one beat of it, a lock in FORFEIT becomes FREE and a FREE lock stays as it is; no
step for one lock changes another lock. -/
def Obligations.EscrowLocksMove : Prop :=
  (∀ (q : Req) (s : State), s.awake →
      let m := s.m.received q
      let k := Via.master q.via
      let n := q.addr.toNat
      let l := vget m.ctl.locks n
      let lease := fld q.data 0 21
      let set (l : Lock) : Mach := { m with ctl := { m.ctl with locks := vset m.ctl.locks n l } }
      (n < 8 → 1 ≤ lease → lease ≤ 1048576 → s.m.admits 0x06 q = true →
        (l.st = .free → (k = .spi ∨ s.spiTakes n = false) → exec (.escTake q) s =
          .next (s.withEngine ((set { l with st := .held, owner := some k, lease }).answered q { code := 0, addr := q.addr }))) ∧
        ((l.st = .forfeit ∨ (l.st = .held ∧ l.owner = some (Master.other k)) ∨ (l.st = .free ∧ k = .host ∧ s.spiTakes n = true)) →
          exec (.escTake q) s = .next (s.withEngine (m.answered q { code := 8, addr := q.addr }))) ∧
        (l.st = .held → l.owner = some k → exec (.escTake q) s = .next (s.withEngine (m.answered q { code := 4, addr := q.addr })))) ∧
      (n < 8 → 1 ≤ lease → lease ≤ 1048576 → s.m.admits 0x07 q = true →
        (l.st = .held → l.owner = some k → exec (.escRenew q) s =
          .next (s.withEngine ((set { l with lease }).answered q { code := 0, addr := q.addr, data := w32 l.lease }))) ∧
        (m.heldBy n k = false → exec (.escRenew q) s = .next (s.withEngine (m.answered q { code := 4, addr := q.addr })))) ∧
      (n < 8 → s.m.admits 0x08 q = true →
        (l.st = .held → l.owner = some k → exec (.escGive q) s =
          .next (s.withEngine ((set { l with st := .free, lease := 0 }).answered q { code := 0, addr := q.addr }))) ∧
        (m.heldBy n k = false → exec (.escGive q) s = .next (s.withEngine (m.answered q { code := 4, addr := q.addr })))) ∧
      ((8 ≤ n ∨ lease = 0 ∨ 1048576 < lease) →
        (s.m.admits 0x06 q = true → exec (.escTake q) s = .next (s.withEngine (m.answered q { code := 4, addr := q.addr }))) ∧
        (s.m.admits 0x07 q = true → exec (.escRenew q) s = .next (s.withEngine (m.answered q { code := 4, addr := q.addr }))) ∧
        (8 ≤ n → s.m.admits 0x08 q = true → exec (.escGive q) s = .next (s.withEngine (m.answered q { code := 4, addr := q.addr }))))) ∧
  (∀ (m : Mach) (n k : Fin 8),
      (m.ctl.locks[n].st = .held → m.ctl.locks[n].lease = 0 →
        (m.leaseStep n.val).ctl.locks[n] = { m.ctl.locks[n] with st := .forfeit, cause := 1, lease := 0 }) ∧
      (m.ctl.locks[n].st = .held → m.ctl.locks[n].lease ≠ 0 →
        (m.leaseStep n.val).ctl.locks[n] = { m.ctl.locks[n] with lease := m.ctl.locks[n].lease - 1 }) ∧
      (m.ctl.locks[n].st = .forfeit → (m.leaseStep n.val).ctl.locks[n] = { m.ctl.locks[n] with st := .free }) ∧
      (m.ctl.locks[n].st = .free → m.leaseStep n.val = m) ∧
      (n ≠ k → (m.leaseStep n.val).ctl.locks[k] = m.ctl.locks[k]))

/-- R176 check 3, R181: a sealed commit that a whole-commit check refuses lands nothing: at its landing step the session loses it,
its result is DENIED with nothing landed, and no parameter changes. R178, R179: without ACQ_READY a commit that touches an
acquisition block is deferred at its landing beat, with result code 7 and its busy bit; a seventeenth is DENIED and counted. -/
def Obligations.CommitsAreRefusedOrDeferred : Prop :=
  (∀ (m b : Mach) (k : Master) (o : BeatObs) (c : Commit),
      (m.session k).due = some c → (m.session k).deferred = [] → (b.session k).deferred = [] →
      b.boot.acqReady = true → o.badStage.contains k = false → (m.session k).count = c.num → b.commitRefused k c.changes = true →
      ((m.commitStep b k o).session k) = { m.session k with due := none, cres := { code := 4 } } ∧
      (m.commitStep b k o).par = m.par ∧ (m.commitStep b k o).mem = m.mem ∧ (m.commitStep b k o).qre = m.qre) ∧
  (∀ (m b : Mach) (k : Master) (o : BeatObs) (c : Commit),
      (m.session k).due = some c → b.boot.acqReady = false → m.pwr.stage < 6 →
      c.changes.any (fun e => touchesAcq e.1) = true → o.badStage.contains k = false → (m.session k).count = c.num →
      ((m.session k).deferred.length < 16 →
        ((m.commitStep b k o).session k) =
          { m.session k with due := none, deferred := (m.session k).deferred ++ [c], cres := { code := 7, busy := true } }) ∧
      (16 ≤ (m.session k).deferred.length →
        ((m.commitStep b k o).session k) =
          { m.session k with due := none, refused := (m.session k).refused + 1, cres := { code := 4 } }) ∧
      (m.commitStep b k o).par = m.par)

/-- R9, R39, R42: PARAM_WRITE of a plain word (`TRG.DESKEW_1` to `TRG.DESKEW_4` and `TRG.DESKEW_A`, 0xA10 to 0xA14) by either
master makes it the current value and changes no other parameter, pin or memory; UNPIN of one unlocked pin releases that pin
and no other, and no value changes while its step's work is to come. -/
def Obligations.WritesLandAndPinsRelease : Prop :=
  (∀ (k : Master) (a : BitVec 16) (v : Word) (s : State), s.awake → s.work < 5 → 0xA10 ≤ a.toNat → a.toNat ≤ 0xA14 →
    valueOk a.toNat v = true → s.m.dec.waiting = false → swf resetOf s.m.par.landed = true →
    ∃ t, exec (.paramWrite k a v) s = .next t ∧ t = { s with m := t.m } ∧
      t.m.pval a.toNat = v ∧ (∀ b, b ≠ a.toNat → t.m.pval b = s.m.pval b) ∧ t.m.par.pins = s.m.par.pins ∧ t.m.mem = s.m.mem) ∧
  (∀ (k : Master) (v : Word) (s : State), s.awake → s.work < 9 → valueOk 5 v = true → isRwp v.toNat = true →
    coverOwner s.m.ctl.locks s.m.pval v.toNat ≠ some (Master.other k) →
    ∃ t, exec (.unpin k v) s = .next t ∧ t = { s with m := { s.m with par := t.m.par, ctl := t.m.ctl } } ∧
      (∀ b, b ≠ v.toNat → (t.m.pinned b = s.m.pinned b)) ∧ t.m.pinned v.toNat = false ∧ t.m.par.landed = s.m.par.landed)

/-- R144, R145, R150, R153, R157, R158, R159: a request that passes the checks before its own is taken and answered: NOP with code
0; READ of a defined address with the value R157 gives, of another with BADADDR; STATUS with the status word; ABORT, which
empties the staging area, with how many addresses were staged. -/
def Obligations.ReadsStatusAndAbortAnswer : Prop :=
  ∀ (q : Req) (s : State), s.awake →
    let m := s.m.received q
    let k := Via.master q.via
    (s.m.admits 0x00 q = true →
      exec (.nop q) s = .next (s.withEngine (m.answered q { code := 0, addr := q.addr }))) ∧
    (s.m.admits 0x01 q = true → defined q.addr.toNat = true →
      exec (.read q) s = .next (s.withEngine ((m.readEffect s.view k q.addr.toNat).answered q
        { code := 0, addr := q.addr, data := s.view.readAs m k q.addr.toNat }))) ∧
    (s.m.admits 0x01 q = true → defined q.addr.toNat = false →
      exec (.read q) s = .next (s.withEngine (m.answered q { code := 3, addr := q.addr }))) ∧
    (s.m.admits 0x09 q = true →
      exec (.status q) s = .next (s.withEngine (m.answered q { code := 0, addr := q.addr, data := m.statusWord k }))) ∧
    (s.m.admits 0x04 q = true →
      exec (.abort q) s = .next (s.withEngine ((m.setStaging k []).answered q
        { code := 0, addr := q.addr, data := w32 (m.staging k).length })))

/-- R18, R147: STAGE runs checks 5 to 9 in order; passing, it puts the value at its address in the master's staging area,
replacing one already there, and answers 0; failing, it answers BADADDR, NOTEXPERT, DENIED, LOCKED or OVERRUN and stages
nothing. -/
def Obligations.StageChecksInOrder : Prop :=
  ∀ (q : Req) (s : State), s.awake → s.m.admits 0x02 q = true →
    let m := s.m.received q
    let k := Via.master q.via
    let a := q.addr.toNat
    let ends (r : Mach) (code : Nat) : Prop := exec (.stage q) s = .next (s.withEngine (r.answered q { code, addr := q.addr }))
    (defined a = false → ends m 3) ∧
    (defined a = true → 0x400 ≤ a → bitOf (s.view.pval 4) 0 = false → ends m 9) ∧
    (defined a = true → (a < 0x400 ∨ bitOf (s.view.pval 4) 0 = true) → (valueOk a q.data = false ∨ m.stageRefused k a q.data = true) →
      ends m 4) ∧
    (defined a = true → (a < 0x400 ∨ bitOf (s.view.pval 4) 0 = true) → valueOk a q.data = true → m.stageRefused k a q.data = false →
      (coverOwner m.ctl.locks m.pval a = some (Master.other k) → ends m 8) ∧
      (coverOwner m.ctl.locks m.pval a ≠ some (Master.other k) →
        ((if m.usesKeep k then 64 else 512) ≤ (m.staging k).length → (m.staging k).lookup a = none → ends m 6) ∧
        (((m.staging k).length < (if m.usesKeep k then 64 else 512) ∨ ((m.staging k).lookup a).isSome = true) →
          ends (m.setStaging k (mput (m.staging k) a q.data)) 0)))

/-- R20, R148, R149, R154, R762: COMMIT seals the master's staging area into one commit that lands at the next beat boundary,
empties the area, numbers the commit and marks its result busy; it answers DENIED with nothing staged, with a wrong count or
with a commit already sealed, and OVERRUN, emptying the area, beyond 256 changes. A commit sealed from an area with an
uncorrectable error is discarded and counted, and lands nothing. -/
def Obligations.CommitSealsTheStagingArea : Prop :=
  ∀ (q : Req) (s : State), s.awake → s.m.admits 0x03 q = true →
    let m := s.m.received q
    let k := Via.master q.via
    let n := (m.staging k).length
    let count := fld q.data 0 10
    (n ≠ 0 → (count = 0 ∨ count = n) → (m.session k).commit = none → n ≤ 256 →
      exec (.commit q false) s = .next (s.withEngine ((m.sealCommit k).answered q
        { code := 0, addr := q.addr, data := w32 m.tim.beats, wait := if k = .host then some (m.tim.beats + 1, (m.session k).count + 1) else none })) ∧
      ((m.sealCommit k).session k).commit = some { changes := m.staging k, landing := m.tim.beats + 1, num := (m.session k).count + 1 } ∧
      (m.sealCommit k).staging k = [] ∧ ((m.sealCommit k).session k).cres = { busy := true } ∧ (m.sealCommit k).par = m.par) ∧
    (n ≠ 0 → (count = 0 ∨ count = n) → (m.session k).commit = none → (m.session k).due = none → n ≤ 256 → ∃ t,
      exec (.commit q true) s = .next t ∧ (t.m.session k).commit = none ∧ t.m.staging k = [] ∧ t.m.par = s.m.par ∧
      (t.m.session k).disc = (m.session k).disc + 1 ∧ (t.m.session k).cres = { code := 4 }) ∧
    (∀ bad, (n = 0 ∨ (count ≠ 0 ∧ count ≠ n) ∨ (m.session k).commit.isSome = true) →
      exec (.commit q bad) s = .next (s.withEngine (m.answered q { code := 4, addr := q.addr }))) ∧
    (∀ bad, (count = 0 ∨ count = n) → (m.session k).commit = none → 256 < n →
      exec (.commit q bad) s = .next (s.withEngine ((m.setStaging k []).answered q { code := 6, addr := q.addr })))

/-- R152, R236, R237: INSERT and the requests of `INS.APPLY` queue one request behind those waiting, an INSERT of the SPI port
ahead of those that the host port queued in the same core clock, to be taken after the boundary in progress; the queue holds
eight, beyond which INSERT is DENIED and a request by register gets result 4. -/
def Obligations.InsertRequestsQueue : Prop :=
  (∀ (q : Req) (s : State), s.awake → s.m.admits 0x05 q = true →
    let m := s.m.received q
    let k := Via.master q.via
    let r : InsReq := { apply := fld q.data 8 2 == 1, slot := fld q.data 0 5, master := some k, after := m.tim.beats, clk := some m.tim.clk }
    let same (r : InsReq) : Bool := r.master == some .host && r.after == m.tim.beats && r.clk == some m.tim.clk
    (valueOk 0x780 q.data = true → k = .host → m.ins.queue.length + s.spiInserts < 8 → exec (.insert q) s =
      .next (s.withEngine (({ m with ins := { m.ins with queue := m.ins.queue ++ [r] } } : Mach).answered q { code := 0, addr := q.addr }))) ∧
    (∀ front back : List InsReq, valueOk 0x780 q.data = true → k = .spi → m.ins.queue.length < 8 → m.ins.queue = front ++ back →
      back.all same = true → (front.getLast?.all fun x => !same x) = true → exec (.insert q) s =
        .next (s.withEngine (({ m with ins := { m.ins with queue := front ++ r :: back } } : Mach).answered q { code := 0, addr := q.addr }))) ∧
    ((valueOk 0x780 q.data = false ∨ 8 ≤ m.ins.queue.length + (if k = .host then s.spiInserts else 0)) →
      exec (.insert q) s = .next (s.withEngine (m.answered q { code := 4, addr := q.addr })))) ∧
  (∀ (k : Master) (slot : Fin 32) (s : State), s.awake → slot ≠ 0 →
    let put (apply : Bool) : State := { s with m := { s.m with ins := { s.m.ins with queue := s.m.ins.queue ++
      [{ apply, slot := slot.val, master := some k, after := s.m.tim.beats }] } } }
    let full : State := { s with m := { s.m with ins := { s.m.ins with result := 4 } } }
    (s.m.ins.queue.length < 8 → exec (.insApplyRequest k slot) s = .next (put true) ∧ exec (.insRemoveRequest k slot) s = .next (put false)) ∧
    (8 ≤ s.m.ins.queue.length → exec (.insApplyRequest k slot) s = .next full ∧ exec (.insRemoveRequest k slot) s = .next full))

/-- R114, R134, R137, R141, R146, R252, R572: an opcode from 0x0A on is answered DENIED and does nothing else; a whole frame with
a bad CRC-8 is answered with code 2 and counted, one with a wrong SCK count likewise in its own counter; before READY every
frame is answered NOTREADY, and so is one that stage 6 does not handle; a CTRL packet does nothing while the host port is not
UP, and one beyond 16 outstanding is discarded and counted. -/
def Obligations.BadRequestsAreAnsweredAndDoNothing : Prop :=
  (∀ (q : Req) (op : Byte) (s : State), s.awake → 10 ≤ op.toNat → s.m.admits op q = true →
    exec (.undefinedOpcode q op) s = .next (s.withEngine ((s.m.received q).answered q { code := 4, addr := q.addr }))) ∧
  (∀ (a : BitVec 16) (v : Word) (crc : Byte) (early : Nat) (s : State), s.awake → s.m.boot.ready = true →
    let q : Req := { via := .spi 64 crc early, addr := a, data := v }
    crc8 (requestBytes q 0x02) ≠ crc →
    let m := s.m.shiftOut early
    exec (.stage q) s = .next (s.withEngine ({ m with ctl := { m.ctl with port := { m.ctl.port with
      crcErr := m.ctl.port.crcErr + 1, code := 2, addr := a, data := 0 } } }))) ∧
  (∀ (a : BitVec 16) (v : Word) (crc : Byte) (sck early : Nat) (s : State), s.awake → s.m.boot.ready = true → sck ≠ 64 →
    let m := s.m.shiftOut early
    exec (.stage { via := .spi sck crc early, addr := a, data := v }) s = .next (s.withEngine ({ m with ctl := { m.ctl with
      port := { m.ctl.port with frmErr := m.ctl.port.frmErr + 1, code := 2, addr := 0, data := 0 } } }))) ∧
  (∀ (a : BitVec 16) (v : Word) (crc : Byte) (early : Nat) (s : State), s.awake → s.m.boot.ready = false →
    let m := s.m.shiftOut early
    exec (.stage { via := .spi 64 crc early, addr := a, data := v }) s = .next (s.withEngine ({ m with ctl := { m.ctl with
      port := { m.ctl.port with code := 1, addr := a, data := 0 } } }))) ∧
  (∀ (a : BitVec 16) (v : Word) (early : Nat) (s : State), s.awake → s.m.boot.ready = true → s.m.keepMode = true →
    keepHandles 0x02 a.toNat = false →
    let m := s.m.shiftOut early
    let q (crc : Byte) : Req := { via := .spi 64 crc early, addr := a, data := v }
    exec (.stage (q (crc8 (requestBytes (q 0) 0x02)))) s = .next (s.withEngine ({ m with ctl := { m.ctl with
      port := { m.ctl.port with code := 1, addr := a, data := 0 } } }))) ∧
  (∀ (q : Req) (tag : Byte) (s : State), s.awake → q.via = .ctrl tag → s.m.portUp 0 = true →
    let m := s.m.acceptPkt 0 1 8
    16 ≤ m.ctrlWaiting →
    exec (.stage q) s = .next (s.withEngine ({ m with spn := { m.spn with dropCtrl := m.spn.dropCtrl + 1 } }))) ∧
  (∀ (a : BitVec 16) (v : Word) (tag : Byte) (s : State), s.m.portUp 0 = false →
    exec (.stage { via := .ctrl tag, addr := a, data := v }) s = .next s)

/-- R135, R139, R140, R143: the response to a frame is shifted out during the next: whatever an SPI request leaves, the next one's
SDO carries its status code, address and data with the state bits, and a CRC-8 over its first seven bytes. -/
def Obligations.ResponseFollowsInTheNextFrame : Prop :=
  (∀ (m : Mach) (early : Nat), (m.shiftOut early).ctl.port.sdo = responseFrame
      (m.statByte (if early = 0 then m.statusBits .spi else bitsBack (early - 1) m.ctl.port.bits) m.ctl.port.code.toNat)
      m.ctl.port.addr m.ctl.port.data) ∧
  (∀ (stat : Byte) (a : BitVec 16) (v : Word), let f := responseFrame stat a v
    f.extractLsb' 56 8 = stat ∧ f.extractLsb' 40 16 = a ∧ f.extractLsb' 8 32 = v ∧
    f.extractLsb' 0 8 = crc8 [stat, a.extractLsb' 8 8, a.extractLsb' 0 8, v.extractLsb' 24 8, v.extractLsb' 16 8, v.extractLsb' 8 8, v.extractLsb' 0 8]) ∧
  (∀ (m : Mach) (q : Req) (r : Reply) (sck early : Nat) (crc : Byte), q.via = .spi sck crc early →
    m.answered q r = { m with flt := { m.flt with origin := none }, ctl := { m.ctl with port := { m.ctl.port with
      code := BitVec.ofNat 4 r.code, addr := r.addr, data := r.data } } })

/-- R198, R201, R244: a session reset empties the master's staging area, discards its sealed and deferred commits, counting each,
forfeits every lock it holds with cause 2 for the SPI port or 3 for the host port, drops its queued inserts, and leaves the
other master's session and locks as they were. -/
def Obligations.SessionResetClearsOneMaster : Prop :=
  ∀ (s : State) (k : Master), s.awake → ∃ t,
    exec (match k with | .spi => .sessionResetSpi | .host => .sessionResetHost) s = .next t ∧
    t = { s with m := { s.m with ctl := t.m.ctl, ins := t.m.ins, flt := t.m.flt, spn := t.m.spn } } ∧
    (t.m.session k).staging = [] ∧ (t.m.session k).commit = none ∧ (t.m.session k).deferred = [] ∧ (t.m.session k).due = none ∧ t.m.staging k = [] ∧
    (t.m.session k).disc = (s.m.session k).disc +
      BitVec.ofNat 16 ((if (s.m.session k).commit.isSome then 1 else 0) + (if (s.m.session k).due.isSome then 1 else 0) +
        (s.m.session k).deferred.length) ∧
    (∀ n : Fin 8, t.m.ctl.locks[n] = if s.m.ctl.locks[n].st = .held ∧ s.m.ctl.locks[n].owner = some k
      then { s.m.ctl.locks[n] with st := .forfeit, cause := (match k with | .spi => 2 | .host => 3), lease := 0 } else s.m.ctl.locks[n]) ∧
    t.m.ins.queue = s.m.ins.queue.filter (fun r => r.master != some k) ∧
    (t.m.session (Master.other k)).staging = (s.m.session (Master.other k)).staging ∧
    (s.m.ins.queue.any (fun r => r.master == some k) = true → t.m.ins.result = 6) ∧
    (t.m.session (Master.other k)).commit.isSome = (s.m.session (Master.other k)).commit.isSome ∧
    (t.m.session (Master.other k)).count = (s.m.session (Master.other k)).count

/-- R5, R165, R166, R167, R168: a window operation starts with the address of `WIN.ADDR` and 1 to 16 words; WINDOW_DONE of a write
within available DDR5 stores the buffer words, least significant byte first, and no other byte; of a read without error it
copies the words into the buffers and changes no memory; one with an uncorrectable word copies those before it and ends with
cause 4; one with a fault transfers nothing and names its cause; a window operation asked for while one runs does nothing. -/
def Obligations.WindowCopiesWords : Prop :=
  (∀ (len : Fin 16) (s : State), s.awake → s.m.ctl.win.st ≠ 1 →
    let w (write : Bool) : State := { s with m := { s.m with ctl := { s.m.ctl with win :=
      { st := 1, write, addr := s.m.pnat 0x41 * 2 ^ 32 + s.m.pnat 0x40, len := len.val + 1 } } } }
    exec (.windowRead len) s = .next (w false) ∧ exec (.windowWrite len) s = .next (w true)) ∧
  (∀ (len : Fin 16) (s : State), s.m.ctl.win.st = 1 → exec (.windowRead len) s = .next s ∧ exec (.windowWrite len) s = .next s) ∧
  (∀ (ecc : Option Nat) (s : State), s.m.ctl.win.st ≠ 1 → exec (.windowDone ecc) s = .next s) ∧
  (∀ (ecc : Option Nat) (s : State), s.awake → s.m.ctl.win.st = 1 → s.m.winFault ≠ 0 →
    exec (.windowDone ecc) s = .next (s.withEngine ({ s.m with ctl := { s.m.ctl with win :=
      { s.m.ctl.win with st := 3, cause := BitVec.ofNat 4 s.m.winFault, words := 0 } } }))) ∧
  (∀ (ecc : Option Nat) (s : State), s.awake → s.m.ctl.win.st = 1 → s.m.winFault = 0 → s.m.ctl.win.write = true → s.m.ctl.win.len ≤ 16 →
    Memory.wf s.m.mem = true →
    ∃ t, exec (.windowDone ecc) s = .next t ∧ t = { s with m := { s.m with mem := t.m.mem, store := t.m.store, ctl := t.m.ctl } } ∧
      t.m.ctl.win = { s.m.ctl.win with st := 2, cause := 0, words := BitVec.ofNat 4 (s.m.ctl.win.len - 1) } ∧
      (∀ a, (a < s.m.ctl.win.addr ∨ s.m.ctl.win.addr + 4 * s.m.ctl.win.len ≤ a) → readByte t.m.mem a = readByte s.m.mem a) ∧
      (∀ i, i < s.m.ctl.win.len → ∀ j, j < 4 → readByte t.m.mem (s.m.ctl.win.addr + 4 * i + j) =
        BitVec.ofNat 8 (s.m.pnat (0x50 + i) / 256 ^ j))) ∧
  (∀ (n : Nat) (s : State), s.awake → s.m.ctl.win.st = 1 → s.m.winFault = 0 → s.m.ctl.win.write = false → n < s.m.ctl.win.len →
    s.m.ctl.win.len ≤ 16 → swf resetOf s.m.par.landed = true →
    ∃ t, exec (.windowDone (some n)) s = .next t ∧ t.m.ctl.win = { s.m.ctl.win with st := 3, cause := 4, words := BitVec.ofNat 4 (n - 1) } ∧
      t.m.mem = s.m.mem ∧ (∀ i, i < n → t.m.pval (0x50 + i) = s.m.word (s.m.ctl.win.addr + 4 * i)) ∧
      (∀ a, (a < 0x50 ∨ 0x50 + n ≤ a) → t.m.pval a = s.m.pval a)) ∧
  (∀ s : State, s.awake → s.m.ctl.win.st = 1 → s.m.winFault = 0 → s.m.ctl.win.write = false → s.m.ctl.win.len ≤ 16 →
    swf resetOf s.m.par.landed = true →
    ∃ t, exec (.windowDone none) s = .next t ∧ t = { s with m := { s.m with par := t.m.par, store := t.m.store, ctl := t.m.ctl } } ∧
      t.m.ctl.win = { s.m.ctl.win with st := 2, cause := 0, words := BitVec.ofNat 4 (s.m.ctl.win.len - 1) } ∧
      (∀ i, i < s.m.ctl.win.len → t.m.pval (0x50 + i) = s.m.word (s.m.ctl.win.addr + 4 * i)) ∧
      (∀ a, (a < 0x50 ∨ 0x50 + s.m.ctl.win.len ≤ a) → t.m.pval a = s.m.pval a))

/-- R82, R83, R84: on an engine that is no member of a Volume, TIME_SET_REQUEST and TIME_STEP_REQUEST make their action the
pending one, TIME_ACTION_CANCEL leaves none; TIME_STEP with no quire running adds the pending step to time, and to nothing
else of the timebase, and logs TIME_STEP; with a quire running it waits. A member does none of the three requests. -/
def Obligations.TimeActionsAreSetAndTaken : Prop :=
  (∀ s : State, s.awake → s.m.isMember = false →
    exec .timeSetRequest s = .next (s.withEngine { s.m with tim := { s.m.tim with action := some .set, actBy := s.m.flt.origin } }) ∧
    exec .timeActionCancel s = .next (s.withEngine { s.m with tim := { s.m.tim with action := none } }) ∧
    ∀ v, exec (.timeStepRequest v) s =
      .next (s.withEngine { s.m with tim := { s.m.tim with action := some (.adj v.toInt), actBy := s.m.flt.origin } })) ∧
  (∀ s : State, s.m.isMember = true → exec .timeSetRequest s = .next s ∧ exec .timeActionCancel s = .next s ∧
    ∀ v, exec (.timeStepRequest v) s = .next s) ∧
  (∀ (ns : Int) (s : State), s.awake → s.m.tim.action = some (.adj ns) →
    (s.m.running = false → exec .timeStep s = .next (s.withEngine
      (({ s.m with tim := { s.m.tim with off := s.m.tim.off + ns * 2 ^ 39, action := none } } : Mach).logEvent .management 0x0108
        (ofInt ns 32) 0 s.m.tim.actBy))) ∧
    (s.m.running = true → exec .timeStep s = .next s))

/-- R50, R52, R53, R55, R868, R869: loss of REFIN in LOCKED or LOCKING leaves HOLDOVER after a first lock and FREERUN before one,
has the first window begin at the next beat boundary, notes the HOLDOVER condition and logs REF_LOST with class CLOCK and
argument 0 for a missing edge, 1 for phase; in FREERUN and HOLDOVER a missing edge spoils the window in progress and excess
phase does nothing; REF_LOCKED takes LOCKING to LOCKED, where no window runs, and logs the frequency, and does nothing in any
other state. R49, R54, R56, R62, R868, R869: a qualification window ends once it has lasted 1,024 beats. Its end moves FREERUN
and HOLDOVER to LOCKING when REFIN met REFCLEAN's own frequency with no edge missing, makes a reference change when it met the
other one, which `TIM.REFFREQ` = 0 admits, and else only begins the next window; in LOCKING a missing edge or another
frequency is a loss, and REFCLEAN's frequency begins the next window; in LOCKED, and before the window's end, it does nothing.
REF_ABSENT is logged once, in FREERUN, with class CLOCK. -/
def Obligations.ReferenceStatesChange : Prop :=
  (∀ s : State, s.awake →
      (∀ phase, s.m.tim.ref = .locked ∨ s.m.tim.ref = .locking → exec (.refLost phase) s = .next (s.withEngine
        ((({ s.m with tim := { s.m.tim with
          ref := if s.m.tim.everLocked then .holdover else .freerun, win := some (s.m.tim.beats + 1), qualClean := true } } : Mach).note
          0x40).logEvent .management 0x0101 (if phase then 1 else 0) 0 none (some 0)))) ∧
      (s.m.tim.ref = .freerun ∨ s.m.tim.ref = .holdover → exec (.refLost true) s = .next s) ∧
      (∀ w, s.m.tim.ref = .freerun ∨ s.m.tim.ref = .holdover → s.m.tim.win = some w → w ≤ s.m.tim.beats →
        exec (.refLost false) s = .next (s.withEngine { s.m with tim := { s.m.tim with qualClean := false } })) ∧
      (s.m.tim.ref = .locking → ∃ t, exec .refLocked s = .next t ∧
        t = s.withEngine { s.m with tim := t.m.tim, hall := t.m.hall, flt := t.m.flt, ctl := t.m.ctl, spn := t.m.spn } ∧
        t.m.tim = { s.m.tim with ref := .locked, everLocked := true, win := none } ∧ t.m.ctl = s.m.ctl ∧
        (s.m.flt.sinceDrop = 0 → s.m.logFree = true → t.m.flt.queue.any (fun r =>
          r.code == 0x103 && r.a == (if s.m.tim.ref100 then 100 else 10) && r.b == 0 && r.cls.isNone) = true)) ∧
      (s.m.tim.ref ≠ .locking → exec .refLocked s = .next s)) ∧
  ((∀ (w : Nat) (s : State), s.awake → s.m.tim.win = some w → w + 1024 ≤ s.m.tim.beats →
      let next : Tim := { s.m.tim with win := some (w + 1024), qualClean := true }
      let free : Prop := s.m.tim.ref = .freerun ∨ s.m.tim.ref = .holdover
      (free → s.m.tim.qualClean = true → fld (s.m.pval 0x401) 0 2 = 0 → exec (.qualificationWindowEnd false (some s.m.tim.ref100)) s =
        .next (s.withEngine { s.m with tim := { next with ref := .locking } })) ∧
      (free → s.m.tim.qualClean = true → fld (s.m.pval 0x401) 0 2 = 0 → s.m.tim.exhausted = false → ∃ t,
        exec (.qualificationWindowEnd false (some (!s.m.tim.ref100))) s = .next t ∧ t = s.withEngine t.m ∧
        t.m.tim.ref = .locking ∧ t.m.tim.ref100 = (!s.m.tim.ref100) ∧ t.m.tim.timeValid = false ∧ t.m.tim.win = some (w + 1024) ∧
        t.m.tim.core.active = true ∧ t.m.tim.coreCause = 1 ∧ t.m.tim.synthAfter = true ∧ t.m.tim.slices = false ∧ t.m.running = false ∧
        t.m.par = s.m.par) ∧
      (∀ missing : Bool, free → exec (.qualificationWindowEnd missing none) s = .next (s.withEngine { s.m with tim := next })) ∧
      (∀ met : Option Bool, free → exec (.qualificationWindowEnd true met) s = .next (s.withEngine { s.m with tim := next })) ∧
      (∀ met : Option Bool, s.m.tim.ref = .locking → exec (.qualificationWindowEnd true met) s = exec (.refLost false) s) ∧
      (s.m.tim.ref = .locking → s.m.tim.qualClean = true → exec (.qualificationWindowEnd false none) s = exec (.refLost true) s) ∧
      (s.m.tim.ref = .locking → s.m.tim.qualClean = true → exec (.qualificationWindowEnd false (some s.m.tim.ref100)) s =
        .next (s.withEngine { s.m with tim := next }))) ∧
    (∀ (missing : Bool) (met : Option Bool) (s : State), s.m.tim.ref = .locked → exec (.qualificationWindowEnd missing met) s = .next s) ∧
    (∀ (missing : Bool) (met : Option Bool) (w : Nat) (s : State), s.m.tim.win = some w → s.m.tim.beats < w + 1024 →
      exec (.qualificationWindowEnd missing met) s = .next s) ∧
    (∀ s : State, s.awake → s.m.tim.ref = .freerun → s.m.tim.absentDone = false → exec .refAbsent s = .next (s.withEngine
      (({ s.m with tim := { s.m.tim with absentDone := true } } : Mach).logEvent .management 0x0102 0 0 none (some 0)))) ∧
    (∀ s : State, s.m.tim.ref ≠ .freerun ∨ s.m.tim.absentDone = true → exec .refAbsent s = .next s))

/-- R57, R58, R59, R61, R62, R67, R69, R73, R78: loss of core PLL lock on the PLL starts a core relock: the core runs from the
holding oscillator, with time back at the last REFCLEAN edge, a relock with cause 2 is counted, the slice clocks are gated,
CLK_OUT is parked and no quire runs; lock is noted; the switchback ends the relock, with time counted on from that edge, and
restarts the slice clocks with a locked synthesizer, or starts the synthesizer relock that is due. -/
def Obligations.CoreRelockRunsItsCourse : Prop :=
  (∀ s : State, s.awake → s.m.tim.holding = false → s.m.tim.exhausted = false → ∃ t, exec .corePllUnlock s = .next t ∧
    t = s.withEngine t.m ∧ t.m.tim.holding = true ∧ t.m.tim.core = { s.m.tim.core with active := true, lock := false, again := false } ∧
    t.m.tim.coreCause = 2 ∧ t.m.tim.relocks = s.m.tim.relocks + 1 ∧ t.m.tim.slices = false ∧ t.m.tim.ckoParked = true ∧
    t.m.running = false ∧ (s.m.tim.refStopped = false → t.m.tim.mono = s.m.tim.mono - s.m.tim.refPhase) ∧
    t.m.tim.refPhase = s.m.tim.refPhase ∧ t.m.tim.off = s.m.tim.off ∧ t.m.tim.beats = s.m.tim.beats ∧
    t.m.par = s.m.par ∧ (s.m.running = false → t.m.mem = s.m.mem)) ∧
  (∀ s : State, s.awake → s.m.tim.holding = false → s.m.tim.exhausted = true → ∃ t, exec .corePllUnlock s = .next t ∧
    t = s.withEngine t.m ∧ t.m.tim.holding = true ∧ t.m.tim.core = s.m.tim.core ∧ t.m.tim.coreCause = 2 ∧
    t.m.tim.relocks = s.m.tim.relocks ∧ t.m.tim.slices = false ∧ t.m.running = false) ∧
  (∀ s : State, s.awake → s.m.tim.holding = true → exec .corePllUnlock s = .next s) ∧
  (∀ s : State, s.awake → s.m.tim.core.active = true → s.m.tim.core.lock = false → s.m.tim.core.again = false →
    exec .corePllLock s = .next (s.withEngine
      { s.m with tim := { s.m.tim.source true false with core := { s.m.tim.core with lock := true } } })) ∧
  (∀ s : State, s.m.tim.core.active = false ∨ s.m.tim.core.lock = true ∨ s.m.tim.core.again = true → exec .corePllLock s = .next s) ∧
  (∀ s : State, s.awake → s.m.tim.core.active = true → s.m.tim.core.lock = true → s.m.tim.synthAfter = false → s.m.tim.coreCause ≠ 0 →
    s.m.tim.synth.active = false → s.m.tim.synthLock = true → s.m.domUp 3 = true → s.m.fe.gating = false → s.m.running = false →
    s.m.store.st ≠ .untrained → ∃ t, exec .coreRelockSwitchback s = .next t ∧
      t = s.withEngine { s.m with boot := t.m.boot, tim := t.m.tim, hall := t.m.hall, fe := t.m.fe, trm := t.m.trm, mnt := t.m.mnt } ∧
      t.m.boot = { s.m.boot with onPll := true } ∧
      t.m.tim = { s.m.tim.source false s.m.tim.refStopped with core := {}, synthAfter := false, slices := true, ckoParked := false } ∧
      t.m.fe = { s.m.fe with
        run := s.m.fe.run + 1, clkGroups := groupsOf s.m.fe.mode, clkFreq := s.m.useN 0x404
        t0 := t.m.tim.mono + (refPeriod s.m.tim - s.m.tim.refPhase) % refPeriod s.m.tim } ∧ t.m.mnt.stopped = false) ∧
  (∀ s : State, s.awake → s.m.tim.core.active = true → s.m.tim.core.lock = true → s.m.tim.synthAfter = true → s.m.domUp 3 = true →
    s.m.tim.exhausted = false → ∃ t, exec .coreRelockSwitchback s = .next t ∧ t = s.withEngine t.m ∧
      t.m.tim.holding = false ∧ t.m.tim.core = {} ∧ t.m.tim.synthAfter = false ∧ t.m.tim.synth.active = true ∧ t.m.tim.synth.lock = false ∧
      t.m.tim.synthLock = false ∧ t.m.tim.slices = false ∧ t.m.tim.relocks = s.m.tim.relocks + 1) ∧
  (∀ s : State, s.m.tim.core.active = false ∨ s.m.tim.core.lock = false → exec .coreRelockSwitchback s = .next s) ∧
  (∀ (t : Tim) (stop : Bool), t.refStopped = false →
    (t.holding = false → (t.source true false).mono = t.mono - t.refPhase) ∧
    (t.holding = true → (t.source false stop).mono = t.mono + t.refPhase) ∧
    (t.source true stop).holding = true ∧ (t.source false stop).holding = false ∧ (t.source false stop).refPhase = t.refPhase)

/-- R62, R66, R67, R68, R69: SYNTH_UNLOCK of a locked synthesizer, outside a core relock, starts a synthesizer relock that gates
the slice clocks, ends a running quire and logs SYNTH_UNLOCK; SYNTH_LOCK notes the lock; SLICE_CLOCK_RESTART ends the relock
and restarts the slice clocks, at the next REFCLEAN edge, unless a core relock or a mode change gates them. R69: a relock that
fails counts its failure, logged without an alert, and is attempted again at the next beat; the fourth in a row ends the
attempts, sets the exhausted flag and raises CLOCK. RELOCK_RETRY clears the flag and starts a new attempt, counted from no
failure: of the core where it runs on the holding oscillator with no relock in progress, of the relock in progress else; with
both locked it clears the flag and the counts alone. That the core's failures and the synthesizer's count apart is the model's
choice (log 103), and so is what a retry does while nothing is exhausted (log 104). -/
def Obligations.RelocksRetryAndExhaust : Prop :=
  ((∀ s : State, s.awake → s.m.tim.synthLock = true → s.m.domUp 3 = true → s.m.tim.exhausted = false → s.m.tim.core.active = false →
      ∃ t, exec .synthUnlock s = .next t ∧ t = s.withEngine t.m ∧
        t.m.tim.synth = { s.m.tim.synth with active := true, lock := false, again := false } ∧
        t.m.tim.synthLock = false ∧ t.m.tim.relocks = s.m.tim.relocks + 1 ∧ t.m.tim.slices = false ∧ t.m.running = false ∧
        t.m.mnt.stopped = true ∧ t.m.par = s.m.par ∧ (s.m.running = false → t.m.mem = s.m.mem)) ∧
    (∀ s : State, s.awake → s.m.tim.synthLock = true → s.m.domUp 3 = true → s.m.tim.exhausted = true → ∃ t, exec .synthUnlock s = .next t ∧
      t = s.withEngine t.m ∧ t.m.tim.synth.active = false ∧ t.m.tim.synthLock = false ∧ t.m.tim.synthAfter = true ∧
      t.m.tim.relocks = s.m.tim.relocks ∧ t.m.tim.slices = false ∧ t.m.running = false) ∧
    (∀ s : State, s.awake → s.m.tim.synth.active = true → s.m.tim.synth.lock = false → s.m.tim.synth.again = false →
      exec .synthLock s = .next (s.withEngine
        { s.m with tim := { s.m.tim with synth := { s.m.tim.synth with lock := true }, synthLock := true } })) ∧
    (∀ s : State, s.m.tim.synth.active = false ∨ s.m.tim.synth.lock = true ∨ s.m.tim.synth.again = true → exec .synthLock s = .next s) ∧
    (∀ s : State, s.awake → s.m.tim.synth.active = true → s.m.tim.synth.lock = true → s.m.running = false →
      ∃ t, exec .sliceClockRestart s = .next t ∧ t = s.withEngine { s.m with tim := t.m.tim, fe := t.m.fe, trm := t.m.trm, mnt := t.m.mnt } ∧
        (s.m.tim.core.active = false → s.m.fe.gating = false → t.m.tim = { s.m.tim with synth := {}, slices := true, ckoParked := false } ∧
          t.m.fe = { s.m.fe with
            run := s.m.fe.run + 1, clkGroups := groupsOf s.m.fe.mode, clkFreq := s.m.useN 0x404
            t0 := s.m.tim.mono + (refPeriod s.m.tim - s.m.tim.refPhase) % refPeriod s.m.tim }) ∧
        (s.m.tim.core.active = true ∨ s.m.fe.gating = true → t.m.tim = { s.m.tim with synth := {} } ∧ t.m.fe = s.m.fe ∧ t.m.trm = s.m.trm)) ∧
    (∀ s : State, s.m.tim.synth.active = false ∨ s.m.tim.synth.lock = false → exec .sliceClockRestart s = .next s) ∧
    (∀ s : State, s.m.tim.synthLock = false → exec .synthUnlock s = .next s)) ∧
  ((∀ s : State, s.awake → s.m.tim.core.active = true → s.m.tim.core.lock = false → s.m.tim.core.again = false →
      let n := s.m.tim.core.fails + 1
      let more : Bool := decide (n < 4) && !s.m.tim.exhausted
      exec (.relockFail true) s = .next (s.withEngine
        (({ s.m with tim := { s.m.tim with core := { s.m.tim.core with fails := n, active := more, again := more },
                                           exhausted := s.m.tim.exhausted || decide (4 ≤ n) } } : Mach).logEvent
          .management 0x0106 1 n none (if n < 4 then none else some 0)))) ∧
    (∀ s : State, s.awake → s.m.tim.synth.active = true → s.m.tim.synth.lock = false → s.m.tim.synth.again = false →
      let n := s.m.tim.synth.fails + 1
      let more : Bool := decide (n < 4) && !s.m.tim.exhausted
      exec (.relockFail false) s = .next (s.withEngine
        (({ s.m with tim := { s.m.tim with synth := { s.m.tim.synth with fails := n, active := more, again := more },
                                           exhausted := s.m.tim.exhausted || decide (4 ≤ n) } } : Mach).logEvent
          .management 0x0106 0 n none (if n < 4 then none else some 0)))) ∧
    (∀ m : Mach, m.tim.core.again = true → m.tim.synth.again = false → m.tim.exhausted = false →
      m.relockAgain = { m with tim := { m.tim with core := { m.tim.core with again := false }, relocks := m.tim.relocks + 1 } }) ∧
    (∀ s : State, s.awake → s.m.domUp 1 = true → s.m.tim.core.active = false → s.m.tim.synth.active = false → s.m.tim.holding = true → ∃ t,
      exec .relockRetry s = .next t ∧ t = s.withEngine t.m ∧ t.m.tim.exhausted = false ∧ t.m.tim.core.active = true ∧
      t.m.tim.core.fails = 0 ∧ t.m.tim.core.lock = false ∧ t.m.tim.holding = true ∧ t.m.tim.coreCause = s.m.tim.coreCause ∧
      t.m.tim.relocks = s.m.tim.relocks + 1) ∧
    (∀ s : State, s.awake → s.m.tim.core.active = true → s.m.tim.core.lock = false → s.m.tim.synth.active = false →
      exec .relockRetry s = .next (s.withEngine { s.m with tim := { s.m.tim with
        exhausted := false, core := { active := true }, synth := { s.m.tim.synth with fails := 0 }, relocks := s.m.tim.relocks + 1 } })) ∧
    (∀ s : State, s.awake → s.m.domUp 1 = true → s.m.domUp 3 = true → s.m.tim.core.active = false → s.m.tim.synth.active = false →
      s.m.tim.holding = false → s.m.tim.synthLock = false → ∃ t, exec .relockRetry s = .next t ∧ t = s.withEngine t.m ∧
        t.m.tim.exhausted = false ∧ t.m.tim.synth.active = true ∧ t.m.tim.synth.fails = 0 ∧ t.m.tim.synthAfter = false ∧
        t.m.tim.relocks = s.m.tim.relocks + 1 ∧ t.m.tim.core = { s.m.tim.core with fails := 0 }) ∧
    (∀ s : State, s.awake → s.m.tim.core.active = false → s.m.tim.synth.active = false → s.m.tim.holding = false → s.m.tim.synthLock = true →
      exec .relockRetry s = .next (s.withEngine { s.m with tim := { s.m.tim with
        exhausted := false, core := { s.m.tim.core with fails := 0 }, synth := { s.m.tim.synth with fails := 0 } } })) ∧
    (∀ s : State, s.m.tim.core.active = false ∨ s.m.tim.core.lock = true ∨ s.m.tim.core.again = true → exec (.relockFail true) s = .next s) ∧
    (∀ s : State, s.m.tim.synth.active = false ∨ s.m.tim.synth.lock = true ∨ s.m.tim.synth.again = true → exec (.relockFail false) s = .next s))

/-- R80, R81, R82: every PPS_IN edge is counted, judged valid when 1 s within 100 µs has passed since the previous one, and its
time captured; an invalid one after another is counted and logged; a valid one carries out a pending time set with the
reference LOCKED or in HOLDOVER on the core PLL and no quire running. -/
def Obligations.PpsEdgesAreCountedAndJudged : Prop :=
  (∀ s : State, s.awake → ∃ t, exec .ppsEdge s = .next t ∧
    t = s.withEngine { s.m with tim := t.m.tim, hall := t.m.hall, flt := t.m.flt, ctl := t.m.ctl, spn := t.m.spn } ∧
    t.m.tim.ppsCnt = s.m.tim.ppsCnt + 1 ∧ t.m.tim.since = some 0 ∧ t.m.tim.ppsCap = t.m.now.toNat ∧
    (t.m.tim.ppsValid = true ↔ ∃ h, s.m.tim.since = some h ∧ 2000000000 ≤ h + 200000 ∧ h ≤ 2000200000) ∧
    (t.m.tim.ppsValid = false → t.m.tim.off = s.m.tim.off ∧ t.m.tim.action = s.m.tim.action) ∧
    t.m.tim.ppsBad = s.m.tim.ppsBad + (if s.m.tim.since.isSome ∧ t.m.tim.ppsValid = false then 1 else 0)) ∧
  (∀ (h : Nat) (s : State), s.awake → s.m.tim.since = some h → 2000000000 ≤ h + 200000 → h ≤ 2000200000 → s.m.tim.action = some .set →
    s.m.running = false → s.m.tim.holding = false → s.m.tim.ref = .locked → ∃ t, exec .ppsEdge s = .next t ∧
      t = s.withEngine { s.m with tim := t.m.tim, hall := t.m.hall, flt := t.m.flt, ctl := t.m.ctl, spn := t.m.spn } ∧
      t.m.tim.timeValid = true ∧ t.m.tim.action = none ∧
      t.m.tim.off + (s.m.tim.mono : Int) = ((fld (s.m.pval 0x40C) 0 16 * 2 ^ 32 + s.m.pnat 0x40B) * (2 ^ 48 * uStamp) : Nat))

/-- R447, R448, R449: with no boundary's work before step 5 in progress, on an engine in no Volume whose clocks and stages allow
it, QRE_ARM arms a quire whose settings pass the arm checks: RUNNING, with the quire ID of `QRE.QID`, which advances, no
folio, the settings in use, of no Volume; one that fails a check is refused with that check's cause and logged; with a quire
running it becomes the pending arm, as it does (log 106) where shedding stops what the settings in use would store; where the
clocks or shedding refuse it, it has no effect; within a boundary's work before step 5 it waits for that step (log 15). R447,
R450: a pending arm waits while a quire runs and takes effect as an arm of its master once none does; QRE_FINISH lets an open
folio end and closes a quire without one with cause 3; QRE_STOP closes a running quire with cause 2 and cancels a pending arm. -/
def Obligations.QuiresArmAndStop : Prop :=
  ((∀ s : State, s.awake → s.work = 9 → s.m.volOn = false → s.m.armRefused [(0xC00, 1)] = false → swf resetOf s.m.par.landed = true →
      (s.m.running = false → s.m.armShed s.m.quireCfg = false → s.m.armFault s.m.quireCfg = 0 → ∃ t, exec .qreArm s = .next t ∧
        t = s.withEngine { s.m with qre := t.m.qre, cal := t.m.cal, par := t.m.par, hall := t.m.hall, trg := t.m.trg, dec := t.m.dec, store := t.m.store, vol := t.m.vol, tels := t.m.tels } ∧
        t.m.qre.st = .running ∧ t.m.qre.qid = s.m.pval 0xC02 ∧ t.m.qre.cfg = s.m.quireCfg ∧ t.m.qre.folios = 0 ∧ t.m.qre.headers = 0 ∧
        t.m.qre.released = 0 ∧ t.m.qre.cur = none ∧ t.m.pval 0xC02 = s.m.pval 0xC02 + 1 ∧ (∀ a, a ≠ 0xC02 → t.m.pval a = s.m.pval a) ∧
        t.m.hall.history = [] ∧ (∀ e : Fin 64, t.m.trg.entries[e].a = .undecided ∧ t.m.trg.entries[e].b = .undecided)) ∧
      (s.m.running = false → s.m.armShed s.m.quireCfg = false → s.m.armFault s.m.quireCfg ≠ 0 → exec .qreArm s = .next (s.withEngine
        (({ s.m with qre := { s.m.qre with armCause := BitVec.ofNat 4 (s.m.armFault s.m.quireCfg), armPending := false } } : Mach).logEvent .data
          0x0701 (s.m.pval 0xC02).toNat (s.m.armFault s.m.quireCfg)))) ∧
      (s.m.running = true → exec .qreArm s =
        .next (s.withEngine { s.m with qre := { s.m.qre with armPending := true, armBy := s.m.flt.origin } })) ∧
      (s.m.armShed s.m.quireCfg = true → exec .qreArm s =
        .next (s.withEngine { s.m with qre := { s.m.qre with armPending := true, armBy := s.m.flt.origin } }))) ∧
    (∀ s : State, s.awake → s.work < 5 → s.m.isMember = false → s.m.armRefused [(0xC00, 1)] = false → exec .qreArm s =
      .next (s.withEngine { s.m with qre := { s.m.qre with
        armPending := s.m.qre.armPending || s.m.running, armDue := s.m.qre.armDue || !s.m.running, armBy := s.m.flt.origin } })) ∧
    (∀ s : State, s.m.isMember = true ∨ s.m.armRefused [(0xC00, 1)] = true → exec .qreArm s = .next s)) ∧
  ((∀ s : State, s.awake → s.m.qre.armPending = true →
      (s.m.running = true → exec .pendingArm s = .next s) ∧
      (s.m.running = false → exec .pendingArm s = .next (s.withEngine (s.m.behalf s.m.qre.armBy Mach.armNow)))) ∧
    (∀ s : State, s.m.qre.armPending = false → exec .pendingArm s = .next s) ∧
    (∀ s : State, s.awake → s.m.isMember = false → s.m.qre.st = .running →
      (s.m.qre.cur.isSome = true → exec .qreFinish s =
        .next (s.withEngine { s.m with qre := { s.m.qre with st := .finishing, endCause := 3 } })) ∧
      (s.m.qre.cur = none → ∃ t, exec .qreFinish s = .next t ∧ t = s.withEngine t.m ∧ t.m.running = false ∧ t.m.qre.closeCause = 3 ∧
        t.m.par = s.m.par ∧ t.m.mem = s.m.mem)) ∧
    (∀ s : State, s.awake → s.m.isMember = false → s.m.running = true → ∃ t, exec .qreStop s = .next t ∧ t = s.withEngine t.m ∧
      t.m.running = false ∧ t.m.qre.closeCause = 2 ∧ t.m.qre.armPending = false ∧ t.m.qre.qid = s.m.qre.qid ∧ t.m.par = s.m.par) ∧
    (∀ s : State, s.awake → s.m.isMember = false → s.m.running = false → s.m.vol.arm = none → exec .qreStop s =
      .next (s.withEngine { s.m with qre := { s.m.qre with armPending := false, volPending := false } })))

/-- R451, R457: the end of a folio stores all its samples in its slot and leaves its header pending; the quire closes with cause 1
when it has its count of folios, with its end cause when FINISHING, with cause 4 when the ring is full, and runs on otherwise.
With no folio open FOLIO_END does nothing. R445, R446, R453: the stored data of a folio lie in its slot after the header's 64
bytes, and every other byte of memory is as it was; a header written at a beat fills those 64 bytes with the words of R453 and
changes no other byte, counts once, and a CLOSED quire with no header left is IDLE. -/
def Obligations.FoliosAreStored : Prop :=
  ((∀ (f : Folio) (s : State), s.awake → s.m.qre.cur = some f → s.m.running = true → ∃ t, exec .folioEnd s = .next t ∧ t = s.withEngine t.m ∧
      t.m.qre.cur = none ∧
      t.m.qre.pend = s.m.qre.pend ++ [{ f with held := 64 * f.cfg.gran, stored := true, beat2 := s.m.lastBeat { f with held := 64 * f.cfg.gran } }] ∧
      (s.m.qre.cfg.count ≤ s.m.qre.folios → t.m.running = false ∧ t.m.qre.closeCause = 1) ∧
      (s.m.qre.folios < s.m.qre.cfg.count → s.m.qre.st = .finishing → t.m.running = false ∧ t.m.qre.closeCause = s.m.qre.endCause) ∧
      (s.m.qre.folios < s.m.qre.cfg.count → s.m.qre.st = .running → s.m.qre.cfg.wrap = false →
        s.m.qre.cfg.slots ≤ s.m.qre.folios - s.m.qre.released → t.m.running = false ∧ t.m.qre.closeCause = 4) ∧
      (s.m.qre.folios < s.m.qre.cfg.count → s.m.qre.st = .running →
        (s.m.qre.cfg.wrap = true ∨ s.m.qre.folios - s.m.qre.released < s.m.qre.cfg.slots) → t.m.qre.st = .running) ∧
      t.m.par = s.m.par) ∧
    (∀ s : State, s.m.qre.cur = none → exec .folioEnd s = .next s)) ∧
  ((∀ (m : Mach) (f : Folio) (a : Nat), f.held ≤ 64 * f.cfg.gran → (a < f.addr + 64 ∨ f.addr + f.cfg.slotSize ≤ a) →
      readByte (m.storeFolio f).mem a = readByte m.mem a) ∧
    (∀ (m : Mach) (f : Folio), (m.header f).length = 64) ∧
    (∀ (f : Folio) (s : State), s.awake → s.m.qre.pend = [f] → f.beat2 < s.m.tim.beats → f.qid = s.m.qre.qid → s.m.qre.st = .closed →
      Memory.wf s.m.mem = true →
      ∃ t, exec .folioHeaderWrite s = .next t ∧ t = s.withEngine t.m ∧ t.m.qre.pend = [] ∧ t.m.qre.headers = s.m.qre.headers + 1 ∧
        t.m.qre.st = .idle ∧ (∀ i, i < 64 → readByte t.m.mem (f.addr + i) = (s.m.header f).getD i 0) ∧
        (∀ a, (a < f.addr ∨ f.addr + 64 ≤ a) → readByte t.m.mem a = readByte s.m.mem a) ∧ t.m.par = s.m.par))

/-- R456, R473: QRE_RELEASE adds its count to the released folios, never beyond the headers written; QRE_OVERFLOW closes a running
quire with cause 7, every pending header written, and does nothing without one; quire-bound values that wait are all taken
into use with no quire and no chain running, and wait on while a quire runs (R24). -/
def Obligations.ReleaseOverflowAndTaking : Prop :=
  (∀ (v : Word) (s : State), s.awake → valueOk 0xC0D v = true → s.m.qre.releasable = [] → ∃ t, exec (.qreRelease v) s = .next t ∧
    t = s.withEngine { s.m with qre := { s.m.qre with released := min (s.m.qre.released + v.toNat % 2 ^ 21) s.m.qre.headers, hiFill := t.m.qre.hiFill } }) ∧
  (∀ (held : Nat) (s : State), s.awake → s.m.running = true → ∃ t, exec (.qreOverflow held) s = .next t ∧ t = s.withEngine t.m ∧
    t.m.running = false ∧ t.m.qre.closeCause = 7 ∧ t.m.qre.cur = none ∧ t.m.qre.pend = [] ∧ t.m.par = s.m.par) ∧
  (∀ (held : Nat) (s : State), s.m.running = false → exec (.qreOverflow held) s = .next s) ∧
  (∀ s : State, s.awake → s.m.running = false → s.m.cal.st ≠ .running → ∃ t, exec .quireBoundTakeIntoUse s = .next t ∧
    t = s.withEngine t.m ∧ t.m.par.quire = [] ∧ (s.m.par.quire = [] → s.m.dec.waiting = false → t = s)) ∧
  (∀ s : State, s.m.running = true → exec .quireBoundTakeIntoUse s = .next s)

/-- R104, R109, R110, R111, R112, R117, R118, R119: samples of a rail below no threshold of a stage above the one in force,
`PWR.FILT` times in a row, only update the rail; else the stage rises to the highest enabled stage so crossed, holds stages 4
to 6, and records the rail, the stage and each stage entered; stage 6 entered from none leaves KEEP alone powered and the shed
record under way. SHED_EXIT leaves, at a beat boundary, the stages whose recovery level has held, unless held, and PWR_RECOVER
ends the hold only once every rail has recovered from stage 4. R92, R93, R94, R130, R131, R260, R263: a `PWR.DOMEN` write that
R93 refuses has no effect; a permitted one lands with KEEP and CORE set, a domain whose request ends is off and one newly
requested switches on; a domain that is switching on becomes usable, no other does, and what waits for it starts: CORE's
relock, the front ends' settling, the synthesizer relock and a new calibration, DDR5 training; domains kept off at start-up
whose rails have all recovered are no longer kept off, those rails count again, and such a domain switches on. -/
def Obligations.PowerStagesAndDomainsSwitch : Prop :=
  ((∀ (r : Fin 9) (samples : List Nat) (s : State), s.awake →
      let m0 := s.m.railSample r.val (samples.headD 0) (samples.foldl min (samples.headD 0))
      let run := samples.take (s.m.pnat 0x50B)
      let on (k : Nat) : Bool := decide (5 ≤ k) || bitOf (s.m.pval 0x503) (k - 1)
      let top := ((List.range 7).filter fun k => k != 0 && s.m.railOn r.val && on k && decide (run.length = s.m.pnat 0x50B) &&
        run.all fun mv => decide (1000 * mv < s.m.threshold r.val k)).getLastD 0
      (top ≤ s.m.pwr.stage → exec (.shedEnter r samples) s = .next (s.withEngine m0)) ∧
      (s.m.pwr.stage < top → ∃ t, exec (.shedEnter r samples) s = .next t ∧ t = s.withEngine t.m ∧ t.m.pwr.stage = top ∧
        t.m.pwr.hold = (s.m.pwr.hold || decide (4 ≤ top)) ∧ t.m.pwr.lastRail = BitVec.ofNat 4 r.val ∧ t.m.pwr.lastStage = BitVec.ofNat 3 top ∧
        t.m.pwr.cnt.toNat = (s.m.pwr.cnt.toNat + ((List.range 7).filter fun k => decide (s.m.pwr.stage < k) && decide (k ≤ top) && on k).length) % 2 ^ 32 ∧
        (s.m.pwr.stage = 0 → top = 6 → on 1 = true → (∀ d : Fin 8, d.val ≠ 0 → t.m.pwr.dom[d] = .off) ∧ t.m.pwr.record.isSome = true ∧
          t.m.running = false ∧ (t.m.session .spi).staging = [] ∧ (t.m.session .host).commit = none) ∧
        (on 1 = true → s.m.pwr.stage = 0 → t.m.pwr.dom[(6 : Fin 8)] = .off) ∧
        t.m.tim.beats = s.m.tim.beats ∧ t.m.pval 0x503 = s.m.pval 0x503)) ∧
    (∀ s : State, s.awake → s.m.tim.clk = 0 → s.m.pwr.hold = false → ∃ t, exec .shedExit s = .next t ∧ t = s.withEngine t.m ∧
      t.m.pwr.stage = s.m.stageKept ∧ (s.m.stageKept = s.m.pwr.stage → t = s) ∧
      (s.m.stageKept = 0 → s.m.pwr.stage ≠ 0 → t.m.pwr.entered = 0) ∧ t.m.tim.beats = s.m.tim.beats ∧ t.m.par.landed = s.m.par.landed) ∧
    (∀ s : State, s.m.pwr.hold = true ∨ s.m.tim.clk ≠ 0 → exec .shedExit s = .next s) ∧
    (∀ s : State, s.awake → s.m.pwr.hold = true → s.m.recovered 4 = true → s.m.tim.clk = 0 → ∃ t, exec .pwrRecover s = .next t ∧
      t = s.withEngine t.m ∧ t.m.pwr.hold = false ∧ t.m.pwr.stage = s.m.stageKept) ∧
    (∀ s : State, s.awake → s.m.pwr.hold = true → s.m.recovered 4 = true → s.m.tim.clk ≠ 0 →
      exec .pwrRecover s = .next (s.withEngine { s.m with pwr := { s.m.pwr with hold := false } })) ∧
    (∀ s : State, s.m.pwr.hold = false ∨ s.m.recovered 4 = false → exec .pwrRecover s = .next s)) ∧
  ((∀ (k : Master) (v : Word) (s : State), s.m.domRefused k v = true → exec (.pwrDomenWrite k v) s = .next s) ∧
    (∀ (k : Master) (v : Word) (s : State), s.awake → s.m.domRefused k v = false → valueOk 0x501 v = true → swf resetOf s.m.par.landed = true →
      s.m.running = false → s.m.dec.waiting = false → ∃ t, exec (.pwrDomenWrite k v) s = .next t ∧ t = s.withEngine t.m ∧
        t.m.pval 0x501 = v ||| 3 ∧ (∀ a, a ≠ 0x501 → t.m.pval a = s.m.pval a) ∧ t.m.tim.beats = s.m.tim.beats ∧
        (∀ d : Fin 8, 2 ≤ d.val → bitOf v d.val = false → t.m.pwr.dom[d] = .off) ∧
        (∀ d : Fin 8, 2 ≤ d.val → bitOf v d.val = true → bitOf (s.m.pval 0x501) d.val = false → s.m.domUp 1 = true → s.m.boot.readIn = true →
          s.m.pwr.switchQ = [] → s.m.pwr.checked = 255 → s.m.pwr.heldOff = 0 → s.m.pwr.stage = 0 → s.m.pwr.dom[d] = .off →
          t.m.pwr.dom[d] = .switching)) ∧
    (∀ (d : Fin 8) (s : State), s.awake → s.m.pwr.dom[d] = .switching → ∃ t, exec (.domainUsable d) s = .next t ∧ t = s.withEngine t.m ∧
      t.m.pwr.dom[d] = .usable ∧ (∀ e : Fin 8, e ≠ d → t.m.domUp e.val = s.m.domUp e.val) ∧ t.m.par.landed = s.m.par.landed ∧
      t.m.tim.beats = s.m.tim.beats ∧
      (d.val = 1 → s.m.tim.exhausted = false → t.m.tim.core.active = true ∧ t.m.tim.holding = true ∧ t.m.tim.relocks = s.m.tim.relocks + 1) ∧
      (d.val = 2 → t.m.fe.dacAt = some s.m.windowEnd) ∧
      (d.val = 3 → t.m.fe.cal = .notRun ∧ t.m.boot.acqReady = false ∧ t.m.trm.st = .idle ∧ t.m.tim.slices = false) ∧
      (d.val = 4 → s.m.store.st = .untrained → s.m.boot.step4 = true → s.m.boot.onPll = true → t.m.store.st = .training)) ∧
    (∀ (d : Fin 8) (s : State), s.m.pwr.dom[d] ≠ .switching → exec (.domainUsable d) s = .next s) ∧
    (∀ s : State, s.awake →
      let back (d : Nat) : Bool := s.m.pwr.heldOff.getLsbD d && (domRails d).all fun r => vget (vget s.m.pwr.rails r).above 0 == 64
      ((List.range 8).any back = false → exec .railReturn s = .next s) ∧
      (s.m.pwr.checked = 255 → (List.range 8).any back = true → ∃ t, exec .railReturn s = .next t ∧
        t = s.withEngine { s.m with pwr := t.m.pwr, flt := t.m.flt, ctl := t.m.ctl, spn := t.m.spn } ∧
        (∀ d : Fin 8, t.m.pwr.heldOff.getLsbD d.val = (s.m.pwr.heldOff.getLsbD d.val && !back d.val)) ∧
        (∀ r : Fin 9, t.m.pwr.rails[r] = if (List.range 8).any (fun d => back d && (domRails d).contains r.val) = true
          then { s.m.pwr.rails[r] with absent := false } else s.m.pwr.rails[r]) ∧
        (∀ d : Fin 8, d.val ≠ 0 → back d.val = true → bitOf (s.m.pval 0x501) d.val = true → s.m.pwr.stage = 0 → s.m.boot.readIn = true →
          s.m.pwr.switchQ = [] → (∀ e : Fin 8, s.m.pwr.dom[e] = if e = d then .off else .usable) → t.m.pwr.dom[d] = .switching))))

/-- R258, R461, R463, R464, R465, R471: DDR5 training starts once STORE is usable, the read-in has passed step 4 and the core has
run from the core PLL, with the capacity that `QRE.MEMCFG` gives and with cleared contents unless they were kept in
self-refresh; QRE_MEMRETRAIN starts full training; its end makes DDR5 available or logs STORE_TRAIN_FAIL with class STORE.
R464, R466, R468, R469, R470: with DDR5 available and out of self-refresh a refresh takes the rate MR4 asks for, an idle
subchannel powers down, and both channels enter self-refresh when the tolerances allow it and nothing accessed DDR5 in the
interval; an exit ends it. In self-refresh, or with DDR5 not available, the first three do nothing. -/
def Obligations.MemoryTrainsAndRests : Prop :=
  ((∀ s : State, s.awake → s.m.domUp 4 = true → s.m.store.st = .untrained → s.m.boot.step4 = true → s.m.boot.onPll = true →
      ∃ t, exec .ddr5TrainingStart s = .next t ∧ t = s.withEngine { s.m with store := t.m.store, mem := t.m.mem } ∧ t.m.store.st = .training ∧
        t.m.store.full = !s.m.store.kept ∧ t.m.store.size = memGiB s.m.memCfg.toNat ∧ t.m.store.kept = false ∧ t.m.store.selfRef = false ∧ (s.m.store.kept = true → t.m.mem = s.m.mem) ∧
        (s.m.store.kept = false → ∀ a, readByte t.m.mem a = if a < ledgerBase then memDefault a else readByte s.m.mem a)) ∧
    (∀ s : State, s.m.domUp 4 = false ∨ s.m.store.st ≠ .untrained ∨ s.m.boot.step4 = false ∨ s.m.boot.onPll = false →
      exec .ddr5TrainingStart s = .next s) ∧
    (∀ s : State, s.awake → s.m.domUp 4 = true → s.m.running = false → s.m.dec.waiting = false → swf resetOf s.m.par.landed = true →
      s.m.par.quire.lookup 0xC43 = none → s.m.par.frame.lookup 0xC43 = none → ∃ t, exec .qreMemretrain s = .next t ∧ t = s.withEngine t.m ∧
        t.m.store.st = .training ∧ t.m.store.full = true ∧ t.m.pval 0xC43 = 0 ∧ ∀ a, ledgerBase ≤ a → readByte t.m.mem a = readByte s.m.mem a) ∧
    (∀ (ws : List (Fin 4 × Fin 15 × Word)) (s : State), s.awake → s.m.store.st = .training → ∃ t,
      exec (.ddr5TrainingEnd { fail := none, words := ws }) s = .next t ∧ t = s.withEngine { s.m with store := { s.m.store with st := .trained, trn := t.m.store.trn, accessed := true } }) ∧
    (∀ (step : Nat) (subs : BitVec 4) (ws : List (Fin 4 × Fin 15 × Word)) (s : State), s.awake → s.m.store.st = .training → ∃ p,
      exec (.ddr5TrainingEnd { fail := some (step, subs), words := ws }) s = .next (s.withEngine (({ s.m with store := { s.m.store with
        st := .failed, trn := p, failStep := BitVec.ofNat 4 step, failSub := subs } } : Mach).logEvent .data 0x0704 step subs.toNat none (some 4)))) ∧
    (∀ (o : TrainObs) (s : State), s.m.store.st ≠ .training → exec (.ddr5TrainingEnd o) s = .next s)) ∧
  ((∀ s : State, s.awake → s.m.ddrUp = true → s.m.store.selfRef = false →
      (∀ fast, exec (.ddr5Refresh fast) s =
        .next (s.withEngine { s.m with store := { s.m.store with fast, refreshes := s.m.store.refreshes + 1 } })) ∧
      (∀ c : Fin 4, ∃ t, exec (.prechargePowerDown c) s = .next t ∧ t = s.withEngine { s.m with store := { s.m.store with down := t.m.store.down } } ∧
        ∀ e : Fin 4, t.m.store.down[e] = (decide (e = c) || s.m.store.down[e])) ∧
      (s.m.tolerant = true → s.m.store.accessed = false → exec .selfRefreshEnter s =
        .next (s.withEngine { s.m with store := { s.m.store with selfRef := true, srCnt := s.m.store.srCnt + 1 } })) ∧
      (s.m.tolerant = false ∨ s.m.store.accessed = true → exec .selfRefreshEnter s = .next s)) ∧
    (∀ s : State, s.m.ddrUp = false ∨ s.m.store.selfRef = true → (∀ fast, exec (.ddr5Refresh fast) s = .next s) ∧
      (∀ c, exec (.prechargePowerDown c) s = .next s) ∧ exec .selfRefreshEnter s = .next s) ∧
    (∀ s : State, s.awake → s.m.store.selfRef = true → s.m.ddrUp = true → exec .selfRefreshExit s = .next (s.withEngine { s.m with store := { s.m.store with selfRef := false, accessed := true } })) ∧
    (∀ s : State, s.m.store.selfRef = false ∨ s.m.ddrUp = false → exec .selfRefreshExit s = .next s) ∧
    (∀ s : State, s.m.running = true → s.m.tolerant = false))

/-- R260, R262, R297, R298, R299, R300, R301, R302: foreground calibration starts when its conditions hold, with measurement 1,
and takes the trim to IDLE; a measurement ends 256 + 16,000 beats after it started, and is repeated once where its result
departs from the previous one (log 119); after the 24th, the calibration ends with every powered slice within its limits as
PASSED, the measured figures being the corrections in use, or else as FAILED with the count and the lowest failing slice, the
corrections kept, logged. -/
def Obligations.ForegroundCalibrationPassesOrFails : Prop :=
  (∀ (b : Nat) (s : State), s.awake → s.m.fe.cal = .notRun → s.m.boot.baseInUse = true → s.m.tim.core.active = false →
    s.m.tim.synth.active = false → s.m.tim.slices = true → s.m.domUp 3 = true → s.m.domUp 2 = true → s.m.pwr.in34Down = false →
    s.m.fe.dacAt = some b → b ≤ s.m.tim.beats → ∃ t, exec .foregroundCalStart s = .next t ∧ t = s.withEngine t.m ∧
      t.m.fe = { s.m.fe with cal := .running, calStart := s.m.tim.beats, meas := 1, measFrom := s.m.tim.beats, repeated := false, results := [] } ∧
      t.m.trm.st = .idle ∧ t.m.par = s.m.par ∧ t.m.tim = s.m.tim ∧ t.m.mem = s.m.mem) ∧
  (∀ s : State, s.m.fe.cal ≠ .notRun ∨ s.m.boot.baseInUse = false ∨ s.m.tim.core.active = true ∨ s.m.tim.synth.active = true ∨
    s.m.tim.slices = false ∨ s.m.domUp 3 = false ∨ s.m.domUp 2 = false ∨ s.m.pwr.in34Down = true ∨ s.m.fe.dacAt = none →
    exec .foregroundCalStart s = .next s) ∧
  (∀ (m : Mach) (o : List (Fin 256 × Int × Nat)), m.fe.cal = .running → m.fe.meas ≤ 24 → m.fe.measFrom + 16256 ≤ m.tim.beats →
    (m.departs o = false ∨ m.fe.repeated = true → m.calMeasure o = { m with fe := { m.fe with
      meas := m.fe.meas + 1, repeated := false, measFrom := m.tim.beats,
      results := m.fe.results ++ [(m.fe.meas, o.map fun e => (e.1.val, e.2.1))] } }) ∧
    (m.departs o = true → m.fe.repeated = false →
      m.calMeasure o = { m with fe := { m.fe with repeated := true, measFrom := m.tim.beats } })) ∧
  (∀ (m : Mach) (o : List (Fin 256 × Int × Nat)), m.fe.cal ≠ .running ∨ m.tim.beats < m.fe.measFrom + 16256 → m.calMeasure o = m) ∧
  (∀ (obs : List SliceObs) (s : State), s.awake → s.m.fe.cal = .running → 24 < s.m.fe.meas →
    let fig (n : Nat) : SliceFig := ((obs.find? fun o => o.n.val == n).map fun o =>
      ({ ofs := o.ofs, gain := o.gain, noise := o.noise, lin := o.lin } : SliceFig)).getD {}
    let bad := (List.range 256).filter fun n => s.m.slicePowered n && (fig n).fault.isSome
    (bad = [] → ∃ t, exec (.foregroundCalEnd obs) s = .next t ∧ t = s.withEngine t.m ∧ t.m.fe.cal = .passed ∧ t.m.fe.failing = 0 ∧
      t.m.fe.corr = ((List.range 256).filter s.m.slicePowered).map (fun n => (n, fig n)) ∧ t.m.fe.calBeat = s.m.beatLo ∧ t.m.par = s.m.par) ∧
    (bad ≠ [] → ∃ t, exec (.foregroundCalEnd obs) s = .next t ∧
      t = s.withEngine { s.m with fe := t.m.fe, flt := t.m.flt, ctl := t.m.ctl, spn := t.m.spn } ∧ t.m.fe.cal = .failed ∧
      t.m.fe.failing = bad.length ∧ t.m.fe.lowest = bad.headD 0 ∧ t.m.fe.corr = s.m.fe.corr ∧ t.m.fe.calBeat = s.m.beatLo)) ∧
  (∀ (obs : List SliceObs) (s : State), s.m.fe.cal ≠ .running ∨ s.m.fe.meas ≤ 24 → exec (.foregroundCalEnd obs) s = .next s)

/-- R281, R282, R284, R285, R291: voltages at the balls that make the comparator of a powered input fire, which did not fire
before, are counted, set its overload condition and both masters' latched bits, spoil a trim block that the input serves and
note OVERLOAD; voltages that make it release end the firing alone, and OVERLOAD_END then the condition; settling windows end
at the boundary reached; the mode change's gating ends at its boundary, where the slice clocks restart. -/
def Obligations.OverloadSettlingAndModeRestart : Prop :=
  (∀ (k : Fin 4) (p n : Int) (s : State), s.awake → s.m.fe.front[k].powered = true → s.m.fe.front[k].firing = false →
    s.m.overloads k.val p n = true → ∃ t, exec (.overloadFire ⟨k, p, n⟩) s = .next t ∧
    t = s.withEngine { s.m with fe := t.m.fe, trm := { s.m.trm with bad := s.m.trm.bad || (servedMask s.m.fe.mode).getLsbD k.val },
                                hall := { s.m.hall with seen := s.m.hall.seen ||| 0x100 },
                                cal := t.m.cal, flt := t.m.flt, ctl := t.m.ctl, spn := t.m.spn } ∧
    t.m.fe.front[k].firing = true ∧ t.m.fe.front[k].isOver = true ∧ t.m.fe.front[k].ovlS = true ∧ t.m.fe.front[k].ovlH = true ∧
    t.m.fe.front[k].cnt = s.m.fe.front[k].cnt + 1 ∧ (s.m.boot.acqReady = false → t.m.fe.front[k].lastLog = s.m.fe.front[k].lastLog) ∧
    (s.m.boot.acqReady = true → s.m.fe.front[k].lastLog = none → t.m.fe.front[k].lastLog = some s.m.tim.beats) ∧
    (∀ j : Fin 4, j ≠ k → t.m.fe.front[j] = s.m.fe.front[j])) ∧
  (∀ (k : Fin 4) (p n : Int) (s : State), s.awake → s.m.fe.front[k].firing = true →
    (s.m.fe.front[k].powered = false ∨ s.m.overloads k.val p n = false) → ∃ t, exec (.overloadFire ⟨k, p, n⟩) s = .next t ∧
    t = s.withEngine { s.m with fe := { s.m.fe with front := t.m.fe.front } } ∧ t.m.fe.front[k] = { s.m.fe.front[k] with firing := false } ∧
    (∀ j : Fin 4, j ≠ k → t.m.fe.front[j] = s.m.fe.front[j])) ∧
  (∀ (k : Fin 4) (p n : Int) (s : State), (s.m.fe.front[k].powered && s.m.overloads k.val p n) = s.m.fe.front[k].firing →
    exec (.overloadFire ⟨k, p, n⟩) s = .next s) ∧
  (∀ (k : Fin 4) (s : State), s.awake → s.m.fe.front[k].firing = false → ∃ t, exec (.overloadEnd k) s = .next t ∧
    t = s.withEngine { s.m with fe := { s.m.fe with front := t.m.fe.front }, hall := t.m.hall } ∧
    t.m.fe.front[k] = { s.m.fe.front[k] with isOver := false } ∧ (∀ j : Fin 4, j ≠ k → t.m.fe.front[j] = s.m.fe.front[j])) ∧
  (∀ (k : Fin 4) (s : State), s.m.fe.front[k].firing = true → exec (.overloadEnd k) s = .next s) ∧
  (∀ s : State, s.awake → ∃ t, exec .settlingEnd s = .next t ∧ t = s.withEngine { s.m with fe := { s.m.fe with front := t.m.fe.front } } ∧
    ∀ k : Fin 4, (∀ b, s.m.fe.front[k].settle = some b → b ≤ s.m.tim.beats →
        t.m.fe.front[k] = { s.m.fe.front[k] with settle := none, settled := s.m.tim.boundary }) ∧
      ((s.m.fe.front[k].settle = none ∨ ∃ b, s.m.fe.front[k].settle = some b ∧ s.m.tim.beats < b) → t.m.fe.front[k] = s.m.fe.front[k])) ∧
  (∀ s : State, s.awake → s.m.fe.gating = true → s.m.fe.restartAt ≤ s.m.tim.beats → s.m.domUp 3 = true → s.m.tim.synthLock = true →
    s.m.tim.core.active = false → s.m.tim.synth.active = false → s.m.running = false → ∃ t, exec .modeChangeClockRestart s = .next t ∧
      t = s.withEngine { s.m with tim := { s.m.tim with slices := true, ckoParked := false }, fe := t.m.fe, trm := t.m.trm } ∧
      t.m.fe = { s.m.fe with
        gating := false, run := s.m.fe.run + 1, clkGroups := groupsOf s.m.fe.mode, clkFreq := s.m.useN 0x404
        t0 := s.m.tim.mono + (refPeriod s.m.tim - s.m.tim.refPhase) % refPeriod s.m.tim }) ∧
  (∀ s : State, s.awake → s.m.fe.gating = true → s.m.fe.restartAt ≤ s.m.tim.beats →
    (s.m.domUp 3 = false ∨ s.m.tim.synthLock = false ∨ s.m.tim.core.active = true ∨ s.m.tim.synth.active = true) →
    exec .modeChangeClockRestart s = .next (s.withEngine { s.m with fe := { s.m.fe with gating := false } })) ∧
  (∀ s : State, s.m.fe.gating = false ∨ s.m.tim.beats < s.m.fe.restartAt → exec .modeChangeClockRestart s = .next s)

/-- R310, R313, R315, R316, R317, R319, R320, R322, R324: the end of a clean block while the trim runs counts the block, and one
that comes while UNSETTLED makes its set, every coefficient within its limit, the pending one; over the slices of an input the
offset and gain coefficients that the set is made from sum to zero; a spoilt block is discarded; a pending set lands with no
folio open and no other landing at that beat; a set that has waited `TRM.MAXWAIT` beats under GAP opens the gap, and nothing
else changes. -/
def Obligations.TrimBlocksFormSets : Prop :=
  (∀ (o : BlockObs) (s : State), s.awake → s.m.trm.st = .unsettled → s.m.tim.slices = true → s.m.trm.bad = false → s.m.blockFoul = false →
    ∃ t, exec (.trimBlockEnd o) s = .next t ∧
      t = s.withEngine { s.m with trm := t.m.trm, flt := t.m.flt, ctl := t.m.ctl, spn := t.m.spn } ∧ t.m.trm.blocks = s.m.trm.blocks + 1 ∧
      t.m.trm.inUse = s.m.trm.inUse ∧ t.m.trm.st = .unsettled ∧ t.m.trm.epoch = s.m.trm.epoch ∧
      ∃ p, t.m.trm.pending = some { set := p } ∧ p.sub = true ∧
        (∀ k : Fin 4, (servedMask s.m.fe.mode).getLsbD k.val = true → p.pamp[k] = o.pamp[k]) ∧
        (p.settled = true → 16 ≤ s.m.trm.blocks + 1 ∧ p.clamped = []) ∧
        ∀ n, (p.coef n).o.natAbs ≤ 512 ∧ (p.coef n).g.natAbs ≤ 10486 ∧ (p.coef n).t.natAbs ≤ 256) ∧
  (∀ (m : Mach) (k : Nat) (f : Nat → Coef),
    ((List.range 256).any fun n => inputOfSlice m.fe.mode n == k && m.slicePowered n) = true →
    ((((List.range 256).filter fun n => inputOfSlice m.fe.mode n == k).map fun n => (m.centred k f n).o).sum = 0 ∧
     (((List.range 256).filter fun n => inputOfSlice m.fe.mode n == k).map fun n => (m.centred k f n).g).sum = 0)) ∧
  (∀ (o : BlockObs) (s : State), s.awake → (s.m.trm.st = .unsettled ∨ s.m.trm.st = .settled) → s.m.tim.slices = true →
    (s.m.trm.bad = true ∨ s.m.blockFoul = true) →
    exec (.trimBlockEnd o) s = .next (s.withEngine { s.m with trm := { s.m.trm with bad := s.m.blockFoul } })) ∧
  (∀ (o : BlockObs) (s : State), s.m.trm.st = .idle ∨ s.m.trm.st = .held ∨ s.m.tim.slices = false → exec (.trimBlockEnd o) s = .next s) ∧
  (∀ s : State, s.awake → s.m.trm.pending.isSome = true → bitOf (s.m.use 0x880) 1 = true → s.m.useN 0x882 ≤ s.m.trm.wait →
    exec .trimGapOpen s = .next (s.withEngine { s.m with trm := { s.m.trm with gap := true } })) ∧
  (∀ s : State, s.m.trm.pending = none ∨ bitOf (s.m.use 0x880) 1 = false ∨ s.m.trm.wait < s.m.useN 0x882 → exec .trimGapOpen s = .next s) ∧
  (∀ (m : Mach) (p : Pending), m.trm.pending = some p → m.qre.cur = none → m.trm.landedAt ≠ some m.tim.beats →
    (m.trimLand).trm.inUse = p.set ∧ (m.trimLand).trm.pending = none ∧ (m.trimLand).trm.gap = false ∧
    (m.trimLand).trm.epoch = if 65535 ≤ m.trm.epoch then 1 else m.trm.epoch + 1) ∧
  (∀ m : Mach, m.trm.pending = none ∨ m.qre.cur.isSome = true ∨ m.trm.landedAt = some m.tim.beats → m.trimLand = m)

/-- R336, R348, R349, R355, R363: MINT_APPLY takes the landed mode, code, span and route while no chain runs, and a STATIC Mint
whose span and route stay drives the landed code; a span change holds differential zero, switches to the landed span and route
at the end of the hold, and then drives the landed code; a clear drops the bits written, and no other, and with both words 0
ends FORCED. Each leaves everything but the Mint, and what its entry to FORCED or its leaving brings, as it was. -/
def Obligations.MintAppliesAndSpansChange : Prop :=
  (∀ s : State, s.awake → s.m.cal.st ≠ .running → ∃ t, exec .mintApply s = .next t ∧ t = s.withEngine t.m ∧
    t.m.mnt.aMode = BitVec.ofNat 2 (s.m.pnat 0x900) ∧ t.m.mnt.aCode = BitVec.ofNat 14 (s.m.pnat 0x901) ∧
    t.m.mnt.aSpan = BitVec.ofNat 2 (s.m.pnat 0x902) ∧ t.m.mnt.aRoute = BitVec.ofNat 6 (s.m.pnat 0x903) ∧ t.m.mnt.due = false ∧
    (s.m.mnt.st = .static → (s.m.mintCopy).mintState = .static → s.m.mnt.phase = .none → s.m.mnt.opened = false → s.m.mnt.stopped = false →
      s.m.mnt.span = BitVec.ofNat 2 (s.m.pnat 0x902) → s.m.mnt.route = routeOf (BitVec.ofNat 6 (s.m.pnat 0x903)) →
      t.m.mnt.st = .static ∧ t.m.mnt.code = BitVec.ofNat 14 (s.m.pnat 0x901)) ∧
    (s.m.mnt.st = .static → (s.m.mintCopy).mintState = .static → s.m.mnt.phase = .none → s.m.mnt.stopped = false →
      s.m.mnt.span ≠ BitVec.ofNat 2 (s.m.pnat 0x902) → t.m.mnt.phase = .hold ∧ t.m.mnt.code = 0x2000 ∧ t.m.mnt.span = s.m.mnt.span) ∧
    t.m.par = s.m.par ∧ t.m.mem = s.m.mem ∧ t.m.tim = s.m.tim) ∧
  (∀ s : State, s.awake → s.m.mnt.phase = .hold → s.m.cal.st ≠ .running → s.m.mnt.st = .static ∨ s.m.mnt.st = .play →
    exec .spanChangeHoldEnd s = .next (s.withEngine { s.m with mnt := { s.m.mnt with
      phase := .switched, opened := false, span := BitVec.ofNat 2 (s.m.pnat 0x902), route := routeOf (BitVec.ofNat 6 (s.m.pnat 0x903)),
      aMode := BitVec.ofNat 2 (s.m.pnat 0x900), aCode := BitVec.ofNat 14 (s.m.pnat 0x901),
      aSpan := BitVec.ofNat 2 (s.m.pnat 0x902), aRoute := BitVec.ofNat 6 (s.m.pnat 0x903) } })) ∧
  (∀ s : State, s.awake → s.m.mnt.phase = .hold → ∃ t, exec .spanChangeHoldEnd s = .next t ∧ t = s.withEngine { s.m with mnt := t.m.mnt } ∧
    t.m.mnt.phase = .switched ∧ t.m.mnt.opened = false ∧ t.m.mnt.code = s.m.mnt.code ∧ t.m.mnt.st = s.m.mnt.st) ∧
  (∀ s : State, s.awake → s.m.mnt.phase = .switched → s.m.mnt.st = .static → (s.m.mintCopy).mintState = .static → s.m.mnt.stopped = false →
    s.m.cal.st ≠ .running → s.m.mnt.span = BitVec.ofNat 2 (s.m.pnat 0x902) → s.m.mnt.opened = false → ∃ t,
      exec .spanChangeCode s = .next t ∧ t = s.withEngine { s.m with mnt := t.m.mnt } ∧ t.m.mnt.phase = .none ∧ t.m.mnt.due = false ∧
      t.m.mnt.code = BitVec.ofNat 14 (s.m.pnat 0x901) ∧ t.m.mnt.span = s.m.mnt.span ∧
      t.m.mnt.route = routeOf (BitVec.ofNat 6 (s.m.pnat 0x903)) ∧ t.m.mnt.st = .static) ∧
  (∀ s : State, s.m.mnt.phase ≠ .hold → exec .spanChangeHoldEnd s = .next s) ∧
  (∀ s : State, s.m.mnt.phase ≠ .switched → exec .spanChangeCode s = .next s) ∧
  (∀ (v : Word) (s : State), s.awake → ∃ t, exec (.mntComplyClear v) s = .next t ∧ t = s.withEngine t.m ∧
    t.m.mnt.comply = s.m.mnt.comply &&& ~~~(v.setWidth 5) ∧ t.m.mnt.fault = s.m.mnt.fault ∧
    (s.m.mnt.st = .forced → s.m.domUp 7 = true → s.m.stageOn 5 = false → s.m.mnt.fault = 0 → s.m.mnt.comply &&& ~~~(v.setWidth 5) = 0 →
      t.m.mnt.st ≠ .forced) ∧ t.m.par = s.m.par ∧ t.m.mem = s.m.mem) ∧
  (∀ (v : Word) (s : State), s.awake → ∃ t, exec (.mntFaultClear v) s = .next t ∧ t = s.withEngine t.m ∧
    t.m.mnt.fault = s.m.mnt.fault &&& ~~~(v.setWidth 2) ∧ t.m.mnt.comply = s.m.mnt.comply ∧
    (s.m.mnt.st = .forced → s.m.domUp 7 = true → s.m.stageOn 5 = false → s.m.mnt.comply = 0 → s.m.mnt.fault &&& ~~~(v.setWidth 2) = 0 →
      t.m.mnt.st ≠ .forced) ∧ t.m.par = s.m.par ∧ t.m.mem = s.m.mem)

/-- R345, R346, R361: a playback load that ends well puts the codes read from DDR5 into the playback RAM; one with a bad word or a
source that is not there raises the PLAY fault, logged with class MINT; playback starts at index 0 while the Mint clock runs,
and advances by one, round to 0 after the last. R358, R359, R360: a compliance trip of a Mint that is on records the points
out of range with bit 0, and the Mint is FORCED; one of an OFF Mint, or while the route is opened, does nothing; a condition
that still holds in FORCED opens the route, logged with class MINT. -/
def Obligations.MintPlaysAndTrips : Prop :=
  ((∀ s : State, s.awake → s.m.mnt.loading = true → s.m.ddrUp = true →
      let len := s.m.pnat 0x906
      let a := s.m.pnat 0x905 * 2 ^ 32 + s.m.pnat 0x904
      (s.m.inDdr a (2 * len) = true → exec (.playbackLoadDone false) s = .next (s.withEngine
        (({ s.m with mnt := { s.m.mnt with 
          loading := false, loaded := true, playing := false,
          ram := (List.range len).map fun i => BitVec.ofNat 14 (readNat s.m.mem (a + 2 * i) 2) } } : Mach).touchDdr a (2 * len)))) ∧
      (∀ bad, bad = true ∨ s.m.inDdr a (2 * len) = false → ∃ t, exec (.playbackLoadDone bad) s = .next t ∧ t = s.withEngine t.m ∧
        t.m.mnt.loaded = false ∧ t.m.mnt.fault = s.m.mnt.fault ||| 1 ∧ t.m.mnt.ram = s.m.mnt.ram ∧ t.m.par = s.m.par ∧ t.m.mem = s.m.mem)) ∧
    (∀ (bad : Bool) (s : State), s.m.mnt.loading = false → exec (.playbackLoadDone bad) s = .next s) ∧
    (∀ s : State, s.awake → s.m.mnt.st = .play → s.m.mnt.loaded = true → s.m.mnt.loading = false → s.m.mnt.playing = false →
      s.m.mintClock = true → ∃ t, exec .playbackStart s = .next t ∧ t = s.withEngine { s.m with mnt := t.m.mnt } ∧ t.m.mnt.playing = true ∧
        t.m.mnt.index = 0 ∧ t.m.mnt.ram = s.m.mnt.ram) ∧
    (∀ s : State, s.awake → s.m.mnt.st = .play → s.m.mnt.playing = true → s.m.mintClock = true → ∃ t, exec .playbackAdvance s = .next t ∧
      t = s.withEngine { s.m with mnt := t.m.mnt } ∧
      t.m.mnt.index = (if s.m.mnt.index + 1 < s.m.mnt.ram.length then s.m.mnt.index + 1 else 0) ∧ t.m.mnt.playing = true) ∧
    (∀ s : State, s.m.mnt.loaded = false ∨ s.m.mnt.loading = true ∨ s.m.mnt.playing = true → exec .playbackStart s = .next s) ∧
    (∀ s : State, s.m.mnt.playing = false → exec .playbackAdvance s = .next s) ∧
    (∀ s : State, s.m.mnt.st ≠ .play ∨ s.m.mintClock = false → exec .playbackStart s = .next s ∧ exec .playbackAdvance s = .next s)) ∧
  ((∀ (points : BitVec 3) (s : State), s.awake → s.m.mnt.st ≠ .off → s.m.mnt.opened = false → s.m.domUp 7 = true → ∃ t, exec (.mintComply points) s = .next t ∧
      t = s.withEngine t.m ∧ t.m.mnt.comply = s.m.mnt.comply ||| 1 ||| (points.zeroExtend 5 <<< (1 : Nat)) ∧ t.m.mnt.st = .forced ∧
      t.m.mnt.trips = s.m.mnt.trips + (if s.m.mnt.st = .forced ∧ s.m.mnt.comply.getLsbD 0 = true then 0 else 1) ∧
      t.m.par = s.m.par ∧ t.m.mem = s.m.mem) ∧
    (∀ (points : BitVec 3) (s : State), s.m.mnt.st = .off ∨ s.m.mnt.opened = true → exec (.mintComply points) s = .next s) ∧
    (∀ s : State, s.awake → s.m.mnt.st = .forced → s.m.mnt.comply.getLsbD 0 = true → s.m.mnt.opened = false → exec .mintDisconnect s =
      .next (s.withEngine (({ s.m with mnt := { s.m.mnt with opened := true, route := 0, comply := s.m.mnt.comply ||| 16 } } : Mach).logEvent
        .management 0x0602 (s.m.mnt.comply ||| 16).toNat 0 none (some 3)))) ∧
    (∀ s : State, s.m.mnt.st ≠ .forced ∨ s.m.mnt.opened = true ∨ s.m.mnt.comply.getLsbD 0 = false → exec .mintDisconnect s = .next s))

/-- R371, R372, R377, R388, R398, R416, R429: a clearing round moves the detectors, counts every detection it reports and leaves
memory alone while no quire runs; a change without a detection moves them and counts none; a credit is added up to 64; the AUX
hold ends at its beat; FIRDEF puts the named sets back at their factory taps, in use at once with no quire running and else
waiting. -/
def Obligations.DetectionsAreCounted : Prop :=
  (∀ (obs : List Obs) (s : State), s.awake → ∃ t, exec (.clearingRound obs) s = .next t ∧ t = s.withEngine t.m ∧
    t.m.trg.detCnt = s.m.trg.detCnt + BitVec.ofNat 32 (s.m.detectAll obs).2.1.length ∧
    t.m.trg.fallback = s.m.trg.fallback + BitVec.ofNat 32 (s.m.detectAll obs).2.2 ∧ t.m.trg.aux = (s.m.detectAll obs).1.trg.aux ∧
    t.m.tim = s.m.tim ∧ (s.m.running = false → t.m.mem = s.m.mem)) ∧
  (∀ (obs : List Obs) (s : State), s.awake → (s.m.detectAll obs).2.1 = [] → ∃ t, exec (.detectorChange obs) s = .next t ∧
    t = s.withEngine { s.m with trg := t.m.trg } ∧ t.m.trg.entries = (s.m.detectAll obs).1.trg.entries ∧ t.m.trg.detCnt = s.m.trg.detCnt ∧
    t.m.trg.fallback = s.m.trg.fallback + BitVec.ofNat 32 (s.m.detectAll obs).2.2) ∧
  (∀ (obs : List Obs) (s : State), (s.m.detectAll obs).2.1 ≠ [] → exec (.detectorChange obs) s = .next s) ∧
  (∀ s : State, s.awake → exec .rateCredit s = .next (s.withEngine { s.m with trg := { s.m.trg with credits := min (s.m.trg.credits + 1) 64 } })) ∧
  (∀ (b : Nat) (s : State), s.awake → s.m.trg.auxHold = some b →
    (b ≤ s.m.tim.beats → exec .auxHoldEnd s = .next (s.withEngine { s.m with trg := { s.m.trg with auxHold := none } })) ∧
    (s.m.tim.beats < b → exec .auxHoldEnd s = .next s)) ∧
  (∀ (v : BitVec 4) (s : State), s.awake → s.m.running = false → ∃ t, exec (.decFirdef v) s = .next t ∧
    t = s.withEngine { s.m with dec := t.m.dec, qre := { s.m.qre with gen := s.m.qre.gen + 1 } } ∧ t.m.dec.use = t.m.dec.taps ∧
    (∀ e ∈ s.m.dec.taps, (e ∈ t.m.dec.taps ↔ bitOf (v.setWidth 32) (tapOf e.1).1 = false)) ∧ (∀ e ∈ t.m.dec.taps, e ∈ s.m.dec.taps)) ∧
  (∀ (v : BitVec 4) (s : State), s.awake → s.m.running = true → exec (.decFirdef v) s = .next (s.withEngine { s.m with dec := { s.m.dec with
    taps := s.m.dec.taps.filter (fun e => !bitOf (v.setWidth 32) (tapOf e.1).1), waiting := true } })) ∧
  (∀ s : State, s.m.trg.auxHold = none → exec .auxHoldEnd s = .next s)

/-- R399, R401, R402, R413 to R417: at an attempt of a running quire with no folio open, outside its previous folio, past the
holdoff and with credit, the trigger is accepted: a credit is spent, the acceptance counted and a folio opened with the
quire's next index, the trigger's stamp and mask; with no credit it is rejected and counted; with no quire running it is
turned away. -/
def Obligations.TriggersAreAcceptedOrRejected : Prop :=
  ∀ (m : Mach) (d : Detection) (mask : BitVec 64), m.qre.cfg.volume = false →
    (m.running = false → m.attempt d mask = (m, 1)) ∧
    (m.qre.st = .running → m.qre.cfg.trigIndex d.inst < m.qre.lastEnd →
      m.attempt d mask = ({ m with trg := { m.trg with busyRej := m.trg.busyRej + 1 } }, 2)) ∧
    (m.qre.st = .running → m.qre.lastEnd ≤ m.qre.cfg.trigIndex d.inst → m.qre.cur = none →
      let m1 : Mach := { m with trg := { m.trg with holdCnt := min (m.trg.holdCnt + 1) (2 ^ 25 - 1) } }
      (m1.holdoffOver d.stamp = false → m.attempt d mask = ({ m1 with trg := { m1.trg with holdRej := m.trg.holdRej + 1 } }, 3)) ∧
      (m1.holdoffOver d.stamp = true → m.trg.credits = 0 → m.attempt d mask = ({ m1 with trg := { m1.trg with rateRej := m.trg.rateRej + 1 } }, 4)) ∧
      (m1.holdoffOver d.stamp = true → 0 < m.trg.credits → ∃ t, m.attempt d mask = (t, 0) ∧ t.trg.credits = m.trg.credits - 1 ∧
        t.trg.accept = m.trg.accept + 1 ∧ t.trg.lastAcc = some d.stamp ∧ t.qre.folios = m.qre.folios + 1 ∧
        (∃ f, t.qre.cur = some f ∧ f.qid = m.qre.qid ∧ f.idx = m.qre.folios ∧ f.stamp = d.stamp ∧ f.mask = mask ∧ f.cfg = m.qre.cfg) ∧
        t.mem = m.mem ∧ t.par = m.par))

/-- R481, R482, R483, R486: the Ledger takes the oldest folio of its backlog only when it is free, DDR5 is available and stage 3
does not hold; a bad folio, a truncated one and one with a masked flag are skipped, each counted by its reason; a good one is
begun with its slot as read, bound to the open page that stays bound for it, or to the page that R483 opens; without a page
and without the histogram it is skipped with reason 4. R475 to R479, R484, R485, R492, R493, R496: the folio in progress ends
wholly in its page, with every sample of the page's window added to its bin and its count, flags and last quire kept, and in
the histogram where it is on and no clear runs; the Ledger is free. A folio without a page changes no page. Nothing ends while
stage 3 holds. One bin's update changes no byte outside that bin. -/
def Obligations.LedgerAccumulatesFolios : Prop :=
  ((∀ (bad : Bool) (ecc : Option Nat) (r : LdgRef) (rest : List LdgRef) (s : State), s.awake → s.m.ldg.backlog = r :: rest → s.m.ldg.busy = none →
      s.m.ldg.closeReq = false → s.m.stageOn 3 = false → s.m.ddrUp = true →
      let slot := readBytes s.m.mem r.addr r.size
      ∃ t, exec (.ledgerTake bad ecc) s = .next t ∧ t = s.withEngine { s.m with ldg := t.m.ldg, store := t.m.store, flt := t.m.flt, spn := t.m.spn } ∧
        t.m.ldg.backlog = rest ∧
        (bad = true ∨ slotGood r slot = false → t.m.ldg.busy = none ∧ t.m.ldg.skip = vmod s.m.ldg.skip 5 (· + 1)) ∧
        (bad = false → slotGood r slot = true → nfld (slotInfo slot) 29 1 = 1 → t.m.ldg.busy = none ∧ t.m.ldg.skip = vmod s.m.ldg.skip 1 (· + 1)) ∧
        (bad = false → slotGood r slot = true → nfld (slotInfo slot) 29 1 = 0 → slotNum slot 32 2 &&& s.m.pnat 0xD04 ≠ 0 →
          t.m.ldg.busy = none ∧ t.m.ldg.skip = vmod s.m.ldg.skip 0 (· + 1)) ∧
        (bad = false → slotGood r slot = true → nfld (slotInfo slot) 29 1 = 0 → slotNum slot 32 2 &&& s.m.pnat 0xD04 = 0 → s.m.ldg.open = none →
          s.m.ldg.pages[0].st = .empty → t.m.ldg.busy = some { ref := r, page := some 0, slot, hist := s.m.histNow } ∧
          t.m.ldg.pages[0].st = .accumulating ∧ t.m.ldg.pages[0].qid = r.qid ∧ t.m.ldg.pages[0].count = 0 ∧
          (ecc = none → t.m.ldg.pages[1] = s.m.ldg.pages[1]) ∧ t.m.ldg.skip = s.m.ldg.skip) ∧
        (∀ p : Fin 2, bad = false → slotGood r slot = true → nfld (slotInfo slot) 29 1 = 0 → slotNum slot 32 2 &&& s.m.pnat 0xD04 = 0 → ecc = none →
          s.m.ldg.open = some p.val → s.m.staysBound s.m.ldg.pages[p] r slot = true →
          t.m.ldg.busy = some { ref := r, page := some p.val, slot, hist := s.m.histNow } ∧ t.m.ldg.pages = s.m.ldg.pages) ∧
        (bad = false → slotGood r slot = true → nfld (slotInfo slot) 29 1 = 0 → slotNum slot 32 2 &&& s.m.pnat 0xD04 = 0 → s.m.ldg.open = none →
          s.m.ldg.pages[0].st ≠ .empty → s.m.ldg.pages[1].st ≠ .empty → s.m.histNow = none →
          t.m.ldg.busy = none ∧ t.m.ldg.skip = vmod s.m.ldg.skip 3 (· + 1))) ∧
    (∀ (bad : Bool) (ecc : Option Nat) (s : State), s.m.ldg.backlog = [] ∨ s.m.ldg.busy.isSome = true ∨ s.m.stageOn 3 = true ∨ s.m.ddrUp = false →
      exec (.ledgerTake bad ecc) s = .next s)) ∧
  ((∀ (b : LdgBusy) (p : Fin 2) (ecc : Option Nat) (s : State), s.awake → s.m.ldg.busy = some b → b.page = some p.val → s.m.stageOn 3 = false →
      ∃ t, exec (.ledgerFolioDone ecc) s = .next t ∧
        t = s.withEngine { s.m with ldg := t.m.ldg, mem := t.m.mem, dsp := t.m.dsp, flt := t.m.flt, spn := t.m.spn } ∧ t.m.ldg.busy = none ∧
        t.m.ldg.pages[p].count = s.m.ldg.pages[p].count + 1 ∧ t.m.ldg.pages[p].qlast = b.ref.qid ∧
        t.m.ldg.pages[p].flags = s.m.ldg.pages[p].flags ||| BitVec.ofNat 16 (slotNum b.slot 32 2) ∧
        t.m.mem = (windowOf s.m.ldg.pages[p] b.slot).foldl (binStep p.val s.m.ldg.pages[p] b.slot) (match b.hist with
          | some h => if s.m.ldg.clearing then s.m.mem else histAdd b.slot h s.m.mem
          | none => s.m.mem) ∧
        (b.hist = none → t.m.dsp = s.m.dsp ∧ t.m.ldg.hfolios = s.m.ldg.hfolios) ∧ (b.hist ≠ none → t.m.ldg.hfolios = s.m.ldg.hfolios + 1)) ∧
    (∀ (b : LdgBusy) (h : Nat × Nat × Nat × Int × Nat) (s : State), s.awake → s.m.ldg.busy = some b → b.page = none → b.hist = some h →
      s.m.stageOn 3 = false → s.m.ldg.closeReq = false → s.m.ldg.ends = [] → ∃ t, exec (.ledgerFolioDone none) s = .next t ∧
        t = s.withEngine { s.m with ldg := { s.m.ldg with busy := none, hfolios := s.m.ldg.hfolios + 1 }, dsp := t.m.dsp
                                  , mem := if s.m.ldg.clearing then s.m.mem else histAdd b.slot h s.m.mem }) ∧
    (∀ (s : State), s.m.ldg.busy = none ∨ s.m.stageOn 3 = true → ∀ ecc, exec (.ledgerFolioDone ecc) s = .next s) ∧
    (∀ (p : Nat) (g : Page) (slot : List Byte) (mem : List Host.Cell) (e : Nat × Nat × Nat) (a : Nat),
      (a < binAddr p e.2.2 ∨ binAddr p e.2.2 + 32 ≤ a) → readByte (binStep p g slot mem e) a = readByte mem a))

/-- R485, R487, R475: LDG_CLOSE closes the accumulating page with cause 1, or waits for the folio in progress; LDG_FREE sends a
named CLOSED page to CLEARING and no other; at the end of the clear the page is EMPTY, every byte of its bins is at its
initial value, and no other byte has changed. R493 to R496: a decay pass starts once `LDG.DECAYINT` beats have passed, with a
nonzero interval and stage 3 not holding; its end takes max(1, v >> `LDG.DECAYSH`) from every cell and leaves every byte
outside the histogram as it was; LDG_HCLEAR starts a clear, at whose end every cell is 0 and every other byte as it was. -/
def Obligations.PagesAndHistogramClear : Prop :=
  ((∀ (p : Fin 2) (s : State), s.awake → s.m.ldg.busy = none → s.m.ldg.open = some p.val → ∃ t, exec .ldgClose s = .next t ∧
      t = s.withEngine { s.m with ldg := { s.m.ldg with pages := t.m.ldg.pages } } ∧
      t.m.ldg.pages[p] = { s.m.ldg.pages[p] with st := .closed, cause := 1, closeB := s.m.beatLo } ∧ ∀ q : Fin 2, q ≠ p → t.m.ldg.pages[q] = s.m.ldg.pages[q]) ∧
    (∀ s : State, s.m.ldg.busy = none → s.m.ldg.open = none → exec .ldgClose s = .next s) ∧
    (∀ s : State, s.awake → s.m.ldg.busy.isSome = true → exec .ldgClose s = .next (s.withEngine { s.m with ldg := { s.m.ldg with closeReq := true } })) ∧
    (∀ (v : BitVec 2) (s : State), s.awake → ∃ t, exec (.ldgFree v) s = .next t ∧ t = s.withEngine { s.m with ldg := { s.m.ldg with pages := t.m.ldg.pages } } ∧
      ∀ p : Fin 2, t.m.ldg.pages[p] = if v.getLsbD p.val = true ∧ s.m.ldg.pages[p].st = .closed
        then { s.m.ldg.pages[p] with st := .clearing, damaged := false } else s.m.ldg.pages[p]) ∧
    (∀ (p : Fin 2) (s : State), s.awake → s.m.ldg.pages[p].st = .clearing → ∃ t, exec (.pageClearDone p) s = .next t ∧
      t = s.withEngine { s.m with ldg := { s.m.ldg with pages := t.m.ldg.pages }, mem := t.m.mem } ∧ t.m.ldg.pages[p] = { s.m.ldg.pages[p] with st := .empty } ∧
      (∀ q : Fin 2, q ≠ p → t.m.ldg.pages[q] = s.m.ldg.pages[q]) ∧
      ∀ a, readByte t.m.mem a = if binAddr p.val 0 ≤ a ∧ a < binAddr p.val 0 + 0x80_0000 then memDefault a else readByte s.m.mem a) ∧
    (∀ (p : Fin 2) (s : State), s.m.ldg.pages[p].st ≠ .clearing → exec (.pageClearDone p) s = .next s)) ∧
  ((∀ s : State, s.awake → s.m.pnat 0xD45 ≠ 0 → s.m.pnat 0xD45 ≤ s.m.ldg.decayCnt → s.m.stageOn 3 = false → exec .decayPass s =
      .next (s.withEngine { s.m with ldg := { s.m.ldg with decaying := true, decayCnt := 0 } })) ∧
    (∀ s : State, s.m.pnat 0xD45 = 0 ∨ s.m.ldg.decayCnt < s.m.pnat 0xD45 ∨ s.m.stageOn 3 = true → exec .decayPass s = .next s) ∧
    (∀ s : State, s.awake → s.m.ldg.decaying = true → s.m.stageOn 3 = false → ∃ t, exec .decayPassEnd s = .next t ∧
      t = s.withEngine { s.m with ldg := { s.m.ldg with decaying := false }, dsp := t.m.dsp, mem := t.m.mem } ∧
      (∀ c r : Nat, c < 2048 → r < 1024 → readNat t.m.mem (cellAddr c r) 2 =
        readNat s.m.mem (cellAddr c r) 2 - max 1 (readNat s.m.mem (cellAddr c r) 2 >>> s.m.pnat 0xD46)) ∧
      (∀ a, (a < cellAddr 0 0 ∨ cellAddr 0 1024 ≤ a) → readByte t.m.mem a = readByte s.m.mem a)) ∧
    (∀ s : State, s.m.ldg.decaying = false ∨ s.m.stageOn 3 = true → exec .decayPassEnd s = .next s) ∧
    (∀ s : State, s.awake → exec .ldgHclear s = .next (s.withEngine { s.m with ldg := { s.m.ldg with clearing := true } })) ∧
    (∀ s : State, s.awake → s.m.ldg.clearing = true → ∃ t, exec .histogramClearDone s = .next t ∧
      t = s.withEngine { s.m with ldg := { s.m.ldg with clearing := false }, dsp := t.m.dsp, mem := t.m.mem } ∧
      ∀ a, readByte t.m.mem a = if cellAddr 0 0 ≤ a ∧ a < cellAddr 0 1024 then memDefault a else readByte s.m.mem a) ∧
    (∀ s : State, s.m.ldg.clearing = false → exec .histogramClearDone s = .next s))

/-- R504, R505, R506, R507, R517, R531, R532: TELLER_GO takes an IDLE or HALTED channel to FETCH at the address of its slip words;
the fetch of a HOLD slip waits in WAITING and is read again; a slip that passes its checks starts moving, one that fails ends
with that cause and one outside DDR5 halts with cause 3. TELLER_ABORT of a channel that is FETCH posts ABORTED, or halts where
nothing can be posted; of one that is moving drains it, posting at once with no write outstanding; of one POSTING marks it; of
one IDLE or HALTED does nothing. Only that channel changes. R514, R515, R586, R587: a SLOTS or RECORDS slip that is ready to
move its next folio claims the oldest unclaimed one, whose slot bytes, or whose key or delta record, it then moves; one whose
slot no longer shows that folio ends with cause 6; no folio is claimed where none is left, or by a COPY slip. -/
def Obligations.TellerChannelsMoveFolios : Prop :=
  ((∀ (c : Fin 16) (s : State), s.awake → (s.m.tels.ch[c].st = .idle ∨ s.m.tels.ch[c].st = .halted) → exec (.tellerGo c) s = .next (s.withEngine
      (s.m.modTel c.val fun t => { t with st := .fetch, aborting := false, cur := s.m.pnat (0xE02 + 16 * c.val) * 2 ^ 32 + s.m.pnat (0xE01 + 16 * c.val) }))) ∧
    (∀ (c : Fin 16) (s : State), s.m.tels.ch[c].st ≠ .idle → s.m.tels.ch[c].st ≠ .halted → exec (.tellerGo c) s = .next s) ∧
    (∀ (c : Fin 16) (s : State), s.m.tels.ch[c].st = .idle ∨ s.m.tels.ch[c].st = .halted → exec (.tellerAbort c) s = .next s) ∧
    (∀ (c : Fin 16) (s : State), s.awake → s.m.tels.ch[c].st = .posting →
      exec (.tellerAbort c) s = .next (s.withEngine (s.m.modTel c.val fun t => { t with aborting := true }))) ∧
    (∀ (c : Fin 16) (s : State), s.awake → s.m.tels.ch[c].st = .fetch → ∃ t, exec (.tellerAbort c) s = .next t ∧
      t = s.withEngine { s.m with tels := t.m.tels } ∧ t.m.tels.ch[c].endCode = 3 ∧
      (s.m.inDdr s.m.tels.ch[c].cur 64 = true → t.m.tels.ch[c].st = .posting) ∧
      (s.m.inDdr s.m.tels.ch[c].cur 64 = false → t.m.tels.ch[c].st = .halted ∧ t.m.tels.ch[c].result = 3) ∧
      ∀ d : Fin 16, d ≠ c → t.m.tels.ch[d] = s.m.tels.ch[d]) ∧
    (∀ (c : Fin 16) (s : State), s.awake → (s.m.tels.ch[c].st = .moving ∨ s.m.tels.ch[c].st = .draining ∨ s.m.tels.ch[c].st = .waiting) →
      ∃ t, exec (.tellerAbort c) s = .next t ∧ t = s.withEngine { s.m with tels := t.m.tels, spn := t.m.spn } ∧
      (s.m.tels.ch[c].out ≠ [] → t.m.tels.ch[c] = { s.m.tels.ch[c] with st := .draining, aborting := true, folio := [] }) ∧
      (s.m.tels.ch[c].out = [] → t.m.tels.ch[c] = { s.m.tels.ch[c] with st := .posting, aborting := true, folio := [], endCode := 3, endCause := 0 }) ∧
      (∀ p : Fin 3, t.m.spn.port[p] = { s.m.spn.port[p] with recBy := if s.m.spn.port[p].recBy = some c.val then none else s.m.spn.port[p].recBy }) ∧
      ∀ d : Fin 16, d ≠ c → t.m.tels.ch[d] = s.m.tels.ch[d]) ∧
    (∀ (c : Fin 16) (s : State), s.awake → s.m.ddrUp = true → s.m.inDdr s.m.tels.ch[c].cur 64 = true →
      let b := readBytes s.m.mem s.m.tels.ch[c].cur 64
      (s.m.tels.ch[c].st = .fetch → (slipOf b).kind = 15 → ∃ t, exec (.slipFetch c false) s = .next t ∧
        t = s.withEngine { s.m with tels := t.m.tels, store := t.m.store } ∧ t.m.tels.ch[c].st = .waiting ∧ t.m.tels.ch[c].slip = slipOf b ∧
        ∀ d : Fin 16, d ≠ c → t.m.tels.ch[d] = s.m.tels.ch[d]) ∧
      (s.m.tels.ch[c].st = .fetch → (slipOf b).kind ≠ 15 → s.m.slipFault (slipOf b) b = 0 → ∃ t, exec (.slipFetch c false) s = .next t ∧
        t = s.withEngine { s.m with tels := t.m.tels, store := t.m.store } ∧ t.m.tels.ch[c].st = .moving ∧ t.m.tels.ch[c].slip = slipOf b ∧
        t.m.tels.ch[c].bytes = 0 ∧ t.m.tels.ch[c].out = [] ∧ ∀ d : Fin 16, d ≠ c → t.m.tels.ch[d] = s.m.tels.ch[d]) ∧
      (s.m.tels.ch[c].st = .fetch → (slipOf b).kind ≠ 15 → s.m.slipFault (slipOf b) b ≠ 0 → ∃ t, exec (.slipFetch c false) s = .next t ∧
        t.m.tels.ch[c].st = .posting ∧ t.m.tels.ch[c].endCode = 4 ∧ t.m.tels.ch[c].endCause = BitVec.ofNat 4 (s.m.slipFault (slipOf b) b) ∧ t.m.mem = s.m.mem) ∧
      (s.m.tels.ch[c].st = .waiting → s.m.tels.ch[c].slip.kind = 15 → (slipOf b).kind = 0 → s.m.slipFault (slipOf b) b = 0 →
        ∃ t, exec (.holdReread c false) s = .next t ∧ t = s.withEngine { s.m with tels := t.m.tels, store := t.m.store } ∧
          t.m.tels.ch[c].st = .moving ∧ t.m.tels.ch[c].slip = slipOf b ∧ ∀ d : Fin 16, d ≠ c → t.m.tels.ch[d] = s.m.tels.ch[d]) ∧
      (s.m.tels.ch[c].st = .waiting → s.m.tels.ch[c].slip.kind = 15 → (slipOf b).kind = 15 → ∃ t, exec (.holdReread c false) s = .next t ∧
        t.m.tels.ch[c].st = .waiting ∧ t.m.tels.ch[c].slip = slipOf b)) ∧
    (∀ (c : Fin 16) (bad : Bool) (s : State), s.awake → s.m.ddrUp = true → s.m.tels.ch[c].st = .fetch → s.m.inDdr s.m.tels.ch[c].cur 64 = false →
      ∃ t, exec (.slipFetch c bad) s = .next t ∧ t.m.tels.ch[c].st = .halted ∧ t.m.tels.ch[c].result = 4 ∧ t.m.tels.ch[c].cause = 3 ∧
        t.m.tels.ch[c].errs = s.m.tels.ch[c].errs + 1 ∧ t.m.mem = s.m.mem) ∧
    (∀ (c : Fin 16) (bad : Bool) (s : State), s.m.ddrUp = false → exec (.slipFetch c bad) s = .next s ∧ exec (.holdReread c bad) s = .next s)) ∧
  ((∀ (c : Fin 16) (s : State), s.awake → s.m.tels.ch[c].st = .moving → (s.m.tels.ch[c].slip.kind = 1 ∨ s.m.tels.ch[c].slip.kind = 2) →
      (s.m.tels.ch[c].slip.dest = 0 ∨ s.m.tels.ch[c].slip.dest = 2 ∨ s.m.tels.ch[c].slip.dest = 3) →
      s.m.tels.ch[c].folio = [] → s.m.tels.ch[c].claims.length < s.m.tels.ch[c].slip.count → s.m.tels.ch[c].short = false → s.m.ddrUp = true →
      s.m.qre.claimed < s.m.qre.headers → (s.m.tels.ch[c].bound = none ∨ s.m.tels.ch[c].bound = some s.m.qre.qid) →
      let port := (portOfDest s.m.tels.ch[c].slip.dest).getD 0
      let kind := s.m.tels.ch[c].slip.kind
      (s.m.slotShows (s.m.slotAddr s.m.qre.claimed) s.m.qre.qid s.m.qre.claimed = true → ∃ t, exec (.folioClaim c) s = .next t ∧
        t = s.withEngine { s.m with tels := t.m.tels, store := t.m.store, spn := t.m.spn, qre := { s.m.qre with claimed := s.m.qre.claimed + 1 } } ∧
        t.m.tels.ch[c].claims = s.m.tels.ch[c].claims ++ [s.m.qre.claimed] ∧ t.m.tels.ch[c].bound = some s.m.qre.qid ∧
        t.m.tels.ch[c].folio = (if kind = 1 then readBytes s.m.mem (s.m.slotAddr s.m.qre.claimed) s.m.qre.cfg.slotSize
          else (s.m.chooseRecord port s.m.qre.claimed).1) ∧
        (kind = 1 → t.m.spn = s.m.spn) ∧
        (kind = 2 → (s.m.chooseRecord port s.m.qre.claimed).2 = 0 → t.m.spn.deltas = s.m.spn.deltas + 1 ∧ t.m.spn.keys = s.m.spn.keys) ∧
        (kind = 2 → (s.m.chooseRecord port s.m.qre.claimed).2 ≠ 0 → t.m.spn.keys = s.m.spn.keys + 1 ∧ t.m.spn.deltas = s.m.spn.deltas ∧
          (vget t.m.spn.port port).sender = { qid := some s.m.qre.qid, key := s.m.qre.claimed, held := true, deltas := 0, force := false }) ∧
        ∀ d : Fin 16, d ≠ c → t.m.tels.ch[d] = s.m.tels.ch[d]) ∧
      (s.m.slotShows (s.m.slotAddr s.m.qre.claimed) s.m.qre.qid s.m.qre.claimed = false → s.m.inDdr s.m.tels.ch[c].cur 64 = true → ∃ t,
        exec (.folioClaim c) s = .next t ∧ t = s.withEngine { s.m with tels := t.m.tels, store := t.m.store, spn := t.m.spn
                                                                     , qre := { s.m.qre with claimed := s.m.qre.claimed + 1 } } ∧
        t.m.tels.ch[c].st = .posting ∧ t.m.tels.ch[c].endCode = 4 ∧ t.m.tels.ch[c].endCause = 6)) ∧
    (∀ (c : Fin 16) (s : State), s.m.qre.headers ≤ s.m.qre.claimed ∨ s.m.tels.ch[c].st ≠ .moving ∨ s.m.tels.ch[c].slip.kind = 0 →
      exec (.folioClaim c) s = .next s))

/-- R509, R510, R511, R512, R513, R523: a channel's write to DDR5 is issued for the bytes that reach its next 256-byte boundary;
the memory controller's acknowledgment stores its bytes at its address and no other byte; a copy to a Spine port sends them in
a WRITE with the write's tag, and a WRITE_ACK with that tag acknowledges it, one with a status other than 0 ending the slip
with cause 8; the last bytes leave the channel draining; an uncorrectable source word ends the slip with cause 5; where no
channel can issue, none is; a write that waits its timeout ends the slip with cause 9. R525, R526, R527, R530, R531, R532: the
posting of a slip stores its 16 status bytes at byte 48 of the slip and no other byte, and keeps its result, cause and tag; a
completed one is counted and the channel goes to the next slip, to IDLE after the last of a chain, or to HALTED where it is
aborting; one with ERROR is counted in its errors and one ABORTED raises interrupt 3, and the channel halts. A channel that is
not POSTING posts nothing, nor does one without DDR5. -/
def Obligations.TellerWritesAndPostings : Prop :=
  ((∀ (c : Fin 16) (a n : Nat) (s : State), s.awake → s.m.telNext = some c.val → (s.m.tels.ch[c]).nextWrite = some (a, n) →
      s.m.tels.ch[c].slip.kind = 0 → s.m.tels.ch[c].slip.dest = 1 → s.m.tels.ch[c].bytes + n < s.m.tels.ch[c].slip.count → ∃ t,
        exec (.tellerWriteIssue false) s = .next t ∧ t = s.withEngine { s.m with tels := t.m.tels, store := t.m.store } ∧
        t.m.tels.ch[c].bytes = s.m.tels.ch[c].bytes + n ∧ t.m.tels.last = c.val ∧
        t.m.tels.ch[c].out = s.m.tels.ch[c].out ++ [{ tag := (s.m.tels.ch[c]).nextTag c.val, addr := a, bytes := readBytes s.m.mem (s.m.tels.ch[c].slip.src + s.m.tels.ch[c].bytes) n }] ∧
        ∀ d : Fin 16, d ≠ c → t.m.tels.ch[d] = s.m.tels.ch[d]) ∧
    (∀ (c : Fin 16) (p : Nat) (a n : Nat) (s : State), s.awake → s.m.telNext = some c.val → (s.m.tels.ch[c]).nextWrite = some (a, n) →
      s.m.tels.ch[c].slip.kind = 0 → portOfDest s.m.tels.ch[c].slip.dest = some p → ∃ t, exec (.tellerWriteIssue false) s = .next t ∧
        t = s.withEngine { s.m with tels := t.m.tels, store := t.m.store, spn := (s.m.sendPkt p (.write ((s.m.tels.ch[c]).nextTag c.val) a
          (readBytes s.m.mem (s.m.tels.ch[c].slip.src + s.m.tels.ch[c].bytes) n))).spn } ∧
        t.m.tels.ch[c].bytes = s.m.tels.ch[c].bytes + n ∧
        t.m.tels.ch[c].st = (if s.m.tels.ch[c].bytes + n = s.m.tels.ch[c].slip.count then .draining else .moving)) ∧
    (∀ (c : Fin 16) (a n : Nat) (s : State), s.awake → s.m.telNext = some c.val → (s.m.tels.ch[c]).nextWrite = some (a, n) →
      s.m.inDdr s.m.tels.ch[c].cur 64 = true → ∃ t, exec (.tellerWriteIssue true) s = .next t ∧ t.m.tels.ch[c].st = .posting ∧
        t.m.tels.ch[c].endCode = 4 ∧ t.m.tels.ch[c].endCause = 5 ∧ t.m.mem = s.m.mem) ∧
    (∀ (bad : Bool) (s : State), s.m.telNext = none → exec (.tellerWriteIssue bad) s = .next s) ∧
    (∀ (c : Fin 16) (w : TelWrite) (s : State), s.awake → s.m.tels.ch[c].slip.dest = 1 → s.m.ddrUp = true →
      (s.m.tels.ch[c]).out.find? (fun w => !w.acked) = some w → ∃ t, exec (.writeAck (.store c)) s = .next t ∧ t = s.withEngine t.m ∧
        t.m.mem = writeBytes s.m.mem w.addr w.bytes ∧ (∀ a, (a < w.addr ∨ w.addr + w.bytes.length ≤ a) → readByte t.m.mem a = readByte s.m.mem a) ∧
        (∀ d : Fin 16, d ≠ c → t.m.tels.ch[d] = s.m.tels.ch[d]) ∧ t.m.par = s.m.par) ∧
    (∀ (p : Fin 3) (tag : BitVec 16) (w : TelWrite) (rest : List TelWrite) (s : State), s.awake → s.m.spn.port[p].st = .up → s.m.takes p.val = true →
      let c := tag.toNat % 16
      portOfDest (vget s.m.tels.ch c).slip.dest = some p.val → (vget s.m.tels.ch c).out = w :: rest → w.tag = tag → w.acked = false →
      (vget s.m.tels.ch c).crcPend = false → (vget s.m.tels.ch c).half = true → (∀ x ∈ rest, x.tag ≠ tag ∧ x.acked = false) → rest ≠ [] →
      (∃ t, exec (.writeAck (.packet p tag 0)) s = .next t ∧ t = s.withEngine { s.m with tels := t.m.tels, spn := (s.m.acceptPkt p.val 2 0).spn } ∧
        (vget t.m.tels.ch c).out = rest ∧ (vget t.m.tels.ch c).acked = (vget s.m.tels.ch c).acked + w.bytes.length ∧
        (vget t.m.tels.ch c).total = (vget s.m.tels.ch c).total + BitVec.ofNat 64 w.bytes.length) ∧
      (∀ st : BitVec 3, st ≠ 0 → s.m.inDdr (vget s.m.tels.ch c).cur 64 = true → ∃ t, exec (.writeAck (.packet p tag st)) s = .next t ∧
        (vget t.m.tels.ch c).st = .posting ∧ (vget t.m.tels.ch c).endCode = 4 ∧ (vget t.m.tels.ch c).endCause = 8)) ∧
    (∀ (c : Fin 16) (s : State), s.awake → (s.m.tels.ch[c]).out.any (fun w => !w.acked && decide (s.m.pnat (0xE05 + 16 * c.val) ≤ w.age)) = true →
      s.m.tels.ch[c].aborting = false → s.m.inDdr s.m.tels.ch[c].cur 64 = true → ∃ t, exec (.tellerTimeout c) s = .next t ∧ t = s.withEngine t.m ∧
        t.m.tels.ch[c].st = .posting ∧ t.m.tels.ch[c].endCode = 4 ∧ t.m.tels.ch[c].endCause = 9 ∧ t.m.tels.ch[c].out = [] ∧
        t.m.mem = s.m.mem ∧ t.m.par = s.m.par) ∧
    (∀ (c : Fin 16) (s : State), s.m.tels.ch[c].out = [] → exec (.tellerTimeout c) s = .next s)) ∧
  ((∀ (c : Fin 16) (s : State), s.awake → s.m.tels.ch[c].st = .posting → s.m.tels.ch[c].crcPend = false → s.m.ddrUp = true →
      Memory.wf s.m.mem = true → ∃ t, exec (.slipPosted c) s = .next t ∧
        t = s.withEngine { s.m with tels := t.m.tels, mem := t.m.mem, store := t.m.store, spn := t.m.spn, flt := t.m.flt, qre := t.m.qre } ∧
        t.m.tels.ch[c].result = s.m.tels.ch[c].endCode ∧ t.m.tels.ch[c].cause = s.m.tels.ch[c].endCause ∧ t.m.tels.ch[c].tag = s.m.tels.ch[c].slip.tag ∧
        (∀ i, i < 16 → readByte t.m.mem (s.m.tels.ch[c].cur + 48 + i) = ((s.m.tels.ch[c]).status c.val).getD i 0) ∧
        (∀ a, (a < s.m.tels.ch[c].cur + 48 ∨ s.m.tels.ch[c].cur + 64 ≤ a) → readByte t.m.mem a = readByte s.m.mem a) ∧
        (∀ d : Fin 16, d ≠ c → t.m.tels.ch[d] = s.m.tels.ch[d]) ∧
        ((s.m.tels.ch[c].endCode = 1 ∨ s.m.tels.ch[c].endCode = 2) → t.m.tels.ch[c].done = s.m.tels.ch[c].done + 1 ∧
          t.m.tels.ch[c].st = (if s.m.tels.ch[c].aborting then .halted else if s.m.tels.ch[c].slip.last then .idle else .fetch) ∧
          (s.m.tels.ch[c].aborting = false → s.m.tels.ch[c].slip.last = false → t.m.tels.ch[c].cur = s.m.tels.ch[c].slip.next) ∧
          (s.m.tels.ch[c].slip.release = false → t.m.qre = s.m.qre)) ∧
        (s.m.tels.ch[c].endCode = 3 → t.m.tels.ch[c].st = .halted ∧ t.m.tels.ch[c].irq = s.m.tels.ch[c].irq ||| 8 ∧ t.m.qre = s.m.qre) ∧
        (s.m.tels.ch[c].endCode = 4 → t.m.tels.ch[c].st = .halted ∧ t.m.tels.ch[c].errs = s.m.tels.ch[c].errs + 1 ∧ t.m.qre = s.m.qre)) ∧
    (∀ (c : Fin 16) (s : State), s.m.tels.ch[c].st ≠ .posting ∨ s.m.tels.ch[c].crcPend = true ∨ s.m.ddrUp = false → exec (.slipPosted c) s = .next s))

/-- R268, R547, R548, R550, R551, R577: a port that may train, IDLE after READY, starts an attempt; one that may not, or is not
IDLE, does not. A failed step holds the port and counts, the eighth in a row logged with class SPINE; a hold ends with a new
attempt; an attempt without a partner is logged once; after DOWN the port trains again, or rests where it may not; the end of
adaptation is step 4. R546, R547, R548, R549, R552, R554: a training frame sets its lane's polarity and moves its taps by the
steps asked for, within their limits, the three taps summing to 64; with every lane seen step 1 ends, and with every lane
ready step 2; ALIGN at step 4 latches the skews and takes the port to HELLO, and in UP changes nothing; a good HELLO takes it
to UP with the partner's credits and everything counted anew, a Volume port sending JOIN as its first packet; a bad one fails
the step. -/
def Obligations.PortsTrainAndMeet : Prop :=
  ((∀ (p : Fin 3) (s : State), s.awake → s.m.spn.port[p].st = .idle → s.m.portAllowed p.val = true → s.m.boot.ready = true → ∃ t,
      exec (.trainingStart p) s = .next t ∧ t = s.withEngine { s.m with spn := t.m.spn } ∧ t.m.spn.refclk = true ∧ t.m.spn.port[p].st = .train ∧
      t.m.spn.port[p].step = 1 ∧ t.m.spn.port[p].hold = false ∧ ∀ q : Fin 3, q ≠ p → t.m.spn.port[q] = s.m.spn.port[q]) ∧
    (∀ (p : Fin 3) (s : State), s.awake → (s.m.spn.port[p].st ≠ .idle ∨ s.m.portAllowed p.val = false ∨ s.m.boot.ready = false) →
      exec (.trainingStart p) s = .next (s.withEngine { s.m with spn := { s.m.spn with refclk := true } })) ∧
    (∀ (p : Fin 3) (s : State), s.awake → (s.m.spn.port[p].st = .train ∨ s.m.spn.port[p].st = .hello) → s.m.spn.port[p].hold = false →
      let m1 := s.m.modPort p.val fun x => { x with st := .train, step := 1, hold := true, fails := x.fails + 1 }
      exec (.trainingStepFail p) s = .next (s.withEngine
        (if s.m.spn.port[p].fails + 1 = 8 then m1.logEvent .data 0x0902 p.val 8 none (some 6) else m1))) ∧
    (∀ (p : Fin 3) (s : State), s.awake → s.m.spn.port[p].st = .train → s.m.spn.port[p].hold = true → s.m.portAllowed p.val = true → ∃ t,
      exec (.trainingRestart p) s = .next t ∧ t = s.withEngine (s.m.modPort p.val Port.attempt) ∧ t.m.spn.port[p].st = .train ∧
      t.m.spn.port[p].step = 1 ∧ t.m.spn.port[p].hold = false ∧ t.m.spn.port[p].told = false ∧ t.m.spn.port[p].fails = s.m.spn.port[p].fails) ∧
    (∀ (p : Fin 3) (s : State), s.awake → s.m.spn.port[p].st = .down → s.m.portAllowed p.val = true → ∃ t,
      exec (.retrainAfterDown p) s = .next t ∧ t = s.withEngine (s.m.modPort p.val Port.attempt) ∧ t.m.spn.port[p].st = .train ∧
      t.m.spn.port[p].step = 1 ∧ t.m.spn.port[p].hold = false) ∧
    (∀ (p : Fin 3) (s : State), s.awake → s.m.spn.port[p].st = .down → s.m.portAllowed p.val = false → exec (.retrainAfterDown p) s =
      .next (s.withEngine (s.m.modPort p.val fun x => { x with
        st := if s.m.domUp 5 && bitOf (s.m.pval 0xF00) p.val then .idle else .off, step := 0, hold := false }))) ∧
    (∀ (p : Fin 3) (s : State), s.awake → s.m.spn.port[p].st = .train → s.m.spn.port[p].step = 1 → s.m.spn.port[p].hold = false →
      s.m.spn.port[p].told = false → s.m.spn.port[p].lanes.toList.any (·.seen) = false → exec (.spnNopartner p) s = .next (s.withEngine
        ((s.m.modPort p.val fun x => { x with told := true }).logEvent .data 0x0901 p.val 0))) ∧
    (∀ (p : Fin 3) (s : State), s.m.spn.port[p].hold = true ∨ s.m.spn.port[p].told = true ∨ s.m.spn.port[p].lanes.toList.any (·.seen) = true →
      exec (.spnNopartner p) s = .next s) ∧
    (∀ (p : Fin 3) (s : State), s.awake → s.m.spn.port[p].st = .train → s.m.spn.port[p].step = 3 → s.m.spn.port[p].hold = false →
      exec (.rxAdaptationEnd p) s = .next (s.withEngine (s.m.modPort p.val fun x => { x with step := 4 }))) ∧
    (∀ (p : Fin 3) (s : State), s.m.spn.port[p].st = .idle → exec (.trainingStepFail p) s = .next s ∧ exec (.trainingRestart p) s = .next s ∧
      exec (.retrainAfterDown p) s = .next s ∧ exec (.spnNopartner p) s = .next s ∧ exec (.rxAdaptationEnd p) s = .next s)) ∧
  ((∀ (p : Fin 3) (f : FrameObs) (s : State), s.awake → s.m.spn.port[p].st = .train → s.m.spn.port[p].hold = false → s.m.spn.port[p].step ≤ 2 →
      f.lane.val < laneCount p.val → ∃ t, exec (.trainingFrame p f) s = .next t ∧
        t = s.withEngine (s.m.modPort p.val fun x => { x with lanes := t.m.spn.port[p].lanes, step := t.m.spn.port[p].step }) ∧
        t.m.spn.port[p].lanes[f.lane] = { s.m.spn.port[p].lanes[f.lane].request f.request with
          inv := f.inverted, seen := true, ready := s.m.spn.port[p].lanes[f.lane].ready || bitOf f.status 8 } ∧
        (∀ l : Fin 4, l ≠ f.lane → t.m.spn.port[p].lanes[l] = s.m.spn.port[p].lanes[l]) ∧
        (t.m.spn.port[p].allLanes p.val (·.ready) = true → t.m.spn.port[p].allLanes p.val (·.seen) = true → t.m.spn.port[p].step = 3) ∧
        (s.m.spn.port[p].step = 1 → t.m.spn.port[p].allLanes p.val (·.seen) = true → t.m.spn.port[p].allLanes p.val (·.ready) = false →
          t.m.spn.port[p].step = 2) ∧
        (s.m.spn.port[p].step = 1 → t.m.spn.port[p].allLanes p.val (·.seen) = false → t.m.spn.port[p].step = 1)) ∧
    (∀ (p : Fin 3) (f : FrameObs) (s : State), s.m.spn.port[p].st = .train → s.m.spn.port[p].hold = true ∨ laneCount p.val ≤ f.lane.val →
      exec (.trainingFrame p f) s = .next s) ∧
    (∀ (l : Lane) (w : Word), l.pre ≤ 16 → l.post ≤ 22 → (l.request w).pre ≤ 16 ∧ (l.request w).post ≤ 22 ∧
      (l.request w).pre + (l.request w).main + (l.request w).post = 64) ∧
    (∀ (l : Lane) (w : Word), fld w 6 2 ≠ 1 → (fld w 0 2 = 1 → (l.request w).pre = l.pre - 1) ∧ (fld w 0 2 = 2 → (l.request w).pre = min 16 (l.pre + 1)) ∧
      (fld w 4 2 = 1 → (l.request w).post = l.post - 1) ∧ (fld w 4 2 = 2 → (l.request w).post = min 22 (l.post + 1)) ∧
      (fld w 0 2 ∉ [1, 2] → (l.request w).pre = l.pre) ∧ (fld w 4 2 ∉ [1, 2] → (l.request w).post = l.post)) ∧
    (∀ (p : Fin 3) (skews : Vector Byte 4) (s : State), s.awake → s.m.spn.port[p].st = .train → s.m.spn.port[p].step = 4 →
      s.m.spn.port[p].hold = false → ∃ t, exec (.align p skews) s = .next t ∧
        t = s.withEngine (s.m.modPort p.val fun x => { x with st := .hello, step := 5, lanes := t.m.spn.port[p].lanes }) ∧
        ∀ l : Fin 4, t.m.spn.port[p].lanes[l] = { s.m.spn.port[p].lanes[l] with skew := skews[l] }) ∧
    (∀ (p : Fin 3) (skews : Vector Byte 4) (s : State), s.m.spn.port[p].st = .up → exec (.align p skews) s = .next s) ∧
    (∀ (h : HelloObs) (s : State), s.awake → s.m.spn.port[0].st = .hello → helloOk 0 h = true → ∃ t, exec (.hello 0 h) s = .next t ∧
      t = s.withEngine (s.m.modPort 0 fun x => x.enterUp h) ∧ t.m.spn.port[0].st = .up ∧ t.m.spn.port[0].part = h.part ∧
      t.m.spn.port[0].avail = { p := h.p.toNat, n := h.n.toNat, c := h.c.toNat } ∧ t.m.spn.port[0].credit = t.m.spn.port[0].avail ∧
      t.m.spn.port[0].expect = 0 ∧ t.m.spn.port[0].next = 0 ∧ t.m.spn.port[0].unacked = [] ∧ t.m.spn.port[0].fails = 0) ∧
    (∀ (p : Fin 3) (h : HelloObs) (s : State), s.awake → s.m.spn.port[p].st = .hello → helloOk p.val h = true → p ≠ 0 → ∃ t,
      exec (.hello p h) s = .next t ∧ t = s.withEngine { s.m with spn := t.m.spn, vol := t.m.vol, flt := t.m.flt, ctl := t.m.ctl, hall := t.m.hall } ∧
      t.m.spn.port[p].st = .up ∧ t.m.spn.port[p].part = h.part ∧ t.m.spn.port[p].credit = { p := h.p.toNat, n := h.n.toNat, c := h.c.toNat } ∧
      t.m.spn.port[p].expect = 0 ∧ t.m.spn.port[p].next = 1 ∧ t.m.spn.port[p].txq = [] ∧ t.m.spn.port[p].unacked =
        [(0, .ctrl false (volBody s.m.volPos (s.m.neighbour p.val) false 0x40 (s.m.volPos + 256 * s.m.volSize) 0))]) ∧
    (∀ (p : Fin 3) (h : HelloObs) (s : State), s.m.spn.port[p].st = .hello → helloOk p.val h = false → exec (.hello p h) s = exec (.trainingStepFail p) s))

/-- R544, R545, R552, R562, R565, R567, R568: IDLE says nothing; CREDIT adds what the partner freed since its last count and sends
what waited; LINKACK drops the packets before the number it names and sends what waited; a NAK then replays, as a timeout
does; the fifth want of progress is link-down with cause 3; a first discard or uncorrectable codeword is answered with one
NAK, repeated while it lasts; control flits that are ignored are counted. -/
def Obligations.LinkRetryKeepsItsWord : Prop :=
  (∀ (p : Fin 3) (s : State), exec (.idle p) s = .next s) ∧
  (∀ (p : Fin 3) (fp fn fc : BitVec 16) (s : State), s.awake → s.m.spn.port[p].st = .up → exec (.credit p fp fn fc) s =
    .next (s.withEngine (s.m.modPort p.val fun x => Port.pump { x with
      avail := { p := x.avail.p + freedSince fp x.given.p, n := x.avail.n + freedSince fn x.given.n, c := x.avail.c + freedSince fc x.given.c },
      given := { p := fp.toNat, n := fn.toNat, c := fc.toNat } }))) ∧
  (∀ (x : Port) (k : Packet) (rest : List Packet), x.st = .up → x.txq = k :: rest → x.maySend k = true →
    ∃ more, x.pump.unacked = x.unacked ++ (x.next, k) :: more) ∧
  (∀ (p : Fin 3) (next : BitVec 12) (s : State), s.awake → s.m.spn.port[p].st = .up →
    (next = s.m.spn.port[p].next ∨ ∃ e ∈ s.m.spn.port[p].unacked, e.1 = next) → exec (.linkack p false next) s =
      .next (s.withEngine (s.m.modPort p.val fun x => Port.pump { x with
        unacked := x.unacked.dropWhile (fun e => e.1 != next),
        replays := if (x.unacked.dropWhile fun e => e.1 != next).length < x.unacked.length then 0 else x.replays }))) ∧
  (∀ (p : Fin 3) (next : BitVec 12) (s : State), s.awake → s.m.spn.port[p].st = .up → s.m.spn.port[p].txq = [] →
    (∃ e ∈ s.m.spn.port[p].unacked, e.1 = next) → s.m.spn.port[p].replays < 4 → exec (.linkack p true next) s =
      .next (s.withEngine (s.m.modPort p.val fun x => { x with
        unacked := x.unacked.dropWhile (fun e => e.1 != next), replayed := x.replayed + 1,
        replays := (if (x.unacked.dropWhile fun e => e.1 != next).length < x.unacked.length then 0 else x.replays) + 1 }))) ∧
  (∀ (p : Fin 3) (s : State), s.awake → s.m.spn.port[p].st = .up → s.m.spn.port[p].unacked ≠ [] → s.m.spn.port[p].replays < 4 →
    exec (.replayTimeout p) s = .next (s.withEngine (s.m.modPort p.val fun x => { x with replays := x.replays + 1, replayed := x.replayed + 1 }))) ∧
  (∀ (p : Fin 3) (s : State), s.awake → s.m.spn.port[p].st = .up → s.m.spn.port[p].unacked ≠ [] → 4 ≤ s.m.spn.port[p].replays →
    exec (.replayTimeout p) s = .next (s.withEngine (s.m.linkDown p.val 3))) ∧
  (∀ (p : Fin 3) (s : State), s.m.spn.port[p].unacked = [] → exec (.replayTimeout p) s = .next s) ∧
  (∀ (p : Fin 3) (s : State), s.awake → s.m.spn.port[p].st = .up → s.m.spn.port[p].discarding = false → exec (.discardedPacket p) s =
    .next (s.withEngine (s.m.modPort p.val fun x => { x with discarding := true, sentAck := some (true, x.expect) }))) ∧
  (∀ (p : Fin 3) (s : State), s.awake → s.m.spn.port[p].st = .up → s.m.spn.port[p].discarding = true → exec (.nakRepeat p) s =
    .next (s.withEngine (s.m.modPort p.val fun x => { x with sentAck := some (true, x.expect) })) ∧ exec (.discardedPacket p) s = .next s) ∧
  (∀ (p : Fin 3) (s : State), s.awake → s.m.streams p.val = true → exec (.ignoredControlFlit p) s =
    .next (s.withEngine (s.m.modPort p.val fun x => { x with badCtl := x.badCtl + 1 }))) ∧
  (∀ (p : Fin 3) (s : State), s.awake → s.m.streams p.val = true → s.m.spn.port[p].st ≠ .up ∨ s.m.spn.port[p].discarding = true →
    exec (.uncorrectableCodeword p) s = .next (s.withEngine (s.m.modPort p.val fun x => { x with unc := x.unc + 1 }))) ∧
  (∀ (p : Fin 3) (s : State), s.awake → s.m.spn.port[p].st = .up → s.m.spn.port[p].discarding = false → exec (.uncorrectableCodeword p) s =
    .next (s.withEngine (s.m.modPort p.val fun x => { x with unc := x.unc + 1, discarding := true, sentAck := some (true, x.expect) }))) ∧
  (∀ (p : Fin 3) (fp fn fc : BitVec 16) (nak : Bool) (next : BitVec 12) (s : State), s.m.spn.port[p].st = .idle →
    exec (.credit p fp fn fc) s = .next s ∧ exec (.linkack p nak next) s = .next s ∧ exec (.replayTimeout p) s = .next s ∧
    exec (.discardedPacket p) s = .next s ∧ exec (.nakRepeat p) s = .next s ∧ exec (.ignoredControlFlit p) s = .next s ∧
    exec (.uncorrectableCodeword p) s = .next s)

/-- R575, R576, R577, R870: loss of signal, lost alignment, a DOWN flit, a training frame and `SPN.RETRAIN` take a port that is UP
down with cause 1, 2, 4, 5 or 6: nothing is left to send or acknowledge and no credit is held, the LINK alert is raised and
the loss counted once; port 0's loss empties its CTRL responses and its session. On a port in training they fail the step or
hold it, counting no link-down. A landed `SPN.CTL` takes a port that is not UP to OFF where its bit is 0 and one that is OFF
and may train to IDLE; without SPN_REFCLK no port is UP. -/
def Obligations.LinkDownClearsThePort : Prop :=
  (∀ (p : Fin 3) (f : FrameObs) (s : State), s.awake → s.m.spn.port[p].st = .up →
    exec (.lossOfSignal (some p)) s = .next (s.withEngine (s.m.linkDown p.val 1)) ∧
    exec (.alignMissing p) s = .next (s.withEngine (s.m.linkDown p.val 2)) ∧
    exec (.down p) s = .next (s.withEngine (s.m.linkDown p.val 4)) ∧
    exec (.trainingFrame p f) s = .next (s.withEngine (s.m.linkDown p.val 5)) ∧
    exec (.spnRetrain (1 <<< p.val)) s = .next (s.withEngine (s.m.linkDown p.val 6))) ∧
  (∀ (p : Fin 3) (cause : Nat) (s : State), s.m.spn.port[p].st = .up →
    let m := s.m.linkDown p.val cause
    m.spn.port[p].st = .down ∧ m.spn.port[p].cause = BitVec.ofNat 4 cause ∧ m.spn.port[p].downs = s.m.spn.port[p].downs + 1 ∧
    m.spn.port[p].txq = [] ∧ m.spn.port[p].unacked = [] ∧ m.spn.port[p].avail = {} ∧ m.spn.port[p].rxRec = none ∧
    m.flt.alert.getLsbD 6 = true ∧ (p = 0 → m.ctl.ctrlOut = [] ∧ m.ctl.host.staging = [] ∧ m.ctl.host.commit = none ∧ m.ctl.host.due = none) ∧
    m.par.landed = s.m.par.landed ∧ (∀ q : Fin 3, q ≠ p → m.spn.port[q].st = s.m.spn.port[q].st)) ∧
  (∀ (p : Fin 3) (s : State), s.m.spn.port[p].st = .hello ∨ s.m.spn.port[p].st = .train →
    exec (.lossOfSignal (some p)) s = exec (.trainingStepFail p) s ∧ exec (.down p) s = exec (.trainingStepFail p) s ∧
    (s.m.spn.port[p].st = .hello ∨ 4 ≤ s.m.spn.port[p].step → exec (.alignMissing p) s = exec (.trainingStepFail p) s) ∧
    (s.awake → exec (.spnRetrain (1 <<< p.val)) s = .next (s.withEngine (s.m.modPort p.val fun x => { x with st := .train, step := 1, hold := true })))) ∧
  (∀ (p : Fin 3) (s : State), s.m.spn.port[p].st = .idle ∨ s.m.spn.port[p].st = .off ∨ s.m.spn.port[p].st = .down →
    exec (.lossOfSignal (some p)) s = .next s ∧ exec (.alignMissing p) s = .next s ∧ exec (.down p) s = .next s ∧
    exec (.spnRetrain (1 <<< p.val)) s = .next s) ∧
  (∀ s : State, s.awake → ∃ t, exec (.lossOfSignal none) s = .next t ∧ t = s.withEngine t.m ∧ t.m.spn.refclk = false ∧
    (∀ p : Fin 3, t.m.spn.port[p].st ≠ .up ∧ t.m.spn.port[p].st ≠ .hello) ∧ t.m.par.landed = s.m.par.landed) ∧
  (∀ (v : BitVec 3) (s : State), s.awake → swf resetOf s.m.par.landed = true → s.m.running = false → s.m.dec.waiting = false → ∃ t,
    exec (.spnCtlWrite v) s = .next t ∧ t = s.withEngine t.m ∧ t.m.pval 0xF00 = v.setWidth 32 ∧ (∀ a, a ≠ 0xF00 → t.m.pval a = s.m.pval a) ∧
    (∀ p : Fin 3, (s.m.spn.port[p].st ≠ .up → v.getLsbD p.val = false → t.m.spn.port[p].st = .off) ∧
      (s.m.spn.port[p].st = .up → s.m.domUp 5 = true → v.getLsbD p.val = false → t.m.spn.port[p].st = .down ∧ t.m.spn.port[p].cause = 6) ∧
      (s.m.spn.port[p].st = .off → t.m.portAllowed p.val = true → t.m.spn.port[p].st = .idle)))

/-- R557, R560, R562, R568, R569, R570, R590, R715: a WRITE inside available DDR5 on a port that takes packets stores its bytes at
its address, changes no other byte and is acknowledged with status 0; one to the Ledger or Vault stores nothing, with status
2, outside memory 1, with DDR5 unavailable 3. A READ_REQ changes no memory: its bytes go out in READ_DATA packets that cross
no 256-byte boundary, or one packet with the failing status, 3 for an uncorrectable word. A KEY_REQUEST for the sender's quire
forces a key, another is counted apart. A packet whose body R557 does not admit, or malformed otherwise, is accepted, counted
and logged. R573, R574, R592, R593: the oldest waiting EVENT packet is sent on the host port once no packet of its class waits
there and credits allow it. A FOLIO on a port that is not enabled to receive is answered with status 2, and with DDR5
unavailable with status 3, without a byte stored; otherwise with status 0, and a record's first packet opens a record in the
receive slots. -/
def Obligations.PacketsAreActedOn : Prop :=
  ((∀ (p : Fin 3) (tag : BitVec 16) (addr : BitVec 64) (data : List Byte) (s : State), s.awake → s.m.spn.port[p].st = .up → s.m.takes p.val = true →
      bodyOk addr.toNat data.length = true → s.m.inDdr addr.toNat data.length = true → s.m.ddrUp = true → Memory.wf s.m.mem = true → ∃ t,
        exec (.write p tag addr data) s = .next t ∧ t = s.withEngine
          ((((s.m.acceptPkt p.val 0 data.length).poke addr.toNat data).touchDdr addr.toNat data.length).sendPkt p.val (.writeAck tag 0)) ∧
        (∀ i, i < data.length → readByte t.m.mem (addr.toNat + i) = data.getD i 0) ∧
        (∀ a, (a < addr.toNat ∨ addr.toNat + data.length ≤ a) → readByte t.m.mem a = readByte s.m.mem a) ∧
        t.m.spn.port[p].expect = s.m.spn.port[p].expect + 1) ∧
    (∀ (p : Fin 3) (tag : BitVec 16) (addr : BitVec 64) (data : List Byte) (s : State), s.awake → s.m.spn.port[p].st = .up → s.m.takes p.val = true →
      bodyOk addr.toNat data.length = true → (s.m.inDdr addr.toNat data.length = false ∨ s.m.ddrUp = false) → exec (.write p tag addr data) s =
        .next (s.withEngine ((s.m.acceptPkt p.val 0 data.length).sendPkt p.val (.writeAck tag
          (if s.m.inDdr addr.toNat data.length then 3 else if inLedger addr.toNat data.length || inVault addr.toNat data.length then 2 else 1))))) ∧
    (∀ (p : Fin 3) (tag : BitVec 16) (addr : BitVec 64) (n : Nat) (s : State), s.awake → s.m.spn.port[p].st = .up → s.m.takes p.val = true →
      1 ≤ n → n ≤ 4096 → ∃ t, exec (.readReq p tag addr n none) s = .next t ∧ t = s.withEngine { s.m with spn := t.m.spn, store := t.m.store } ∧
        t.m.spn.port[p].expect = s.m.spn.port[p].expect + 1 ∧
        let m1 := if s.m.inDdr addr.toNat n && s.m.ddrUp then (s.m.acceptPkt p.val 1 8).touchDdr addr.toNat n else s.m.acceptPkt p.val 1 8
        (s.m.rangeStatus addr.toNat n false = 0 → t.m = (readPieces 18 addr.toNat n).foldl (fun m k => m.sendPkt p.val
          (.readData tag k.1 (readBytes s.m.mem k.1 k.2) (k.1 + k.2 == addr.toNat + n) 0)) m1) ∧
        (s.m.rangeStatus addr.toNat n false ≠ 0 → t.m = m1.sendPkt p.val
          (.readData tag addr.toNat [] true (BitVec.ofNat 2 (s.m.rangeStatus addr.toNat n false))))) ∧
    (∀ a n : Nat, n ≤ 4096 → (∀ k ∈ readPieces 18 a n, 1 ≤ k.2 ∧ k.1 % 256 + k.2 ≤ 256) ∧
      (readPieces 18 a n).flatMap (fun k => (List.range k.2).map (k.1 + ·)) = (List.range n).map (a + ·)) ∧
    (∀ (p : Fin 3) (tag : BitVec 16) (addr : BitVec 64) (n i : Nat) (s : State), s.awake → s.m.spn.port[p].st = .up → s.m.takes p.val = true →
      1 ≤ n → n ≤ 4096 → s.m.rangeStatus addr.toNat n false = 0 → exec (.readReq p tag addr n (some i)) s = .next (s.withEngine
        (((if s.m.inDdr addr.toNat n then (s.m.acceptPkt p.val 1 8).touchDdr addr.toNat n else s.m.acceptPkt p.val 1 8).readEcc (addr.toNat + i)).sendPkt
          p.val (.readData tag addr.toNat [] true 3)))) ∧
    (∀ (p : Fin 3) (qid : Word) (s : State), s.awake → s.m.spn.port[p].st = .up → s.m.takes p.val = true → ∃ t,
      exec (.keyRequest p qid) s = .next t ∧ t = s.withEngine { s.m with spn := t.m.spn } ∧
      t.m.spn.port[p].expect = s.m.spn.port[p].expect + 1 ∧
      (s.m.spn.port[p].sender.qid = some qid → t.m.spn.port[p].sender = { s.m.spn.port[p].sender with force := true } ∧
        t.m.spn.keyReqOk = s.m.spn.keyReqOk + 1 ∧ t.m.spn.keyReqNo = s.m.spn.keyReqNo) ∧
      (s.m.spn.port[p].sender.qid ≠ some qid → t.m.spn.port[p].sender = s.m.spn.port[p].sender ∧
        t.m.spn.keyReqNo = s.m.spn.keyReqNo + 1 ∧ t.m.spn.keyReqOk = s.m.spn.keyReqOk)) ∧
    (∀ (p : Fin 3) (tag : BitVec 16) (addr : BitVec 64) (data : List Byte) (n : Nat) (ecc : Option Nat) (qid : Word) (first last : Bool) (s : State),
      s.awake → s.m.spn.port[p].st = .up →
      (bodyOk addr.toNat data.length = false → exec (.write p tag addr data) s =
        .next (s.withEngine ((s.m.acceptPkt p.val 0 data.length).badPacket p.val 1))) ∧
      (n = 0 ∨ 4096 < n → exec (.readReq p tag addr n ecc) s = .next (s.withEngine ((s.m.acceptPkt p.val 1 8).badPacket p.val 3))) ∧
      (bodyOk 0 data.length = false → exec (.folio p tag data first last) s =
        .next (s.withEngine ((s.m.acceptPkt p.val 0 data.length).badPacket p.val 7)))) ∧
    (∀ (p : Fin 3) (type : Byte) (s : State), s.awake → s.m.spn.port[p].st = .up → exec (.malformedPacket p type) s = .next (s.withEngine
      ((s.m.modPort p.val fun x => { x with expect := x.expect + 1, discarding := false, sentAck := some (false, x.expect + 1), badPkt := x.badPkt + 1 }).logEvent
        .data 0x0903 p.val type.toNat (if p = 0 then some .host else none)))) ∧
    (∀ (p : Fin 3) (type : Byte) (tag : BitVec 16) (addr : BitVec 64) (data : List Byte) (n : Nat) (ecc : Option Nat) (qid : Word) (s : State),
      s.m.spn.port[p].st ≠ .up → exec (.write p tag addr data) s = .next s ∧ exec (.readReq p tag addr n ecc) s = .next s ∧
      exec (.keyRequest p qid) s = .next s ∧ exec (.malformedPacket p type) s = .next s)) ∧
  ((∀ (e : EventPkt) (rest : List EventPkt) (s : State), s.awake → s.m.spn.evq = e :: rest → s.m.spn.port[0].st = .up → s.m.spn.port[0].txq = [] →
      (s.m.spn.port[0]).maySend (.event e) = true → exec .eventSend s = .next (s.withEngine
        (({ s.m with spn := { s.m.spn with evq := rest } } : Mach).modPort 0 fun x => { x with
          avail := x.avail.sub 0 4, unacked := x.unacked ++ [(x.next, .event e)], next := x.next + 1 }))) ∧
    (∀ (e : EventPkt) (s : State), (s.m.spn.port[0].txq.any (fun k => k.cls == 0) = true ∨ (s.m.spn.port[0]).avail.p < 4) → s.m.spn.evq.head? = some e →
      exec .eventSend s = .next s) ∧
    (∀ s : State, s.m.spn.evq = [] ∨ s.m.spn.port[0].st ≠ .up → exec .eventSend s = .next s) ∧
    (∀ (p : Fin 3) (tag : BitVec 16) (data : List Byte) (first last : Bool) (s : State), s.awake → s.m.spn.port[p].st = .up → s.m.takes p.val = true →
      bodyOk 0 data.length = true → (bitOf (s.m.pval 0xF80) (4 + p.val) = false ∨ s.m.ddrUp = false) → ∃ t, exec (.folio p tag data first last) s = .next t ∧
        t = s.withEngine (((s.m.acceptPkt p.val 0 data.length).breakRecord p.val).sendPkt p.val
          (.writeAck tag (if bitOf (s.m.pval 0xF80) (4 + p.val) then 3 else 2))) ∧
        t.m.mem = s.m.mem ∧ t.m.spn.port[p].rxRec = none) ∧
    (∀ (p : Fin 3) (tag : BitVec 16) (data : List Byte) (last : Bool) (s : State), s.awake → s.m.spn.port[p].st = .up → s.m.takes p.val = true →
      bodyOk 0 data.length = true → bitOf (s.m.pval 0xF80) (4 + p.val) = true → s.m.ddrUp = true → data.length < 40 → last = false → ∃ t,
        exec (.folio p tag data true last) s = .next t ∧ t.m = ((((s.m.acceptPkt p.val 0 data.length).sendPkt p.val (.writeAck tag 0)).breakRecord
          p.val).modPort p.val fun x => { x with rxRec := t.m.spn.port[p].rxRec }) ∧ t = s.withEngine t.m ∧
        ∃ r, t.m.spn.port[p].rxRec = some r ∧ r.buf = data ∧ r.checked = false ∧ r.count = data.length ∧
          r.base = s.m.pnat (0xF91 + 16 * p.val) % 2 ^ 16 * 2 ^ 32 + s.m.pnat (0xF90 + 16 * p.val) ∧ r.slots = s.m.pnat (0xF92 + 16 * p.val)) ∧
    (∀ (p : Fin 3) (tag : BitVec 16) (data : List Byte) (last : Bool) (s : State), s.awake → s.m.spn.port[p].st = .up → s.m.takes p.val = true →
      bodyOk 0 data.length = true → bitOf (s.m.pval 0xF80) (4 + p.val) = true → s.m.ddrUp = true → s.m.spn.port[p].rxRec = none →
      exec (.folio p tag data false last) s = .next (s.withEngine ((s.m.acceptPkt p.val 0 data.length).sendPkt p.val (.writeAck tag 0)))))

/-- R616, R618, R619, R622, R628, R630, R631, R639: scan-out starts in the mode of `DSP.MODE` with no value waiting, with the DSI
start sequence where one is due; a VBLANK takes every value that may be taken, but `DSP.MODE`; a frame end ends a frame and,
where another permitted mode waits, begins the mode change, or refuses one that is not permitted and keeps the mode in use;
N0, the first frame of a new mode, takes the held values; a written plane base requests a flip. -/
def Obligations.FramesFlipsAndModesTurn : Prop :=
  (∀ s : State, s.awake → s.m.dsp.st = .off → s.m.domUp 6 = true → s.m.boot.ready = true → (s.m.store.st = .trained ∨ s.m.store.st = .failed) →
    ∃ t, exec .scanoutStart s = .next t ∧
      t = s.withEngine { s.m with par := { s.m.par with frame := [] }, dsp := t.m.dsp, flt := t.m.flt, ctl := t.m.ctl, spn := t.m.spn } ∧
      t.m.dsp.mode = s.m.pnat 0x2601 % 8 ∧ t.m.dsp.level = .full ∧
      ((t.m.dsp.st = .starting ∧ t.m.dsp.dsi = .starting ∧ t.m.dsp.frame = s.m.dsp.frame) ∨
        (t.m.dsp.st = .running ∧ t.m.dsp.dsi ≠ .starting ∧ t.m.dsp.frame = (s.m.dsp.frame + 1) % 2 ^ 64))) ∧
  (∀ s : State, s.m.dsp.st ≠ .off ∨ s.m.domUp 6 = false ∨ s.m.boot.ready = false ∨ (s.m.store.st ≠ .trained ∧ s.m.store.st ≠ .failed) →
    exec .scanoutStart s = .next s) ∧
  (∀ s : State, s.awake → s.m.dsp.st ≠ .off → s.m.dsiOn = true → (s.m.dsp.dsi = .off ∨ s.m.dsp.dsi = .held) → s.m.modeOk s.m.dsp.mode = true →
    exec .dsiStart s = .next (s.withEngine { s.m with dsp := { s.m.dsp with dsi := .starting, dsiJoin := false, dcs := if s.m.cmdMode then [0x01, 0x3A, 0x35, 0x2A, 0x2B, 0x11] else [0x01, 0x3A, 0x11] } })) ∧
  (∀ s : State, s.awake → s.m.dsp.dsi = .starting →
    (s.m.dsp.st ≠ .starting → exec .dsiStartDone s = .next (s.withEngine { s.m with dsp := { s.m.dsp with dsi := .on } })) ∧
    (s.m.dsp.st = .starting → ∃ t, exec .dsiStartDone s = .next t ∧ t = s.withEngine { s.m with dsp := t.m.dsp } ∧ t.m.dsp.dsi = .on ∧
      t.m.dsp.dsiJoin = true ∧ t.m.dsp.st = .running ∧ t.m.dsp.frame = (s.m.dsp.frame + 1) % 2 ^ 64)) ∧
  (∀ s : State, s.m.dsp.dsi ≠ .starting → exec .dsiStartDone s = .next s) ∧
  (∀ (bad : Bool) (s : State), s.awake → s.m.dsp.st = .running → s.m.dsp.newMode = false → s.m.dsp.landedNow = [] → ∃ t,
    exec (.vblank bad) s = .next t ∧
    t = s.withEngine { s.m with par := t.m.par, dsp := t.m.dsp, store := t.m.store, flt := t.m.flt, ctl := t.m.ctl, spn := t.m.spn } ∧ (∀ e ∈ t.m.par.frame, e.1 = 0x2601) ∧ t.m.par.landed = s.m.par.landed ∧
    t.m.dsp.st = .running ∧ t.m.dsp.mode = s.m.dsp.mode ∧ t.m.dsp.frame = s.m.dsp.frame ∧
    ((s.m.par.frame.map (·.1)).contains 0x2603 = true → t.m.dsp.flipCnt = s.m.dsp.flipCnt + 1 ∧ t.m.dsp.flipWait = false)) ∧
  (∀ (bad : Bool) (s : State), s.m.dsp.st ≠ .running ∨ (s.m.dsp.newMode = true ∧ s.m.dsp.dsi ≠ .held) → exec (.vblank bad) s = .next s) ∧
  (∀ s : State, s.awake → s.m.dsp.st = .running → s.m.par.frame.lookup 0x2601 = none → ∃ t, exec .frameEnd s = .next t ∧
    t = s.withEngine { s.m with dsp := t.m.dsp } ∧ t.m.dsp.frame = (s.m.dsp.frame + 1) % 2 ^ 64 ∧ t.m.dsp.st = .running ∧
    t.m.dsp.mode = s.m.dsp.mode ∧ t.m.dsp.dark = false ∧ t.m.dsp.fstat.getLsbD 0 = s.m.dsp.dark ∧ t.m.dsp.fstat.getLsbD 1 = s.m.dsp.under ∧
    (s.m.dsp.busy = true → t.m.dsp.level = .full ∧ t.m.dsp.statics = 0)) ∧
  (∀ s : State, s.awake → s.m.dsp.st = .running → (s.m.par.frame.lookup 0x2601).isSome = true → s.m.dspHeld 0x2601 = false →
    s.m.pnat 0x2601 % 8 ≠ s.m.dsp.mode → s.m.modeOk (s.m.pnat 0x2601 % 8) = true → ∃ t, exec .frameEnd s = .next t ∧
    t = s.withEngine { s.m with par := { s.m.par with frame := mdel s.m.par.frame 0x2601 }, dsp := t.m.dsp } ∧ t.m.dsp.st = .changing ∧
    t.m.dsp.change = 1 ∧ t.m.dsp.mode = s.m.pnat 0x2601 % 8 ∧ t.m.dsp.dark = true ∧ t.m.dsp.level = .full) ∧
  (∀ s : State, s.awake → s.m.dsp.st = .running → (s.m.par.frame.lookup 0x2601).isSome = true → s.m.dspHeld 0x2601 = false →
    s.m.pnat 0x2601 % 8 ≠ s.m.dsp.mode → s.m.modeOk (s.m.pnat 0x2601 % 8) = false → ∃ t, exec .frameEnd s = .next t ∧
    t.m.dsp.st = .running ∧ t.m.dsp.mode = s.m.dsp.mode ∧ t.m.pval 0x2601 = w32 s.m.dsp.mode ∧ t.m.dsp.badMode.getLsbD 0 = true ∧
    fld t.m.dsp.badMode 4 4 = s.m.pnat 0x2601 % 8 ∧ t.m.par.frame.lookup 0x2601 = none) ∧
  (∀ s : State, s.awake → s.m.dsp.st = .changing → s.m.dsp.change = 1 → ∃ t, exec .frameEnd s = .next t ∧
    t = s.withEngine { s.m with dsp := t.m.dsp, flt := t.m.flt, ctl := t.m.ctl, spn := t.m.spn } ∧ t.m.dsp.change = 2 ∧
    t.m.dsp.st = .changing ∧ t.m.dsp.mode = s.m.dsp.mode ∧ t.m.dsp.dark = true) ∧
  (∀ s : State, s.m.dsp.st = .off ∨ s.m.dsp.st = .starting → exec .frameEnd s = .next s) ∧
  (∀ (bad : Bool) (s : State), s.awake → s.m.dsp.st = .changing → s.m.dsp.change = 2 → s.m.dsp.dsi ≠ .starting → s.m.dsp.dp.training = false → ∃ t,
    exec (.n0Start bad) s = .next t ∧
    t = s.withEngine { s.m with par := t.m.par, dsp := t.m.dsp, store := t.m.store, flt := t.m.flt, ctl := t.m.ctl, spn := t.m.spn } ∧ t.m.dsp.st = .running ∧ t.m.dsp.change = 0 ∧ t.m.dsp.mode = s.m.dsp.mode ∧
    t.m.dsp.frame = (s.m.dsp.frame + 1) % 2 ^ 64 ∧ t.m.dsp.dark = false ∧ (∀ e ∈ t.m.par.frame, e.1 = 0x2601) ∧
    t.m.par.landed = s.m.par.landed) ∧
  (∀ (bad : Bool) (s : State), s.m.dsp.st ≠ .changing ∨ s.m.dsp.change ≠ 2 ∨ s.m.dsp.dsi = .starting ∨ s.m.dsp.dp.training = true →
    exec (.n0Start bad) s = .next s) ∧
  (∀ (hi : Bool) (v : Word) (s : State), s.awake → s.m.dsp.st = .running → valueOk (if hi then 0x2604 else 0x2603) v = true →
    s.m.dec.waiting = false → swf resetOf s.m.par.landed = true → ∃ t, exec (.flipRequest hi v) s = .next t ∧
    t = s.withEngine { s.m with par := t.m.par, dsp := t.m.dsp, asy := t.m.asy, hall := t.m.hall } ∧ t.m.dsp.flipWait = true ∧
    t.m.dsp.flipDrop = s.m.dsp.flipDrop + (if s.m.dsp.flipWait then 1 else 0) ∧ t.m.pval (if hi then 0x2604 else 0x2603) = v ∧
    ∀ a, a ≠ (if hi then 0x2604 else 0x2603) → t.m.pval a = s.m.pval a)

/-- R623, R625, R626, R627, R637: a TE_IN edge in command mode locks the timing at FULL and its loss is logged once; a connected
sink that the mode suits is trained, one that it does not suit is logged; a disconnect clears it; training ends trained or
with its cause logged; an underrun of the running host plane is counted, and its uncorrectable word too. Elsewhere none has an
effect. -/
def Obligations.SinksAndPanelsFollow : Prop :=
  (∀ (locked : Bool) (s : State), s.awake → s.m.cmdMode = true → s.m.dsp.st = .running → exec (.teEdge locked) s =
    .next (s.withEngine { s.m with dsp := { s.m.dsp with teLost := false, teLock := locked && s.m.dsp.level == .full } })) ∧
  (∀ s : State, s.awake → s.m.cmdMode = true → s.m.dsp.st = .running → s.m.dsp.teLost = false → exec .dspTelost s =
    .next (s.withEngine (({ s.m with dsp := { s.m.dsp with teLost := true, teLock := false } } : Mach).logEvent .data 0x0A03 0 0))) ∧
  (∀ (locked : Bool) (s : State), s.m.cmdMode = false ∨ s.m.dsp.st ≠ .running → exec (.teEdge locked) s = .next s ∧ exec .dspTelost s = .next s) ∧
  (∀ (o : SinkObs) (s : State), s.awake → s.m.dsp.st ≠ .off → bitOf (s.m.use 0x2602) 3 = true →
    let sink (on : Bool) : DpSt := { connected := true, training := on, cause := s.m.dsp.dp.cause, ignoreMsa := o.ignoreMsa, edid := o.edid, modes := o.modes, minRate := o.minRate, lanes := o.lanes, maxRate := o.maxRate }
    (4 ≤ o.lanes → dpRate s.m.dsp.mode ≤ o.maxRate → exec (.dpConnect o) s =
      .next (s.withEngine { s.m with dsp := { s.m.dsp with dpJoin := false, dp := sink true } })) ∧
    (o.lanes < 4 ∨ o.maxRate < dpRate s.m.dsp.mode → exec (.dpConnect o) s =
      .next (s.withEngine (({ s.m with dsp := { s.m.dsp with dpJoin := false, dp := sink false } } : Mach).logEvent .data 0x0A04 o.lanes o.maxRate)))) ∧
  (∀ (o : SinkObs) (s : State), s.m.dsp.st = .off ∨ bitOf (s.m.use 0x2602) 3 = false → exec (.dpConnect o) s = .next s) ∧
  (∀ s : State, s.awake → exec .dpDisconnect s = .next (s.withEngine { s.m with dsp := { s.m.dsp with dp := { cause := s.m.dsp.dp.cause }, dpJoin := false } })) ∧
  (∀ s : State, s.awake → s.m.dsp.dp.connected = true → bitOf (s.m.use 0x2602) 3 = true → 4 ≤ s.m.dsp.dp.lanes → dpRate s.m.dsp.mode ≤ s.m.dsp.dp.maxRate →
    let again : State := s.withEngine { s.m with dsp := { s.m.dsp with dpJoin := false, dp := { s.m.dsp.dp with training := true, trained := false, failed := false } } }
    exec .dspDpretrain s = .next again ∧ (s.m.dsp.dp.training = false → exec (.dpIrqHpd true) s = .next again ∧
      (s.m.dsp.dp.failed = true → exec (.dpIrqHpd false) s = .next again))) ∧
  (∀ s : State, s.m.dsp.dp.connected = false → exec .dspDpretrain s = .next s ∧ ∀ lost, exec (.dpIrqHpd lost) s = .next s) ∧
  (∀ s : State, s.m.dsp.dp.failed = false → exec (.dpIrqHpd false) s = .next s) ∧
  (∀ s : State, s.awake → s.m.dsp.dp.training = true →
    exec (.dpTrainingDone none) s = .next (s.withEngine { s.m with dsp := { s.m.dsp with dp := { s.m.dsp.dp with training := false, trained := true, rate := BitVec.ofNat 2 (dpRate s.m.dsp.mode) } } }) ∧
    ∀ c : Byte, exec (.dpTrainingDone (some c)) s = .next (s.withEngine (({ s.m with dsp := { s.m.dsp with dp := { s.m.dsp.dp with training := false, trained := false, cause := c, failed := true } } } : Mach).logEvent
      .data 0x0A05 c.toNat 0))) ∧
  (∀ (c : Option Byte) (s : State), s.m.dsp.dp.training = false → exec (.dpTrainingDone c) s = .next s) ∧
  (∀ s : State, s.awake → s.m.dsp.st = .running → bitOf (s.m.use 0x2602) 1 = true → s.m.dsp.invalid = false → ∃ t, exec (.dspUnderrun none) s = .next t ∧
    t = s.withEngine { s.m with dsp := t.m.dsp, flt := t.m.flt, ctl := t.m.ctl, spn := t.m.spn } ∧ t.m.dsp.underrun = s.m.dsp.underrun + 1 ∧
    t.m.dsp.under = true ∧ t.m.dsp.frame = s.m.dsp.frame) ∧
  (∀ (a : Nat) (s : State), s.awake → s.m.dsp.st = .running → bitOf (s.m.use 0x2602) 1 = true → s.m.dsp.invalid = false → ∃ t,
    exec (.dspUnderrun (some a)) s = .next t ∧
    t = s.withEngine { s.m with dsp := t.m.dsp, flt := t.m.flt, ctl := t.m.ctl, spn := t.m.spn, store := { s.m.store with eccUnc := s.m.store.eccUnc + 1 } } ∧
    t.m.dsp.underrun = s.m.dsp.underrun + 1 ∧ t.m.dsp.under = true) ∧
  (∀ (ecc : Option Nat) (s : State), s.m.dsp.st ≠ .running ∨ bitOf (s.m.use 0x2602) 1 = false ∨ s.m.dsp.invalid = true → exec (.dspUnderrun ecc) s = .next s)

/-- R646, R648, R649, R655, R657, R658, R675, R676: the Assay starts where its conditions hold and stops with every request,
conversion and partial window gone; a start whose delay is over requests, as `ASY.KICK` does: with a request of its
accumulator pending it is dropped and counted, else it waits or runs; an accumulator with no such start is passed by; a
conversion of an accumulator adds its result to the window, which completes at its length; trackers are copied and cleared; a
new configuration empties its accumulator. -/
def Obligations.AssayRequestsAndWindowsWork : Prop :=
  (∀ s : State, s.awake → s.m.asy.started = false → s.m.boot.readIn = true → bitOf (s.m.pval 0x27D0) 0 = true → s.m.pwr.stage < 6 → ∃ t,
    exec (.assayStart none) s = .next t ∧ t = s.withEngine t.m ∧ t.m.asy.started = true ∧ (∀ x : Fin 8, t.m.asy.u0[x] = none) ∧
    t.m.par = s.m.par ∧ t.m.mem = s.m.mem ∧ t.m.tim = s.m.tim) ∧
  (∀ (v : Word) (s : State), s.awake → bitOf v 0 = true → valueOk 0x27D0 v = true → s.m.boot.readIn = true → s.m.pwr.stage < 6 →
    s.m.dec.waiting = false → swf resetOf s.m.par.landed = true → ∃ t, exec (.assayStart (some v)) s = .next t ∧ t = s.withEngine t.m ∧
    t.m.asy.started = true ∧ t.m.pval 0x27D0 = v ∧ (∀ a, a ≠ 0x27D0 → t.m.pval a = s.m.pval a) ∧ t.m.mem = s.m.mem) ∧
  (∀ (v : Word) (s : State), bitOf v 0 = false → exec (.assayStart (some v)) s = .next s) ∧
  (∀ s : State, s.m.asy.started = true ∨ s.m.boot.readIn = false ∨ bitOf (s.m.pval 0x27D0) 0 = false ∨ 6 ≤ s.m.pwr.stage →
    exec (.assayStart none) s = .next s) ∧
  (∀ (v : Word) (s : State), s.awake → s.m.asy.started = true → bitOf v 0 = false → valueOk 0x27D0 v = true → s.m.dec.waiting = false →
    swf resetOf s.m.par.landed = true → ∃ t, exec (.assayStop v) s = .next t ∧ t = s.withEngine t.m ∧ t.m.asy.started = false ∧ t.m.asy.reqs = [] ∧
    t.m.asy.sar1 = none ∧ t.m.asy.sar2 = none ∧ t.m.asy.int = none ∧ (∀ j : Fin 32, t.m.asy.accs[j].n = 0 ∧ t.m.asy.accs[j].sum = 0) ∧
    t.m.pval 0x27D0 = v ∧ (∀ a, a ≠ 0x27D0 → t.m.pval a = s.m.pval a) ∧ t.m.mem = s.m.mem) ∧
  (∀ (v : Word) (s : State), bitOf v 0 = true → exec (.assayStop v) s = .next s) ∧
  (∀ (j : Fin 32) (s : State), s.awake → s.m.asy.started = true → s.m.accOn j.val = true → s.m.suspended j.val = false → s.m.asy.kick = 0 →
    let waits : Bool := s.m.asy.reqs.any fun r => r.job == .acc j.val
    (∃ t, exec (.asyKick ((1 : Word) <<< j.val)) s = .next t ∧ t = s.withEngine { s.m with asy := t.m.asy } ∧
      (waits = true → t.m.asy.missed = s.m.asy.missed + 1 ∧ t.m.asy.accs[j].dropped = min (s.m.asy.accs[j].dropped + 1) 255) ∧
      (waits = false → t.m.asy.missed = s.m.asy.missed ∧ t.m.asy.accs = s.m.asy.accs ∧
        (t.m.asy.busyWith j.val = true ∨ (t.m.asy.reqs.any fun r => r.job == .acc j.val) = true))) ∧
    (0 < s.m.asy.accs[j].starts → ∃ t, exec (.assayRequest ((1 : Word) <<< j.val)) s = .next t ∧ t = s.withEngine { s.m with asy := t.m.asy } ∧
      t.m.asy.accs[j].starts = s.m.asy.accs[j].starts - 1 ∧ (∀ i : Fin 32, i ≠ j → t.m.asy.accs[i] = s.m.asy.accs[i]) ∧
      (waits = true → t.m.asy.missed = s.m.asy.missed + 1 ∧ t.m.asy.accs[j].dropped = min (s.m.asy.accs[j].dropped + 1) 255) ∧
      (waits = false → t.m.asy.missed = s.m.asy.missed ∧ t.m.asy.accs[j].dropped = s.m.asy.accs[j].dropped ∧
        (t.m.asy.busyWith j.val = true ∨ (t.m.asy.reqs.any fun r => r.job == .acc j.val) = true)))) ∧
  (∀ (js : BitVec 32) (s : State), s.awake → (∀ j : Fin 32, js.getLsbD j.val = true → s.m.asy.accs[j].starts = 0) → ∃ t,
    exec (.assayRequest js) s = .next t ∧ t = s.withEngine { s.m with asy := t.m.asy } ∧ t.m.asy.accs = s.m.asy.accs ∧
    t.m.asy.missed = s.m.asy.missed) ∧
  (∀ (c : Fin 3) (o : ConvObs) (s : State), s.m.asy.conv c = none → exec (.conversionEnd c o) s = .next s) ∧
  (∀ (c : Fin 3) (o : ConvObs) (j : Fin 32) (k : Conv) (s : State), s.awake → s.m.asy.conv c = some k → k.drop = false → k.job = .acc j.val →
    let r := (s.before.getD s.m).result k.input k.cls o.u
    ∃ t, exec (.conversionEnd c o) s = .next t ∧ t = s.withEngine { s.m with asy := t.m.asy } ∧ t.m.asy.convs = s.m.asy.convs + 1 ∧
      (∀ i : Fin 32, i ≠ j → t.m.asy.accs[i] = s.m.asy.accs[i]) ∧
      (s.m.asy.accs[j].n + 1 < s.m.accLen j.val → t.m.asy.accs[j].n = s.m.asy.accs[j].n + 1 ∧ t.m.asy.accs[j].sum = s.m.asy.accs[j].sum + r) ∧
      (s.m.accLen j.val ≤ s.m.asy.accs[j].n + 1 → t.m.asy.accs[j].n = 0 ∧ t.m.asy.accs[j].sum = 0 ∧
        ∃ f, t.m.asy.accs[j].done = some (roundDiv (s.m.asy.accs[j].sum + r) (s.m.accLen j.val), f))) ∧
  (∀ (v : Word) (s : State), s.awake → s.work < 9 → exec (.asyTrkclr v) s =
    .next (s.withEngine { s.m with asy := { s.m.asy with trkClr := s.m.asy.trkClr ||| v } })) ∧
  (∀ (v : Word) (s : State), s.awake → s.work = 9 → ∃ t, exec (.asyTrkclr v) s = .next t ∧ t = s.withEngine { s.m with asy := { s.m.asy with accs := t.m.asy.accs, trkClr := 0 } } ∧
    ∀ j : Fin 32, t.m.asy.accs[j].loCopy = (s.m.asy.accs[j].lo).getD 0x7FFFFFFF ∧ t.m.asy.accs[j].n = s.m.asy.accs[j].n ∧
      (bitOf v j.val = true → t.m.asy.accs[j].lo = none ∧ t.m.asy.accs[j].hi = none)) ∧
  (∀ (j : Fin 32) (time : Bool) (v : Word) (s : State), s.awake → s.m.dec.waiting = false → swf resetOf s.m.par.landed = true →
    let a := if time then 0x2780 + j.val else 0x2700 + 4 * j.val
    valueOk a v = true → ∃ t, exec (.asyCfgWrite j time v) s = .next t ∧ t = s.withEngine t.m ∧ t.m.pval a = v ∧ (∀ b, b ≠ a → t.m.pval b = s.m.pval b) ∧
      t.m.asy.accs[j].n = 0 ∧ t.m.asy.accs[j].sum = 0 ∧ t.m.asy.accs[j].lo = none ∧ t.m.asy.accs[j].starts = 0 ∧ t.m.mem = s.m.mem)

/-- R647, R661, R662, R665, R669, R671, R672: calibration points start with their conversions to come, or fail with cause 3 in a
stopped Assay; an open-wire check applies its current once its input is free and is requested once settled; the Isotherm is
switched off and on and goes to FAULT when stale; the PWM takes the duty at its period's start, the rising start, and the end
of its high time is the falling start. -/
def Obligations.CalibrationWiresAndHeaterFollow : Prop :=
  (∀ (x : Fin 8) (k : Fin 17) (s : State), s.awake → s.m.asy.started = true →
    (∃ t, exec (.asyCalZero x k) s = .next t ∧ t = s.withEngine { s.m with asy := t.m.asy, cal := t.m.cal, flt := t.m.flt, spn := t.m.spn } ∧
      t.m.asy.point = some { set := x.val, point := 1, left := 2 ^ k.val, k := k.val } ∧ t.m.asy.calSt = 1 ∧ t.m.asy.susp.getLsbD x.val = true) ∧
    (∃ t, exec (.asyCalFull x k) s = .next t ∧ t = s.withEngine { s.m with asy := t.m.asy, cal := t.m.cal, flt := t.m.flt, spn := t.m.spn } ∧
      t.m.asy.point = some { set := x.val, point := 2, left := 2 ^ k.val, k := k.val } ∧ t.m.asy.calSt = 1 ∧ t.m.asy.susp.getLsbD x.val = true)) ∧
  (∀ (x : Fin 8) (k : Fin 17) (s : State), s.awake → s.m.asy.started = false →
    (∃ t, exec (.asyCalZero x k) s = .next t ∧ t = s.withEngine { s.m with asy := t.m.asy, cal := t.m.cal, flt := t.m.flt, spn := t.m.spn } ∧
      t.m.asy.point = none ∧ t.m.asy.calSt = 3 ∧ t.m.asy.calCause = 3) ∧
    (∃ t, exec (.asyCalFull x k) s = .next t ∧ t = s.withEngine { s.m with asy := t.m.asy, cal := t.m.cal, flt := t.m.flt, spn := t.m.spn } ∧
      t.m.asy.point = none ∧ t.m.asy.calSt = 3 ∧ t.m.asy.calCause = 3)) ∧
  (∀ (e : Fin 4) (s : State), s.awake → s.m.asy.started = true → bitOf (s.m.pval 0x27D9) e.val = true → s.m.asy.wire = .none → s.m.asy.wireDue = 0 →
    s.m.cal.st ≠ .running → s.m.asy.converts (18 + e.val) = false → exec (.openWireCheck e) s =
      .next (s.withEngine { s.m with asy := { s.m.asy with wire := .current e.val } })) ∧
  (∀ (e : Fin 4) (s : State), s.m.asy.started = false ∨ bitOf (s.m.pval 0x27D9) e.val = false → exec (.openWireCheck e) s = .next s) ∧
  (∀ (e : Nat) (s : State), s.awake → s.m.asy.wire = .current e → ∃ t, exec .openWireSettled s = .next t ∧
    t = s.withEngine { s.m with asy := t.m.asy } ∧ t.m.asy.wire = .converting e ∧ t.m.asy.accs = s.m.asy.accs) ∧
  (∀ s : State, (∀ e, s.m.asy.wire ≠ .current e) → exec .openWireSettled s = .next s) ∧
  (∀ (v : Word) (s : State), s.awake → valueOk 0x27F0 v = true → s.m.dec.waiting = false → swf resetOf s.m.par.landed = true → ∃ t,
    exec (.isoCtlWrite v) s = .next t ∧ t = s.withEngine t.m ∧ t.m.pval 0x27F0 = v ∧ (∀ a, a ≠ 0x27F0 → t.m.pval a = s.m.pval a) ∧
    (bitOf v 7 = false → t.m.iso.st = .off ∧ t.m.iso.hot = false ∧ t.m.iso.stale = false ∧ t.m.iso.causes = 0) ∧
    (bitOf v 7 = true → s.m.boot.ready = true → s.m.iso.st = .off → t.m.iso.st = if t.m.iso.causes = 0 then .warming else .fault)) ∧
  (∀ s : State, s.awake → s.m.iso.st ≠ .off → s.m.iso.lastBeat + 65536 ≤ s.m.tim.beats → ∃ t, exec .isoStale s = .next t ∧ t = s.withEngine t.m ∧
    t.m.iso.st = .fault ∧ t.m.iso.stale = true ∧ t.m.par = s.m.par ∧ t.m.mem = s.m.mem ∧ t.m.tim = s.m.tim) ∧
  (∀ s : State, s.m.iso.st = .off ∨ s.m.tim.beats < s.m.iso.lastBeat + 65536 → exec .isoStale s = .next s) ∧
  (∀ s : State, s.awake → s.m.asy.started = true →
    let high := s.m.pwmDriven && decide (0 < s.m.iso.duty)
    (∃ t, exec .pwmPeriodStart s = .next t ∧ t = s.withEngine { s.m with asy := { s.m.asy with accs := t.m.asy.accs }, iso := { s.m.iso with
        dutyUse := s.m.iso.duty, high, period := 65536 * 2 ^ fld (s.m.pval 0x27F0) 8 4
        highLen := if high then s.m.iso.duty * 2 ^ fld (s.m.pval 0x27F0) 8 4 else 0 } } ∧
      ∀ j : Fin 32, t.m.asy.accs[j] = { s.m.asy.accs[j] with
        starts := s.m.asy.accs[j].starts + b2n (s.m.accOn j.val && (s.m.accSource j.val == 1 || (s.m.accSource j.val == 2 && !high))) }) ∧
    (s.m.iso.high = true → ∃ t, exec .pwmHighEnd s = .next t ∧
      t = s.withEngine { s.m with asy := { s.m.asy with accs := t.m.asy.accs }, iso := { s.m.iso with high := false } } ∧
      ∀ j : Fin 32, t.m.asy.accs[j] = { s.m.asy.accs[j] with
        starts := s.m.asy.accs[j].starts + b2n (s.m.accOn j.val && s.m.accSource j.val == 2) })) ∧
  (∀ s : State, s.m.asy.started = false → exec .pwmPeriodStart s = .next s) ∧
  (∀ s : State, s.m.asy.started = false ∨ s.m.iso.high = false → exec .pwmHighEnd s = .next s)

/-- R680, R683, R684, R686, R689, R690, R691: CAL_RUN starts a chain at its first point when no condition of R680 refuses it, else
it fails with that condition's cause, logged; points follow one another and their conversions begin once settled; the closing
point writes the draft or fails; CAL_ABORT fails a run with cause 18; CAL_DRAFTCLR empties the draft. R692, R696, R697, R698:
CAL_SEAL refuses with the first cause that holds, or starts sealing the draft's certificate with the next epoch; CERT_SEAL
writes it into its slot, which becomes valid, and empties the draft, logged; one whose readback differs leaves the slot
invalid with cause 8. With no seal in progress it does nothing. -/
def Obligations.ChainRunsAndSeals : Prop :=
  ((∀ (v : Word) (s : State), s.awake → valueOk 0x2804 v = true → s.m.cal.st ≠ .running →
      (s.m.runFault v ≠ 0 → exec (.calRun v) s = .next (s.withEngine
        (({ s.m with cal := { s.m.cal with st := .failed, cause := BitVec.ofNat 5 (s.m.runFault v) } } : Mach).logEvent .management 0x0C03 (s.m.runFault v) 0))) ∧
      (s.m.runFault v = 0 → ∃ t, exec (.calRun v) s = .next t ∧ t = s.withEngine t.m ∧ t.m.cal.st = .running ∧ t.m.cal.run = v ∧ t.m.cal.cause = 0 ∧
        t.m.cal.point = 0 ∧ t.m.cal.settling = true ∧ t.m.cal.left = 2 ^ fld (s.m.pval 0x2802) 8 3 ∧ t.m.cal.res = [] ∧
        t.m.cal.draft = s.m.cal.draft ∧ t.m.par = s.m.par ∧ t.m.mem = s.m.mem)) ∧
    (∀ (v : Word) (s : State), s.m.cal.st = .running ∨ valueOk 0x2804 v = false → exec (.calRun v) s = .next s) ∧
    (∀ s : State, s.awake → s.m.cal.pointOver = true → s.m.tim.clk = 0 → s.m.cal.point + 1 < s.m.cal.points → ∃ t, exec .calPointStart s = .next t ∧
      t = s.withEngine t.m ∧ t.m.cal.point = s.m.cal.point + 1 ∧ t.m.cal.res = s.m.cal.cur :: s.m.cal.res ∧ t.m.cal.settling = true ∧
      t.m.cal.startAt = s.m.tim.beats + s.m.cal.settle ∧ t.m.par = s.m.par ∧ t.m.mem = s.m.mem) ∧
    (∀ s : State, s.m.cal.pointOver = false ∨ s.m.tim.clk ≠ 0 ∨ s.m.cal.points ≤ s.m.cal.point + 1 → exec .calPointStart s = .next s) ∧
    (∀ s : State, s.awake → s.m.cal.st = .running → s.m.cal.fail = none → s.m.cal.settling = true → s.m.cal.startAt ≤ s.m.tim.beats → ∃ t,
      exec .calSettleEnd s = .next t ∧ t = s.withEngine { s.m with cal := { s.m.cal with settling := false }, asy := t.m.asy } ∧
      (t.m.asy.reqs.any (·.job == .chain) = true ∨ t.m.asy.int.any (·.job == .chain) = true)) ∧
    (∀ s : State, s.m.cal.st ≠ .running ∨ s.m.cal.settling = false ∨ s.m.tim.beats < s.m.cal.startAt → exec .calSettleEnd s = .next s) ∧
    (∀ (es : List (Nat × CalEntry)) (s : State), s.awake → s.m.cal.pointOver = true → s.m.tim.clk = 0 → s.m.cal.points ≤ s.m.cal.point + 1 →
      runResult s.m.cal (s.m.useN 0x840) ((s.m.cal.cur :: s.m.cal.res).reverse) = .inr es → ∃ t, exec .calCompute s = .next t ∧ t = s.withEngine t.m ∧
        t.m.cal.st = .done ∧ t.m.cal.cause = 0 ∧ t.m.cal.draft = draftWith s.m.cal.draft es ∧ t.m.par.landed = s.m.par.landed ∧ t.m.mem = s.m.mem) ∧
    (∀ (cause : Nat) (s : State), s.awake → s.m.cal.pointOver = true → s.m.tim.clk = 0 → s.m.cal.points ≤ s.m.cal.point + 1 →
      runResult s.m.cal (s.m.useN 0x840) ((s.m.cal.cur :: s.m.cal.res).reverse) = .inl cause → ∃ t, exec .calCompute s = .next t ∧ t = s.withEngine t.m ∧
        t.m.cal.st = .failed ∧ t.m.cal.cause = BitVec.ofNat 5 cause ∧ t.m.cal.draft = s.m.cal.draft ∧ t.m.par.landed = s.m.par.landed ∧ t.m.mem = s.m.mem) ∧
    (∀ s : State, s.m.cal.pointOver = false ∨ s.m.tim.clk ≠ 0 ∨ s.m.cal.point + 1 < s.m.cal.points → exec .calCompute s = .next s) ∧
    (∀ s : State, s.awake → s.m.cal.st = .running → s.m.cal.fail = none → exec .calAbort s =
      .next (s.withEngine { s.m with cal := { s.m.cal with fail := some 18 } })) ∧
    (∀ s : State, s.m.cal.st ≠ .running → exec .calAbort s = .next s) ∧
    (∀ s : State, s.awake → exec .calDraftclr s = .next (s.withEngine { s.m with cal := { s.m.cal with draft := [], overAny := false } }))) ∧
  ((∀ (slot : Fin 16) (bad : Bool) (s : State), s.awake →
      (s.m.sealFault slot.val bad ≠ 0 → exec (.calSeal slot bad) s = .next (s.withEngine { s.m with cal := { s.m.cal with
        sealSt := if s.m.cal.sealing.isSome then s.m.cal.sealSt else 3, sealCause := BitVec.ofNat 4 (s.m.sealFault slot.val bad) } })) ∧
      (s.m.sealFault slot.val bad = 0 → ∃ t, exec (.calSeal slot bad) s = .next t ∧ t = s.withEngine { s.m with cal := t.m.cal, vlt := t.m.vlt, store := t.m.store } ∧
        t.m.cal.sealing = some (slot.val, s.m.cal.lastEp + 1, s.m.certBytes (readBytes s.m.mem s.m.annexAddr 384) (s.m.cal.lastEp + 1)) ∧
        t.m.cal.sealSt = 1 ∧ t.m.cal.lastEp = s.m.cal.lastEp + 1 ∧ t.m.vlt.nv.lastEp = s.m.cal.lastEp + 1 ∧ t.m.cal.draft = s.m.cal.draft)) ∧
    (∀ (slot : Fin 16) (ep : Nat) (bytes : List Byte) (s : State), s.awake → s.m.cal.sealing = some (slot.val, ep, bytes) →
      (∃ t, exec (.certSeal false) s = .next t ∧ t = s.withEngine { s.m with mem := writeBytes s.m.mem (certBase slot.val) bytes, cal := t.m.cal, flt := t.m.flt, ctl := t.m.ctl, spn := t.m.spn } ∧
        t.m.cal.sealing = none ∧ t.m.cal.sealSt = 2 ∧ t.m.cal.draft = [] ∧ (s.m.vlt.serial ≠ 0 → t.m.cal.valid = s.m.cal.valid ||| ((1 : BitVec 16) <<< slot.val)) ∧
        (∀ a, (a < certBase slot.val ∨ certBase slot.val + bytes.length ≤ a) → readByte t.m.mem a = readByte s.m.mem a)) ∧
      (∃ t, exec (.certSeal true) s = .next t ∧ t = s.withEngine { s.m with mem := t.m.mem, cal := t.m.cal, flt := t.m.flt, ctl := t.m.ctl, spn := t.m.spn } ∧
        t.m.cal.sealing = none ∧ t.m.cal.sealSt = 3 ∧ t.m.cal.sealCause = 8 ∧ t.m.cal.valid.getLsbD slot.val = false ∧ t.m.cal.draft = s.m.cal.draft)) ∧
    (∀ (bad : Bool) (s : State), s.m.cal.sealing = none → exec (.certSeal bad) s = .next s))

/-- R709, R714, R728, R732, R733, R734, R735, R741: a Volume message that a joined port brings and that is meant for this engine
is acted on: DIGEST and READY are kept for their origin by the principal, ARMREQ is answered, ARMGO and ARMCANCEL end the arm
that was asked for and no other, RCAL and VSTOP set their beats; JOIN joins a port whose partner fits and no other; an unknown
message is counted; a port that is not UP brings nothing. -/
def Obligations.VolumeMessagesAreActedOn : Prop :=
  (∀ (v : VMsg) (s : State), s.awake → v.port ≠ 0 → s.m.portUp v.port.val = true → s.m.joined v.port.val = true → v.origin.val ≠ s.m.volPos →
    (v.bcast = true ∨ v.target.val = s.m.volPos) →
    (∀ d : Word, s.m.isPrincipal = true → ∃ t, exec (.digest v d) s = .next t ∧ t = s.withEngine t.m ∧ t.m.vol.posn[v.origin].digest = d ∧
      t.m.vol.present.getLsbD v.origin.val = true ∧ t.m.par = s.m.par ∧ t.m.mem = s.m.mem) ∧
    (∀ (bits : BitVec 16) (d : Word), s.m.isPrincipal = true → ∃ t, exec (.ready v bits d) s = .next t ∧
      t = s.withEngine { s.m with vol := t.m.vol, spn := t.m.spn } ∧ t.m.vol.posn[v.origin].digest = d ∧ t.m.vol.posn[v.origin].ready = bits) ∧
    (∀ qid : Word, s.m.isMember = true → ∃ t, exec (.armreq v qid) s = .next t ∧ t = s.withEngine { s.m with vol := t.m.vol, spn := t.m.spn } ∧
      t.m.vol = { s.m.vol with req := some qid, sentReady := some s.m.readiness }) ∧
    (∀ (qid : Word) (left : BitVec 8) (a : Word), s.m.vol.req = some qid → ∃ t, exec (.armgo v left a) s = .next t ∧
      t = s.withEngine { s.m with vol := { s.m.vol with req := none, sentReady := none, goBeat := some (a, qid, left) }, spn := t.m.spn }) ∧
    (∀ (left : BitVec 8) (a : Word), s.m.vol.req = none → ∃ t, exec (.armgo v left a) s = .next t ∧ t = s.withEngine { s.m with spn := t.m.spn }) ∧
    (∀ qid : Word, s.m.vol.req ≠ some qid → ∃ t, exec (.armcancel v qid) s = .next t ∧ t = s.withEngine { s.m with spn := t.m.spn }) ∧
    (∀ qid : Word, s.m.vol.req = some qid → ∃ t, exec (.armcancel v qid) s = .next t ∧
      t = s.withEngine { s.m with vol := { s.m.vol with req := none, sentReady := none }, spn := t.m.spn }) ∧
    (∀ beat : Word, ∃ t, exec (.rcal v beat) s = .next t ∧
      t = s.withEngine { s.m with vol := { s.m.vol with rcal := some (s.m.nearBeat beat).toNat, ring := [] }, spn := t.m.spn }) ∧
    (∀ beat : Word, s.m.running = true → s.m.qre.cfg.volume = true → ∃ t, exec (.vstop v false beat) s = .next t ∧
      t = s.withEngine { s.m with vol := { s.m.vol with stopBeat := some beat }, spn := t.m.spn }) ∧
    (∀ beat : Word, s.m.running = true → s.m.qre.cfg.volume = true → s.m.qre.cur = none → ∃ t, exec (.vstop v true beat) s = .next t ∧
      t = s.withEngine t.m ∧ t.m.running = false ∧ t.m.qre.closeCause = 8 ∧ t.m.par = s.m.par ∧ t.m.mem = s.m.mem) ∧
    (∀ (idx : BitVec 16) (x : Word), s.m.isMember = true → s.m.qre.st = .running → s.m.qre.cfg.volume = true → s.m.qre.cur = none → ∃ t,
      exec (.vtrig v idx x) s = .next t ∧ t = s.withEngine t.m ∧ t.m.par = s.m.par ∧ t.m.mem = s.m.mem ∧
      ((t.m.qre.cur.isSome = true ∧ t.m.vol.trigMiss = s.m.vol.trigMiss) ∨ (t.m.qre.cur = none ∧ t.m.vol.trigMiss = s.m.vol.trigMiss + 1)))) ∧
  (∀ (v : VMsg) (s : State), s.awake → v.port ≠ 0 → s.m.portUp v.port.val = true → s.m.joined v.port.val = true → ∃ t,
    exec (.unknownVolumeMessage v) s = .next t ∧ t = s.withEngine { s.m with vol := { s.m.vol with badMsg := s.m.vol.badMsg + 1 }, spn := t.m.spn }) ∧
  (∀ (v : VMsg) (s : State), s.m.portUp v.port.val = false → exec (.unknownVolumeMessage v) s = .next s ∧ (∀ d, exec (.digest v d) s = .next s) ∧
    (∀ q, exec (.armreq v q) s = .next s ∧ exec (.armcancel v q) s = .next s ∧ exec (.rcal v q) s = .next s) ∧
    (∀ b q, exec (.ready v b q) s = .next s ∧ exec (.vtrig v b q) s = .next s) ∧ (∀ l q, exec (.armgo v l q) s = .next s) ∧
    ∀ at0 q, exec (.vstop v at0 q) s = .next s) ∧
  (∀ (p : Fin 3) (pos : Fin 8) (size : BitVec 4) (s : State), s.awake → p ≠ 0 → s.m.portUp p.val = true → s.m.helloJoins p.val = true → s.m.volOn = true →
    ∃ t, exec (.join p pos size) s = .next t ∧ t = s.withEngine t.m ∧ t.m.joined p.val = decide (size.toNat = s.m.volSize ∧ pos.val = s.m.neighbour p.val) ∧
      t.m.par = s.m.par)

/-- R716, R717, R718, R720, R722: on the west port a SYNC is timestamped for the exchange, on the east port its echo is; VTURN on
the east port ends the exchange whose count it answers, d being half of what the round trip leaves; VHOP on the west port
gives one estimate and ends the exchange; the mark after an alignment makes it good or bad by 1,000 ps. R712, R719, R724,
R725, R734, R735, R740: alignment starts at a boundary once 256 exchanges have ended and nothing runs; VOL.RINGCAL on a FORMED
principal sets S to 64 beats on; its end writes the closure, and starts a member's alignment by the mean; the arm wait that
runs out cancels or arms without the absent; an engine left out of a Volume arm does not arm, nor one that runs a quire or
sheds; the stop beat closes the Volume quire with cause 8; new Volume settings end every alignment. -/
def Obligations.VolumesExchangeAndAlign : Prop :=
  ((∀ (count : BitVec 64) (time : BitVec 96) (sent seen : Int) (s : State), s.awake → s.m.portUp 2 = true → s.m.joined 2 = true → ∃ t,
      exec (.sync 2 false count time sent seen) s = .next t ∧
      t = s.withEngine { s.m with vol := { s.m.vol with got := some (count.toNat, time.toNat, seen) }, spn := t.m.spn }) ∧
    (∀ (p : Fin 3) (echo : Bool) (count : BitVec 64) (time : BitVec 96) (sent seen : Int) (s : State), s.m.portUp p.val = false ∨ s.m.joined p.val = false →
      exec (.sync p echo count time sent seen) s = .next s) ∧
    (∀ (count : BitVec 64) (time : BitVec 96) (sent seen : Int) (s : State), s.awake → s.m.portUp 1 = true → s.m.joined 1 = true → s.m.vol.turn = none →
      exec (.sync 1 true count time sent seen) s = .next (s.withEngine { s.m with vol := { s.m.vol with echo := some (count.toNat, sent, seen) } })) ∧
    (∀ (p : Fin 3) (echo : Bool) (count : BitVec 64) (time : BitVec 96) (sent seen : Int) (s : State), ¬ (p = 2 ∧ echo = false) → ¬ (p = 1 ∧ echo = true) →
      exec (.sync p echo count time sent seen) s = .next s) ∧
    (∀ (count : BitVec 16) (turn : Word) (s : State), s.awake → s.m.portUp 1 = true → s.m.joined 1 = true → s.m.vol.echo = none → ∃ t,
      exec (.vturn 1 count turn) s = .next t ∧ t = s.withEngine { s.m with vol := { s.m.vol with turn := some (count.toNat, turn.toNat) }, spn := t.m.spn }) ∧
    (∀ (count : BitVec 16) (turn : Word) (n t0 n1 : Nat) (t1 t4 : Int) (s : State), s.awake → s.m.portUp 1 = true → s.m.joined 1 = true →
      s.m.vol.sentAt = some (n, t0) → s.m.vol.echo = some (n1, t1, t4) → n % 65536 = n1 % 65536 → n % 65536 = count.toNat → ∃ t,
      exec (.vturn 1 count turn) s = .next t ∧ t = s.withEngine { s.m with vol := { s.m.vol with
        turn := none, echo := none, hopDly := BitVec.ofInt 32 (((t4 - t1) - turn.toNat).fdiv 2) }, spn := t.m.spn }) ∧
    (∀ (p : Fin 3) (count : BitVec 16) (turn : Word) (s : State), s.m.portUp p.val = false ∨ p = 0 → exec (.vturn p count turn) s = .next s) ∧
    (∀ (theta : BitVec 16) (xd : Word) (n : Nat) (x t2 : Int) (s : State), s.awake → s.m.portUp 2 = true → s.m.joined 2 = true →
      s.m.vol.got = some (n, x, t2) → s.m.volPos ≠ 0 →
      let th : Int := t2 - (x + xd.toNat) + theta.toInt * 64
      ∃ t, exec (.vhop 2 theta xd) s = .next t ∧ t = s.withEngine { s.m with vol := t.m.vol, spn := t.m.spn, hall := t.m.hall, flt := t.m.flt, ctl := t.m.ctl } ∧
        t.m.vol.ests = (th :: s.m.vol.ests).take 256 ∧ t.m.vol.offset = meanOf ((th :: s.m.vol.ests).take 256) ∧
        t.m.vol.exch = min 256 (s.m.vol.exch + 1) ∧ t.m.vol.got = none ∧ t.m.vol.hopUp = some (n, x - theta.toInt * 64)) ∧
    (∀ (p : Fin 3) (theta : BitVec 16) (xd : Word) (s : State), s.m.portUp p.val = false ∨ p = 0 → exec (.vhop p theta xd) s = .next s) ∧
    (∀ (diff : Int) (a : Align) (s : State), s.awake → s.m.isMember = true → s.m.vol.align = some a → a.set = true → a.ring = false →
      let bad : Bool := decide (1000 < (diff - (fld (s.m.pval 0x2904) 0 16 : Nat)).natAbs)
      ∃ t, exec (.vsyncMark diff) s = .next t ∧ t = s.withEngine { s.m with vol := t.m.vol, spn := t.m.spn, hall := t.m.hall, flt := t.m.flt, ctl := t.m.ctl } ∧
        t.m.vol.align = none ∧ t.m.vol.markBad = bad ∧ t.m.vol.everAligned = (s.m.vol.everAligned || !bad) ∧
        t.m.vol.aligns = s.m.vol.aligns + (if bad then 0 else 1)) ∧
    (∀ (diff : Int) (s : State), s.awake → s.m.isMember = true → s.m.vol.align = none → s.m.vol.everAligned = true → ∃ t,
      exec (.vsyncMark diff) s = .next t ∧ t = s.withEngine { s.m with vol := t.m.vol, spn := t.m.spn, hall := t.m.hall, flt := t.m.flt, ctl := t.m.ctl } ∧
      t.m.vol.markBad = decide (1000 < (diff - (fld (s.m.pval 0x2904) 0 16 : Nat)).natAbs) ∧ t.m.vol.everAligned = true) ∧
    (∀ (diff : Int) (s : State), s.m.isMember = false ∨ (∃ a, s.m.vol.align = some a ∧ a.set = false) → exec (.vsyncMark diff) s = .next s)) ∧
  ((∀ (near : Bool) (s : State), s.awake → s.m.isMember = true → s.m.vol.st = .formed → s.m.vol.everAligned = false → s.m.vol.align = none →
      256 ≤ s.m.vol.exch → (s.m.volPos = 1 ∨ near = true) → s.m.running = false → s.m.tim.holding = false → s.m.tim.clk = 0 → s.m.vol.hopUp.isSome = true → ∃ t,
      exec (.volumeAlign near) s = .next t ∧ t = s.withEngine { s.m with vol := { s.m.vol with align := t.m.vol.align } } ∧
      ∃ a, t.m.vol.align = some a ∧ a.k = s.m.tim.beats ∧ a.theta = s.m.vol.offset ∧ a.set = false ∧ a.ring = false ∧ a.c < 1024) ∧
    (∀ (near : Bool) (s : State), s.m.isMember = false ∨ s.m.vol.st ≠ .formed ∨ s.m.vol.exch < 256 ∨ s.m.running = true ∨ s.m.tim.holding = true ∨ s.m.tim.clk ≠ 0 →
      exec (.volumeAlign near) s = .next s) ∧
    (∀ s : State, s.awake → s.m.isPrincipal = true → s.m.vol.st = .formed → s.m.running = false → ∃ t, exec .volRingcal s = .next t ∧
      t = s.withEngine { s.m with vol := { s.m.vol with rcal := some (s.m.volBeat + 64).toNat, ring := [] }, spn := t.m.spn }) ∧
    (∀ s : State, s.m.isPrincipal = false ∨ s.m.vol.st ≠ .formed ∨ s.m.running = true → exec .volRingcal s = .next s) ∧
    (∀ (b : Nat) (s : State), s.awake → s.m.vol.rcal = some b → (b : Int) + 4096 ≤ s.m.volBeat → s.m.isPrincipal = true → s.m.vol.ring ≠ [] → ∃ t,
      exec .ringCalAlign s = .next t ∧ t = s.withEngine { s.m with vol := { s.m.vol with rcal := none, closure := BitVec.ofInt 32 (meanOf s.m.vol.ring) }, flt := t.m.flt, ctl := t.m.ctl, spn := t.m.spn }) ∧
    (∀ (b : Nat) (s : State), s.awake → s.m.vol.rcal = some b → (b : Int) + 4096 ≤ s.m.volBeat → s.m.isMember = true → s.m.vol.ring ≠ [] →
      s.m.vol.align = none → s.m.running = false → s.m.vol.hopUp.isSome = true → ∃ t, exec .ringCalAlign s = .next t ∧
      t = s.withEngine { s.m with vol := { s.m.vol with rcal := none, align := t.m.vol.align } } ∧
      ∃ a, t.m.vol.align = some a ∧ a.k = s.m.tim.beats ∧ a.theta = meanOf s.m.vol.ring ∧ a.set = false ∧ a.ring = true) ∧
    (∀ s : State, s.m.vol.rcal = none ∨ (∃ b, s.m.vol.rcal = some b ∧ s.m.volBeat < (b : Int) + 4096) → exec .ringCalAlign s = .next s) ∧
    (∀ (r : VolArm) (s : State), s.awake → s.m.vol.arm = some r → s.m.isPrincipal = true → (r.k : Int) + s.m.vol.beatOfs + fld (s.m.pval 0x2903) 0 16 ≤ s.m.volBeat →
      ∃ t, exec .armWaitExpiry s = .next t ∧ t = s.withEngine t.m ∧ t.m.vol.arm = none ∧ t.m.par = s.m.par ∧ t.m.mem = s.m.mem ∧
        (bitOf (s.m.pval 0x2900) 1 = false → t.m.vol.armSt = 3 ∧ t.m.vol.goBeat = s.m.vol.goBeat ∧ t.m.qre.armCause = 6) ∧
        (bitOf (s.m.pval 0x2900) 1 = true → t.m.vol.armSt = 2 ∧ ∃ left, t.m.vol.goBeat = some (BitVec.ofInt 32 (s.m.volBeat + 32), r.qid, left))) ∧
    (∀ s : State, s.m.vol.arm = none ∨ s.m.isPrincipal = false → exec .armWaitExpiry s = .next s) ∧
    (∀ (a qid : Word) (left : BitVec 8) (s : State), s.awake → s.m.vol.goBeat = some (a, qid, left) →
      (BitVec.ofInt 32 s.m.volBeat ≠ a → exec .volumeArm s = .next s) ∧
      (BitVec.ofInt 32 s.m.volBeat = a → left.getLsbD s.m.volPos = true → exec .volumeArm s =
        .next (s.withEngine { s.m with vol := { s.m.vol with goBeat := none } })) ∧
      (BitVec.ofInt 32 s.m.volBeat = a → left.getLsbD s.m.volPos = false → s.m.running = false → s.m.armShed s.m.quireCfg = false → s.m.armFault { s.m.quireCfg with volume := true } = 0 → ∃ t,
        exec .volumeArm s = .next t ∧ t = s.withEngine t.m ∧ t.m.qre.st = .running ∧ t.m.qre.qid = qid ∧ t.m.qre.cfg.volume = true ∧ t.m.vol.goBeat = none ∧ t.m.mem = s.m.mem) ∧
      (BitVec.ofInt 32 s.m.volBeat = a → left.getLsbD s.m.volPos = false → (s.m.running = true ∨ s.m.armShed s.m.quireCfg = true) → ∃ t,
        exec .volumeArm s = .next t ∧ t = s.withEngine t.m ∧ t.m.qre.st = s.m.qre.st ∧ t.m.qre.qid = s.m.qre.qid ∧ t.m.vol.goBeat = none ∧ t.m.mem = s.m.mem)) ∧
    (∀ s : State, s.m.vol.goBeat = none → exec .volumeArm s = .next s) ∧
    (∀ (b : Word) (s : State), s.awake → s.m.vol.stopBeat = some b →
      (BitVec.ofInt 32 s.m.volBeat ≠ b → exec .volumeStop s = .next s) ∧
      (BitVec.ofInt 32 s.m.volBeat = b → s.m.running = true → s.m.qre.cfg.volume = true → s.m.qre.cur = none → ∃ t, exec .volumeStop s = .next t ∧
        t = s.withEngine t.m ∧ t.m.running = false ∧ t.m.qre.closeCause = 8 ∧ t.m.vol.stopBeat = none ∧ t.m.par = s.m.par)) ∧
    (∀ s : State, s.m.vol.stopBeat = none → exec .volumeStop s = .next s) ∧
    (∀ (r : Fin 3) (v : Word) (s : State), s.awake → s.m.running = false → valueOk (0x2900 + r.val) v = true → s.m.dec.waiting = false →
      swf resetOf s.m.par.landed = true → ∃ t, exec (.volConfigWrite r v) s = .next t ∧ t = s.withEngine t.m ∧ t.m.pval (0x2900 + r.val) = v ∧
      (∀ a, a ≠ 0x2900 + r.val → t.m.pval a = s.m.pval a) ∧
      ((if r = 0 then bitOf (s.m.pval 0x2900) 0 ≠ bitOf v 0 else s.m.pval (0x2900 + r.val) ≠ v) →
        t.m.vol.everAligned = false ∧ t.m.vol.align = none ∧ t.m.vol.east = false ∧ t.m.vol.west = false)) ∧
    (∀ (r : Fin 3) (v : Word) (s : State), s.m.volRefused [(0x2900 + r.val, v)] = true → exec (.volConfigWrite r v) s = .next s))

/-- R745, R746, R749, R752, R753, R755, R756: an event with room in the log is recorded once, using a token, and raises its class;
without room its record is dropped and counted and its class raised all the same; a waiting record is written to its ring
entry and nowhere else; a token is added up to 2,000; FLT.TEST raises the classes named; a W1C clears the bits that no later
raise set. -/
def Obligations.EventsAreRecordedAndRaised : Prop :=
  (∀ (m : Mach) (plane : Plane) (code a b : Nat) (origin : Option Master) (c : Fin 11), m.flt.sinceDrop = 0 →
    let e := m.logEvent plane code a b origin (some c.val)
    (m.logFree = true → e.flt.queue.length = m.flt.queue.length + 1 ∧ e.flt.tokens = m.flt.tokens - 1 ∧ e.flt.dropped = m.flt.dropped ∧
      e.flt.alert = m.flt.alert ||| ((1 : BitVec 11) <<< c.val) ∧ e.flt.count[c] = m.flt.count[c] + 1) ∧
    (m.logFree = false → e.flt.queue = m.flt.queue ∧ e.flt.dropped = m.flt.dropped + 1 ∧ e.flt.alert.getLsbD c.val = true ∧ e.flt.alert.getLsbD 10 = true) ∧
    e = { m with flt := e.flt, ctl := e.ctl, spn := e.spn }) ∧
  (∀ (r : LogRec) (rest : List LogRec) (s : State), s.awake → s.m.flt.found = true → s.m.flt.queue = r :: rest → ∃ t,
    exec .logRecordWrite s = .next t ∧ t = s.withEngine { s.m with mem := t.m.mem, flt := t.m.flt, ctl := t.m.ctl, spn := t.m.spn } ∧
    t.m.flt.written = r.num ∧ (s.m.flt.sinceDrop = 0 → t.m.flt.queue = rest) ∧ t.m.mem = writeBytes s.m.mem (logAddr (logEntry r.num)) r.bytes ∧
    (∀ a, (a < logAddr (logEntry r.num) ∨ logAddr (logEntry r.num) + 32 ≤ a) → readByte t.m.mem a = readByte s.m.mem a)) ∧
  (∀ s : State, s.m.flt.found = false ∨ s.m.flt.queue = [] → exec .logRecordWrite s = .next s) ∧
  (∀ s : State, s.awake → s.m.flt.sinceDrop = 0 → exec .logToken s =
    .next (s.withEngine { s.m with flt := { s.m.flt with tokens := min (s.m.flt.tokens + 1) 2000 } })) ∧
  (∀ (k : Master) (v : BitVec 11) (s : State), s.awake → s.m.flt.sinceDrop = 0 → s.m.logFree = true → ∃ t, exec (.fltTest k v) s = .next t ∧
    t = s.withEngine { s.m with flt := t.m.flt, ctl := t.m.ctl, spn := t.m.spn } ∧ t.m.flt.alert = s.m.flt.alert ||| v ∧
    t.m.flt.queue.length = s.m.flt.queue.length + 1) ∧
  (∀ s : State, s.awake → ∃ t, exec .logToken s = .next t ∧ t = s.withEngine { s.m with flt := t.m.flt, ctl := t.m.ctl, spn := t.m.spn } ∧
    t.m.flt.alert = s.m.flt.alert ∧ t.m.flt.dropped = s.m.flt.dropped) ∧
  (∀ (k : Master) (v : BitVec 11) (s : State), s.awake → ∃ t, exec (.fltTest k v) s = .next t ∧
    t = s.withEngine { s.m with flt := t.m.flt, ctl := t.m.ctl, spn := t.m.spn } ∧ ∀ n : Nat, v.getLsbD n = true → t.m.flt.alert.getLsbD n = true) ∧
  (∀ (v raised : BitVec 11) (s : State), s.awake → exec (.alertClear v raised) s =
    .next (s.withEngine { s.m with flt := { s.m.flt with alert := s.m.flt.alert &&& ~~~(v &&& ~~~raised) } }))

/-- R214, R215, R224, R225, R226, R227, R228, R245: a Vault operation that a check refuses says so with its cause, one that passes
starts; its end activates the bank written, or none of the section erased, or stores the export; a bad readback or an
uncorrectable source fails it with cause 12 or 14; a scrub starts when due or asked for and is counted at its end; powered
seconds count up and are saved each 3,600. -/
def Obligations.VaultOperationsStartAndEnd : Prop :=
  (∀ (kind : Fin 16) (slot : Fin 32) (s : State), s.awake →
    (s.m.programFault ≠ 0 → s.m.vlt.op = none → exec (.vaultProgram kind slot) s =
      .next (s.withEngine { s.m with vlt := { s.m.vlt with
        st := 3, lastOp := 1, cause := BitVec.ofNat 8 s.m.programFault
        len := if s.m.programFault ∈ [4, 9, 10] then w32 (readNat s.m.mem (s.m.vaultSrc + 24) 4) else s.m.vlt.len } })) ∧
    (s.m.programFault = 0 → ∃ t, exec (.vaultProgram kind slot) s = .next t ∧ t = s.withEngine { s.m with vlt := { s.m.vlt with st := 1, lastOp := 1, cause := 0, op := t.m.vlt.op }, store := t.m.store } ∧
      ∃ sec, t.m.vlt.op = some (.program sec (readBytes s.m.mem s.m.vaultSrc (imgNum (readBytes s.m.mem s.m.vaultSrc 64) 24 4))))) ∧
  (∀ (kind : Fin 16) (slot : Fin 32) (s : State), s.awake → s.m.vlt.op = none →
    let v (st : BitVec 2) (cause : BitVec 8) (o : Option VaultOp) : State := s.withEngine { s.m with vlt := { s.m.vlt with st := st, lastOp := 2, cause := cause, op := o } }
    (secOf kind.val slot.val = none → exec (.vaultErase kind slot) s = .next (v 3 7 none)) ∧
    (∀ sec, secOf kind.val slot.val = some sec → s.m.slotBusy sec = true → exec (.vaultErase kind slot) s = .next (v 3 10 none)) ∧
    (∀ sec, secOf kind.val slot.val = some sec → s.m.slotBusy sec = false → exec (.vaultErase kind slot) s = .next (v 1 0 (some (.erase sec))))) ∧
  (∀ s : State, s.awake → s.m.vlt.op = none →
    (s.m.ddrUp = false → exec .vaultExport s = .next (s.withEngine { s.m with vlt := { s.m.vlt with st := 3, lastOp := 3, cause := 2 } })) ∧
    (s.m.ddrUp = true → s.m.inDdr s.m.vaultDst exportLen = false → exec .vaultExport s = .next (s.withEngine { s.m with vlt := { s.m.vlt with st := 3, lastOp := 3, cause := 1 } })) ∧
    (s.m.ddrUp = true → s.m.inDdr s.m.vaultDst exportLen = true → exec .vaultExport s =
      .next (s.withEngine { s.m with vlt := { s.m.vlt with st := 1, lastOp := 3, cause := 0, op := some (.exporting s.m.vaultDst s.m.exportBytes) } }))) ∧
  (∀ s : State, s.awake → s.m.vlt.op.isSome = true → ∀ kind slot,
    let busy : State := s.withEngine { s.m with vlt := { s.m.vlt with cause := 11 } }
    exec (.vaultProgram kind slot) s = .next busy ∧ exec (.vaultErase kind slot) s = .next busy ∧ exec .vaultExport s = .next busy) ∧
  (∀ (e : VaultEnd) (bad : List Nat) (s : State), s.m.vlt.op = none → exec (.vaultOpDone ⟨e, bad⟩) s = .next s) ∧
  (∀ (sec : Fin 34) (bytes : List Byte) (s : State), s.awake → s.m.vlt.op = some (.program sec.val bytes) → bytes.length ≤ bankSize sec.val →
    let b : Bool := s.m.vlt.nv.active sec.val == some false
    ∃ t, exec (.vaultOpDone ⟨.good, []⟩) s = .next t ∧ t = s.withEngine { s.m with vlt := t.m.vlt, mem := t.m.mem } ∧ t.m.vlt.st = 2 ∧ t.m.vlt.cause = 0 ∧
      t.m.vlt.op = none ∧ t.m.vlt.nv.active sec.val = some b ∧ (∀ a, (a < vaultBase + bankOffset sec.val b ∨ vaultBase + bankOffset sec.val b + bankSize sec.val ≤ a) →
        readByte t.m.mem a = readByte s.m.mem a)) ∧
  (∀ (sec : Fin 34) (bytes : List Byte) (bad : List Nat) (s : State), s.awake → s.m.vlt.op = some (.program sec.val bytes) →
    exec (.vaultOpDone ⟨.uncorrectable, bad⟩) s =
      .next (s.withEngine { s.m with vlt := { s.m.vlt with op := none, st := 3, cause := 14, len := w32 bytes.length } }) ∧
    ∃ t, exec (.vaultOpDone ⟨.readback, bad⟩) s = .next t ∧ t = s.withEngine t.m ∧ t.m.vlt.st = 3 ∧ t.m.vlt.cause = 12 ∧ t.m.vlt.op = none ∧
      t.m.vlt.nv.active sec.val = s.m.vlt.nv.active sec.val) ∧
  (∀ (sec : Fin 34) (e : VaultEnd) (bad : List Nat) (s : State), s.awake → s.m.vlt.op = some (.erase sec.val) → ∃ t, exec (.vaultOpDone ⟨e, bad⟩) s = .next t ∧
    t = s.withEngine { s.m with vlt := t.m.vlt } ∧ t.m.vlt.st = 2 ∧ t.m.vlt.op = none ∧ t.m.vlt.nv.active sec.val = none) ∧
  (∀ (dst : Nat) (bytes : List Byte) (s : State), s.awake → s.m.vlt.op = some (.exporting dst bytes) → exec (.vaultOpDone ⟨.uncorrectable, []⟩) s =
      .next (s.withEngine { s.m with vlt := { s.m.vlt with op := none, st := 3, cause := 14, len := w32 bytes.length } }) ∧
    ∃ t, exec (.vaultOpDone ⟨.good, []⟩) s = .next t ∧
    t = s.withEngine { s.m with vlt := t.m.vlt, mem := writeBytes s.m.mem dst bytes, store := t.m.store } ∧ t.m.vlt.st = 2 ∧ t.m.vlt.op = none) ∧
  (∀ s : State, s.awake → s.m.vlt.scrubbing = false →
    (s.m.vlt.nv.scrubEnd + 2592000 ≤ s.m.vlt.powered → exec .vaultScrubStart s = .next (s.withEngine { s.m with vlt := { s.m.vlt with scrubbing := true } })) ∧
    (s.m.vlt.powered < s.m.vlt.nv.scrubEnd + 2592000 → exec .vaultScrubStart s = .next s) ∧
    (∀ corrected bad, exec (.vaultScrub corrected bad) s = .next s)) ∧
  (∀ s : State, s.awake → exec .vltScrubnow s = .next (s.withEngine { s.m with vlt := { s.m.vlt with scrubbing := true } })) ∧
  (∀ (corrected : Nat) (bad : List Nat) (s : State), s.awake → s.m.vlt.scrubbing = true → ∃ t, exec (.vaultScrub corrected bad) s = .next t ∧
    t = s.withEngine { s.m with vlt := t.m.vlt, cal := t.m.cal, flt := t.m.flt, ctl := t.m.ctl, spn := t.m.spn } ∧ t.m.vlt.scrubbing = false ∧
    t.m.vlt.nv.scrubs = s.m.vlt.nv.scrubs + 1 ∧ t.m.vlt.nv.scrubEnd = s.m.vlt.powered ∧ t.m.vlt.eccUnc = s.m.vlt.eccUnc + BitVec.ofNat 16 bad.length) ∧
  (∀ s : State, s.awake → ∃ t, exec .poweredSecond s = .next t ∧ t = s.withEngine { s.m with vlt := { s.m.vlt with powered := s.m.vlt.powered + 1, nv := t.m.vlt.nv } } ∧
    t.m.vlt.nv = if (s.m.vlt.powered + 1) % 3600 = 0 then { s.m.vlt.nv with powered := s.m.vlt.powered + 1 } else s.m.vlt.nv)

/-- R4, R88: bit 0 of a word is its least significant bit and the field [lo + n - 1 : lo] holds both its end bits and those
between; word i of a 96-bit value holds its bits [32 i + 31 : 32 i]. -/
def Obligations.WordsHoldTheirFields : Prop :=
  (∀ (w : Word) (lo n i : Nat), (fld w lo n).testBit i = (decide (i < n) && bitOf w (lo + i))) ∧
  (∀ w : Word, bitOf w 0 = decide (w.toNat % 2 = 1)) ∧
  (∀ (t : BitVec 96) (i j : Nat), i < 3 → j < 32 → (word96 t i).getLsbD j = t.getLsbD (32 * i + j))
end

