-- ==== Sys2Proof/Laws/Basics.lean ====
section
/-! SUPPORT. Laws/Basics.lean: vectors, sparse maps and engine memory: what a read after a write gives, and that every memory
operation keeps the canonical form. -/

namespace Sys2Proof.Machine

/-! ### Vectors -/

theorem vget_eq {α : Type} [Inhabited α] {n : Nat} (v : Vector α n) (i : Fin n) : vget v i.val = v[i] := by
  simp [vget, List.getD]

theorem vget_lt {α : Type} [Inhabited α] {n : Nat} (v : Vector α n) (i : Nat) (h : i < n) : vget v i = v[i] := by
  simp [vget, List.getD, h]

@[simp] theorem vset_get {α : Type} {n : Nat} (v : Vector α n) (i : Nat) (a : α) (j : Fin n) :
    (vset v i a)[j] = if i = j.val then a else v[j] := by
  simp [vset, Vector.getElem_setIfInBounds]

theorem vmod_get {α : Type} [Inhabited α] {n : Nat} (v : Vector α n) (i : Nat) (f : α → α) (j : Fin n) :
    (vmod v i f)[j] = if i = j.val then f v[j] else v[j] := by
  unfold vmod
  rw [vset_get]
  split
  · next h => subst h; rw [vget_eq]
  · rfl

@[simp] theorem vmap_get {α β : Type} {n : Nat} (f : α → β) (v : Vector α n) (j : Fin n) : (vmap f v)[j] = f v[j] := by
  simp [vmap]

/-! ### Sparse maps -/

theorem swfFrom_weaken {α : Type} [DecidableEq α] (d : Nat → α) (m : List (Nat × α)) (lo hi : Nat) (h : lo ≤ hi)
    (w : swfFrom d hi m = true) : swfFrom d lo m = true := by
  cases m with
  | nil => rfl
  | cons e t =>
    obtain ⟨j, v⟩ := e
    simp only [swfFrom, Bool.and_eq_true, decide_eq_true_eq] at w ⊢
    exact ⟨⟨by omega, w.1.2⟩, w.2⟩

theorem sput_wfFrom {α : Type} [DecidableEq α] (d : Nat → α) (m : List (Nat × α)) (lo k : Nat) (v : α) (h : lo ≤ k)
    (w : swfFrom d lo m = true) : swfFrom d lo (sput d m k v) = true := by
  induction m generalizing lo with
  | nil =>
    unfold sput
    split
    · rfl
    · simp_all [swfFrom]
  | cons e t ih =>
    obtain ⟨j, x⟩ := e
    simp only [swfFrom, Bool.and_eq_true, decide_eq_true_eq] at w
    obtain ⟨⟨hj, hx⟩, ht⟩ := w
    unfold sput
    split
    · next hk =>
      split
      · simp [swfFrom, hj, hx, ht]
      · next hv => simp [swfFrom, h, hv, hx, ht]; omega
    · next hk =>
      split
      · next he =>
        subst he
        split
        · exact swfFrom_weaken d t lo (k + 1) (by omega) ht
        · next hv => simp [swfFrom, h, hv, ht]
      · next hne => simp [swfFrom, hj, hx, ih (j + 1) (by omega) ht]

/-- Writing one key keeps the canonical form. -/
theorem sput_wf {α : Type} [DecidableEq α] (d : Nat → α) (m : List (Nat × α)) (k : Nat) (v : α) (w : swf d m = true) :
    swf d (sput d m k v) = true := sput_wfFrom d m 0 k v (Nat.zero_le _) w

/-- Taking entries out keeps the canonical form. -/
theorem filter_wfFrom {α : Type} [DecidableEq α] (d : Nat → α) (p : Nat × α → Bool) (m : List (Nat × α)) (lo : Nat)
    (w : swfFrom d lo m = true) : swfFrom d lo (m.filter p) = true := by
  induction m generalizing lo with
  | nil => rfl
  | cons e t ih =>
    obtain ⟨j, x⟩ := e
    simp only [swfFrom, Bool.and_eq_true, decide_eq_true_eq] at w
    obtain ⟨⟨hj, hx⟩, ht⟩ := w
    rw [List.filter_cons]
    split
    · simp [swfFrom, hj, hx, ih (j + 1) ht]
    · exact swfFrom_weaken d _ lo (j + 1) (by omega) (ih (j + 1) ht)

/-- A key absent below the first reads as its default. -/
theorem sget_below {α : Type} [DecidableEq α] (d : Nat → α) (m : List (Nat × α)) (lo k : Nat) (h : k < lo)
    (w : swfFrom d lo m = true) : sget d m k = d k := by
  induction m generalizing lo with
  | nil => rfl
  | cons e t ih =>
    obtain ⟨j, x⟩ := e
    simp only [swfFrom, Bool.and_eq_true, decide_eq_true_eq] at w
    have hj : lo ≤ j := w.1.1
    have hk : k ≠ j := by omega
    simp only [sget, if_neg hk]
    exact ih (j + 1) (by omega) w.2

theorem sget_sputFrom {α : Type} [DecidableEq α] (d : Nat → α) (m : List (Nat × α)) (lo k i : Nat) (v : α)
    (w : swfFrom d lo m = true) : sget d (sput d m k v) i = if i = k then v else sget d m i := by
  induction m generalizing lo with
  | nil =>
    unfold sput
    split
    · next hv =>
      split
      · next hi => subst hi; simp [sget, hv]
      · rfl
    · simp [sget]
  | cons e t ih =>
    obtain ⟨j, x⟩ := e
    simp only [swfFrom, Bool.and_eq_true, decide_eq_true_eq] at w
    obtain ⟨⟨hj, hx⟩, ht⟩ := w
    unfold sput
    split
    · next hk =>
      split
      · next hv =>
        split
        · next hi =>
          subst hi
          have hne : i ≠ j := by omega
          simp only [sget, if_neg hne, hv]
          exact sget_below d t (j + 1) i (by omega) ht
        · rfl
      · simp [sget]
    · next hk =>
      split
      · next he =>
        subst he
        split
        · next hv =>
          split
          · next hi => subst hi; rw [hv]; exact sget_below d t (i + 1) i (by omega) ht
          · next hi => simp only [sget, if_neg hi]
        · next hv =>
          by_cases hi : i = k
          · simp [sget, hi]
          · simp [sget, hi]
      · next hne =>
        by_cases hi : i = j
        · subst hi
          have : i ≠ k := fun h => hne h.symm
          simp [sget, this]
        · simp only [sget, if_neg hi]
          exact ih (j + 1) ht

/-- A read after a write gives the value written at its key and what it gave before at every other. -/
theorem sget_sput {α : Type} [DecidableEq α] (d : Nat → α) (m : List (Nat × α)) (k i : Nat) (v : α) (w : swf d m = true) :
    sget d (sput d m k v) i = if i = k then v else sget d m i := sget_sputFrom d m 0 k i v w

/-- A key other than the one put reads as before, in any list. -/
theorem sget_sput_ne {α : Type} [DecidableEq α] (d : Nat → α) (m : List (Nat × α)) (k i : Nat) (v : α) (h : i ≠ k) :
    sget d (sput d m k v) i = sget d m i := by
  induction m with
  | nil => unfold sput; split <;> simp [sget, h]
  | cons e t ih =>
    obtain ⟨j, w⟩ := e
    unfold sput
    split
    · split <;> simp [sget, h]
    · split
      · next hk => subst hk; split <;> simp [sget, h]
      · simp only [sget, ih]

/-- A key that a filter on keys keeps reads as before, one that it takes out reads as its default. -/
theorem sget_filter {α : Type} (d : Nat → α) (p : Nat → Bool) (m : List (Nat × α)) (k : Nat) :
    sget d (m.filter fun e => p e.1) k = if p k then sget d m k else d k := by
  induction m with
  | nil => simp [sget]
  | cons e t ih =>
    obtain ⟨j, x⟩ := e
    rw [List.filter_cons]
    by_cases hk : k = j
    · subst hk
      by_cases hp : p k
      · simp [sget, hp]
      · simp [hp, ih]
    · by_cases hp : p j
      · simp only [hp, if_true, sget, if_neg hk, ih]
      · simp only [hp, Bool.false_eq_true, if_false, sget, if_neg hk, ih]

/-! ### Engine memory -/

/-- Writing one byte keeps the canonical form. -/
theorem writeByte_wf (mem : List Host.Cell) (a : Nat) (b : Byte) (w : Memory.wf mem = true) : Memory.wf (writeByte mem a b) = true :=
  sput_wf memDefault mem a b w

/-- Writing bytes keeps the canonical form. -/
theorem writeBytes_wf (mem : List Host.Cell) (a : Nat) (bs : List Byte) (w : Memory.wf mem = true) :
    Memory.wf (writeBytes mem a bs) = true := by
  induction bs generalizing mem a with
  | nil => exact w
  | cons b t ih => exact ih _ _ (writeByte_wf mem a b w)

/-- Taking cells out keeps the canonical form. -/
theorem filter_wf (mem : List Host.Cell) (p : Host.Cell → Bool) (w : Memory.wf mem = true) : Memory.wf (mem.filter p) = true :=
  filter_wfFrom memDefault p mem 0 w

/-- Clearing bytes keeps the canonical form. -/
theorem clearBytes_wf (mem : List Host.Cell) (a n : Nat) (w : Memory.wf mem = true) : Memory.wf (clearBytes mem a n) = true :=
  filter_wf mem _ w

/-- What one written byte changes: that byte alone. -/
theorem readByte_writeByte (mem : List Host.Cell) (a i : Nat) (b : Byte) (w : Memory.wf mem = true) :
    readByte (writeByte mem a b) i = if i = a then b else readByte mem i := sget_sput memDefault mem a i b w

/-- What written bytes change: nothing outside them. -/
theorem readByte_writeBytes_outside (mem : List Host.Cell) (a i : Nat) (bs : List Byte) (w : Memory.wf mem = true)
    (h : i < a ∨ a + bs.length ≤ i) : readByte (writeBytes mem a bs) i = readByte mem i := by
  induction bs generalizing mem a with
  | nil => rfl
  | cons b t ih =>
    simp only [List.length_cons] at h
    rw [writeBytes, ih _ _ (writeByte_wf mem a b w) (by omega), readByte_writeByte mem a i b w, if_neg (by omega)]

/-- A byte that was written reads as written. -/
theorem readByte_writeBytes_inside (mem : List Host.Cell) (a i : Nat) (bs : List Byte) (w : Memory.wf mem = true)
    (h : i < bs.length) : readByte (writeBytes mem a bs) (a + i) = bs[i] := by
  induction bs generalizing mem a i with
  | nil => simp at h
  | cons b t ih =>
    rw [writeBytes]
    cases i with
    | zero =>
      rw [readByte_writeBytes_outside _ _ _ _ (writeByte_wf mem a b w) (by omega), readByte_writeByte mem a _ b w]
      simp
    | succ i =>
      have hi : i < t.length := by simpa using h
      have := ih (writeByte mem a b) (a + 1) i (writeByte_wf mem a b w) hi
      rw [show a + (i + 1) = a + 1 + i by omega, this]
      simp

/-- A cleared byte reads as its default, every other as before. -/
theorem readByte_clearBytes (mem : List Host.Cell) (a n i : Nat) :
    readByte (clearBytes mem a n) i = if a ≤ i ∧ i < a + n then memDefault i else readByte mem i := by
  unfold readByte clearBytes
  rw [sget_filter memDefault (fun k => !(decide (a ≤ k) && decide (k < a + n))) mem i]
  by_cases h : a ≤ i ∧ i < a + n
  · simp [h.1, h.2]
  · rw [if_neg h, if_pos]
    simp only [Bool.not_eq_true', Bool.and_eq_false_iff, decide_eq_false_iff_not]
    omega

/-- A byte other than the one written reads as before, in any memory. -/
theorem readByte_writeByte_ne (mem : List Host.Cell) (a i : Nat) (b : Byte) (h : i ≠ a) :
    readByte (writeByte mem a b) i = readByte mem i := sget_sput_ne memDefault mem a i b h

/-- Bytes outside those written read as before, in any memory. -/
theorem readByte_writeBytes_other (mem : List Host.Cell) (a i : Nat) (bs : List Byte) (h : i < a ∨ a + bs.length ≤ i) :
    readByte (writeBytes mem a bs) i = readByte mem i := by
  induction bs generalizing mem a with
  | nil => rfl
  | cons b t ih =>
    simp only [List.length_cons] at h
    show readByte (writeBytes (writeByte mem a b) (a + 1) t) i = _
    rw [ih (writeByte mem a b) (a + 1) (by omega), readByte_writeByte_ne mem a i b (by omega)]

/-- What keeps the canonical form at every step of a fold keeps it. -/
theorem foldl_wf {α : Type} (f : List Host.Cell → α → List Host.Cell)
    (h : ∀ mem x, Memory.wf mem = true → Memory.wf (f mem x) = true) (l : List α) (mem : List Host.Cell)
    (w : Memory.wf mem = true) : Memory.wf (l.foldl f mem) = true := by
  induction l generalizing mem with
  | nil => exact w
  | cons a t ih => exact ih _ (h _ _ w)

/-- A histogram cell's count keeps the canonical form. -/
theorem cellInc_wf (mem : List Host.Cell) (c r : Nat) (w : Memory.wf mem = true) : Memory.wf (cellInc mem c r) = true := by
  exact writeBytes_wf _ _ _ w

/-- A folio added into the histogram keeps the canonical form. -/
theorem histAdd_wf (slot : List Byte) (h : Nat × Nat × Nat × Int × Nat) (mem : List Host.Cell) (w : Memory.wf mem = true) :
    Memory.wf (histAdd slot h mem) = true := by
  unfold histAdd
  refine foldl_wf _ (fun mem j w => ?_) _ _ w
  split
  · refine foldl_wf _ (fun mem i w => ?_) _ _ w
    split
    · exact foldl_wf _ (fun mem r w => cellInc_wf mem _ r w) _ _ w
    · exact w
  · exact w

/-- Bin updates keep the canonical form. -/
theorem binSteps_wf (p : Nat) (g : Page) (slot : List Byte) (count : Nat) (mem : List Host.Cell) (w : Memory.wf mem = true) :
    Memory.wf (binSteps p g slot count mem) = true :=
  foldl_wf _ (fun _ _ w => writeBytes_wf _ _ _ w) _ _ w

/-- Reset memory is in canonical form. -/
theorem reset_mem_wf : Memory.wf State.reset.m.mem = true := rfl

/-! ### Parameters -/

/-- A stored parameter reads as it was written; every other keeps its value. -/
theorem pval_pset (m : Mach) (a b : Nat) (v : Word) (w : swf resetOf m.par.landed = true) :
    (m.pset a v).pval b = if b = a then v else m.pval b := sget_sput resetOf m.par.landed a b v w

/-! ### The outcome of a command -/

theorem run_awake (s : State) (f : Mach → Mach) (h : s.m.boot.inReset = false) : s.run f = .next { s with m := f s.m } := by
  simp [State.run, h]

theorem run_inReset (s : State) (f : Mach → Mach) (h : s.m.boot.inReset = true) : s.run f = .next s := by
  simp [State.run, h]

end Sys2Proof.Machine
end

