-- ==== Sys2Proof/Laws/State.lean ====
section
/-! SUPPORT. Laws/State.lean: the plain updates of the engine's state, field by field, each true by definition. -/

namespace Sys2Proof.Machine

@[simp] theorem Mach.poke_keeps (m : Mach) (a : Nat) (bs : List Byte) :
    (m.poke a bs).ctl = m.ctl ∧ (m.poke a bs).par = m.par ∧ (m.poke a bs).tim = m.tim ∧ (m.poke a bs).pwr = m.pwr ∧
    (m.poke a bs).boot = m.boot ∧ (m.poke a bs).vlt = m.vlt ∧ (m.poke a bs).ins = m.ins ∧ (m.poke a bs).flt = m.flt ∧
    (m.poke a bs).hall = m.hall ∧ (m.poke a bs).fe = m.fe ∧ (m.poke a bs).trm = m.trm ∧ (m.poke a bs).mnt = m.mnt ∧
    (m.poke a bs).trg = m.trg ∧ (m.poke a bs).dec = m.dec ∧ (m.poke a bs).qre = m.qre ∧ (m.poke a bs).store = m.store ∧
    (m.poke a bs).ldg = m.ldg ∧ (m.poke a bs).tels = m.tels ∧ (m.poke a bs).spn = m.spn ∧ (m.poke a bs).dsp = m.dsp ∧
    (m.poke a bs).asy = m.asy ∧ (m.poke a bs).iso = m.iso ∧ (m.poke a bs).cal = m.cal ∧ (m.poke a bs).vol = m.vol :=
    ⟨rfl, rfl, rfl, rfl, rfl, rfl, rfl, rfl, rfl, rfl, rfl, rfl, rfl, rfl, rfl, rfl, rfl, rfl, rfl, rfl, rfl, rfl, rfl, rfl⟩

@[simp] theorem Mach.poke_mem (m : Mach) (a : Nat) (bs : List Byte) :
    (m.poke a bs).mem = writeBytes m.mem a bs := rfl

@[simp] theorem Mach.pset_keeps (m : Mach) (a : Nat) (v : Word) :
    (m.pset a v).ctl = m.ctl ∧ (m.pset a v).tim = m.tim ∧ (m.pset a v).pwr = m.pwr ∧ (m.pset a v).boot = m.boot ∧
    (m.pset a v).vlt = m.vlt ∧ (m.pset a v).ins = m.ins ∧ (m.pset a v).flt = m.flt ∧ (m.pset a v).hall = m.hall ∧
    (m.pset a v).fe = m.fe ∧ (m.pset a v).trm = m.trm ∧ (m.pset a v).mnt = m.mnt ∧ (m.pset a v).trg = m.trg ∧
    (m.pset a v).dec = m.dec ∧ (m.pset a v).qre = m.qre ∧ (m.pset a v).store = m.store ∧ (m.pset a v).ldg = m.ldg ∧
    (m.pset a v).tels = m.tels ∧ (m.pset a v).spn = m.spn ∧ (m.pset a v).dsp = m.dsp ∧ (m.pset a v).asy = m.asy ∧
    (m.pset a v).iso = m.iso ∧ (m.pset a v).cal = m.cal ∧ (m.pset a v).vol = m.vol ∧ (m.pset a v).mem = m.mem :=
    ⟨rfl, rfl, rfl, rfl, rfl, rfl, rfl, rfl, rfl, rfl, rfl, rfl, rfl, rfl, rfl, rfl, rfl, rfl, rfl, rfl, rfl, rfl, rfl, rfl⟩

@[simp] theorem Mach.pset_par (m : Mach) (a : Nat) (v : Word) :
    (m.pset a v).par = { m.par with landed := sput resetOf m.par.landed a v } := rfl

@[simp] theorem Mach.unpin_keeps (m : Mach) (a : Nat) :
    (m.unpin a).ctl = m.ctl ∧ (m.unpin a).tim = m.tim ∧ (m.unpin a).pwr = m.pwr ∧ (m.unpin a).boot = m.boot ∧
    (m.unpin a).vlt = m.vlt ∧ (m.unpin a).ins = m.ins ∧ (m.unpin a).flt = m.flt ∧ (m.unpin a).hall = m.hall ∧
    (m.unpin a).fe = m.fe ∧ (m.unpin a).trm = m.trm ∧ (m.unpin a).mnt = m.mnt ∧ (m.unpin a).trg = m.trg ∧
    (m.unpin a).dec = m.dec ∧ (m.unpin a).qre = m.qre ∧ (m.unpin a).store = m.store ∧ (m.unpin a).ldg = m.ldg ∧
    (m.unpin a).tels = m.tels ∧ (m.unpin a).spn = m.spn ∧ (m.unpin a).dsp = m.dsp ∧ (m.unpin a).asy = m.asy ∧
    (m.unpin a).iso = m.iso ∧ (m.unpin a).cal = m.cal ∧ (m.unpin a).vol = m.vol ∧ (m.unpin a).mem = m.mem :=
    ⟨rfl, rfl, rfl, rfl, rfl, rfl, rfl, rfl, rfl, rfl, rfl, rfl, rfl, rfl, rfl, rfl, rfl, rfl, rfl, rfl, rfl, rfl, rfl, rfl⟩

@[simp] theorem Mach.unpin_par (m : Mach) (a : Nat) :
    (m.unpin a).par = { m.par with pins := m.par.pins.filter (· != a) } := rfl

@[simp] theorem Mach.note_keeps (m : Mach) (mask : BitVec 16) :
    (m.note mask).ctl = m.ctl ∧ (m.note mask).par = m.par ∧ (m.note mask).tim = m.tim ∧ (m.note mask).pwr = m.pwr ∧
    (m.note mask).boot = m.boot ∧ (m.note mask).vlt = m.vlt ∧ (m.note mask).ins = m.ins ∧ (m.note mask).flt = m.flt ∧
    (m.note mask).fe = m.fe ∧ (m.note mask).trm = m.trm ∧ (m.note mask).mnt = m.mnt ∧ (m.note mask).trg = m.trg ∧
    (m.note mask).dec = m.dec ∧ (m.note mask).qre = m.qre ∧ (m.note mask).store = m.store ∧ (m.note mask).ldg = m.ldg ∧
    (m.note mask).tels = m.tels ∧ (m.note mask).spn = m.spn ∧ (m.note mask).dsp = m.dsp ∧ (m.note mask).asy = m.asy ∧
    (m.note mask).iso = m.iso ∧ (m.note mask).cal = m.cal ∧ (m.note mask).vol = m.vol ∧ (m.note mask).mem = m.mem :=
    ⟨rfl, rfl, rfl, rfl, rfl, rfl, rfl, rfl, rfl, rfl, rfl, rfl, rfl, rfl, rfl, rfl, rfl, rfl, rfl, rfl, rfl, rfl, rfl, rfl⟩

@[simp] theorem Mach.note_hall (m : Mach) (mask : BitVec 16) :
    (m.note mask).hall = { m.hall with seen := m.hall.seen ||| mask } := rfl

@[simp] theorem Mach.touchDdr_keeps (m : Mach) (a n : Nat) :
    (m.touchDdr a n).ctl = m.ctl ∧ (m.touchDdr a n).par = m.par ∧ (m.touchDdr a n).tim = m.tim ∧ (m.touchDdr a n).pwr = m.pwr ∧
    (m.touchDdr a n).boot = m.boot ∧ (m.touchDdr a n).vlt = m.vlt ∧ (m.touchDdr a n).ins = m.ins ∧
    (m.touchDdr a n).flt = m.flt ∧ (m.touchDdr a n).hall = m.hall ∧ (m.touchDdr a n).fe = m.fe ∧ (m.touchDdr a n).trm = m.trm ∧
    (m.touchDdr a n).mnt = m.mnt ∧ (m.touchDdr a n).trg = m.trg ∧ (m.touchDdr a n).dec = m.dec ∧ (m.touchDdr a n).qre = m.qre ∧
    (m.touchDdr a n).ldg = m.ldg ∧ (m.touchDdr a n).tels = m.tels ∧ (m.touchDdr a n).spn = m.spn ∧
    (m.touchDdr a n).dsp = m.dsp ∧ (m.touchDdr a n).asy = m.asy ∧ (m.touchDdr a n).iso = m.iso ∧ (m.touchDdr a n).cal = m.cal ∧
    (m.touchDdr a n).vol = m.vol ∧ (m.touchDdr a n).mem = m.mem :=
    ⟨rfl, rfl, rfl, rfl, rfl, rfl, rfl, rfl, rfl, rfl, rfl, rfl, rfl, rfl, rfl, rfl, rfl, rfl, rfl, rfl, rfl, rfl, rfl, rfl⟩

@[simp] theorem Mach.touchDdr_store (m : Mach) (a n : Nat) :
    (m.touchDdr a n).store = { m.store with accessed := true, selfRef := false, down := m.store.down.mapIdx fun s d => d && !touches a n s } := rfl

@[simp] theorem Mach.modPort_keeps (m : Mach) (i : Nat) (f : Port → Port) :
    (m.modPort i f).ctl = m.ctl ∧ (m.modPort i f).par = m.par ∧ (m.modPort i f).tim = m.tim ∧ (m.modPort i f).pwr = m.pwr ∧
    (m.modPort i f).boot = m.boot ∧ (m.modPort i f).vlt = m.vlt ∧ (m.modPort i f).ins = m.ins ∧ (m.modPort i f).flt = m.flt ∧
    (m.modPort i f).hall = m.hall ∧ (m.modPort i f).fe = m.fe ∧ (m.modPort i f).trm = m.trm ∧ (m.modPort i f).mnt = m.mnt ∧
    (m.modPort i f).trg = m.trg ∧ (m.modPort i f).dec = m.dec ∧ (m.modPort i f).qre = m.qre ∧ (m.modPort i f).store = m.store ∧
    (m.modPort i f).ldg = m.ldg ∧ (m.modPort i f).tels = m.tels ∧ (m.modPort i f).dsp = m.dsp ∧ (m.modPort i f).asy = m.asy ∧
    (m.modPort i f).iso = m.iso ∧ (m.modPort i f).cal = m.cal ∧ (m.modPort i f).vol = m.vol ∧ (m.modPort i f).mem = m.mem :=
    ⟨rfl, rfl, rfl, rfl, rfl, rfl, rfl, rfl, rfl, rfl, rfl, rfl, rfl, rfl, rfl, rfl, rfl, rfl, rfl, rfl, rfl, rfl, rfl, rfl⟩

@[simp] theorem Mach.modPort_spn (m : Mach) (i : Nat) (f : Port → Port) :
    (m.modPort i f).spn = { m.spn with port := vmod m.spn.port i f } := rfl

@[simp] theorem Mach.modFront_keeps (m : Mach) (k : Nat) (f : Front → Front) :
    (m.modFront k f).ctl = m.ctl ∧ (m.modFront k f).par = m.par ∧ (m.modFront k f).tim = m.tim ∧ (m.modFront k f).pwr = m.pwr ∧
    (m.modFront k f).boot = m.boot ∧ (m.modFront k f).vlt = m.vlt ∧ (m.modFront k f).ins = m.ins ∧
    (m.modFront k f).flt = m.flt ∧ (m.modFront k f).hall = m.hall ∧ (m.modFront k f).trm = m.trm ∧
    (m.modFront k f).mnt = m.mnt ∧ (m.modFront k f).trg = m.trg ∧ (m.modFront k f).dec = m.dec ∧ (m.modFront k f).qre = m.qre ∧
    (m.modFront k f).store = m.store ∧ (m.modFront k f).ldg = m.ldg ∧ (m.modFront k f).tels = m.tels ∧
    (m.modFront k f).spn = m.spn ∧ (m.modFront k f).dsp = m.dsp ∧ (m.modFront k f).asy = m.asy ∧ (m.modFront k f).iso = m.iso ∧
    (m.modFront k f).cal = m.cal ∧ (m.modFront k f).vol = m.vol ∧ (m.modFront k f).mem = m.mem :=
    ⟨rfl, rfl, rfl, rfl, rfl, rfl, rfl, rfl, rfl, rfl, rfl, rfl, rfl, rfl, rfl, rfl, rfl, rfl, rfl, rfl, rfl, rfl, rfl, rfl⟩

@[simp] theorem Mach.modFront_fe (m : Mach) (k : Nat) (f : Front → Front) :
    (m.modFront k f).fe = { m.fe with front := vmod m.fe.front k f } := rfl

@[simp] theorem Mach.modPage_keeps (m : Mach) (p : Nat) (f : Page → Page) :
    (m.modPage p f).ctl = m.ctl ∧ (m.modPage p f).par = m.par ∧ (m.modPage p f).tim = m.tim ∧ (m.modPage p f).pwr = m.pwr ∧
    (m.modPage p f).boot = m.boot ∧ (m.modPage p f).vlt = m.vlt ∧ (m.modPage p f).ins = m.ins ∧ (m.modPage p f).flt = m.flt ∧
    (m.modPage p f).hall = m.hall ∧ (m.modPage p f).fe = m.fe ∧ (m.modPage p f).trm = m.trm ∧ (m.modPage p f).mnt = m.mnt ∧
    (m.modPage p f).trg = m.trg ∧ (m.modPage p f).dec = m.dec ∧ (m.modPage p f).qre = m.qre ∧ (m.modPage p f).store = m.store ∧
    (m.modPage p f).tels = m.tels ∧ (m.modPage p f).spn = m.spn ∧ (m.modPage p f).dsp = m.dsp ∧ (m.modPage p f).asy = m.asy ∧
    (m.modPage p f).iso = m.iso ∧ (m.modPage p f).cal = m.cal ∧ (m.modPage p f).vol = m.vol ∧ (m.modPage p f).mem = m.mem :=
    ⟨rfl, rfl, rfl, rfl, rfl, rfl, rfl, rfl, rfl, rfl, rfl, rfl, rfl, rfl, rfl, rfl, rfl, rfl, rfl, rfl, rfl, rfl, rfl, rfl⟩

@[simp] theorem Mach.modPage_ldg (m : Mach) (p : Nat) (f : Page → Page) :
    (m.modPage p f).ldg = { m.ldg with pages := vmod m.ldg.pages p f } := rfl

@[simp] theorem Mach.modTel_keeps (m : Mach) (c : Nat) (f : Tel → Tel) :
    (m.modTel c f).ctl = m.ctl ∧ (m.modTel c f).par = m.par ∧ (m.modTel c f).tim = m.tim ∧ (m.modTel c f).pwr = m.pwr ∧
    (m.modTel c f).boot = m.boot ∧ (m.modTel c f).vlt = m.vlt ∧ (m.modTel c f).ins = m.ins ∧ (m.modTel c f).flt = m.flt ∧
    (m.modTel c f).hall = m.hall ∧ (m.modTel c f).fe = m.fe ∧ (m.modTel c f).trm = m.trm ∧ (m.modTel c f).mnt = m.mnt ∧
    (m.modTel c f).trg = m.trg ∧ (m.modTel c f).dec = m.dec ∧ (m.modTel c f).qre = m.qre ∧ (m.modTel c f).store = m.store ∧
    (m.modTel c f).ldg = m.ldg ∧ (m.modTel c f).spn = m.spn ∧ (m.modTel c f).dsp = m.dsp ∧ (m.modTel c f).asy = m.asy ∧
    (m.modTel c f).iso = m.iso ∧ (m.modTel c f).cal = m.cal ∧ (m.modTel c f).vol = m.vol ∧ (m.modTel c f).mem = m.mem :=
    ⟨rfl, rfl, rfl, rfl, rfl, rfl, rfl, rfl, rfl, rfl, rfl, rfl, rfl, rfl, rfl, rfl, rfl, rfl, rfl, rfl, rfl, rfl, rfl, rfl⟩

@[simp] theorem Mach.modTel_tels (m : Mach) (c : Nat) (f : Tel → Tel) :
    (m.modTel c f).tels = { m.tels with ch := vmod m.tels.ch c f } := rfl

@[simp] theorem Mach.modVol_keeps (m : Mach) (f : Vol → Vol) :
    (m.modVol f).ctl = m.ctl ∧ (m.modVol f).par = m.par ∧ (m.modVol f).tim = m.tim ∧ (m.modVol f).pwr = m.pwr ∧
    (m.modVol f).boot = m.boot ∧ (m.modVol f).vlt = m.vlt ∧ (m.modVol f).ins = m.ins ∧ (m.modVol f).flt = m.flt ∧
    (m.modVol f).hall = m.hall ∧ (m.modVol f).fe = m.fe ∧ (m.modVol f).trm = m.trm ∧ (m.modVol f).mnt = m.mnt ∧
    (m.modVol f).trg = m.trg ∧ (m.modVol f).dec = m.dec ∧ (m.modVol f).qre = m.qre ∧ (m.modVol f).store = m.store ∧
    (m.modVol f).ldg = m.ldg ∧ (m.modVol f).tels = m.tels ∧ (m.modVol f).spn = m.spn ∧ (m.modVol f).dsp = m.dsp ∧
    (m.modVol f).asy = m.asy ∧ (m.modVol f).iso = m.iso ∧ (m.modVol f).cal = m.cal ∧ (m.modVol f).mem = m.mem :=
    ⟨rfl, rfl, rfl, rfl, rfl, rfl, rfl, rfl, rfl, rfl, rfl, rfl, rfl, rfl, rfl, rfl, rfl, rfl, rfl, rfl, rfl, rfl, rfl, rfl⟩

@[simp] theorem Mach.modVol_vol (m : Mach) (f : Vol → Vol) :
    (m.modVol f).vol = f m.vol := rfl

@[simp] theorem Mach.modAcc_keeps (m : Mach) (j : Nat) (f : Accu → Accu) :
    (m.modAcc j f).ctl = m.ctl ∧ (m.modAcc j f).par = m.par ∧ (m.modAcc j f).tim = m.tim ∧ (m.modAcc j f).pwr = m.pwr ∧
    (m.modAcc j f).boot = m.boot ∧ (m.modAcc j f).vlt = m.vlt ∧ (m.modAcc j f).ins = m.ins ∧ (m.modAcc j f).flt = m.flt ∧
    (m.modAcc j f).hall = m.hall ∧ (m.modAcc j f).fe = m.fe ∧ (m.modAcc j f).trm = m.trm ∧ (m.modAcc j f).mnt = m.mnt ∧
    (m.modAcc j f).trg = m.trg ∧ (m.modAcc j f).dec = m.dec ∧ (m.modAcc j f).qre = m.qre ∧ (m.modAcc j f).store = m.store ∧
    (m.modAcc j f).ldg = m.ldg ∧ (m.modAcc j f).tels = m.tels ∧ (m.modAcc j f).spn = m.spn ∧ (m.modAcc j f).dsp = m.dsp ∧
    (m.modAcc j f).iso = m.iso ∧ (m.modAcc j f).cal = m.cal ∧ (m.modAcc j f).vol = m.vol ∧ (m.modAcc j f).mem = m.mem :=
    ⟨rfl, rfl, rfl, rfl, rfl, rfl, rfl, rfl, rfl, rfl, rfl, rfl, rfl, rfl, rfl, rfl, rfl, rfl, rfl, rfl, rfl, rfl, rfl, rfl⟩

@[simp] theorem Mach.modAcc_asy (m : Mach) (j : Nat) (f : Accu → Accu) :
    (m.modAcc j f).asy = { m.asy with accs := vmod m.asy.accs j f } := rfl

@[simp] theorem Mach.modDsp_keeps (m : Mach) (f : Dsp → Dsp) :
    (m.modDsp f).ctl = m.ctl ∧ (m.modDsp f).par = m.par ∧ (m.modDsp f).tim = m.tim ∧ (m.modDsp f).pwr = m.pwr ∧
    (m.modDsp f).boot = m.boot ∧ (m.modDsp f).vlt = m.vlt ∧ (m.modDsp f).ins = m.ins ∧ (m.modDsp f).flt = m.flt ∧
    (m.modDsp f).hall = m.hall ∧ (m.modDsp f).fe = m.fe ∧ (m.modDsp f).trm = m.trm ∧ (m.modDsp f).mnt = m.mnt ∧
    (m.modDsp f).trg = m.trg ∧ (m.modDsp f).dec = m.dec ∧ (m.modDsp f).qre = m.qre ∧ (m.modDsp f).store = m.store ∧
    (m.modDsp f).ldg = m.ldg ∧ (m.modDsp f).tels = m.tels ∧ (m.modDsp f).spn = m.spn ∧ (m.modDsp f).asy = m.asy ∧
    (m.modDsp f).iso = m.iso ∧ (m.modDsp f).cal = m.cal ∧ (m.modDsp f).vol = m.vol ∧ (m.modDsp f).mem = m.mem :=
    ⟨rfl, rfl, rfl, rfl, rfl, rfl, rfl, rfl, rfl, rfl, rfl, rfl, rfl, rfl, rfl, rfl, rfl, rfl, rfl, rfl, rfl, rfl, rfl, rfl⟩

@[simp] theorem Mach.modDsp_dsp (m : Mach) (f : Dsp → Dsp) :
    (m.modDsp f).dsp = f m.dsp := rfl

@[simp] theorem Mach.modRail_keeps (m : Mach) (r : Nat) (f : Rail → Rail) :
    (m.modRail r f).ctl = m.ctl ∧ (m.modRail r f).par = m.par ∧ (m.modRail r f).tim = m.tim ∧ (m.modRail r f).boot = m.boot ∧
    (m.modRail r f).vlt = m.vlt ∧ (m.modRail r f).ins = m.ins ∧ (m.modRail r f).flt = m.flt ∧ (m.modRail r f).hall = m.hall ∧
    (m.modRail r f).fe = m.fe ∧ (m.modRail r f).trm = m.trm ∧ (m.modRail r f).mnt = m.mnt ∧ (m.modRail r f).trg = m.trg ∧
    (m.modRail r f).dec = m.dec ∧ (m.modRail r f).qre = m.qre ∧ (m.modRail r f).store = m.store ∧ (m.modRail r f).ldg = m.ldg ∧
    (m.modRail r f).tels = m.tels ∧ (m.modRail r f).spn = m.spn ∧ (m.modRail r f).dsp = m.dsp ∧ (m.modRail r f).asy = m.asy ∧
    (m.modRail r f).iso = m.iso ∧ (m.modRail r f).cal = m.cal ∧ (m.modRail r f).vol = m.vol ∧ (m.modRail r f).mem = m.mem :=
    ⟨rfl, rfl, rfl, rfl, rfl, rfl, rfl, rfl, rfl, rfl, rfl, rfl, rfl, rfl, rfl, rfl, rfl, rfl, rfl, rfl, rfl, rfl, rfl, rfl⟩

@[simp] theorem Mach.modRail_pwr (m : Mach) (r : Nat) (f : Rail → Rail) :
    (m.modRail r f).pwr = { m.pwr with rails := vmod m.pwr.rails r f } := rfl

@[simp] theorem Mach.setDom_keeps (m : Mach) (d : Nat) (s : DomSt) :
    (m.setDom d s).ctl = m.ctl ∧ (m.setDom d s).par = m.par ∧ (m.setDom d s).tim = m.tim ∧ (m.setDom d s).boot = m.boot ∧
    (m.setDom d s).vlt = m.vlt ∧ (m.setDom d s).ins = m.ins ∧ (m.setDom d s).flt = m.flt ∧ (m.setDom d s).hall = m.hall ∧
    (m.setDom d s).fe = m.fe ∧ (m.setDom d s).trm = m.trm ∧ (m.setDom d s).mnt = m.mnt ∧ (m.setDom d s).trg = m.trg ∧
    (m.setDom d s).dec = m.dec ∧ (m.setDom d s).qre = m.qre ∧ (m.setDom d s).store = m.store ∧ (m.setDom d s).ldg = m.ldg ∧
    (m.setDom d s).tels = m.tels ∧ (m.setDom d s).spn = m.spn ∧ (m.setDom d s).dsp = m.dsp ∧ (m.setDom d s).asy = m.asy ∧
    (m.setDom d s).iso = m.iso ∧ (m.setDom d s).cal = m.cal ∧ (m.setDom d s).vol = m.vol ∧ (m.setDom d s).mem = m.mem :=
    ⟨rfl, rfl, rfl, rfl, rfl, rfl, rfl, rfl, rfl, rfl, rfl, rfl, rfl, rfl, rfl, rfl, rfl, rfl, rfl, rfl, rfl, rfl, rfl, rfl⟩

@[simp] theorem Mach.setDom_pwr (m : Mach) (d : Nat) (s : DomSt) :
    (m.setDom d s).pwr = { m.pwr with dom := vset m.pwr.dom d s } := rfl

@[simp] theorem Mach.modLock_keeps (m : Mach) (n : Nat) (f : Lock → Lock) :
    (m.modLock n f).par = m.par ∧ (m.modLock n f).tim = m.tim ∧ (m.modLock n f).pwr = m.pwr ∧ (m.modLock n f).boot = m.boot ∧
    (m.modLock n f).vlt = m.vlt ∧ (m.modLock n f).ins = m.ins ∧ (m.modLock n f).flt = m.flt ∧ (m.modLock n f).hall = m.hall ∧
    (m.modLock n f).fe = m.fe ∧ (m.modLock n f).trm = m.trm ∧ (m.modLock n f).mnt = m.mnt ∧ (m.modLock n f).trg = m.trg ∧
    (m.modLock n f).dec = m.dec ∧ (m.modLock n f).qre = m.qre ∧ (m.modLock n f).store = m.store ∧ (m.modLock n f).ldg = m.ldg ∧
    (m.modLock n f).tels = m.tels ∧ (m.modLock n f).spn = m.spn ∧ (m.modLock n f).dsp = m.dsp ∧ (m.modLock n f).asy = m.asy ∧
    (m.modLock n f).iso = m.iso ∧ (m.modLock n f).cal = m.cal ∧ (m.modLock n f).vol = m.vol ∧ (m.modLock n f).mem = m.mem :=
    ⟨rfl, rfl, rfl, rfl, rfl, rfl, rfl, rfl, rfl, rfl, rfl, rfl, rfl, rfl, rfl, rfl, rfl, rfl, rfl, rfl, rfl, rfl, rfl, rfl⟩

@[simp] theorem Mach.modLock_ctl (m : Mach) (n : Nat) (f : Lock → Lock) :
    (m.modLock n f).ctl = { m.ctl with locks := vmod m.ctl.locks n f } := rfl

/-! ### A step's state -/

@[simp] theorem State.withEngine_pending (s : State) (m : Mach) : (s.withEngine m).pending = s.pending := rfl

@[simp] theorem State.withEngine_m (s : State) (m : Mach) : (s.withEngine m).m = m := rfl

@[simp] theorem State.withEngine_work (s : State) (m : Mach) : (s.withEngine m).work = s.work := rfl

@[simp] theorem State.withEngine_before (s : State) (m : Mach) : (s.withEngine m).before = s.before := rfl

end Sys2Proof.Machine
end

