-- ==== Sys2Proof/Laws/Frame.lean ====
section
/-! SUPPORT. Laws/Frame.lean: for each shared operation of the engine, once and for all, the parts of the engine that it leaves
as they were. A proof cites these and never unfolds the operation. -/

namespace Sys2Proof.Machine

/-- What every step of a fold leaves as it was, the fold leaves as it was. -/
theorem foldl_keeps {α β : Type} (p : Mach → β) (f : Mach → α → Mach) (h : ∀ m x, p (f m x) = p m) (l : List α) (m : Mach) :
    p (l.foldl f m) = p m := by
  induction l generalizing m with
  | nil => rfl
  | cons a t ih => rw [List.foldl_cons, ih, h]

/-- A part of a choice between two engines is that part of the one chosen. -/
@[simp] theorem ite_parts (c : Prop) [Decidable c] (a b : Mach) :
    (if c then a else b).ctl = (if c then a.ctl else b.ctl) ∧
    (if c then a else b).par = (if c then a.par else b.par) ∧
    (if c then a else b).tim = (if c then a.tim else b.tim) ∧
    (if c then a else b).pwr = (if c then a.pwr else b.pwr) ∧
    (if c then a else b).boot = (if c then a.boot else b.boot) ∧
    (if c then a else b).vlt = (if c then a.vlt else b.vlt) ∧
    (if c then a else b).ins = (if c then a.ins else b.ins) ∧
    (if c then a else b).flt = (if c then a.flt else b.flt) ∧
    (if c then a else b).hall = (if c then a.hall else b.hall) ∧
    (if c then a else b).fe = (if c then a.fe else b.fe) ∧
    (if c then a else b).trm = (if c then a.trm else b.trm) ∧
    (if c then a else b).mnt = (if c then a.mnt else b.mnt) ∧
    (if c then a else b).trg = (if c then a.trg else b.trg) ∧
    (if c then a else b).dec = (if c then a.dec else b.dec) ∧
    (if c then a else b).qre = (if c then a.qre else b.qre) ∧
    (if c then a else b).store = (if c then a.store else b.store) ∧
    (if c then a else b).ldg = (if c then a.ldg else b.ldg) ∧
    (if c then a else b).tels = (if c then a.tels else b.tels) ∧
    (if c then a else b).spn = (if c then a.spn else b.spn) ∧
    (if c then a else b).dsp = (if c then a.dsp else b.dsp) ∧
    (if c then a else b).asy = (if c then a.asy else b.asy) ∧
    (if c then a else b).iso = (if c then a.iso else b.iso) ∧
    (if c then a else b).cal = (if c then a.cal else b.cal) ∧
    (if c then a else b).vol = (if c then a.vol else b.vol) ∧
    (if c then a else b).mem = (if c then a.mem else b.mem) := by
  split <;> simp

/-- Acting on behalf of a master keeps what the act keeps. -/
theorem behalf_keeps {β : Type} (p : Mach → β) (hp : ∀ (m : Mach) (x : Flt), p { m with flt := x } = p m) (m : Mach) (k : Option Master)
    (f : Mach → Mach) (h : ∀ x, p (f x) = p x) : p (m.behalf k f) = p m := by
  unfold Mach.behalf; simp [h, hp]

@[simp] theorem Mach.pin_keeps (m : Mach) (a : Nat) :
    (m.pin a).ctl = m.ctl ∧ (m.pin a).tim = m.tim ∧ (m.pin a).pwr = m.pwr ∧ (m.pin a).boot = m.boot ∧ (m.pin a).vlt = m.vlt ∧
    (m.pin a).ins = m.ins ∧ (m.pin a).flt = m.flt ∧ (m.pin a).hall = m.hall ∧ (m.pin a).fe = m.fe ∧ (m.pin a).trm = m.trm ∧
    (m.pin a).mnt = m.mnt ∧ (m.pin a).trg = m.trg ∧ (m.pin a).dec = m.dec ∧ (m.pin a).qre = m.qre ∧ (m.pin a).store = m.store ∧
    (m.pin a).ldg = m.ldg ∧ (m.pin a).tels = m.tels ∧ (m.pin a).spn = m.spn ∧ (m.pin a).dsp = m.dsp ∧ (m.pin a).asy = m.asy ∧
    (m.pin a).iso = m.iso ∧ (m.pin a).cal = m.cal ∧ (m.pin a).vol = m.vol ∧ (m.pin a).mem = m.mem :=
    by simp [Mach.pin]

@[simp] theorem Mach.land_keeps (m : Mach) (a : Nat) (v : Word) :
    (m.land a v).tim = m.tim ∧ (m.land a v).pwr = m.pwr ∧ (m.land a v).boot = m.boot ∧ (m.land a v).vlt = m.vlt ∧
    (m.land a v).ins = m.ins ∧ (m.land a v).hall = m.hall ∧ (m.land a v).fe = m.fe ∧ (m.land a v).trm = m.trm ∧
    (m.land a v).mnt = m.mnt ∧ (m.land a v).trg = m.trg ∧ (m.land a v).dec = m.dec ∧ (m.land a v).qre = m.qre ∧
    (m.land a v).store = m.store ∧ (m.land a v).ldg = m.ldg ∧ (m.land a v).tels = m.tels ∧ (m.land a v).dsp = m.dsp ∧
    (m.land a v).asy = m.asy ∧ (m.land a v).iso = m.iso ∧ (m.land a v).cal = m.cal ∧ (m.land a v).vol = m.vol ∧
    (m.land a v).mem = m.mem :=
    by unfold Mach.land; dsimp only; (repeat' split) <;> simp

@[simp] theorem Mach.sendEvent_keeps (m : Mach) (e : EventPkt) :
    (m.sendEvent e).ctl = m.ctl ∧ (m.sendEvent e).par = m.par ∧ (m.sendEvent e).tim = m.tim ∧ (m.sendEvent e).pwr = m.pwr ∧
    (m.sendEvent e).boot = m.boot ∧ (m.sendEvent e).vlt = m.vlt ∧ (m.sendEvent e).ins = m.ins ∧ (m.sendEvent e).flt = m.flt ∧
    (m.sendEvent e).hall = m.hall ∧ (m.sendEvent e).fe = m.fe ∧ (m.sendEvent e).trm = m.trm ∧ (m.sendEvent e).mnt = m.mnt ∧
    (m.sendEvent e).trg = m.trg ∧ (m.sendEvent e).dec = m.dec ∧ (m.sendEvent e).qre = m.qre ∧ (m.sendEvent e).store = m.store ∧
    (m.sendEvent e).ldg = m.ldg ∧ (m.sendEvent e).tels = m.tels ∧ (m.sendEvent e).dsp = m.dsp ∧ (m.sendEvent e).asy = m.asy ∧
    (m.sendEvent e).iso = m.iso ∧ (m.sendEvent e).cal = m.cal ∧ (m.sendEvent e).vol = m.vol ∧ (m.sendEvent e).mem = m.mem :=
    by simp [Mach.sendEvent]

@[simp] theorem Mach.raise_keeps (m : Mach) (cls code : Nat) (seq : Nat) :
    (m.raise cls code seq).par = m.par ∧ (m.raise cls code seq).tim = m.tim ∧ (m.raise cls code seq).pwr = m.pwr ∧
    (m.raise cls code seq).boot = m.boot ∧ (m.raise cls code seq).vlt = m.vlt ∧ (m.raise cls code seq).ins = m.ins ∧
    (m.raise cls code seq).hall = m.hall ∧ (m.raise cls code seq).fe = m.fe ∧ (m.raise cls code seq).trm = m.trm ∧
    (m.raise cls code seq).mnt = m.mnt ∧ (m.raise cls code seq).trg = m.trg ∧ (m.raise cls code seq).dec = m.dec ∧
    (m.raise cls code seq).qre = m.qre ∧ (m.raise cls code seq).store = m.store ∧ (m.raise cls code seq).ldg = m.ldg ∧
    (m.raise cls code seq).tels = m.tels ∧ (m.raise cls code seq).dsp = m.dsp ∧ (m.raise cls code seq).asy = m.asy ∧
    (m.raise cls code seq).iso = m.iso ∧ (m.raise cls code seq).cal = m.cal ∧ (m.raise cls code seq).vol = m.vol ∧
    (m.raise cls code seq).mem = m.mem :=
    by simp [Mach.raise]

/-- queueRec changes only the log. -/
@[simp] theorem Mach.queueRec_keeps (m : Mach) (r : LogRec) :
    (m.queueRec r).2.ctl = m.ctl ∧ (m.queueRec r).2.par = m.par ∧ (m.queueRec r).2.tim = m.tim ∧
    (m.queueRec r).2.pwr = m.pwr ∧ (m.queueRec r).2.boot = m.boot ∧ (m.queueRec r).2.vlt = m.vlt ∧
    (m.queueRec r).2.ins = m.ins ∧ (m.queueRec r).2.hall = m.hall ∧
    (m.queueRec r).2.fe = m.fe ∧ (m.queueRec r).2.trm = m.trm ∧ (m.queueRec r).2.mnt = m.mnt ∧
    (m.queueRec r).2.trg = m.trg ∧ (m.queueRec r).2.dec = m.dec ∧ (m.queueRec r).2.qre = m.qre ∧
    (m.queueRec r).2.store = m.store ∧ (m.queueRec r).2.ldg = m.ldg ∧ (m.queueRec r).2.tels = m.tels ∧
    (m.queueRec r).2.spn = m.spn ∧ (m.queueRec r).2.dsp = m.dsp ∧ (m.queueRec r).2.asy = m.asy ∧
    (m.queueRec r).2.iso = m.iso ∧ (m.queueRec r).2.cal = m.cal ∧ (m.queueRec r).2.vol = m.vol ∧
    (m.queueRec r).2.mem = m.mem :=
    ⟨rfl, rfl, rfl, rfl, rfl, rfl, rfl, rfl, rfl, rfl, rfl, rfl, rfl, rfl, rfl, rfl, rfl, rfl, rfl, rfl, rfl, rfl, rfl, rfl⟩

@[simp] theorem Mach.flushDropped_keeps (m : Mach) :
    m.flushDropped.ctl = m.ctl ∧ m.flushDropped.par = m.par ∧ m.flushDropped.tim = m.tim ∧ m.flushDropped.pwr = m.pwr ∧
    m.flushDropped.boot = m.boot ∧ m.flushDropped.vlt = m.vlt ∧ m.flushDropped.ins = m.ins ∧ m.flushDropped.hall = m.hall ∧
    m.flushDropped.fe = m.fe ∧ m.flushDropped.trm = m.trm ∧ m.flushDropped.mnt = m.mnt ∧ m.flushDropped.trg = m.trg ∧
    m.flushDropped.dec = m.dec ∧ m.flushDropped.qre = m.qre ∧ m.flushDropped.store = m.store ∧ m.flushDropped.ldg = m.ldg ∧
    m.flushDropped.tels = m.tels ∧ m.flushDropped.spn = m.spn ∧ m.flushDropped.dsp = m.dsp ∧ m.flushDropped.asy = m.asy ∧
    m.flushDropped.iso = m.iso ∧ m.flushDropped.cal = m.cal ∧ m.flushDropped.vol = m.vol ∧ m.flushDropped.mem = m.mem :=
    by simp [Mach.flushDropped]

@[simp] theorem Mach.raiseOf_keeps (m : Mach) (cls : Option Nat) (code seq : Nat) :
    (m.raiseOf cls code seq).par = m.par ∧ (m.raiseOf cls code seq).tim = m.tim ∧ (m.raiseOf cls code seq).pwr = m.pwr ∧
    (m.raiseOf cls code seq).boot = m.boot ∧ (m.raiseOf cls code seq).vlt = m.vlt ∧ (m.raiseOf cls code seq).ins = m.ins ∧
    (m.raiseOf cls code seq).hall = m.hall ∧ (m.raiseOf cls code seq).fe = m.fe ∧ (m.raiseOf cls code seq).trm = m.trm ∧
    (m.raiseOf cls code seq).mnt = m.mnt ∧ (m.raiseOf cls code seq).trg = m.trg ∧ (m.raiseOf cls code seq).dec = m.dec ∧
    (m.raiseOf cls code seq).qre = m.qre ∧ (m.raiseOf cls code seq).store = m.store ∧ (m.raiseOf cls code seq).ldg = m.ldg ∧
    (m.raiseOf cls code seq).tels = m.tels ∧ (m.raiseOf cls code seq).dsp = m.dsp ∧ (m.raiseOf cls code seq).asy = m.asy ∧
    (m.raiseOf cls code seq).iso = m.iso ∧ (m.raiseOf cls code seq).cal = m.cal ∧ (m.raiseOf cls code seq).vol = m.vol ∧
    (m.raiseOf cls code seq).mem = m.mem :=
    by unfold Mach.raiseOf; (repeat' split) <;> simp

@[simp] theorem Mach.logEvent_keeps (m : Mach) (plane : Plane) (code a b : Nat) (origin : Option Master) (cls : Option Nat) :
    (m.logEvent plane code a b origin cls).par = m.par ∧ (m.logEvent plane code a b origin cls).tim = m.tim ∧
    (m.logEvent plane code a b origin cls).pwr = m.pwr ∧ (m.logEvent plane code a b origin cls).boot = m.boot ∧
    (m.logEvent plane code a b origin cls).vlt = m.vlt ∧ (m.logEvent plane code a b origin cls).ins = m.ins ∧
    (m.logEvent plane code a b origin cls).hall = m.hall ∧ (m.logEvent plane code a b origin cls).fe = m.fe ∧
    (m.logEvent plane code a b origin cls).trm = m.trm ∧ (m.logEvent plane code a b origin cls).mnt = m.mnt ∧
    (m.logEvent plane code a b origin cls).trg = m.trg ∧ (m.logEvent plane code a b origin cls).dec = m.dec ∧
    (m.logEvent plane code a b origin cls).qre = m.qre ∧ (m.logEvent plane code a b origin cls).store = m.store ∧
    (m.logEvent plane code a b origin cls).ldg = m.ldg ∧ (m.logEvent plane code a b origin cls).tels = m.tels ∧
    (m.logEvent plane code a b origin cls).dsp = m.dsp ∧ (m.logEvent plane code a b origin cls).asy = m.asy ∧
    (m.logEvent plane code a b origin cls).iso = m.iso ∧ (m.logEvent plane code a b origin cls).cal = m.cal ∧
    (m.logEvent plane code a b origin cls).vol = m.vol ∧ (m.logEvent plane code a b origin cls).mem = m.mem :=
    by simp [Mach.logEvent]

@[simp] theorem Mach.setSession_keeps (m : Mach) (k : Master) (s : Session) :
    (m.setSession k s).par = m.par ∧ (m.setSession k s).tim = m.tim ∧ (m.setSession k s).pwr = m.pwr ∧
    (m.setSession k s).boot = m.boot ∧ (m.setSession k s).vlt = m.vlt ∧ (m.setSession k s).ins = m.ins ∧
    (m.setSession k s).flt = m.flt ∧ (m.setSession k s).hall = m.hall ∧ (m.setSession k s).fe = m.fe ∧
    (m.setSession k s).trm = m.trm ∧ (m.setSession k s).mnt = m.mnt ∧ (m.setSession k s).trg = m.trg ∧
    (m.setSession k s).dec = m.dec ∧ (m.setSession k s).qre = m.qre ∧ (m.setSession k s).store = m.store ∧
    (m.setSession k s).ldg = m.ldg ∧ (m.setSession k s).tels = m.tels ∧ (m.setSession k s).spn = m.spn ∧
    (m.setSession k s).dsp = m.dsp ∧ (m.setSession k s).asy = m.asy ∧ (m.setSession k s).iso = m.iso ∧
    (m.setSession k s).cal = m.cal ∧ (m.setSession k s).vol = m.vol ∧ (m.setSession k s).mem = m.mem :=
    by unfold Mach.setSession; dsimp only; (repeat' split) <;> simp

@[simp] theorem Mach.forfeit_keeps (m : Mach) (n : Nat) (cause : Nat) :
    (m.forfeit n cause).par = m.par ∧ (m.forfeit n cause).tim = m.tim ∧ (m.forfeit n cause).pwr = m.pwr ∧
    (m.forfeit n cause).boot = m.boot ∧ (m.forfeit n cause).vlt = m.vlt ∧ (m.forfeit n cause).ins = m.ins ∧
    (m.forfeit n cause).hall = m.hall ∧ (m.forfeit n cause).fe = m.fe ∧ (m.forfeit n cause).trm = m.trm ∧
    (m.forfeit n cause).mnt = m.mnt ∧ (m.forfeit n cause).trg = m.trg ∧ (m.forfeit n cause).dec = m.dec ∧
    (m.forfeit n cause).qre = m.qre ∧ (m.forfeit n cause).store = m.store ∧ (m.forfeit n cause).ldg = m.ldg ∧
    (m.forfeit n cause).tels = m.tels ∧ (m.forfeit n cause).dsp = m.dsp ∧ (m.forfeit n cause).asy = m.asy ∧
    (m.forfeit n cause).iso = m.iso ∧ (m.forfeit n cause).cal = m.cal ∧ (m.forfeit n cause).vol = m.vol ∧
    (m.forfeit n cause).mem = m.mem :=
    by simp [Mach.forfeit]

@[simp] theorem Mach.setStaging_keeps (m : Mach) (k : Master) (p : PMap) :
    (m.setStaging k p).par = m.par ∧ (m.setStaging k p).tim = m.tim ∧ (m.setStaging k p).pwr = m.pwr ∧
    (m.setStaging k p).boot = m.boot ∧ (m.setStaging k p).vlt = m.vlt ∧ (m.setStaging k p).ins = m.ins ∧
    (m.setStaging k p).flt = m.flt ∧ (m.setStaging k p).hall = m.hall ∧ (m.setStaging k p).fe = m.fe ∧
    (m.setStaging k p).trm = m.trm ∧ (m.setStaging k p).mnt = m.mnt ∧ (m.setStaging k p).trg = m.trg ∧
    (m.setStaging k p).dec = m.dec ∧ (m.setStaging k p).qre = m.qre ∧ (m.setStaging k p).store = m.store ∧
    (m.setStaging k p).ldg = m.ldg ∧ (m.setStaging k p).tels = m.tels ∧ (m.setStaging k p).spn = m.spn ∧
    (m.setStaging k p).dsp = m.dsp ∧ (m.setStaging k p).asy = m.asy ∧ (m.setStaging k p).iso = m.iso ∧
    (m.setStaging k p).cal = m.cal ∧ (m.setStaging k p).vol = m.vol ∧ (m.setStaging k p).mem = m.mem :=
    by simp [Mach.setStaging]

@[simp] theorem Mach.discard_keeps (m : Mach) (k : Master) (staged deferred : Bool) :
    (m.discard k staged deferred).par = m.par ∧ (m.discard k staged deferred).tim = m.tim ∧
    (m.discard k staged deferred).pwr = m.pwr ∧ (m.discard k staged deferred).boot = m.boot ∧
    (m.discard k staged deferred).vlt = m.vlt ∧ (m.discard k staged deferred).ins = m.ins ∧
    (m.discard k staged deferred).flt = m.flt ∧ (m.discard k staged deferred).hall = m.hall ∧
    (m.discard k staged deferred).fe = m.fe ∧ (m.discard k staged deferred).trm = m.trm ∧
    (m.discard k staged deferred).mnt = m.mnt ∧ (m.discard k staged deferred).trg = m.trg ∧
    (m.discard k staged deferred).dec = m.dec ∧ (m.discard k staged deferred).qre = m.qre ∧
    (m.discard k staged deferred).store = m.store ∧ (m.discard k staged deferred).ldg = m.ldg ∧
    (m.discard k staged deferred).tels = m.tels ∧ (m.discard k staged deferred).spn = m.spn ∧
    (m.discard k staged deferred).dsp = m.dsp ∧ (m.discard k staged deferred).asy = m.asy ∧
    (m.discard k staged deferred).iso = m.iso ∧ (m.discard k staged deferred).cal = m.cal ∧
    (m.discard k staged deferred).vol = m.vol ∧ (m.discard k staged deferred).mem = m.mem :=
    by simp [Mach.discard]

@[simp] theorem Mach.dropInserts_keeps (m : Mach) (k : Option Master) :
    (m.dropInserts k).par = m.par ∧ (m.dropInserts k).tim = m.tim ∧ (m.dropInserts k).pwr = m.pwr ∧
    (m.dropInserts k).boot = m.boot ∧ (m.dropInserts k).vlt = m.vlt ∧ (m.dropInserts k).hall = m.hall ∧
    (m.dropInserts k).fe = m.fe ∧ (m.dropInserts k).trm = m.trm ∧ (m.dropInserts k).mnt = m.mnt ∧
    (m.dropInserts k).trg = m.trg ∧ (m.dropInserts k).dec = m.dec ∧ (m.dropInserts k).qre = m.qre ∧
    (m.dropInserts k).store = m.store ∧ (m.dropInserts k).ldg = m.ldg ∧ (m.dropInserts k).tels = m.tels ∧
    (m.dropInserts k).dsp = m.dsp ∧ (m.dropInserts k).asy = m.asy ∧ (m.dropInserts k).iso = m.iso ∧
    (m.dropInserts k).cal = m.cal ∧ (m.dropInserts k).vol = m.vol ∧ (m.dropInserts k).mem = m.mem :=
    by simp [Mach.dropInserts]

@[simp] theorem Mach.sessionReset_keeps (m : Mach) (k : Master) (cause : Nat) :
    (m.sessionReset k cause).par = m.par ∧ (m.sessionReset k cause).tim = m.tim ∧ (m.sessionReset k cause).pwr = m.pwr ∧
    (m.sessionReset k cause).boot = m.boot ∧ (m.sessionReset k cause).vlt = m.vlt ∧ (m.sessionReset k cause).hall = m.hall ∧
    (m.sessionReset k cause).fe = m.fe ∧ (m.sessionReset k cause).trm = m.trm ∧ (m.sessionReset k cause).mnt = m.mnt ∧
    (m.sessionReset k cause).trg = m.trg ∧ (m.sessionReset k cause).dec = m.dec ∧ (m.sessionReset k cause).qre = m.qre ∧
    (m.sessionReset k cause).store = m.store ∧ (m.sessionReset k cause).ldg = m.ldg ∧ (m.sessionReset k cause).tels = m.tels ∧
    (m.sessionReset k cause).dsp = m.dsp ∧ (m.sessionReset k cause).asy = m.asy ∧ (m.sessionReset k cause).iso = m.iso ∧
    (m.sessionReset k cause).cal = m.cal ∧ (m.sessionReset k cause).vol = m.vol ∧ (m.sessionReset k cause).mem = m.mem :=
    by
  unfold Mach.sessionReset
  refine ⟨?_, ?_, ?_, ?_, ?_, ?_, ?_, ?_, ?_, ?_, ?_, ?_, ?_, ?_, ?_, ?_, ?_, ?_, ?_, ?_, ?_⟩ <;> ((try dsimp only); (repeat' split) <;> simp [foldl_keeps])

@[simp] theorem Mach.noteNow_keeps (m : Mach) :
    m.noteNow.par = m.par ∧ m.noteNow.tim = m.tim ∧ m.noteNow.pwr = m.pwr ∧ m.noteNow.boot = m.boot ∧ m.noteNow.vlt = m.vlt ∧
    m.noteNow.ins = m.ins ∧ m.noteNow.flt = m.flt ∧ m.noteNow.fe = m.fe ∧ m.noteNow.trm = m.trm ∧ m.noteNow.mnt = m.mnt ∧
    m.noteNow.trg = m.trg ∧ m.noteNow.dec = m.dec ∧ m.noteNow.qre = m.qre ∧ m.noteNow.store = m.store ∧ m.noteNow.ldg = m.ldg ∧
    m.noteNow.tels = m.tels ∧ m.noteNow.spn = m.spn ∧ m.noteNow.dsp = m.dsp ∧ m.noteNow.asy = m.asy ∧ m.noteNow.iso = m.iso ∧
    m.noteNow.cal = m.cal ∧ m.noteNow.vol = m.vol ∧ m.noteNow.mem = m.mem :=
    by simp [Mach.noteNow]

@[simp] theorem Mach.sendPkt_keeps (m : Mach) (i : Nat) (k : Packet) :
    (m.sendPkt i k).ctl = m.ctl ∧ (m.sendPkt i k).par = m.par ∧ (m.sendPkt i k).tim = m.tim ∧ (m.sendPkt i k).pwr = m.pwr ∧
    (m.sendPkt i k).boot = m.boot ∧ (m.sendPkt i k).vlt = m.vlt ∧ (m.sendPkt i k).ins = m.ins ∧ (m.sendPkt i k).flt = m.flt ∧
    (m.sendPkt i k).hall = m.hall ∧ (m.sendPkt i k).fe = m.fe ∧ (m.sendPkt i k).trm = m.trm ∧ (m.sendPkt i k).mnt = m.mnt ∧
    (m.sendPkt i k).trg = m.trg ∧ (m.sendPkt i k).dec = m.dec ∧ (m.sendPkt i k).qre = m.qre ∧ (m.sendPkt i k).store = m.store ∧
    (m.sendPkt i k).ldg = m.ldg ∧ (m.sendPkt i k).tels = m.tels ∧ (m.sendPkt i k).dsp = m.dsp ∧ (m.sendPkt i k).asy = m.asy ∧
    (m.sendPkt i k).iso = m.iso ∧ (m.sendPkt i k).cal = m.cal ∧ (m.sendPkt i k).vol = m.vol ∧ (m.sendPkt i k).mem = m.mem :=
    by simp [Mach.sendPkt]

@[simp] theorem Mach.sendVol_keeps (m : Mach) (i target : Nat) (bcast : Bool) (op f2 f4 : Nat) :
    (m.sendVol i target bcast op f2 f4).ctl = m.ctl ∧ (m.sendVol i target bcast op f2 f4).par = m.par ∧
    (m.sendVol i target bcast op f2 f4).tim = m.tim ∧ (m.sendVol i target bcast op f2 f4).pwr = m.pwr ∧
    (m.sendVol i target bcast op f2 f4).boot = m.boot ∧ (m.sendVol i target bcast op f2 f4).vlt = m.vlt ∧
    (m.sendVol i target bcast op f2 f4).ins = m.ins ∧ (m.sendVol i target bcast op f2 f4).flt = m.flt ∧
    (m.sendVol i target bcast op f2 f4).hall = m.hall ∧ (m.sendVol i target bcast op f2 f4).fe = m.fe ∧
    (m.sendVol i target bcast op f2 f4).trm = m.trm ∧ (m.sendVol i target bcast op f2 f4).mnt = m.mnt ∧
    (m.sendVol i target bcast op f2 f4).trg = m.trg ∧ (m.sendVol i target bcast op f2 f4).dec = m.dec ∧
    (m.sendVol i target bcast op f2 f4).qre = m.qre ∧ (m.sendVol i target bcast op f2 f4).store = m.store ∧
    (m.sendVol i target bcast op f2 f4).ldg = m.ldg ∧ (m.sendVol i target bcast op f2 f4).tels = m.tels ∧
    (m.sendVol i target bcast op f2 f4).dsp = m.dsp ∧ (m.sendVol i target bcast op f2 f4).asy = m.asy ∧
    (m.sendVol i target bcast op f2 f4).iso = m.iso ∧ (m.sendVol i target bcast op f2 f4).cal = m.cal ∧
    (m.sendVol i target bcast op f2 f4).vol = m.vol ∧ (m.sendVol i target bcast op f2 f4).mem = m.mem :=
    by simp [Mach.sendVol]

@[simp] theorem Mach.bcast_keeps (m : Mach) (op f2 f4 : Nat) :
    (m.bcast op f2 f4).ctl = m.ctl ∧ (m.bcast op f2 f4).par = m.par ∧ (m.bcast op f2 f4).tim = m.tim ∧
    (m.bcast op f2 f4).pwr = m.pwr ∧ (m.bcast op f2 f4).boot = m.boot ∧ (m.bcast op f2 f4).vlt = m.vlt ∧
    (m.bcast op f2 f4).ins = m.ins ∧ (m.bcast op f2 f4).flt = m.flt ∧ (m.bcast op f2 f4).hall = m.hall ∧
    (m.bcast op f2 f4).fe = m.fe ∧ (m.bcast op f2 f4).trm = m.trm ∧ (m.bcast op f2 f4).mnt = m.mnt ∧
    (m.bcast op f2 f4).trg = m.trg ∧ (m.bcast op f2 f4).dec = m.dec ∧ (m.bcast op f2 f4).qre = m.qre ∧
    (m.bcast op f2 f4).store = m.store ∧ (m.bcast op f2 f4).ldg = m.ldg ∧ (m.bcast op f2 f4).tels = m.tels ∧
    (m.bcast op f2 f4).dsp = m.dsp ∧ (m.bcast op f2 f4).asy = m.asy ∧ (m.bcast op f2 f4).iso = m.iso ∧
    (m.bcast op f2 f4).cal = m.cal ∧ (m.bcast op f2 f4).vol = m.vol ∧ (m.bcast op f2 f4).mem = m.mem :=
    by simp [Mach.bcast]

@[simp] theorem Mach.chainFail_keeps (m : Mach) (cause : Nat) :
    (m.chainFail cause).ctl = m.ctl ∧ (m.chainFail cause).par = m.par ∧ (m.chainFail cause).tim = m.tim ∧
    (m.chainFail cause).pwr = m.pwr ∧ (m.chainFail cause).boot = m.boot ∧ (m.chainFail cause).vlt = m.vlt ∧
    (m.chainFail cause).ins = m.ins ∧ (m.chainFail cause).flt = m.flt ∧ (m.chainFail cause).hall = m.hall ∧
    (m.chainFail cause).fe = m.fe ∧ (m.chainFail cause).trm = m.trm ∧ (m.chainFail cause).mnt = m.mnt ∧
    (m.chainFail cause).trg = m.trg ∧ (m.chainFail cause).dec = m.dec ∧ (m.chainFail cause).qre = m.qre ∧
    (m.chainFail cause).store = m.store ∧ (m.chainFail cause).ldg = m.ldg ∧ (m.chainFail cause).tels = m.tels ∧
    (m.chainFail cause).spn = m.spn ∧ (m.chainFail cause).dsp = m.dsp ∧ (m.chainFail cause).asy = m.asy ∧
    (m.chainFail cause).iso = m.iso ∧ (m.chainFail cause).vol = m.vol ∧ (m.chainFail cause).mem = m.mem :=
    by simp [Mach.chainFail]

@[simp] theorem Mach.countClamps_keeps (m : Mach) :
    m.countClamps.par = m.par ∧ m.countClamps.tim = m.tim ∧ m.countClamps.pwr = m.pwr ∧ m.countClamps.boot = m.boot ∧
    m.countClamps.vlt = m.vlt ∧ m.countClamps.ins = m.ins ∧ m.countClamps.hall = m.hall ∧ m.countClamps.fe = m.fe ∧
    m.countClamps.trm = m.trm ∧ m.countClamps.mnt = m.mnt ∧ m.countClamps.trg = m.trg ∧ m.countClamps.qre = m.qre ∧
    m.countClamps.store = m.store ∧ m.countClamps.ldg = m.ldg ∧ m.countClamps.tels = m.tels ∧ m.countClamps.dsp = m.dsp ∧
    m.countClamps.asy = m.asy ∧ m.countClamps.iso = m.iso ∧ m.countClamps.cal = m.cal ∧ m.countClamps.vol = m.vol ∧
    m.countClamps.mem = m.mem :=
    by simp [Mach.countClamps]

@[simp] theorem Mach.storeFolio_keeps (m : Mach) (f : Folio) :
    (m.storeFolio f).par = m.par ∧ (m.storeFolio f).tim = m.tim ∧ (m.storeFolio f).pwr = m.pwr ∧
    (m.storeFolio f).boot = m.boot ∧ (m.storeFolio f).vlt = m.vlt ∧ (m.storeFolio f).ins = m.ins ∧
    (m.storeFolio f).hall = m.hall ∧ (m.storeFolio f).fe = m.fe ∧ (m.storeFolio f).trm = m.trm ∧ (m.storeFolio f).mnt = m.mnt ∧
    (m.storeFolio f).trg = m.trg ∧ (m.storeFolio f).dec = m.dec ∧ (m.storeFolio f).qre = m.qre ∧ (m.storeFolio f).ldg = m.ldg ∧
    (m.storeFolio f).tels = m.tels ∧ (m.storeFolio f).dsp = m.dsp ∧ (m.storeFolio f).asy = m.asy ∧
    (m.storeFolio f).iso = m.iso ∧ (m.storeFolio f).cal = m.cal ∧ (m.storeFolio f).vol = m.vol :=
    by
  unfold Mach.storeFolio
  refine ⟨?_, ?_, ?_, ?_, ?_, ?_, ?_, ?_, ?_, ?_, ?_, ?_, ?_, ?_, ?_, ?_, ?_, ?_, ?_, ?_⟩ <;> ((try dsimp only); (repeat' split) <;> simp [foldl_keeps])

@[simp] theorem Mach.watermark_keeps (m : Mach) :
    m.watermark.ctl = m.ctl ∧ m.watermark.par = m.par ∧ m.watermark.tim = m.tim ∧ m.watermark.pwr = m.pwr ∧
    m.watermark.boot = m.boot ∧ m.watermark.vlt = m.vlt ∧ m.watermark.ins = m.ins ∧ m.watermark.flt = m.flt ∧
    m.watermark.hall = m.hall ∧ m.watermark.fe = m.fe ∧ m.watermark.trm = m.trm ∧ m.watermark.mnt = m.mnt ∧
    m.watermark.trg = m.trg ∧ m.watermark.dec = m.dec ∧ m.watermark.store = m.store ∧ m.watermark.ldg = m.ldg ∧
    m.watermark.tels = m.tels ∧ m.watermark.spn = m.spn ∧ m.watermark.dsp = m.dsp ∧ m.watermark.asy = m.asy ∧
    m.watermark.iso = m.iso ∧ m.watermark.cal = m.cal ∧ m.watermark.vol = m.vol ∧ m.watermark.mem = m.mem :=
    ⟨rfl, rfl, rfl, rfl, rfl, rfl, rfl, rfl, rfl, rfl, rfl, rfl, rfl, rfl, rfl, rfl, rfl, rfl, rfl, rfl, rfl, rfl, rfl, rfl⟩

@[simp] theorem Mach.offer_keeps (m : Mach) (f : Folio) :
    (m.offer f).par = m.par ∧ (m.offer f).tim = m.tim ∧ (m.offer f).pwr = m.pwr ∧ (m.offer f).boot = m.boot ∧
    (m.offer f).vlt = m.vlt ∧ (m.offer f).ins = m.ins ∧ (m.offer f).flt = m.flt ∧ (m.offer f).hall = m.hall ∧
    (m.offer f).fe = m.fe ∧ (m.offer f).trm = m.trm ∧ (m.offer f).mnt = m.mnt ∧ (m.offer f).trg = m.trg ∧
    (m.offer f).dec = m.dec ∧ (m.offer f).qre = m.qre ∧ (m.offer f).store = m.store ∧ (m.offer f).tels = m.tels ∧
    (m.offer f).spn = m.spn ∧ (m.offer f).dsp = m.dsp ∧ (m.offer f).asy = m.asy ∧ (m.offer f).iso = m.iso ∧
    (m.offer f).cal = m.cal ∧ (m.offer f).vol = m.vol ∧ (m.offer f).mem = m.mem :=
    by simp [Mach.offer]

@[simp] theorem Mach.closePage_keeps (m : Mach) (cause : Nat) :
    (m.closePage cause).ctl = m.ctl ∧ (m.closePage cause).par = m.par ∧ (m.closePage cause).tim = m.tim ∧
    (m.closePage cause).pwr = m.pwr ∧ (m.closePage cause).boot = m.boot ∧ (m.closePage cause).vlt = m.vlt ∧
    (m.closePage cause).ins = m.ins ∧ (m.closePage cause).flt = m.flt ∧ (m.closePage cause).hall = m.hall ∧
    (m.closePage cause).fe = m.fe ∧ (m.closePage cause).trm = m.trm ∧ (m.closePage cause).mnt = m.mnt ∧
    (m.closePage cause).trg = m.trg ∧ (m.closePage cause).dec = m.dec ∧ (m.closePage cause).qre = m.qre ∧
    (m.closePage cause).store = m.store ∧ (m.closePage cause).tels = m.tels ∧ (m.closePage cause).spn = m.spn ∧
    (m.closePage cause).dsp = m.dsp ∧ (m.closePage cause).asy = m.asy ∧ (m.closePage cause).iso = m.iso ∧
    (m.closePage cause).cal = m.cal ∧ (m.closePage cause).vol = m.vol ∧ (m.closePage cause).mem = m.mem :=
    by unfold Mach.closePage; dsimp only; (repeat' split) <;> simp

@[simp] theorem Mach.ldgEnds_keeps (m : Mach) :
    m.ldgEnds.ctl = m.ctl ∧ m.ldgEnds.par = m.par ∧ m.ldgEnds.tim = m.tim ∧ m.ldgEnds.pwr = m.pwr ∧ m.ldgEnds.boot = m.boot ∧
    m.ldgEnds.vlt = m.vlt ∧ m.ldgEnds.ins = m.ins ∧ m.ldgEnds.flt = m.flt ∧ m.ldgEnds.hall = m.hall ∧ m.ldgEnds.fe = m.fe ∧
    m.ldgEnds.trm = m.trm ∧ m.ldgEnds.mnt = m.mnt ∧ m.ldgEnds.trg = m.trg ∧ m.ldgEnds.dec = m.dec ∧ m.ldgEnds.qre = m.qre ∧
    m.ldgEnds.store = m.store ∧ m.ldgEnds.tels = m.tels ∧ m.ldgEnds.spn = m.spn ∧ m.ldgEnds.dsp = m.dsp ∧
    m.ldgEnds.asy = m.asy ∧ m.ldgEnds.iso = m.iso ∧ m.ldgEnds.cal = m.cal ∧ m.ldgEnds.vol = m.vol ∧ m.ldgEnds.mem = m.mem :=
    by
  unfold Mach.ldgEnds; dsimp only
  exact ⟨foldl_keeps Mach.ctl _ (fun _ _ => by (repeat' split) <;> simp) _ _, foldl_keeps Mach.par _ (fun _ _ => by (repeat' split) <;> simp) _ _, foldl_keeps Mach.tim _ (fun _ _ => by (repeat' split) <;> simp) _ _, foldl_keeps Mach.pwr _ (fun _ _ => by (repeat' split) <;> simp) _ _, foldl_keeps Mach.boot _ (fun _ _ => by (repeat' split) <;> simp) _ _, foldl_keeps Mach.vlt _ (fun _ _ => by (repeat' split) <;> simp) _ _, foldl_keeps Mach.ins _ (fun _ _ => by (repeat' split) <;> simp) _ _, foldl_keeps Mach.flt _ (fun _ _ => by (repeat' split) <;> simp) _ _, foldl_keeps Mach.hall _ (fun _ _ => by (repeat' split) <;> simp) _ _, foldl_keeps Mach.fe _ (fun _ _ => by (repeat' split) <;> simp) _ _, foldl_keeps Mach.trm _ (fun _ _ => by (repeat' split) <;> simp) _ _, foldl_keeps Mach.mnt _ (fun _ _ => by (repeat' split) <;> simp) _ _, foldl_keeps Mach.trg _ (fun _ _ => by (repeat' split) <;> simp) _ _, foldl_keeps Mach.dec _ (fun _ _ => by (repeat' split) <;> simp) _ _, foldl_keeps Mach.qre _ (fun _ _ => by (repeat' split) <;> simp) _ _, foldl_keeps Mach.store _ (fun _ _ => by (repeat' split) <;> simp) _ _, foldl_keeps Mach.tels _ (fun _ _ => by (repeat' split) <;> simp) _ _, foldl_keeps Mach.spn _ (fun _ _ => by (repeat' split) <;> simp) _ _, foldl_keeps Mach.dsp _ (fun _ _ => by (repeat' split) <;> simp) _ _, foldl_keeps Mach.asy _ (fun _ _ => by (repeat' split) <;> simp) _ _, foldl_keeps Mach.iso _ (fun _ _ => by (repeat' split) <;> simp) _ _, foldl_keeps Mach.cal _ (fun _ _ => by (repeat' split) <;> simp) _ _, foldl_keeps Mach.vol _ (fun _ _ => by (repeat' split) <;> simp) _ _, foldl_keeps Mach.mem _ (fun _ _ => by (repeat' split) <;> simp) _ _⟩

@[simp] theorem Mach.writeHeader_keeps (m : Mach) (f : Folio) :
    (m.writeHeader f).par = m.par ∧ (m.writeHeader f).tim = m.tim ∧ (m.writeHeader f).pwr = m.pwr ∧
    (m.writeHeader f).boot = m.boot ∧ (m.writeHeader f).vlt = m.vlt ∧ (m.writeHeader f).ins = m.ins ∧
    (m.writeHeader f).hall = m.hall ∧ (m.writeHeader f).fe = m.fe ∧ (m.writeHeader f).trm = m.trm ∧
    (m.writeHeader f).mnt = m.mnt ∧ (m.writeHeader f).trg = m.trg ∧ (m.writeHeader f).dec = m.dec ∧
    (m.writeHeader f).tels = m.tels ∧ (m.writeHeader f).dsp = m.dsp ∧ (m.writeHeader f).asy = m.asy ∧
    (m.writeHeader f).iso = m.iso ∧ (m.writeHeader f).cal = m.cal ∧ (m.writeHeader f).vol = m.vol :=
    by unfold Mach.writeHeader; dsimp only; (repeat' split) <;> simp

@[simp] theorem Mach.shedHeaders_keeps (m : Mach) :
    m.shedHeaders.par = m.par ∧ m.shedHeaders.tim = m.tim ∧ m.shedHeaders.pwr = m.pwr ∧ m.shedHeaders.boot = m.boot ∧
    m.shedHeaders.vlt = m.vlt ∧ m.shedHeaders.ins = m.ins ∧ m.shedHeaders.hall = m.hall ∧ m.shedHeaders.fe = m.fe ∧
    m.shedHeaders.trm = m.trm ∧ m.shedHeaders.mnt = m.mnt ∧ m.shedHeaders.trg = m.trg ∧ m.shedHeaders.dec = m.dec ∧
    m.shedHeaders.tels = m.tels ∧ m.shedHeaders.dsp = m.dsp ∧ m.shedHeaders.asy = m.asy ∧ m.shedHeaders.iso = m.iso ∧
    m.shedHeaders.cal = m.cal ∧ m.shedHeaders.vol = m.vol :=
    by
  unfold Mach.shedHeaders
  refine ⟨?_, ?_, ?_, ?_, ?_, ?_, ?_, ?_, ?_, ?_, ?_, ?_, ?_, ?_, ?_, ?_, ?_, ?_⟩ <;> ((try dsimp only); (repeat' split) <;> simp [foldl_keeps])

@[simp] theorem Mach.closeQuire_keeps (m : Mach) (cause : Nat) :
    (m.closeQuire cause).par = m.par ∧ (m.closeQuire cause).tim = m.tim ∧ (m.closeQuire cause).pwr = m.pwr ∧
    (m.closeQuire cause).boot = m.boot ∧ (m.closeQuire cause).vlt = m.vlt ∧ (m.closeQuire cause).ins = m.ins ∧
    (m.closeQuire cause).fe = m.fe ∧ (m.closeQuire cause).trm = m.trm ∧ (m.closeQuire cause).mnt = m.mnt ∧
    (m.closeQuire cause).trg = m.trg ∧ (m.closeQuire cause).tels = m.tels ∧ (m.closeQuire cause).dsp = m.dsp ∧
    (m.closeQuire cause).asy = m.asy ∧ (m.closeQuire cause).iso = m.iso ∧ (m.closeQuire cause).cal = m.cal ∧
    (m.closeQuire cause).vol = m.vol ∧ (m.closeQuire cause).mem = m.mem :=
    by unfold Mach.closeQuire; dsimp only; (repeat' split) <;> simp

@[simp] theorem Mach.volumeStop_keeps (m : Mach) :
    m.volumeStop.par = m.par ∧ m.volumeStop.tim = m.tim ∧ m.volumeStop.pwr = m.pwr ∧ m.volumeStop.boot = m.boot ∧
    m.volumeStop.vlt = m.vlt ∧ m.volumeStop.ins = m.ins ∧ m.volumeStop.fe = m.fe ∧ m.volumeStop.trm = m.trm ∧
    m.volumeStop.mnt = m.mnt ∧ m.volumeStop.trg = m.trg ∧ m.volumeStop.tels = m.tels ∧ m.volumeStop.dsp = m.dsp ∧
    m.volumeStop.asy = m.asy ∧ m.volumeStop.iso = m.iso ∧ m.volumeStop.cal = m.cal ∧ m.volumeStop.vol = m.vol ∧
    m.volumeStop.mem = m.mem :=
    by unfold Mach.volumeStop; dsimp only; (repeat' split) <;> simp

@[simp] theorem Mach.endFolio_keeps (m : Mach) (f : Folio) :
    (m.endFolio f).par = m.par ∧ (m.endFolio f).tim = m.tim ∧ (m.endFolio f).pwr = m.pwr ∧ (m.endFolio f).boot = m.boot ∧
    (m.endFolio f).vlt = m.vlt ∧ (m.endFolio f).ins = m.ins ∧ (m.endFolio f).hall = m.hall ∧ (m.endFolio f).fe = m.fe ∧
    (m.endFolio f).trm = m.trm ∧ (m.endFolio f).mnt = m.mnt ∧ (m.endFolio f).trg = m.trg ∧ (m.endFolio f).dec = m.dec ∧
    (m.endFolio f).ldg = m.ldg ∧ (m.endFolio f).tels = m.tels ∧ (m.endFolio f).dsp = m.dsp ∧ (m.endFolio f).asy = m.asy ∧
    (m.endFolio f).iso = m.iso ∧ (m.endFolio f).cal = m.cal ∧ (m.endFolio f).vol = m.vol :=
    by simp [Mach.endFolio]

@[simp] theorem Mach.truncate_keeps (m : Mach) (x : Nat) :
    (m.truncate x).par = m.par ∧ (m.truncate x).tim = m.tim ∧ (m.truncate x).pwr = m.pwr ∧ (m.truncate x).boot = m.boot ∧
    (m.truncate x).vlt = m.vlt ∧ (m.truncate x).ins = m.ins ∧ (m.truncate x).hall = m.hall ∧ (m.truncate x).fe = m.fe ∧
    (m.truncate x).trm = m.trm ∧ (m.truncate x).mnt = m.mnt ∧ (m.truncate x).trg = m.trg ∧ (m.truncate x).dec = m.dec ∧
    (m.truncate x).ldg = m.ldg ∧ (m.truncate x).tels = m.tels ∧ (m.truncate x).dsp = m.dsp ∧ (m.truncate x).asy = m.asy ∧
    (m.truncate x).iso = m.iso ∧ (m.truncate x).cal = m.cal ∧ (m.truncate x).vol = m.vol :=
    by unfold Mach.truncate; (repeat' split) <;> simp

@[simp] theorem Mach.stopQuire_keeps (m : Mach) (cause x : Nat) :
    (m.stopQuire cause x).par = m.par ∧ (m.stopQuire cause x).tim = m.tim ∧ (m.stopQuire cause x).pwr = m.pwr ∧
    (m.stopQuire cause x).boot = m.boot ∧ (m.stopQuire cause x).vlt = m.vlt ∧ (m.stopQuire cause x).ins = m.ins ∧
    (m.stopQuire cause x).fe = m.fe ∧ (m.stopQuire cause x).trm = m.trm ∧ (m.stopQuire cause x).mnt = m.mnt ∧
    (m.stopQuire cause x).trg = m.trg ∧ (m.stopQuire cause x).tels = m.tels ∧ (m.stopQuire cause x).dsp = m.dsp ∧
    (m.stopQuire cause x).asy = m.asy ∧ (m.stopQuire cause x).iso = m.iso ∧ (m.stopQuire cause x).cal = m.cal ∧
    (m.stopQuire cause x).vol = m.vol :=
    by unfold Mach.stopQuire; (repeat' split) <;> simp

@[simp] theorem Mach.shedQuire_keeps (m : Mach) :
    m.shedQuire.par = m.par ∧ m.shedQuire.tim = m.tim ∧ m.shedQuire.pwr = m.pwr ∧ m.shedQuire.boot = m.boot ∧
    m.shedQuire.vlt = m.vlt ∧ m.shedQuire.ins = m.ins ∧ m.shedQuire.fe = m.fe ∧ m.shedQuire.trm = m.trm ∧
    m.shedQuire.mnt = m.mnt ∧ m.shedQuire.trg = m.trg ∧ m.shedQuire.tels = m.tels ∧ m.shedQuire.dsp = m.dsp ∧
    m.shedQuire.asy = m.asy ∧ m.shedQuire.iso = m.iso ∧ m.shedQuire.cal = m.cal ∧ m.shedQuire.vol = m.vol :=
    by unfold Mach.shedQuire; (repeat' split) <;> simp

@[simp] theorem Mach.undecide_keeps (m : Mach) (p : Nat → Bool) :
    (m.undecide p).par = m.par ∧ (m.undecide p).tim = m.tim ∧ (m.undecide p).pwr = m.pwr ∧ (m.undecide p).boot = m.boot ∧
    (m.undecide p).vlt = m.vlt ∧ (m.undecide p).ins = m.ins ∧ (m.undecide p).hall = m.hall ∧ (m.undecide p).fe = m.fe ∧
    (m.undecide p).trm = m.trm ∧ (m.undecide p).mnt = m.mnt ∧ (m.undecide p).dec = m.dec ∧ (m.undecide p).qre = m.qre ∧
    (m.undecide p).store = m.store ∧ (m.undecide p).ldg = m.ldg ∧ (m.undecide p).tels = m.tels ∧ (m.undecide p).dsp = m.dsp ∧
    (m.undecide p).asy = m.asy ∧ (m.undecide p).iso = m.iso ∧ (m.undecide p).cal = m.cal ∧ (m.undecide p).vol = m.vol ∧
    (m.undecide p).mem = m.mem :=
    ⟨rfl, rfl, rfl, rfl, rfl, rfl, rfl, rfl, rfl, rfl, rfl, rfl, rfl, rfl, rfl, rfl, rfl, rfl, rfl, rfl, rfl⟩

@[simp] theorem Mach.refuseArm_keeps (m : Mach) (qid : Word) (cause : Nat) :
    (m.refuseArm qid cause).par = m.par ∧ (m.refuseArm qid cause).tim = m.tim ∧ (m.refuseArm qid cause).pwr = m.pwr ∧
    (m.refuseArm qid cause).boot = m.boot ∧ (m.refuseArm qid cause).vlt = m.vlt ∧ (m.refuseArm qid cause).ins = m.ins ∧
    (m.refuseArm qid cause).hall = m.hall ∧ (m.refuseArm qid cause).fe = m.fe ∧ (m.refuseArm qid cause).trm = m.trm ∧
    (m.refuseArm qid cause).mnt = m.mnt ∧ (m.refuseArm qid cause).trg = m.trg ∧ (m.refuseArm qid cause).dec = m.dec ∧
    (m.refuseArm qid cause).store = m.store ∧ (m.refuseArm qid cause).ldg = m.ldg ∧ (m.refuseArm qid cause).tels = m.tels ∧
    (m.refuseArm qid cause).dsp = m.dsp ∧ (m.refuseArm qid cause).asy = m.asy ∧ (m.refuseArm qid cause).iso = m.iso ∧
    (m.refuseArm qid cause).cal = m.cal ∧ (m.refuseArm qid cause).vol = m.vol ∧ (m.refuseArm qid cause).mem = m.mem :=
    by simp [Mach.refuseArm]

@[simp] theorem Mach.armQuire_keeps (m : Mach) (vol : Option Word) :
    (m.armQuire vol).tim = m.tim ∧ (m.armQuire vol).pwr = m.pwr ∧ (m.armQuire vol).boot = m.boot ∧
    (m.armQuire vol).vlt = m.vlt ∧ (m.armQuire vol).ins = m.ins ∧ (m.armQuire vol).fe = m.fe ∧ (m.armQuire vol).trm = m.trm ∧
    (m.armQuire vol).mnt = m.mnt ∧ (m.armQuire vol).ldg = m.ldg ∧ (m.armQuire vol).dsp = m.dsp ∧ (m.armQuire vol).asy = m.asy ∧
    (m.armQuire vol).iso = m.iso ∧ (m.armQuire vol).mem = m.mem :=
    by simp [Mach.armQuire]

@[simp] theorem Mach.startVolArm_keeps (m : Mach) :
    m.startVolArm.par = m.par ∧ m.startVolArm.tim = m.tim ∧ m.startVolArm.pwr = m.pwr ∧ m.startVolArm.boot = m.boot ∧
    m.startVolArm.vlt = m.vlt ∧ m.startVolArm.ins = m.ins ∧ m.startVolArm.hall = m.hall ∧ m.startVolArm.fe = m.fe ∧
    m.startVolArm.trm = m.trm ∧ m.startVolArm.mnt = m.mnt ∧ m.startVolArm.trg = m.trg ∧ m.startVolArm.dec = m.dec ∧
    m.startVolArm.store = m.store ∧ m.startVolArm.ldg = m.ldg ∧ m.startVolArm.tels = m.tels ∧ m.startVolArm.dsp = m.dsp ∧
    m.startVolArm.asy = m.asy ∧ m.startVolArm.iso = m.iso ∧ m.startVolArm.cal = m.cal ∧ m.startVolArm.mem = m.mem :=
    by simp [Mach.startVolArm]

@[simp] theorem Mach.armNow_keeps (m : Mach) :
    m.armNow.tim = m.tim ∧ m.armNow.pwr = m.pwr ∧ m.armNow.boot = m.boot ∧ m.armNow.vlt = m.vlt ∧ m.armNow.ins = m.ins ∧
    m.armNow.fe = m.fe ∧ m.armNow.trm = m.trm ∧ m.armNow.mnt = m.mnt ∧ m.armNow.ldg = m.ldg ∧ m.armNow.dsp = m.dsp ∧
    m.armNow.asy = m.asy ∧ m.armNow.iso = m.iso ∧ m.armNow.mem = m.mem :=
    by simp [Mach.armNow]

@[simp] theorem Mach.qreArm_keeps (m : Mach) (v : Word) :
    (m.qreArm v).tim = m.tim ∧ (m.qreArm v).pwr = m.pwr ∧ (m.qreArm v).boot = m.boot ∧ (m.qreArm v).vlt = m.vlt ∧
    (m.qreArm v).ins = m.ins ∧ (m.qreArm v).fe = m.fe ∧ (m.qreArm v).trm = m.trm ∧ (m.qreArm v).mnt = m.mnt ∧
    (m.qreArm v).ldg = m.ldg ∧ (m.qreArm v).dsp = m.dsp ∧ (m.qreArm v).asy = m.asy ∧ (m.qreArm v).iso = m.iso ∧
    (m.qreArm v).mem = m.mem :=
    by simp [Mach.qreArm]

@[simp] theorem Mach.armLanded_keeps (m : Mach) :
    m.armLanded.tim = m.tim ∧ m.armLanded.pwr = m.pwr ∧ m.armLanded.boot = m.boot ∧ m.armLanded.vlt = m.vlt ∧
    m.armLanded.ins = m.ins ∧ m.armLanded.fe = m.fe ∧ m.armLanded.trm = m.trm ∧ m.armLanded.mnt = m.mnt ∧
    m.armLanded.ldg = m.ldg ∧ m.armLanded.dsp = m.dsp ∧ m.armLanded.asy = m.asy ∧ m.armLanded.iso = m.iso ∧
    m.armLanded.mem = m.mem :=
    by
  unfold Mach.armLanded; split
  · exact ⟨behalf_keeps Mach.tim (fun _ _ => rfl) _ _ _ (by simp), behalf_keeps Mach.pwr (fun _ _ => rfl) _ _ _ (by simp), behalf_keeps Mach.boot (fun _ _ => rfl) _ _ _ (by simp), behalf_keeps Mach.vlt (fun _ _ => rfl) _ _ _ (by simp), behalf_keeps Mach.ins (fun _ _ => rfl) _ _ _ (by simp), behalf_keeps Mach.fe (fun _ _ => rfl) _ _ _ (by simp), behalf_keeps Mach.trm (fun _ _ => rfl) _ _ _ (by simp), behalf_keeps Mach.mnt (fun _ _ => rfl) _ _ _ (by simp), behalf_keeps Mach.ldg (fun _ _ => rfl) _ _ _ (by simp), behalf_keeps Mach.dsp (fun _ _ => rfl) _ _ _ (by simp), behalf_keeps Mach.asy (fun _ _ => rfl) _ _ _ (by simp), behalf_keeps Mach.iso (fun _ _ => rfl) _ _ _ (by simp), behalf_keeps Mach.mem (fun _ _ => rfl) _ _ _ (by simp)⟩
  · simp

@[simp] theorem Mach.qreStop_keeps (m : Mach) (v : Word) :
    (m.qreStop v).par = m.par ∧ (m.qreStop v).tim = m.tim ∧ (m.qreStop v).pwr = m.pwr ∧ (m.qreStop v).boot = m.boot ∧
    (m.qreStop v).vlt = m.vlt ∧ (m.qreStop v).ins = m.ins ∧ (m.qreStop v).fe = m.fe ∧ (m.qreStop v).trm = m.trm ∧
    (m.qreStop v).mnt = m.mnt ∧ (m.qreStop v).trg = m.trg ∧ (m.qreStop v).tels = m.tels ∧ (m.qreStop v).dsp = m.dsp ∧
    (m.qreStop v).asy = m.asy ∧ (m.qreStop v).iso = m.iso ∧ (m.qreStop v).cal = m.cal :=
    by unfold Mach.qreStop; dsimp only; (repeat' split) <;> simp

@[simp] theorem Mach.releaseTo_keeps (m : Mach) (n : Nat) :
    (m.releaseTo n).ctl = m.ctl ∧ (m.releaseTo n).par = m.par ∧ (m.releaseTo n).tim = m.tim ∧ (m.releaseTo n).pwr = m.pwr ∧
    (m.releaseTo n).boot = m.boot ∧ (m.releaseTo n).vlt = m.vlt ∧ (m.releaseTo n).ins = m.ins ∧ (m.releaseTo n).flt = m.flt ∧
    (m.releaseTo n).hall = m.hall ∧ (m.releaseTo n).fe = m.fe ∧ (m.releaseTo n).trm = m.trm ∧ (m.releaseTo n).mnt = m.mnt ∧
    (m.releaseTo n).trg = m.trg ∧ (m.releaseTo n).dec = m.dec ∧ (m.releaseTo n).store = m.store ∧ (m.releaseTo n).ldg = m.ldg ∧
    (m.releaseTo n).tels = m.tels ∧ (m.releaseTo n).spn = m.spn ∧ (m.releaseTo n).dsp = m.dsp ∧ (m.releaseTo n).asy = m.asy ∧
    (m.releaseTo n).iso = m.iso ∧ (m.releaseTo n).cal = m.cal ∧ (m.releaseTo n).vol = m.vol ∧ (m.releaseTo n).mem = m.mem :=
    ⟨rfl, rfl, rfl, rfl, rfl, rfl, rfl, rfl, rfl, rfl, rfl, rfl, rfl, rfl, rfl, rfl, rfl, rfl, rfl, rfl, rfl, rfl, rfl, rfl⟩

@[simp] theorem Mach.qreRelease_keeps (m : Mach) (v : Word) :
    (m.qreRelease v).ctl = m.ctl ∧ (m.qreRelease v).par = m.par ∧ (m.qreRelease v).tim = m.tim ∧ (m.qreRelease v).pwr = m.pwr ∧
    (m.qreRelease v).boot = m.boot ∧ (m.qreRelease v).vlt = m.vlt ∧ (m.qreRelease v).ins = m.ins ∧
    (m.qreRelease v).flt = m.flt ∧ (m.qreRelease v).hall = m.hall ∧ (m.qreRelease v).fe = m.fe ∧ (m.qreRelease v).trm = m.trm ∧
    (m.qreRelease v).mnt = m.mnt ∧ (m.qreRelease v).trg = m.trg ∧ (m.qreRelease v).dec = m.dec ∧
    (m.qreRelease v).store = m.store ∧ (m.qreRelease v).ldg = m.ldg ∧ (m.qreRelease v).tels = m.tels ∧
    (m.qreRelease v).spn = m.spn ∧ (m.qreRelease v).dsp = m.dsp ∧ (m.qreRelease v).asy = m.asy ∧ (m.qreRelease v).iso = m.iso ∧
    (m.qreRelease v).cal = m.cal ∧ (m.qreRelease v).vol = m.vol ∧ (m.qreRelease v).mem = m.mem :=
    ⟨rfl, rfl, rfl, rfl, rfl, rfl, rfl, rfl, rfl, rfl, rfl, rfl, rfl, rfl, rfl, rfl, rfl, rfl, rfl, rfl, rfl, rfl, rfl, rfl⟩

@[simp] theorem Mach.folioEnd_keeps (m : Mach) :
    m.folioEnd.par = m.par ∧ m.folioEnd.tim = m.tim ∧ m.folioEnd.pwr = m.pwr ∧ m.folioEnd.boot = m.boot ∧
    m.folioEnd.vlt = m.vlt ∧ m.folioEnd.ins = m.ins ∧ m.folioEnd.fe = m.fe ∧ m.folioEnd.trm = m.trm ∧ m.folioEnd.mnt = m.mnt ∧
    m.folioEnd.trg = m.trg ∧ m.folioEnd.tels = m.tels ∧ m.folioEnd.dsp = m.dsp ∧ m.folioEnd.asy = m.asy ∧
    m.folioEnd.iso = m.iso ∧ m.folioEnd.cal = m.cal ∧ m.folioEnd.vol = m.vol :=
    by unfold Mach.folioEnd; dsimp only; (repeat' split) <;> simp

@[simp] theorem Mach.mintStop_keeps (m : Mach) :
    m.mintStop.par = m.par ∧ m.mintStop.tim = m.tim ∧ m.mintStop.pwr = m.pwr ∧ m.mintStop.boot = m.boot ∧
    m.mintStop.vlt = m.vlt ∧ m.mintStop.ins = m.ins ∧ m.mintStop.hall = m.hall ∧ m.mintStop.fe = m.fe ∧
    m.mintStop.trm = m.trm ∧ m.mintStop.trg = m.trg ∧ m.mintStop.dec = m.dec ∧ m.mintStop.qre = m.qre ∧
    m.mintStop.store = m.store ∧ m.mintStop.ldg = m.ldg ∧ m.mintStop.tels = m.tels ∧ m.mintStop.dsp = m.dsp ∧
    m.mintStop.asy = m.asy ∧ m.mintStop.iso = m.iso ∧ m.mintStop.cal = m.cal ∧ m.mintStop.vol = m.vol ∧
    m.mintStop.mem = m.mem :=
    ⟨rfl, rfl, rfl, rfl, rfl, rfl, rfl, rfl, rfl, rfl, rfl, rfl, rfl, rfl, rfl, rfl, rfl, rfl, rfl, rfl, rfl⟩

@[simp] theorem Mach.gateSlices_keeps (m : Mach) :
    m.gateSlices.par = m.par ∧ m.gateSlices.pwr = m.pwr ∧ m.gateSlices.boot = m.boot ∧ m.gateSlices.vlt = m.vlt ∧
    m.gateSlices.ins = m.ins ∧ m.gateSlices.mnt = m.mnt ∧ m.gateSlices.tels = m.tels ∧ m.gateSlices.dsp = m.dsp ∧
    m.gateSlices.asy = m.asy ∧ m.gateSlices.iso = m.iso ∧ m.gateSlices.vol = m.vol :=
    by unfold Mach.gateSlices; dsimp only; (repeat' split) <;> simp

@[simp] theorem Mach.regrid_keeps (m : Mach) :
    m.regrid.ctl = m.ctl ∧ m.regrid.par = m.par ∧ m.regrid.tim = m.tim ∧ m.regrid.pwr = m.pwr ∧ m.regrid.boot = m.boot ∧
    m.regrid.vlt = m.vlt ∧ m.regrid.ins = m.ins ∧ m.regrid.flt = m.flt ∧ m.regrid.hall = m.hall ∧ m.regrid.fe = m.fe ∧
    m.regrid.trm = m.trm ∧ m.regrid.mnt = m.mnt ∧ m.regrid.trg = m.trg ∧ m.regrid.store = m.store ∧ m.regrid.ldg = m.ldg ∧
    m.regrid.tels = m.tels ∧ m.regrid.spn = m.spn ∧ m.regrid.dsp = m.dsp ∧ m.regrid.asy = m.asy ∧ m.regrid.iso = m.iso ∧
    m.regrid.cal = m.cal ∧ m.regrid.vol = m.vol ∧ m.regrid.mem = m.mem :=
    by simp [Mach.regrid]

@[simp] theorem Mach.blockStart_keeps (m : Mach) :
    m.blockStart.par = m.par ∧ m.blockStart.tim = m.tim ∧ m.blockStart.pwr = m.pwr ∧ m.blockStart.boot = m.boot ∧
    m.blockStart.vlt = m.vlt ∧ m.blockStart.ins = m.ins ∧ m.blockStart.hall = m.hall ∧ m.blockStart.fe = m.fe ∧
    m.blockStart.mnt = m.mnt ∧ m.blockStart.trg = m.trg ∧ m.blockStart.dec = m.dec ∧ m.blockStart.qre = m.qre ∧
    m.blockStart.store = m.store ∧ m.blockStart.ldg = m.ldg ∧ m.blockStart.tels = m.tels ∧ m.blockStart.dsp = m.dsp ∧
    m.blockStart.asy = m.asy ∧ m.blockStart.iso = m.iso ∧ m.blockStart.cal = m.cal ∧ m.blockStart.vol = m.vol ∧
    m.blockStart.mem = m.mem :=
    by simp [Mach.blockStart]

@[simp] theorem Mach.restartSlices_keeps (m : Mach) :
    m.restartSlices.par = m.par ∧ m.restartSlices.pwr = m.pwr ∧ m.restartSlices.boot = m.boot ∧ m.restartSlices.vlt = m.vlt ∧
    m.restartSlices.ins = m.ins ∧ m.restartSlices.hall = m.hall ∧ m.restartSlices.mnt = m.mnt ∧ m.restartSlices.trg = m.trg ∧
    m.restartSlices.store = m.store ∧ m.restartSlices.ldg = m.ldg ∧ m.restartSlices.tels = m.tels ∧
    m.restartSlices.dsp = m.dsp ∧ m.restartSlices.asy = m.asy ∧ m.restartSlices.iso = m.iso ∧ m.restartSlices.cal = m.cal ∧
    m.restartSlices.vol = m.vol ∧ m.restartSlices.mem = m.mem :=
    by simp [Mach.restartSlices]

@[simp] theorem Mach.coreRelock_keeps (m : Mach) (cause : Nat) :
    (m.coreRelock cause).par = m.par ∧ (m.coreRelock cause).pwr = m.pwr ∧ (m.coreRelock cause).boot = m.boot ∧
    (m.coreRelock cause).vlt = m.vlt ∧ (m.coreRelock cause).ins = m.ins ∧ (m.coreRelock cause).tels = m.tels ∧
    (m.coreRelock cause).dsp = m.dsp ∧ (m.coreRelock cause).asy = m.asy ∧ (m.coreRelock cause).iso = m.iso ∧
    (m.coreRelock cause).vol = m.vol :=
    by unfold Mach.coreRelock; dsimp only; (repeat' split) <;> simp

@[simp] theorem Mach.synthRelock_keeps (m : Mach) :
    m.synthRelock.par = m.par ∧ m.synthRelock.pwr = m.pwr ∧ m.synthRelock.boot = m.boot ∧ m.synthRelock.vlt = m.vlt ∧
    m.synthRelock.ins = m.ins ∧ m.synthRelock.tels = m.tels ∧ m.synthRelock.dsp = m.dsp ∧ m.synthRelock.asy = m.asy ∧
    m.synthRelock.iso = m.iso ∧ m.synthRelock.vol = m.vol :=
    by unfold Mach.synthRelock; dsimp only; (repeat' split) <;> simp

@[simp] theorem Mach.refLoss_keeps (m : Mach) (arg : Nat) :
    (m.refLoss arg).par = m.par ∧ (m.refLoss arg).pwr = m.pwr ∧ (m.refLoss arg).boot = m.boot ∧ (m.refLoss arg).vlt = m.vlt ∧
    (m.refLoss arg).ins = m.ins ∧ (m.refLoss arg).fe = m.fe ∧ (m.refLoss arg).trm = m.trm ∧ (m.refLoss arg).mnt = m.mnt ∧
    (m.refLoss arg).trg = m.trg ∧ (m.refLoss arg).dec = m.dec ∧ (m.refLoss arg).qre = m.qre ∧ (m.refLoss arg).store = m.store ∧
    (m.refLoss arg).ldg = m.ldg ∧ (m.refLoss arg).tels = m.tels ∧ (m.refLoss arg).dsp = m.dsp ∧ (m.refLoss arg).asy = m.asy ∧
    (m.refLoss arg).iso = m.iso ∧ (m.refLoss arg).cal = m.cal ∧ (m.refLoss arg).vol = m.vol ∧ (m.refLoss arg).mem = m.mem :=
    by simp [Mach.refLoss]

@[simp] theorem Mach.referenceChange_keeps (m : Mach) (to100 qualified : Bool) :
    (m.referenceChange to100 qualified).par = m.par ∧ (m.referenceChange to100 qualified).pwr = m.pwr ∧
    (m.referenceChange to100 qualified).boot = m.boot ∧ (m.referenceChange to100 qualified).vlt = m.vlt ∧
    (m.referenceChange to100 qualified).ins = m.ins ∧ (m.referenceChange to100 qualified).tels = m.tels ∧
    (m.referenceChange to100 qualified).dsp = m.dsp ∧ (m.referenceChange to100 qualified).asy = m.asy ∧
    (m.referenceChange to100 qualified).iso = m.iso ∧ (m.referenceChange to100 qualified).vol = m.vol :=
    by unfold Mach.referenceChange; dsimp only; (repeat' split) <;> simp

@[simp] theorem Mach.relockRetry_keeps (m : Mach) (v : Word) :
    (m.relockRetry v).par = m.par ∧ (m.relockRetry v).pwr = m.pwr ∧ (m.relockRetry v).boot = m.boot ∧
    (m.relockRetry v).vlt = m.vlt ∧ (m.relockRetry v).ins = m.ins ∧ (m.relockRetry v).tels = m.tels ∧
    (m.relockRetry v).dsp = m.dsp ∧ (m.relockRetry v).asy = m.asy ∧ (m.relockRetry v).iso = m.iso ∧
    (m.relockRetry v).vol = m.vol :=
    by unfold Mach.relockRetry; dsimp only; (repeat' split) <;> simp

@[simp] theorem Mach.setArm_keeps (m : Mach) (v : Word) :
    (m.setArm v).ctl = m.ctl ∧ (m.setArm v).par = m.par ∧ (m.setArm v).pwr = m.pwr ∧ (m.setArm v).boot = m.boot ∧
    (m.setArm v).vlt = m.vlt ∧ (m.setArm v).ins = m.ins ∧ (m.setArm v).flt = m.flt ∧ (m.setArm v).hall = m.hall ∧
    (m.setArm v).fe = m.fe ∧ (m.setArm v).trm = m.trm ∧ (m.setArm v).mnt = m.mnt ∧ (m.setArm v).trg = m.trg ∧
    (m.setArm v).dec = m.dec ∧ (m.setArm v).qre = m.qre ∧ (m.setArm v).store = m.store ∧ (m.setArm v).ldg = m.ldg ∧
    (m.setArm v).tels = m.tels ∧ (m.setArm v).spn = m.spn ∧ (m.setArm v).dsp = m.dsp ∧ (m.setArm v).asy = m.asy ∧
    (m.setArm v).iso = m.iso ∧ (m.setArm v).cal = m.cal ∧ (m.setArm v).vol = m.vol ∧ (m.setArm v).mem = m.mem :=
    by simp [Mach.setArm]

@[simp] theorem Mach.timeStep_keeps (m : Mach) :
    m.timeStep.par = m.par ∧ m.timeStep.pwr = m.pwr ∧ m.timeStep.boot = m.boot ∧ m.timeStep.vlt = m.vlt ∧
    m.timeStep.ins = m.ins ∧ m.timeStep.hall = m.hall ∧ m.timeStep.fe = m.fe ∧ m.timeStep.trm = m.trm ∧
    m.timeStep.mnt = m.mnt ∧ m.timeStep.trg = m.trg ∧ m.timeStep.dec = m.dec ∧ m.timeStep.qre = m.qre ∧
    m.timeStep.store = m.store ∧ m.timeStep.ldg = m.ldg ∧ m.timeStep.tels = m.tels ∧ m.timeStep.dsp = m.dsp ∧
    m.timeStep.asy = m.asy ∧ m.timeStep.iso = m.iso ∧ m.timeStep.cal = m.cal ∧ m.timeStep.vol = m.vol ∧
    m.timeStep.mem = m.mem :=
    by unfold Mach.timeStep; dsimp only; (repeat' split) <;> simp

@[simp] theorem Mach.trimGo_keeps (m : Mach) (st : TrimSt) :
    (m.trimGo st).par = m.par ∧ (m.trimGo st).tim = m.tim ∧ (m.trimGo st).pwr = m.pwr ∧ (m.trimGo st).boot = m.boot ∧
    (m.trimGo st).vlt = m.vlt ∧ (m.trimGo st).ins = m.ins ∧ (m.trimGo st).fe = m.fe ∧ (m.trimGo st).trg = m.trg ∧
    (m.trimGo st).dec = m.dec ∧ (m.trimGo st).qre = m.qre ∧ (m.trimGo st).store = m.store ∧ (m.trimGo st).ldg = m.ldg ∧
    (m.trimGo st).tels = m.tels ∧ (m.trimGo st).dsp = m.dsp ∧ (m.trimGo st).asy = m.asy ∧ (m.trimGo st).iso = m.iso ∧
    (m.trimGo st).cal = m.cal ∧ (m.trimGo st).vol = m.vol ∧ (m.trimGo st).mem = m.mem :=
    by simp [Mach.trimGo]

@[simp] theorem Mach.landEpoch_keeps (m : Mach) (s : TrimSet) (late : Bool) :
    (m.landEpoch s late).par = m.par ∧ (m.landEpoch s late).tim = m.tim ∧ (m.landEpoch s late).pwr = m.pwr ∧
    (m.landEpoch s late).boot = m.boot ∧ (m.landEpoch s late).vlt = m.vlt ∧ (m.landEpoch s late).ins = m.ins ∧
    (m.landEpoch s late).fe = m.fe ∧ (m.landEpoch s late).trg = m.trg ∧ (m.landEpoch s late).dec = m.dec ∧
    (m.landEpoch s late).qre = m.qre ∧ (m.landEpoch s late).store = m.store ∧ (m.landEpoch s late).ldg = m.ldg ∧
    (m.landEpoch s late).tels = m.tels ∧ (m.landEpoch s late).dsp = m.dsp ∧ (m.landEpoch s late).asy = m.asy ∧
    (m.landEpoch s late).iso = m.iso ∧ (m.landEpoch s late).cal = m.cal ∧ (m.landEpoch s late).vol = m.vol ∧
    (m.landEpoch s late).mem = m.mem :=
    by simp [Mach.landEpoch]

@[simp] theorem Mach.spoil_keeps (m : Mach) (k : Nat) :
    (m.spoil k).ctl = m.ctl ∧ (m.spoil k).par = m.par ∧ (m.spoil k).tim = m.tim ∧ (m.spoil k).pwr = m.pwr ∧
    (m.spoil k).boot = m.boot ∧ (m.spoil k).vlt = m.vlt ∧ (m.spoil k).ins = m.ins ∧ (m.spoil k).flt = m.flt ∧
    (m.spoil k).hall = m.hall ∧ (m.spoil k).fe = m.fe ∧ (m.spoil k).mnt = m.mnt ∧ (m.spoil k).trg = m.trg ∧
    (m.spoil k).dec = m.dec ∧ (m.spoil k).qre = m.qre ∧ (m.spoil k).store = m.store ∧ (m.spoil k).ldg = m.ldg ∧
    (m.spoil k).tels = m.tels ∧ (m.spoil k).spn = m.spn ∧ (m.spoil k).dsp = m.dsp ∧ (m.spoil k).asy = m.asy ∧
    (m.spoil k).iso = m.iso ∧ (m.spoil k).cal = m.cal ∧ (m.spoil k).vol = m.vol ∧ (m.spoil k).mem = m.mem :=
    ⟨rfl, rfl, rfl, rfl, rfl, rfl, rfl, rfl, rfl, rfl, rfl, rfl, rfl, rfl, rfl, rfl, rfl, rfl, rfl, rfl, rfl, rfl, rfl, rfl⟩

@[simp] theorem Mach.trimRestart_keeps (m : Mach) (seed : TrimSet) (late : Bool) :
    (m.trimRestart seed late).par = m.par ∧ (m.trimRestart seed late).tim = m.tim ∧ (m.trimRestart seed late).pwr = m.pwr ∧
    (m.trimRestart seed late).boot = m.boot ∧ (m.trimRestart seed late).vlt = m.vlt ∧ (m.trimRestart seed late).ins = m.ins ∧
    (m.trimRestart seed late).fe = m.fe ∧ (m.trimRestart seed late).trg = m.trg ∧ (m.trimRestart seed late).dec = m.dec ∧
    (m.trimRestart seed late).qre = m.qre ∧ (m.trimRestart seed late).store = m.store ∧ (m.trimRestart seed late).ldg = m.ldg ∧
    (m.trimRestart seed late).tels = m.tels ∧ (m.trimRestart seed late).dsp = m.dsp ∧ (m.trimRestart seed late).asy = m.asy ∧
    (m.trimRestart seed late).iso = m.iso ∧ (m.trimRestart seed late).cal = m.cal ∧ (m.trimRestart seed late).vol = m.vol ∧
    (m.trimRestart seed late).mem = m.mem :=
    by simp [Mach.trimRestart]

@[simp] theorem Mach.trimIdle_keeps (m : Mach) :
    m.trimIdle.par = m.par ∧ m.trimIdle.tim = m.tim ∧ m.trimIdle.pwr = m.pwr ∧ m.trimIdle.boot = m.boot ∧
    m.trimIdle.vlt = m.vlt ∧ m.trimIdle.ins = m.ins ∧ m.trimIdle.fe = m.fe ∧ m.trimIdle.trg = m.trg ∧ m.trimIdle.dec = m.dec ∧
    m.trimIdle.qre = m.qre ∧ m.trimIdle.store = m.store ∧ m.trimIdle.ldg = m.ldg ∧ m.trimIdle.tels = m.tels ∧
    m.trimIdle.dsp = m.dsp ∧ m.trimIdle.asy = m.asy ∧ m.trimIdle.iso = m.iso ∧ m.trimIdle.cal = m.cal ∧
    m.trimIdle.vol = m.vol ∧ m.trimIdle.mem = m.mem :=
    by simp [Mach.trimIdle]

@[simp] theorem Mach.trimModeChange_keeps (m : Mach) :
    m.trimModeChange.par = m.par ∧ m.trimModeChange.tim = m.tim ∧ m.trimModeChange.pwr = m.pwr ∧
    m.trimModeChange.boot = m.boot ∧ m.trimModeChange.vlt = m.vlt ∧ m.trimModeChange.ins = m.ins ∧ m.trimModeChange.fe = m.fe ∧
    m.trimModeChange.trg = m.trg ∧ m.trimModeChange.dec = m.dec ∧ m.trimModeChange.qre = m.qre ∧
    m.trimModeChange.store = m.store ∧ m.trimModeChange.ldg = m.ldg ∧ m.trimModeChange.tels = m.tels ∧
    m.trimModeChange.dsp = m.dsp ∧ m.trimModeChange.asy = m.asy ∧ m.trimModeChange.iso = m.iso ∧ m.trimModeChange.cal = m.cal ∧
    m.trimModeChange.vol = m.vol ∧ m.trimModeChange.mem = m.mem :=
    by simp [Mach.trimModeChange]

@[simp] theorem Mach.trimFreqChange_keeps (m : Mach) (old : Nat) :
    (m.trimFreqChange old).par = m.par ∧ (m.trimFreqChange old).tim = m.tim ∧ (m.trimFreqChange old).pwr = m.pwr ∧
    (m.trimFreqChange old).boot = m.boot ∧ (m.trimFreqChange old).vlt = m.vlt ∧ (m.trimFreqChange old).ins = m.ins ∧
    (m.trimFreqChange old).fe = m.fe ∧ (m.trimFreqChange old).trg = m.trg ∧ (m.trimFreqChange old).dec = m.dec ∧
    (m.trimFreqChange old).qre = m.qre ∧ (m.trimFreqChange old).store = m.store ∧ (m.trimFreqChange old).ldg = m.ldg ∧
    (m.trimFreqChange old).tels = m.tels ∧ (m.trimFreqChange old).dsp = m.dsp ∧ (m.trimFreqChange old).asy = m.asy ∧
    (m.trimFreqChange old).iso = m.iso ∧ (m.trimFreqChange old).cal = m.cal ∧ (m.trimFreqChange old).vol = m.vol ∧
    (m.trimFreqChange old).mem = m.mem :=
    by simp [Mach.trimFreqChange]

@[simp] theorem Mach.trimPilotChange_keeps (m : Mach) :
    m.trimPilotChange.par = m.par ∧ m.trimPilotChange.tim = m.tim ∧ m.trimPilotChange.pwr = m.pwr ∧
    m.trimPilotChange.boot = m.boot ∧ m.trimPilotChange.vlt = m.vlt ∧ m.trimPilotChange.ins = m.ins ∧
    m.trimPilotChange.fe = m.fe ∧ m.trimPilotChange.trg = m.trg ∧ m.trimPilotChange.dec = m.dec ∧
    m.trimPilotChange.qre = m.qre ∧ m.trimPilotChange.store = m.store ∧ m.trimPilotChange.ldg = m.ldg ∧
    m.trimPilotChange.tels = m.tels ∧ m.trimPilotChange.dsp = m.dsp ∧ m.trimPilotChange.asy = m.asy ∧
    m.trimPilotChange.iso = m.iso ∧ m.trimPilotChange.cal = m.cal ∧ m.trimPilotChange.vol = m.vol ∧
    m.trimPilotChange.mem = m.mem :=
    by simp [Mach.trimPilotChange]

@[simp] theorem Mach.trimHold_keeps (m : Mach) :
    m.trimHold.par = m.par ∧ m.trimHold.tim = m.tim ∧ m.trimHold.pwr = m.pwr ∧ m.trimHold.boot = m.boot ∧
    m.trimHold.vlt = m.vlt ∧ m.trimHold.ins = m.ins ∧ m.trimHold.fe = m.fe ∧ m.trimHold.trg = m.trg ∧ m.trimHold.dec = m.dec ∧
    m.trimHold.qre = m.qre ∧ m.trimHold.store = m.store ∧ m.trimHold.ldg = m.ldg ∧ m.trimHold.tels = m.tels ∧
    m.trimHold.dsp = m.dsp ∧ m.trimHold.asy = m.asy ∧ m.trimHold.iso = m.iso ∧ m.trimHold.cal = m.cal ∧
    m.trimHold.vol = m.vol ∧ m.trimHold.mem = m.mem :=
    by simp [Mach.trimHold]

@[simp] theorem Mach.pilotLoss_keeps (m : Mach) :
    m.pilotLoss.par = m.par ∧ m.pilotLoss.tim = m.tim ∧ m.pilotLoss.pwr = m.pwr ∧ m.pilotLoss.boot = m.boot ∧
    m.pilotLoss.vlt = m.vlt ∧ m.pilotLoss.ins = m.ins ∧ m.pilotLoss.fe = m.fe ∧ m.pilotLoss.trg = m.trg ∧
    m.pilotLoss.dec = m.dec ∧ m.pilotLoss.qre = m.qre ∧ m.pilotLoss.store = m.store ∧ m.pilotLoss.ldg = m.ldg ∧
    m.pilotLoss.tels = m.tels ∧ m.pilotLoss.dsp = m.dsp ∧ m.pilotLoss.asy = m.asy ∧ m.pilotLoss.iso = m.iso ∧
    m.pilotLoss.cal = m.cal ∧ m.pilotLoss.vol = m.vol ∧ m.pilotLoss.mem = m.mem :=
    by simp [Mach.pilotLoss]

@[simp] theorem Mach.driveCode_keeps (m : Mach) (c : BitVec 14) :
    (m.driveCode c).ctl = m.ctl ∧ (m.driveCode c).par = m.par ∧ (m.driveCode c).tim = m.tim ∧ (m.driveCode c).pwr = m.pwr ∧
    (m.driveCode c).boot = m.boot ∧ (m.driveCode c).vlt = m.vlt ∧ (m.driveCode c).ins = m.ins ∧ (m.driveCode c).flt = m.flt ∧
    (m.driveCode c).hall = m.hall ∧ (m.driveCode c).fe = m.fe ∧ (m.driveCode c).trm = m.trm ∧ (m.driveCode c).trg = m.trg ∧
    (m.driveCode c).dec = m.dec ∧ (m.driveCode c).qre = m.qre ∧ (m.driveCode c).store = m.store ∧ (m.driveCode c).ldg = m.ldg ∧
    (m.driveCode c).tels = m.tels ∧ (m.driveCode c).spn = m.spn ∧ (m.driveCode c).dsp = m.dsp ∧ (m.driveCode c).asy = m.asy ∧
    (m.driveCode c).iso = m.iso ∧ (m.driveCode c).cal = m.cal ∧ (m.driveCode c).vol = m.vol ∧ (m.driveCode c).mem = m.mem :=
    by simp [Mach.driveCode]

@[simp] theorem Mach.mintDrive_keeps (m : Mach) :
    m.mintDrive.par = m.par ∧ m.mintDrive.tim = m.tim ∧ m.mintDrive.pwr = m.pwr ∧ m.mintDrive.boot = m.boot ∧
    m.mintDrive.vlt = m.vlt ∧ m.mintDrive.ins = m.ins ∧ m.mintDrive.hall = m.hall ∧ m.mintDrive.fe = m.fe ∧
    m.mintDrive.trm = m.trm ∧ m.mintDrive.trg = m.trg ∧ m.mintDrive.dec = m.dec ∧ m.mintDrive.qre = m.qre ∧
    m.mintDrive.store = m.store ∧ m.mintDrive.ldg = m.ldg ∧ m.mintDrive.tels = m.tels ∧ m.mintDrive.dsp = m.dsp ∧
    m.mintDrive.asy = m.asy ∧ m.mintDrive.iso = m.iso ∧ m.mintDrive.cal = m.cal ∧ m.mintDrive.vol = m.vol ∧
    m.mintDrive.mem = m.mem :=
    by simp [Mach.mintDrive]

@[simp] theorem Mach.mintSettle_keeps (m : Mach) :
    m.mintSettle.par = m.par ∧ m.mintSettle.tim = m.tim ∧ m.mintSettle.pwr = m.pwr ∧ m.mintSettle.boot = m.boot ∧
    m.mintSettle.vlt = m.vlt ∧ m.mintSettle.ins = m.ins ∧ m.mintSettle.fe = m.fe ∧ m.mintSettle.trg = m.trg ∧
    m.mintSettle.dec = m.dec ∧ m.mintSettle.qre = m.qre ∧ m.mintSettle.store = m.store ∧ m.mintSettle.ldg = m.ldg ∧
    m.mintSettle.tels = m.tels ∧ m.mintSettle.dsp = m.dsp ∧ m.mintSettle.asy = m.asy ∧ m.mintSettle.iso = m.iso ∧
    m.mintSettle.vol = m.vol ∧ m.mintSettle.mem = m.mem :=
    by simp [Mach.mintSettle]

@[simp] theorem Mach.mintUpdate_keeps (m : Mach) :
    m.mintUpdate.par = m.par ∧ m.mintUpdate.tim = m.tim ∧ m.mintUpdate.pwr = m.pwr ∧ m.mintUpdate.boot = m.boot ∧
    m.mintUpdate.vlt = m.vlt ∧ m.mintUpdate.ins = m.ins ∧ m.mintUpdate.fe = m.fe ∧ m.mintUpdate.trg = m.trg ∧
    m.mintUpdate.dec = m.dec ∧ m.mintUpdate.qre = m.qre ∧ m.mintUpdate.store = m.store ∧ m.mintUpdate.ldg = m.ldg ∧
    m.mintUpdate.tels = m.tels ∧ m.mintUpdate.dsp = m.dsp ∧ m.mintUpdate.asy = m.asy ∧ m.mintUpdate.iso = m.iso ∧
    m.mintUpdate.vol = m.vol ∧ m.mintUpdate.mem = m.mem :=
    by simp [Mach.mintUpdate]

@[simp] theorem Mach.mintCopy_keeps (m : Mach) :
    m.mintCopy.ctl = m.ctl ∧ m.mintCopy.par = m.par ∧ m.mintCopy.tim = m.tim ∧ m.mintCopy.pwr = m.pwr ∧
    m.mintCopy.boot = m.boot ∧ m.mintCopy.vlt = m.vlt ∧ m.mintCopy.ins = m.ins ∧ m.mintCopy.flt = m.flt ∧
    m.mintCopy.hall = m.hall ∧ m.mintCopy.fe = m.fe ∧ m.mintCopy.trm = m.trm ∧ m.mintCopy.trg = m.trg ∧
    m.mintCopy.dec = m.dec ∧ m.mintCopy.qre = m.qre ∧ m.mintCopy.store = m.store ∧ m.mintCopy.ldg = m.ldg ∧
    m.mintCopy.tels = m.tels ∧ m.mintCopy.spn = m.spn ∧ m.mintCopy.dsp = m.dsp ∧ m.mintCopy.asy = m.asy ∧
    m.mintCopy.iso = m.iso ∧ m.mintCopy.cal = m.cal ∧ m.mintCopy.vol = m.vol ∧ m.mintCopy.mem = m.mem :=
    by simp [Mach.mintCopy]

@[simp] theorem Mach.mintLeave_keeps (m : Mach) :
    m.mintLeave.par = m.par ∧ m.mintLeave.tim = m.tim ∧ m.mintLeave.pwr = m.pwr ∧ m.mintLeave.boot = m.boot ∧
    m.mintLeave.vlt = m.vlt ∧ m.mintLeave.ins = m.ins ∧ m.mintLeave.fe = m.fe ∧ m.mintLeave.trg = m.trg ∧
    m.mintLeave.dec = m.dec ∧ m.mintLeave.qre = m.qre ∧ m.mintLeave.store = m.store ∧ m.mintLeave.ldg = m.ldg ∧
    m.mintLeave.tels = m.tels ∧ m.mintLeave.dsp = m.dsp ∧ m.mintLeave.asy = m.asy ∧ m.mintLeave.iso = m.iso ∧
    m.mintLeave.vol = m.vol ∧ m.mintLeave.mem = m.mem :=
    by simp [Mach.mintLeave]

@[simp] theorem Mach.settleStart_keeps (m : Mach) (k : Nat) :
    (m.settleStart k).ctl = m.ctl ∧ (m.settleStart k).par = m.par ∧ (m.settleStart k).tim = m.tim ∧
    (m.settleStart k).pwr = m.pwr ∧ (m.settleStart k).boot = m.boot ∧ (m.settleStart k).vlt = m.vlt ∧
    (m.settleStart k).ins = m.ins ∧ (m.settleStart k).flt = m.flt ∧ (m.settleStart k).hall = m.hall ∧
    (m.settleStart k).mnt = m.mnt ∧ (m.settleStart k).trg = m.trg ∧ (m.settleStart k).dec = m.dec ∧
    (m.settleStart k).qre = m.qre ∧ (m.settleStart k).store = m.store ∧ (m.settleStart k).ldg = m.ldg ∧
    (m.settleStart k).tels = m.tels ∧ (m.settleStart k).spn = m.spn ∧ (m.settleStart k).dsp = m.dsp ∧
    (m.settleStart k).asy = m.asy ∧ (m.settleStart k).iso = m.iso ∧ (m.settleStart k).cal = m.cal ∧
    (m.settleStart k).vol = m.vol ∧ (m.settleStart k).mem = m.mem :=
    ⟨rfl, rfl, rfl, rfl, rfl, rfl, rfl, rfl, rfl, rfl, rfl, rfl, rfl, rfl, rfl, rfl, rfl, rfl, rfl, rfl, rfl, rfl, rfl⟩

@[simp] theorem Mach.powerFronts_keeps (m : Mach) :
    m.powerFronts.par = m.par ∧ m.powerFronts.tim = m.tim ∧ m.powerFronts.pwr = m.pwr ∧ m.powerFronts.boot = m.boot ∧
    m.powerFronts.vlt = m.vlt ∧ m.powerFronts.ins = m.ins ∧ m.powerFronts.hall = m.hall ∧ m.powerFronts.mnt = m.mnt ∧
    m.powerFronts.dec = m.dec ∧ m.powerFronts.qre = m.qre ∧ m.powerFronts.store = m.store ∧ m.powerFronts.ldg = m.ldg ∧
    m.powerFronts.tels = m.tels ∧ m.powerFronts.dsp = m.dsp ∧ m.powerFronts.asy = m.asy ∧ m.powerFronts.iso = m.iso ∧
    m.powerFronts.cal = m.cal ∧ m.powerFronts.vol = m.vol ∧ m.powerFronts.mem = m.mem :=
    by
  unfold Mach.powerFronts
  refine ⟨?_, ?_, ?_, ?_, ?_, ?_, ?_, ?_, ?_, ?_, ?_, ?_, ?_, ?_, ?_, ?_, ?_, ?_, ?_⟩ <;> ((try dsimp only); (repeat' split) <;> simp [foldl_keeps])

@[simp] theorem Mach.overloadAtReady_keeps (m : Mach) :
    m.overloadAtReady.par = m.par ∧ m.overloadAtReady.tim = m.tim ∧ m.overloadAtReady.pwr = m.pwr ∧
    m.overloadAtReady.boot = m.boot ∧ m.overloadAtReady.vlt = m.vlt ∧ m.overloadAtReady.ins = m.ins ∧
    m.overloadAtReady.hall = m.hall ∧ m.overloadAtReady.trm = m.trm ∧ m.overloadAtReady.mnt = m.mnt ∧
    m.overloadAtReady.trg = m.trg ∧ m.overloadAtReady.dec = m.dec ∧ m.overloadAtReady.qre = m.qre ∧
    m.overloadAtReady.store = m.store ∧ m.overloadAtReady.ldg = m.ldg ∧ m.overloadAtReady.tels = m.tels ∧
    m.overloadAtReady.dsp = m.dsp ∧ m.overloadAtReady.asy = m.asy ∧ m.overloadAtReady.iso = m.iso ∧
    m.overloadAtReady.cal = m.cal ∧ m.overloadAtReady.vol = m.vol ∧ m.overloadAtReady.mem = m.mem :=
    by
  unfold Mach.overloadAtReady
  refine ⟨?_, ?_, ?_, ?_, ?_, ?_, ?_, ?_, ?_, ?_, ?_, ?_, ?_, ?_, ?_, ?_, ?_, ?_, ?_, ?_, ?_⟩ <;> ((try dsimp only); (repeat' split) <;> simp [foldl_keeps])

@[simp] theorem Mach.settlingEnd_keeps (m : Mach) :
    m.settlingEnd.ctl = m.ctl ∧ m.settlingEnd.par = m.par ∧ m.settlingEnd.tim = m.tim ∧ m.settlingEnd.pwr = m.pwr ∧
    m.settlingEnd.boot = m.boot ∧ m.settlingEnd.vlt = m.vlt ∧ m.settlingEnd.ins = m.ins ∧ m.settlingEnd.flt = m.flt ∧
    m.settlingEnd.hall = m.hall ∧ m.settlingEnd.trm = m.trm ∧ m.settlingEnd.mnt = m.mnt ∧ m.settlingEnd.trg = m.trg ∧
    m.settlingEnd.dec = m.dec ∧ m.settlingEnd.qre = m.qre ∧ m.settlingEnd.store = m.store ∧ m.settlingEnd.ldg = m.ldg ∧
    m.settlingEnd.tels = m.tels ∧ m.settlingEnd.spn = m.spn ∧ m.settlingEnd.dsp = m.dsp ∧ m.settlingEnd.asy = m.asy ∧
    m.settlingEnd.iso = m.iso ∧ m.settlingEnd.cal = m.cal ∧ m.settlingEnd.vol = m.vol ∧ m.settlingEnd.mem = m.mem :=
    ⟨rfl, rfl, rfl, rfl, rfl, rfl, rfl, rfl, rfl, rfl, rfl, rfl, rfl, rfl, rfl, rfl, rfl, rfl, rfl, rfl, rfl, rfl, rfl, rfl⟩

@[simp] theorem Mach.modeChange_keeps (m : Mach) (mode : Bool) :
    (m.modeChange mode).par = m.par ∧ (m.modeChange mode).pwr = m.pwr ∧ (m.modeChange mode).boot = m.boot ∧
    (m.modeChange mode).vlt = m.vlt ∧ (m.modeChange mode).ins = m.ins ∧ (m.modeChange mode).tels = m.tels ∧
    (m.modeChange mode).dsp = m.dsp ∧ (m.modeChange mode).asy = m.asy ∧ (m.modeChange mode).iso = m.iso ∧
    (m.modeChange mode).vol = m.vol :=
    by unfold Mach.modeChange; dsimp only; (repeat' split) <;> simp

@[simp] theorem Mach.calStart_keeps (m : Mach) :
    m.calStart.par = m.par ∧ m.calStart.tim = m.tim ∧ m.calStart.pwr = m.pwr ∧ m.calStart.boot = m.boot ∧
    m.calStart.vlt = m.vlt ∧ m.calStart.ins = m.ins ∧ m.calStart.trg = m.trg ∧ m.calStart.dec = m.dec ∧
    m.calStart.qre = m.qre ∧ m.calStart.store = m.store ∧ m.calStart.ldg = m.ldg ∧ m.calStart.tels = m.tels ∧
    m.calStart.dsp = m.dsp ∧ m.calStart.asy = m.asy ∧ m.calStart.iso = m.iso ∧ m.calStart.vol = m.vol ∧
    m.calStart.mem = m.mem :=
    by simp [Mach.calStart]

@[simp] theorem Mach.frontSet_keeps (m : Mach) (k : Nat) (range : Bool) :
    (m.frontSet k range).par = m.par ∧ (m.frontSet k range).tim = m.tim ∧ (m.frontSet k range).pwr = m.pwr ∧
    (m.frontSet k range).boot = m.boot ∧ (m.frontSet k range).vlt = m.vlt ∧ (m.frontSet k range).ins = m.ins ∧
    (m.frontSet k range).hall = m.hall ∧ (m.frontSet k range).mnt = m.mnt ∧ (m.frontSet k range).trg = m.trg ∧
    (m.frontSet k range).dec = m.dec ∧ (m.frontSet k range).qre = m.qre ∧ (m.frontSet k range).store = m.store ∧
    (m.frontSet k range).ldg = m.ldg ∧ (m.frontSet k range).tels = m.tels ∧ (m.frontSet k range).dsp = m.dsp ∧
    (m.frontSet k range).asy = m.asy ∧ (m.frontSet k range).iso = m.iso ∧ (m.frontSet k range).cal = m.cal ∧
    (m.frontSet k range).vol = m.vol ∧ (m.frontSet k range).mem = m.mem :=
    by simp [Mach.frontSet]

@[simp] theorem Mach.auxHoldEnd_keeps (m : Mach) :
    m.auxHoldEnd.ctl = m.ctl ∧ m.auxHoldEnd.par = m.par ∧ m.auxHoldEnd.tim = m.tim ∧ m.auxHoldEnd.pwr = m.pwr ∧
    m.auxHoldEnd.boot = m.boot ∧ m.auxHoldEnd.vlt = m.vlt ∧ m.auxHoldEnd.ins = m.ins ∧ m.auxHoldEnd.flt = m.flt ∧
    m.auxHoldEnd.hall = m.hall ∧ m.auxHoldEnd.fe = m.fe ∧ m.auxHoldEnd.trm = m.trm ∧ m.auxHoldEnd.mnt = m.mnt ∧
    m.auxHoldEnd.dec = m.dec ∧ m.auxHoldEnd.qre = m.qre ∧ m.auxHoldEnd.store = m.store ∧ m.auxHoldEnd.ldg = m.ldg ∧
    m.auxHoldEnd.tels = m.tels ∧ m.auxHoldEnd.spn = m.spn ∧ m.auxHoldEnd.dsp = m.dsp ∧ m.auxHoldEnd.asy = m.asy ∧
    m.auxHoldEnd.iso = m.iso ∧ m.auxHoldEnd.cal = m.cal ∧ m.auxHoldEnd.vol = m.vol ∧ m.auxHoldEnd.mem = m.mem :=
    by unfold Mach.auxHoldEnd; dsimp only; (repeat' split) <;> simp

@[simp] theorem Mach.openFolio_keeps (m : Mach) (first : Int) (stamp : BitVec 96) (mask : BitVec 64) (winner : Nat) (source : Nat) :
    (m.openFolio first stamp mask winner source).ctl = m.ctl ∧ (m.openFolio first stamp mask winner source).par = m.par ∧
    (m.openFolio first stamp mask winner source).tim = m.tim ∧ (m.openFolio first stamp mask winner source).pwr = m.pwr ∧
    (m.openFolio first stamp mask winner source).boot = m.boot ∧ (m.openFolio first stamp mask winner source).vlt = m.vlt ∧
    (m.openFolio first stamp mask winner source).ins = m.ins ∧ (m.openFolio first stamp mask winner source).flt = m.flt ∧
    (m.openFolio first stamp mask winner source).hall = m.hall ∧ (m.openFolio first stamp mask winner source).fe = m.fe ∧
    (m.openFolio first stamp mask winner source).trm = m.trm ∧ (m.openFolio first stamp mask winner source).mnt = m.mnt ∧
    (m.openFolio first stamp mask winner source).trg = m.trg ∧ (m.openFolio first stamp mask winner source).dec = m.dec ∧
    (m.openFolio first stamp mask winner source).store = m.store ∧ (m.openFolio first stamp mask winner source).ldg = m.ldg ∧
    (m.openFolio first stamp mask winner source).tels = m.tels ∧ (m.openFolio first stamp mask winner source).spn = m.spn ∧
    (m.openFolio first stamp mask winner source).dsp = m.dsp ∧ (m.openFolio first stamp mask winner source).asy = m.asy ∧
    (m.openFolio first stamp mask winner source).iso = m.iso ∧ (m.openFolio first stamp mask winner source).cal = m.cal ∧
    (m.openFolio first stamp mask winner source).vol = m.vol ∧ (m.openFolio first stamp mask winner source).mem = m.mem :=
    ⟨rfl, rfl, rfl, rfl, rfl, rfl, rfl, rfl, rfl, rfl, rfl, rfl, rfl, rfl, rfl, rfl, rfl, rfl, rfl, rfl, rfl, rfl, rfl, rfl⟩

@[simp] theorem Mach.useTaps_keeps (m : Mach) :
    m.useTaps.par = m.par ∧ m.useTaps.tim = m.tim ∧ m.useTaps.pwr = m.pwr ∧ m.useTaps.boot = m.boot ∧ m.useTaps.vlt = m.vlt ∧
    m.useTaps.ins = m.ins ∧ m.useTaps.hall = m.hall ∧ m.useTaps.fe = m.fe ∧ m.useTaps.trm = m.trm ∧ m.useTaps.mnt = m.mnt ∧
    m.useTaps.trg = m.trg ∧ m.useTaps.qre = m.qre ∧ m.useTaps.store = m.store ∧ m.useTaps.ldg = m.ldg ∧
    m.useTaps.tels = m.tels ∧ m.useTaps.dsp = m.dsp ∧ m.useTaps.asy = m.asy ∧ m.useTaps.iso = m.iso ∧ m.useTaps.cal = m.cal ∧
    m.useTaps.vol = m.vol ∧ m.useTaps.mem = m.mem :=
    by simp [Mach.useTaps]

@[simp] theorem Mach.trainDdr_keeps (m : Mach) (full : Bool) :
    (m.trainDdr full).par = m.par ∧ (m.trainDdr full).tim = m.tim ∧ (m.trainDdr full).pwr = m.pwr ∧
    (m.trainDdr full).boot = m.boot ∧ (m.trainDdr full).vlt = m.vlt ∧ (m.trainDdr full).ins = m.ins ∧
    (m.trainDdr full).hall = m.hall ∧ (m.trainDdr full).fe = m.fe ∧ (m.trainDdr full).trm = m.trm ∧
    (m.trainDdr full).mnt = m.mnt ∧ (m.trainDdr full).trg = m.trg ∧ (m.trainDdr full).dec = m.dec ∧
    (m.trainDdr full).qre = m.qre ∧ (m.trainDdr full).ldg = m.ldg ∧ (m.trainDdr full).tels = m.tels ∧
    (m.trainDdr full).dsp = m.dsp ∧ (m.trainDdr full).asy = m.asy ∧ (m.trainDdr full).iso = m.iso ∧
    (m.trainDdr full).cal = m.cal ∧ (m.trainDdr full).vol = m.vol :=
    ⟨rfl, rfl, rfl, rfl, rfl, rfl, rfl, rfl, rfl, rfl, rfl, rfl, rfl, rfl, rfl, rfl, rfl, rfl, rfl, rfl⟩

@[simp] theorem Mach.trainingStart_keeps (m : Mach) :
    m.trainingStart.par = m.par ∧ m.trainingStart.tim = m.tim ∧ m.trainingStart.pwr = m.pwr ∧ m.trainingStart.boot = m.boot ∧
    m.trainingStart.vlt = m.vlt ∧ m.trainingStart.ins = m.ins ∧ m.trainingStart.hall = m.hall ∧ m.trainingStart.fe = m.fe ∧
    m.trainingStart.trm = m.trm ∧ m.trainingStart.mnt = m.mnt ∧ m.trainingStart.trg = m.trg ∧ m.trainingStart.dec = m.dec ∧
    m.trainingStart.qre = m.qre ∧ m.trainingStart.ldg = m.ldg ∧ m.trainingStart.tels = m.tels ∧ m.trainingStart.dsp = m.dsp ∧
    m.trainingStart.asy = m.asy ∧ m.trainingStart.iso = m.iso ∧ m.trainingStart.cal = m.cal ∧ m.trainingStart.vol = m.vol :=
    by simp [Mach.trainingStart]

@[simp] theorem Mach.memRetrain_keeps (m : Mach) (v : Word) :
    (m.memRetrain v).par = m.par ∧ (m.memRetrain v).tim = m.tim ∧ (m.memRetrain v).pwr = m.pwr ∧
    (m.memRetrain v).boot = m.boot ∧ (m.memRetrain v).vlt = m.vlt ∧ (m.memRetrain v).ins = m.ins ∧
    (m.memRetrain v).hall = m.hall ∧ (m.memRetrain v).fe = m.fe ∧ (m.memRetrain v).trm = m.trm ∧ (m.memRetrain v).mnt = m.mnt ∧
    (m.memRetrain v).trg = m.trg ∧ (m.memRetrain v).dec = m.dec ∧ (m.memRetrain v).qre = m.qre ∧ (m.memRetrain v).ldg = m.ldg ∧
    (m.memRetrain v).tels = m.tels ∧ (m.memRetrain v).dsp = m.dsp ∧ (m.memRetrain v).asy = m.asy ∧
    (m.memRetrain v).iso = m.iso ∧ (m.memRetrain v).cal = m.cal ∧ (m.memRetrain v).vol = m.vol :=
    by simp [Mach.memRetrain]

@[simp] theorem Mach.ldgSkip_keeps (m : Mach) (reason : Nat) :
    (m.ldgSkip reason).ctl = m.ctl ∧ (m.ldgSkip reason).par = m.par ∧ (m.ldgSkip reason).tim = m.tim ∧
    (m.ldgSkip reason).pwr = m.pwr ∧ (m.ldgSkip reason).boot = m.boot ∧ (m.ldgSkip reason).vlt = m.vlt ∧
    (m.ldgSkip reason).ins = m.ins ∧ (m.ldgSkip reason).flt = m.flt ∧ (m.ldgSkip reason).hall = m.hall ∧
    (m.ldgSkip reason).fe = m.fe ∧ (m.ldgSkip reason).trm = m.trm ∧ (m.ldgSkip reason).mnt = m.mnt ∧
    (m.ldgSkip reason).trg = m.trg ∧ (m.ldgSkip reason).dec = m.dec ∧ (m.ldgSkip reason).qre = m.qre ∧
    (m.ldgSkip reason).store = m.store ∧ (m.ldgSkip reason).tels = m.tels ∧ (m.ldgSkip reason).spn = m.spn ∧
    (m.ldgSkip reason).dsp = m.dsp ∧ (m.ldgSkip reason).asy = m.asy ∧ (m.ldgSkip reason).iso = m.iso ∧
    (m.ldgSkip reason).cal = m.cal ∧ (m.ldgSkip reason).vol = m.vol ∧ (m.ldgSkip reason).mem = m.mem :=
    ⟨rfl, rfl, rfl, rfl, rfl, rfl, rfl, rfl, rfl, rfl, rfl, rfl, rfl, rfl, rfl, rfl, rfl, rfl, rfl, rfl, rfl, rfl, rfl, rfl⟩

@[simp] theorem Mach.ldgEcc_keeps (m : Mach) (off : Option Nat) :
    (m.ldgEcc off).par = m.par ∧ (m.ldgEcc off).tim = m.tim ∧ (m.ldgEcc off).pwr = m.pwr ∧ (m.ldgEcc off).boot = m.boot ∧
    (m.ldgEcc off).vlt = m.vlt ∧ (m.ldgEcc off).ins = m.ins ∧ (m.ldgEcc off).hall = m.hall ∧ (m.ldgEcc off).fe = m.fe ∧
    (m.ldgEcc off).trm = m.trm ∧ (m.ldgEcc off).mnt = m.mnt ∧ (m.ldgEcc off).trg = m.trg ∧ (m.ldgEcc off).dec = m.dec ∧
    (m.ldgEcc off).qre = m.qre ∧ (m.ldgEcc off).store = m.store ∧ (m.ldgEcc off).tels = m.tels ∧ (m.ldgEcc off).dsp = m.dsp ∧
    (m.ldgEcc off).asy = m.asy ∧ (m.ldgEcc off).iso = m.iso ∧ (m.ldgEcc off).cal = m.cal ∧ (m.ldgEcc off).vol = m.vol ∧
    (m.ldgEcc off).mem = m.mem :=
    by unfold Mach.ldgEcc; dsimp only; (repeat' split) <;> simp

@[simp] theorem Mach.storeEcc_keeps (m : Mach) (a : Nat) :
    (m.storeEcc a).par = m.par ∧ (m.storeEcc a).tim = m.tim ∧ (m.storeEcc a).pwr = m.pwr ∧ (m.storeEcc a).boot = m.boot ∧
    (m.storeEcc a).vlt = m.vlt ∧ (m.storeEcc a).ins = m.ins ∧ (m.storeEcc a).hall = m.hall ∧ (m.storeEcc a).fe = m.fe ∧
    (m.storeEcc a).trm = m.trm ∧ (m.storeEcc a).mnt = m.mnt ∧ (m.storeEcc a).trg = m.trg ∧ (m.storeEcc a).dec = m.dec ∧
    (m.storeEcc a).qre = m.qre ∧ (m.storeEcc a).ldg = m.ldg ∧ (m.storeEcc a).tels = m.tels ∧ (m.storeEcc a).dsp = m.dsp ∧
    (m.storeEcc a).asy = m.asy ∧ (m.storeEcc a).iso = m.iso ∧ (m.storeEcc a).cal = m.cal ∧ (m.storeEcc a).vol = m.vol ∧
    (m.storeEcc a).mem = m.mem :=
    by simp [Mach.storeEcc]

@[simp] theorem Mach.histTouched_keeps (m : Mach) :
    m.histTouched.par = m.par ∧ m.histTouched.tim = m.tim ∧ m.histTouched.pwr = m.pwr ∧ m.histTouched.boot = m.boot ∧
    m.histTouched.vlt = m.vlt ∧ m.histTouched.ins = m.ins ∧ m.histTouched.hall = m.hall ∧ m.histTouched.fe = m.fe ∧
    m.histTouched.trm = m.trm ∧ m.histTouched.mnt = m.mnt ∧ m.histTouched.trg = m.trg ∧ m.histTouched.dec = m.dec ∧
    m.histTouched.qre = m.qre ∧ m.histTouched.store = m.store ∧ m.histTouched.ldg = m.ldg ∧ m.histTouched.tels = m.tels ∧
    m.histTouched.asy = m.asy ∧ m.histTouched.iso = m.iso ∧ m.histTouched.cal = m.cal ∧ m.histTouched.vol = m.vol ∧
    m.histTouched.mem = m.mem :=
    ⟨rfl, rfl, rfl, rfl, rfl, rfl, rfl, rfl, rfl, rfl, rfl, rfl, rfl, rfl, rfl, rfl, rfl, rfl, rfl, rfl, rfl⟩

@[simp] theorem Mach.ldgClose_keeps (m : Mach) (v : Word) :
    (m.ldgClose v).ctl = m.ctl ∧ (m.ldgClose v).par = m.par ∧ (m.ldgClose v).tim = m.tim ∧ (m.ldgClose v).pwr = m.pwr ∧
    (m.ldgClose v).boot = m.boot ∧ (m.ldgClose v).vlt = m.vlt ∧ (m.ldgClose v).ins = m.ins ∧ (m.ldgClose v).flt = m.flt ∧
    (m.ldgClose v).hall = m.hall ∧ (m.ldgClose v).fe = m.fe ∧ (m.ldgClose v).trm = m.trm ∧ (m.ldgClose v).mnt = m.mnt ∧
    (m.ldgClose v).trg = m.trg ∧ (m.ldgClose v).dec = m.dec ∧ (m.ldgClose v).qre = m.qre ∧ (m.ldgClose v).store = m.store ∧
    (m.ldgClose v).tels = m.tels ∧ (m.ldgClose v).spn = m.spn ∧ (m.ldgClose v).dsp = m.dsp ∧ (m.ldgClose v).asy = m.asy ∧
    (m.ldgClose v).iso = m.iso ∧ (m.ldgClose v).cal = m.cal ∧ (m.ldgClose v).vol = m.vol ∧ (m.ldgClose v).mem = m.mem :=
    by simp [Mach.ldgClose]

@[simp] theorem Mach.ldgFree_keeps (m : Mach) (v : Word) :
    (m.ldgFree v).par = m.par ∧ (m.ldgFree v).tim = m.tim ∧ (m.ldgFree v).pwr = m.pwr ∧ (m.ldgFree v).boot = m.boot ∧
    (m.ldgFree v).vlt = m.vlt ∧ (m.ldgFree v).ins = m.ins ∧ (m.ldgFree v).hall = m.hall ∧ (m.ldgFree v).fe = m.fe ∧
    (m.ldgFree v).trm = m.trm ∧ (m.ldgFree v).mnt = m.mnt ∧ (m.ldgFree v).trg = m.trg ∧ (m.ldgFree v).dec = m.dec ∧
    (m.ldgFree v).qre = m.qre ∧ (m.ldgFree v).store = m.store ∧ (m.ldgFree v).tels = m.tels ∧ (m.ldgFree v).dsp = m.dsp ∧
    (m.ldgFree v).asy = m.asy ∧ (m.ldgFree v).iso = m.iso ∧ (m.ldgFree v).cal = m.cal ∧ (m.ldgFree v).vol = m.vol ∧
    (m.ldgFree v).mem = m.mem :=
    by
  unfold Mach.ldgFree
  refine ⟨?_, ?_, ?_, ?_, ?_, ?_, ?_, ?_, ?_, ?_, ?_, ?_, ?_, ?_, ?_, ?_, ?_, ?_, ?_, ?_, ?_⟩ <;> ((try dsimp only); (repeat' split) <;> simp [foldl_keeps])

@[simp] theorem Mach.decayPass_keeps (m : Mach) :
    m.decayPass.par = m.par ∧ m.decayPass.tim = m.tim ∧ m.decayPass.pwr = m.pwr ∧ m.decayPass.boot = m.boot ∧
    m.decayPass.vlt = m.vlt ∧ m.decayPass.ins = m.ins ∧ m.decayPass.flt = m.flt ∧ m.decayPass.hall = m.hall ∧
    m.decayPass.fe = m.fe ∧ m.decayPass.trm = m.trm ∧ m.decayPass.mnt = m.mnt ∧ m.decayPass.trg = m.trg ∧
    m.decayPass.dec = m.dec ∧ m.decayPass.qre = m.qre ∧ m.decayPass.store = m.store ∧ m.decayPass.tels = m.tels ∧
    m.decayPass.spn = m.spn ∧ m.decayPass.dsp = m.dsp ∧ m.decayPass.asy = m.asy ∧ m.decayPass.iso = m.iso ∧
    m.decayPass.cal = m.cal ∧ m.decayPass.vol = m.vol ∧ m.decayPass.mem = m.mem :=
    by simp [Mach.decayPass]

@[simp] theorem Mach.acceptPkt_keeps (m : Mach) (i cls n : Nat) :
    (m.acceptPkt i cls n).ctl = m.ctl ∧ (m.acceptPkt i cls n).par = m.par ∧ (m.acceptPkt i cls n).tim = m.tim ∧
    (m.acceptPkt i cls n).pwr = m.pwr ∧ (m.acceptPkt i cls n).boot = m.boot ∧ (m.acceptPkt i cls n).vlt = m.vlt ∧
    (m.acceptPkt i cls n).ins = m.ins ∧ (m.acceptPkt i cls n).flt = m.flt ∧ (m.acceptPkt i cls n).hall = m.hall ∧
    (m.acceptPkt i cls n).fe = m.fe ∧ (m.acceptPkt i cls n).trm = m.trm ∧ (m.acceptPkt i cls n).mnt = m.mnt ∧
    (m.acceptPkt i cls n).trg = m.trg ∧ (m.acceptPkt i cls n).dec = m.dec ∧ (m.acceptPkt i cls n).qre = m.qre ∧
    (m.acceptPkt i cls n).store = m.store ∧ (m.acceptPkt i cls n).ldg = m.ldg ∧ (m.acceptPkt i cls n).tels = m.tels ∧
    (m.acceptPkt i cls n).dsp = m.dsp ∧ (m.acceptPkt i cls n).asy = m.asy ∧ (m.acceptPkt i cls n).iso = m.iso ∧
    (m.acceptPkt i cls n).cal = m.cal ∧ (m.acceptPkt i cls n).vol = m.vol ∧ (m.acceptPkt i cls n).mem = m.mem :=
    ⟨rfl, rfl, rfl, rfl, rfl, rfl, rfl, rfl, rfl, rfl, rfl, rfl, rfl, rfl, rfl, rfl, rfl, rfl, rfl, rfl, rfl, rfl, rfl, rfl⟩

@[simp] theorem Mach.badRecord_keeps (m : Mach) (i : Nat) :
    (m.badRecord i).ctl = m.ctl ∧ (m.badRecord i).par = m.par ∧ (m.badRecord i).tim = m.tim ∧ (m.badRecord i).pwr = m.pwr ∧
    (m.badRecord i).boot = m.boot ∧ (m.badRecord i).vlt = m.vlt ∧ (m.badRecord i).ins = m.ins ∧ (m.badRecord i).flt = m.flt ∧
    (m.badRecord i).hall = m.hall ∧ (m.badRecord i).fe = m.fe ∧ (m.badRecord i).trm = m.trm ∧ (m.badRecord i).mnt = m.mnt ∧
    (m.badRecord i).trg = m.trg ∧ (m.badRecord i).dec = m.dec ∧ (m.badRecord i).qre = m.qre ∧ (m.badRecord i).store = m.store ∧
    (m.badRecord i).ldg = m.ldg ∧ (m.badRecord i).tels = m.tels ∧ (m.badRecord i).dsp = m.dsp ∧ (m.badRecord i).asy = m.asy ∧
    (m.badRecord i).iso = m.iso ∧ (m.badRecord i).cal = m.cal ∧ (m.badRecord i).vol = m.vol ∧ (m.badRecord i).mem = m.mem :=
    ⟨rfl, rfl, rfl, rfl, rfl, rfl, rfl, rfl, rfl, rfl, rfl, rfl, rfl, rfl, rfl, rfl, rfl, rfl, rfl, rfl, rfl, rfl, rfl, rfl⟩

@[simp] theorem Mach.breakRecord_keeps (m : Mach) (i : Nat) :
    (m.breakRecord i).ctl = m.ctl ∧ (m.breakRecord i).par = m.par ∧ (m.breakRecord i).tim = m.tim ∧
    (m.breakRecord i).pwr = m.pwr ∧ (m.breakRecord i).boot = m.boot ∧ (m.breakRecord i).vlt = m.vlt ∧
    (m.breakRecord i).ins = m.ins ∧ (m.breakRecord i).flt = m.flt ∧ (m.breakRecord i).hall = m.hall ∧
    (m.breakRecord i).fe = m.fe ∧ (m.breakRecord i).trm = m.trm ∧ (m.breakRecord i).mnt = m.mnt ∧
    (m.breakRecord i).trg = m.trg ∧ (m.breakRecord i).dec = m.dec ∧ (m.breakRecord i).qre = m.qre ∧
    (m.breakRecord i).store = m.store ∧ (m.breakRecord i).ldg = m.ldg ∧ (m.breakRecord i).tels = m.tels ∧
    (m.breakRecord i).dsp = m.dsp ∧ (m.breakRecord i).asy = m.asy ∧ (m.breakRecord i).iso = m.iso ∧
    (m.breakRecord i).cal = m.cal ∧ (m.breakRecord i).vol = m.vol ∧ (m.breakRecord i).mem = m.mem :=
    by unfold Mach.breakRecord; dsimp only; (repeat' split) <;> simp

@[simp] theorem Mach.keyRequest_keeps (m : Mach) (i : Nat) (qid : Word) :
    (m.keyRequest i qid).ctl = m.ctl ∧ (m.keyRequest i qid).par = m.par ∧ (m.keyRequest i qid).tim = m.tim ∧
    (m.keyRequest i qid).pwr = m.pwr ∧ (m.keyRequest i qid).boot = m.boot ∧ (m.keyRequest i qid).vlt = m.vlt ∧
    (m.keyRequest i qid).ins = m.ins ∧ (m.keyRequest i qid).flt = m.flt ∧ (m.keyRequest i qid).hall = m.hall ∧
    (m.keyRequest i qid).fe = m.fe ∧ (m.keyRequest i qid).trm = m.trm ∧ (m.keyRequest i qid).mnt = m.mnt ∧
    (m.keyRequest i qid).trg = m.trg ∧ (m.keyRequest i qid).dec = m.dec ∧ (m.keyRequest i qid).qre = m.qre ∧
    (m.keyRequest i qid).store = m.store ∧ (m.keyRequest i qid).ldg = m.ldg ∧ (m.keyRequest i qid).tels = m.tels ∧
    (m.keyRequest i qid).dsp = m.dsp ∧ (m.keyRequest i qid).asy = m.asy ∧ (m.keyRequest i qid).iso = m.iso ∧
    (m.keyRequest i qid).cal = m.cal ∧ (m.keyRequest i qid).vol = m.vol ∧ (m.keyRequest i qid).mem = m.mem :=
    by simp [Mach.keyRequest]

@[simp] theorem Mach.telIrq_keeps (m : Mach) (c k : Nat) (alert : Bool) :
    (m.telIrq c k alert).par = m.par ∧ (m.telIrq c k alert).tim = m.tim ∧ (m.telIrq c k alert).pwr = m.pwr ∧
    (m.telIrq c k alert).boot = m.boot ∧ (m.telIrq c k alert).vlt = m.vlt ∧ (m.telIrq c k alert).ins = m.ins ∧
    (m.telIrq c k alert).hall = m.hall ∧ (m.telIrq c k alert).fe = m.fe ∧ (m.telIrq c k alert).trm = m.trm ∧
    (m.telIrq c k alert).mnt = m.mnt ∧ (m.telIrq c k alert).trg = m.trg ∧ (m.telIrq c k alert).dec = m.dec ∧
    (m.telIrq c k alert).qre = m.qre ∧ (m.telIrq c k alert).store = m.store ∧ (m.telIrq c k alert).ldg = m.ldg ∧
    (m.telIrq c k alert).dsp = m.dsp ∧ (m.telIrq c k alert).asy = m.asy ∧ (m.telIrq c k alert).iso = m.iso ∧
    (m.telIrq c k alert).cal = m.cal ∧ (m.telIrq c k alert).vol = m.vol ∧ (m.telIrq c k alert).mem = m.mem :=
    by simp [Mach.telIrq]

@[simp] theorem Mach.telErrorEnd_keeps (m : Mach) (c cause : Nat) :
    (m.telErrorEnd c cause).par = m.par ∧ (m.telErrorEnd c cause).tim = m.tim ∧ (m.telErrorEnd c cause).pwr = m.pwr ∧
    (m.telErrorEnd c cause).boot = m.boot ∧ (m.telErrorEnd c cause).vlt = m.vlt ∧ (m.telErrorEnd c cause).ins = m.ins ∧
    (m.telErrorEnd c cause).hall = m.hall ∧ (m.telErrorEnd c cause).fe = m.fe ∧ (m.telErrorEnd c cause).trm = m.trm ∧
    (m.telErrorEnd c cause).mnt = m.mnt ∧ (m.telErrorEnd c cause).trg = m.trg ∧ (m.telErrorEnd c cause).dec = m.dec ∧
    (m.telErrorEnd c cause).qre = m.qre ∧ (m.telErrorEnd c cause).store = m.store ∧ (m.telErrorEnd c cause).ldg = m.ldg ∧
    (m.telErrorEnd c cause).dsp = m.dsp ∧ (m.telErrorEnd c cause).asy = m.asy ∧ (m.telErrorEnd c cause).iso = m.iso ∧
    (m.telErrorEnd c cause).cal = m.cal ∧ (m.telErrorEnd c cause).vol = m.vol ∧ (m.telErrorEnd c cause).mem = m.mem :=
    by simp [Mach.telErrorEnd]

@[simp] theorem Mach.recFree_keeps (m : Mach) (c : Nat) :
    (m.recFree c).ctl = m.ctl ∧ (m.recFree c).par = m.par ∧ (m.recFree c).tim = m.tim ∧ (m.recFree c).pwr = m.pwr ∧
    (m.recFree c).boot = m.boot ∧ (m.recFree c).vlt = m.vlt ∧ (m.recFree c).ins = m.ins ∧ (m.recFree c).flt = m.flt ∧
    (m.recFree c).hall = m.hall ∧ (m.recFree c).fe = m.fe ∧ (m.recFree c).trm = m.trm ∧ (m.recFree c).mnt = m.mnt ∧
    (m.recFree c).trg = m.trg ∧ (m.recFree c).dec = m.dec ∧ (m.recFree c).qre = m.qre ∧ (m.recFree c).store = m.store ∧
    (m.recFree c).ldg = m.ldg ∧ (m.recFree c).tels = m.tels ∧ (m.recFree c).dsp = m.dsp ∧ (m.recFree c).asy = m.asy ∧
    (m.recFree c).iso = m.iso ∧ (m.recFree c).cal = m.cal ∧ (m.recFree c).vol = m.vol ∧ (m.recFree c).mem = m.mem :=
    ⟨rfl, rfl, rfl, rfl, rfl, rfl, rfl, rfl, rfl, rfl, rfl, rfl, rfl, rfl, rfl, rfl, rfl, rfl, rfl, rfl, rfl, rfl, rfl, rfl⟩

@[simp] theorem Mach.telFail_keeps (m : Mach) (c cause : Nat) :
    (m.telFail c cause).par = m.par ∧ (m.telFail c cause).tim = m.tim ∧ (m.telFail c cause).pwr = m.pwr ∧
    (m.telFail c cause).boot = m.boot ∧ (m.telFail c cause).vlt = m.vlt ∧ (m.telFail c cause).ins = m.ins ∧
    (m.telFail c cause).hall = m.hall ∧ (m.telFail c cause).fe = m.fe ∧ (m.telFail c cause).trm = m.trm ∧
    (m.telFail c cause).mnt = m.mnt ∧ (m.telFail c cause).trg = m.trg ∧ (m.telFail c cause).dec = m.dec ∧
    (m.telFail c cause).qre = m.qre ∧ (m.telFail c cause).store = m.store ∧ (m.telFail c cause).ldg = m.ldg ∧
    (m.telFail c cause).dsp = m.dsp ∧ (m.telFail c cause).asy = m.asy ∧ (m.telFail c cause).iso = m.iso ∧
    (m.telFail c cause).cal = m.cal ∧ (m.telFail c cause).vol = m.vol ∧ (m.telFail c cause).mem = m.mem :=
    by simp [Mach.telFail]

@[simp] theorem Mach.telIssue_keeps (m : Mach) (c addr : Nat) (bytes : List Byte) (folio : Option (Bool × Bool)) :
    (m.telIssue c addr bytes folio).ctl = m.ctl ∧ (m.telIssue c addr bytes folio).par = m.par ∧
    (m.telIssue c addr bytes folio).tim = m.tim ∧ (m.telIssue c addr bytes folio).pwr = m.pwr ∧
    (m.telIssue c addr bytes folio).boot = m.boot ∧ (m.telIssue c addr bytes folio).vlt = m.vlt ∧
    (m.telIssue c addr bytes folio).ins = m.ins ∧ (m.telIssue c addr bytes folio).flt = m.flt ∧
    (m.telIssue c addr bytes folio).hall = m.hall ∧ (m.telIssue c addr bytes folio).fe = m.fe ∧
    (m.telIssue c addr bytes folio).trm = m.trm ∧ (m.telIssue c addr bytes folio).mnt = m.mnt ∧
    (m.telIssue c addr bytes folio).trg = m.trg ∧ (m.telIssue c addr bytes folio).dec = m.dec ∧
    (m.telIssue c addr bytes folio).qre = m.qre ∧ (m.telIssue c addr bytes folio).store = m.store ∧
    (m.telIssue c addr bytes folio).ldg = m.ldg ∧ (m.telIssue c addr bytes folio).dsp = m.dsp ∧
    (m.telIssue c addr bytes folio).asy = m.asy ∧ (m.telIssue c addr bytes folio).iso = m.iso ∧
    (m.telIssue c addr bytes folio).cal = m.cal ∧ (m.telIssue c addr bytes folio).vol = m.vol ∧
    (m.telIssue c addr bytes folio).mem = m.mem :=
    by unfold Mach.telIssue; dsimp only; (repeat' split) <;> simp

@[simp] theorem Mach.telSettle_keeps (m : Mach) (c : Nat) :
    (m.telSettle c).ctl = m.ctl ∧ (m.telSettle c).par = m.par ∧ (m.telSettle c).tim = m.tim ∧ (m.telSettle c).pwr = m.pwr ∧
    (m.telSettle c).boot = m.boot ∧ (m.telSettle c).vlt = m.vlt ∧ (m.telSettle c).ins = m.ins ∧ (m.telSettle c).flt = m.flt ∧
    (m.telSettle c).hall = m.hall ∧ (m.telSettle c).fe = m.fe ∧ (m.telSettle c).trm = m.trm ∧ (m.telSettle c).mnt = m.mnt ∧
    (m.telSettle c).trg = m.trg ∧ (m.telSettle c).dec = m.dec ∧ (m.telSettle c).qre = m.qre ∧ (m.telSettle c).store = m.store ∧
    (m.telSettle c).ldg = m.ldg ∧ (m.telSettle c).dsp = m.dsp ∧ (m.telSettle c).asy = m.asy ∧ (m.telSettle c).iso = m.iso ∧
    (m.telSettle c).cal = m.cal ∧ (m.telSettle c).vol = m.vol ∧ (m.telSettle c).mem = m.mem :=
    by simp [Mach.telSettle]

@[simp] theorem Mach.telAccept_keeps (m : Mach) (c : Nat) (b : List Byte) :
    (m.telAccept c b).par = m.par ∧ (m.telAccept c b).tim = m.tim ∧ (m.telAccept c b).pwr = m.pwr ∧
    (m.telAccept c b).boot = m.boot ∧ (m.telAccept c b).vlt = m.vlt ∧ (m.telAccept c b).ins = m.ins ∧
    (m.telAccept c b).hall = m.hall ∧ (m.telAccept c b).fe = m.fe ∧ (m.telAccept c b).trm = m.trm ∧
    (m.telAccept c b).mnt = m.mnt ∧ (m.telAccept c b).trg = m.trg ∧ (m.telAccept c b).dec = m.dec ∧
    (m.telAccept c b).qre = m.qre ∧ (m.telAccept c b).store = m.store ∧ (m.telAccept c b).ldg = m.ldg ∧
    (m.telAccept c b).dsp = m.dsp ∧ (m.telAccept c b).asy = m.asy ∧ (m.telAccept c b).iso = m.iso ∧
    (m.telAccept c b).cal = m.cal ∧ (m.telAccept c b).vol = m.vol ∧ (m.telAccept c b).mem = m.mem :=
    by simp [Mach.telAccept]

@[simp] theorem Mach.telRead_keeps (m : Mach) (c : Nat) (bad : Bool) :
    (m.telRead c bad).par = m.par ∧ (m.telRead c bad).tim = m.tim ∧ (m.telRead c bad).pwr = m.pwr ∧
    (m.telRead c bad).boot = m.boot ∧ (m.telRead c bad).vlt = m.vlt ∧ (m.telRead c bad).ins = m.ins ∧
    (m.telRead c bad).hall = m.hall ∧ (m.telRead c bad).fe = m.fe ∧ (m.telRead c bad).trm = m.trm ∧
    (m.telRead c bad).mnt = m.mnt ∧ (m.telRead c bad).trg = m.trg ∧ (m.telRead c bad).dec = m.dec ∧
    (m.telRead c bad).qre = m.qre ∧ (m.telRead c bad).ldg = m.ldg ∧ (m.telRead c bad).dsp = m.dsp ∧
    (m.telRead c bad).asy = m.asy ∧ (m.telRead c bad).iso = m.iso ∧ (m.telRead c bad).cal = m.cal ∧
    (m.telRead c bad).vol = m.vol ∧ (m.telRead c bad).mem = m.mem :=
    by simp [Mach.telRead]

@[simp] theorem Mach.telCtl_keeps (m : Mach) (c : Nat) (v : Word) :
    (m.telCtl c v).par = m.par ∧ (m.telCtl c v).tim = m.tim ∧ (m.telCtl c v).pwr = m.pwr ∧ (m.telCtl c v).boot = m.boot ∧
    (m.telCtl c v).vlt = m.vlt ∧ (m.telCtl c v).ins = m.ins ∧ (m.telCtl c v).hall = m.hall ∧ (m.telCtl c v).fe = m.fe ∧
    (m.telCtl c v).trm = m.trm ∧ (m.telCtl c v).mnt = m.mnt ∧ (m.telCtl c v).trg = m.trg ∧ (m.telCtl c v).dec = m.dec ∧
    (m.telCtl c v).qre = m.qre ∧ (m.telCtl c v).store = m.store ∧ (m.telCtl c v).ldg = m.ldg ∧ (m.telCtl c v).dsp = m.dsp ∧
    (m.telCtl c v).asy = m.asy ∧ (m.telCtl c v).iso = m.iso ∧ (m.telCtl c v).cal = m.cal ∧ (m.telCtl c v).vol = m.vol ∧
    (m.telCtl c v).mem = m.mem :=
    by unfold Mach.telCtl; dsimp only; (repeat' split) <;> simp

@[simp] theorem Mach.holdReread_keeps (m : Mach) (c : Nat) (bad : Bool) :
    (m.holdReread c bad).par = m.par ∧ (m.holdReread c bad).tim = m.tim ∧ (m.holdReread c bad).pwr = m.pwr ∧
    (m.holdReread c bad).boot = m.boot ∧ (m.holdReread c bad).vlt = m.vlt ∧ (m.holdReread c bad).ins = m.ins ∧
    (m.holdReread c bad).hall = m.hall ∧ (m.holdReread c bad).fe = m.fe ∧ (m.holdReread c bad).trm = m.trm ∧
    (m.holdReread c bad).mnt = m.mnt ∧ (m.holdReread c bad).trg = m.trg ∧ (m.holdReread c bad).dec = m.dec ∧
    (m.holdReread c bad).qre = m.qre ∧ (m.holdReread c bad).ldg = m.ldg ∧ (m.holdReread c bad).dsp = m.dsp ∧
    (m.holdReread c bad).asy = m.asy ∧ (m.holdReread c bad).iso = m.iso ∧ (m.holdReread c bad).cal = m.cal ∧
    (m.holdReread c bad).vol = m.vol ∧ (m.holdReread c bad).mem = m.mem :=
    by simp [Mach.holdReread]

@[simp] theorem Mach.telAck_keeps (m : Mach) (c : Nat) (tag : BitVec 16) (bad : Bool) :
    (m.telAck c tag bad).par = m.par ∧ (m.telAck c tag bad).tim = m.tim ∧ (m.telAck c tag bad).pwr = m.pwr ∧
    (m.telAck c tag bad).boot = m.boot ∧ (m.telAck c tag bad).vlt = m.vlt ∧ (m.telAck c tag bad).ins = m.ins ∧
    (m.telAck c tag bad).hall = m.hall ∧ (m.telAck c tag bad).fe = m.fe ∧ (m.telAck c tag bad).trm = m.trm ∧
    (m.telAck c tag bad).mnt = m.mnt ∧ (m.telAck c tag bad).trg = m.trg ∧ (m.telAck c tag bad).dec = m.dec ∧
    (m.telAck c tag bad).qre = m.qre ∧ (m.telAck c tag bad).store = m.store ∧ (m.telAck c tag bad).ldg = m.ldg ∧
    (m.telAck c tag bad).dsp = m.dsp ∧ (m.telAck c tag bad).asy = m.asy ∧ (m.telAck c tag bad).iso = m.iso ∧
    (m.telAck c tag bad).cal = m.cal ∧ (m.telAck c tag bad).vol = m.vol ∧ (m.telAck c tag bad).mem = m.mem :=
    by unfold Mach.telAck; dsimp only; (repeat' split) <;> simp

@[simp] theorem Mach.ackPacket_keeps (m : Mach) (i : Nat) (tag : BitVec 16) (status : BitVec 3) :
    (m.ackPacket i tag status).par = m.par ∧ (m.ackPacket i tag status).tim = m.tim ∧ (m.ackPacket i tag status).pwr = m.pwr ∧
    (m.ackPacket i tag status).boot = m.boot ∧ (m.ackPacket i tag status).vlt = m.vlt ∧
    (m.ackPacket i tag status).ins = m.ins ∧ (m.ackPacket i tag status).hall = m.hall ∧ (m.ackPacket i tag status).fe = m.fe ∧
    (m.ackPacket i tag status).trm = m.trm ∧ (m.ackPacket i tag status).mnt = m.mnt ∧ (m.ackPacket i tag status).trg = m.trg ∧
    (m.ackPacket i tag status).dec = m.dec ∧ (m.ackPacket i tag status).qre = m.qre ∧
    (m.ackPacket i tag status).store = m.store ∧ (m.ackPacket i tag status).ldg = m.ldg ∧
    (m.ackPacket i tag status).dsp = m.dsp ∧ (m.ackPacket i tag status).asy = m.asy ∧ (m.ackPacket i tag status).iso = m.iso ∧
    (m.ackPacket i tag status).cal = m.cal ∧ (m.ackPacket i tag status).vol = m.vol ∧ (m.ackPacket i tag status).mem = m.mem :=
    by simp [Mach.ackPacket]

@[simp] theorem Mach.ackStore_keeps (m : Mach) (c : Nat) :
    (m.ackStore c).par = m.par ∧ (m.ackStore c).tim = m.tim ∧ (m.ackStore c).pwr = m.pwr ∧ (m.ackStore c).boot = m.boot ∧
    (m.ackStore c).vlt = m.vlt ∧ (m.ackStore c).ins = m.ins ∧ (m.ackStore c).hall = m.hall ∧ (m.ackStore c).fe = m.fe ∧
    (m.ackStore c).trm = m.trm ∧ (m.ackStore c).mnt = m.mnt ∧ (m.ackStore c).trg = m.trg ∧ (m.ackStore c).dec = m.dec ∧
    (m.ackStore c).qre = m.qre ∧ (m.ackStore c).ldg = m.ldg ∧ (m.ackStore c).dsp = m.dsp ∧ (m.ackStore c).asy = m.asy ∧
    (m.ackStore c).iso = m.iso ∧ (m.ackStore c).cal = m.cal ∧ (m.ackStore c).vol = m.vol :=
    by unfold Mach.ackStore; dsimp only; (repeat' split) <;> simp

@[simp] theorem Mach.telPortDown_keeps (m : Mach) (p : Nat) :
    (m.telPortDown p).par = m.par ∧ (m.telPortDown p).tim = m.tim ∧ (m.telPortDown p).pwr = m.pwr ∧
    (m.telPortDown p).boot = m.boot ∧ (m.telPortDown p).vlt = m.vlt ∧ (m.telPortDown p).ins = m.ins ∧
    (m.telPortDown p).hall = m.hall ∧ (m.telPortDown p).fe = m.fe ∧ (m.telPortDown p).trm = m.trm ∧
    (m.telPortDown p).mnt = m.mnt ∧ (m.telPortDown p).trg = m.trg ∧ (m.telPortDown p).dec = m.dec ∧
    (m.telPortDown p).qre = m.qre ∧ (m.telPortDown p).store = m.store ∧ (m.telPortDown p).ldg = m.ldg ∧
    (m.telPortDown p).dsp = m.dsp ∧ (m.telPortDown p).asy = m.asy ∧ (m.telPortDown p).iso = m.iso ∧
    (m.telPortDown p).cal = m.cal ∧ (m.telPortDown p).vol = m.vol ∧ (m.telPortDown p).mem = m.mem :=
    by
  unfold Mach.telPortDown
  refine ⟨?_, ?_, ?_, ?_, ?_, ?_, ?_, ?_, ?_, ?_, ?_, ?_, ?_, ?_, ?_, ?_, ?_, ?_, ?_, ?_, ?_⟩ <;> ((try dsimp only); (repeat' split) <;> simp [foldl_keeps])

@[simp] theorem Mach.toPrincipal_keeps (m : Mach) (op f2 f4 : Nat) :
    (m.toPrincipal op f2 f4).ctl = m.ctl ∧ (m.toPrincipal op f2 f4).par = m.par ∧ (m.toPrincipal op f2 f4).tim = m.tim ∧
    (m.toPrincipal op f2 f4).pwr = m.pwr ∧ (m.toPrincipal op f2 f4).boot = m.boot ∧ (m.toPrincipal op f2 f4).vlt = m.vlt ∧
    (m.toPrincipal op f2 f4).ins = m.ins ∧ (m.toPrincipal op f2 f4).flt = m.flt ∧ (m.toPrincipal op f2 f4).hall = m.hall ∧
    (m.toPrincipal op f2 f4).fe = m.fe ∧ (m.toPrincipal op f2 f4).trm = m.trm ∧ (m.toPrincipal op f2 f4).mnt = m.mnt ∧
    (m.toPrincipal op f2 f4).trg = m.trg ∧ (m.toPrincipal op f2 f4).dec = m.dec ∧ (m.toPrincipal op f2 f4).qre = m.qre ∧
    (m.toPrincipal op f2 f4).store = m.store ∧ (m.toPrincipal op f2 f4).ldg = m.ldg ∧ (m.toPrincipal op f2 f4).tels = m.tels ∧
    (m.toPrincipal op f2 f4).dsp = m.dsp ∧ (m.toPrincipal op f2 f4).asy = m.asy ∧ (m.toPrincipal op f2 f4).iso = m.iso ∧
    (m.toPrincipal op f2 f4).cal = m.cal ∧ (m.toPrincipal op f2 f4).vol = m.vol ∧ (m.toPrincipal op f2 f4).mem = m.mem :=
    by simp [Mach.toPrincipal]

@[simp] theorem Mach.sendDigest_keeps (m : Mach) :
    m.sendDigest.ctl = m.ctl ∧ m.sendDigest.par = m.par ∧ m.sendDigest.tim = m.tim ∧ m.sendDigest.pwr = m.pwr ∧
    m.sendDigest.boot = m.boot ∧ m.sendDigest.vlt = m.vlt ∧ m.sendDigest.ins = m.ins ∧ m.sendDigest.flt = m.flt ∧
    m.sendDigest.hall = m.hall ∧ m.sendDigest.fe = m.fe ∧ m.sendDigest.trm = m.trm ∧ m.sendDigest.mnt = m.mnt ∧
    m.sendDigest.trg = m.trg ∧ m.sendDigest.dec = m.dec ∧ m.sendDigest.qre = m.qre ∧ m.sendDigest.store = m.store ∧
    m.sendDigest.ldg = m.ldg ∧ m.sendDigest.tels = m.tels ∧ m.sendDigest.dsp = m.dsp ∧ m.sendDigest.asy = m.asy ∧
    m.sendDigest.iso = m.iso ∧ m.sendDigest.cal = m.cal ∧ m.sendDigest.vol = m.vol ∧ m.sendDigest.mem = m.mem :=
    by simp [Mach.sendDigest]

@[simp] theorem Mach.volAdrift_keeps (m : Mach) :
    m.volAdrift.par = m.par ∧ m.volAdrift.tim = m.tim ∧ m.volAdrift.pwr = m.pwr ∧ m.volAdrift.boot = m.boot ∧
    m.volAdrift.vlt = m.vlt ∧ m.volAdrift.ins = m.ins ∧ m.volAdrift.fe = m.fe ∧ m.volAdrift.trm = m.trm ∧
    m.volAdrift.mnt = m.mnt ∧ m.volAdrift.trg = m.trg ∧ m.volAdrift.dec = m.dec ∧ m.volAdrift.qre = m.qre ∧
    m.volAdrift.store = m.store ∧ m.volAdrift.ldg = m.ldg ∧ m.volAdrift.tels = m.tels ∧ m.volAdrift.dsp = m.dsp ∧
    m.volAdrift.asy = m.asy ∧ m.volAdrift.iso = m.iso ∧ m.volAdrift.cal = m.cal ∧ m.volAdrift.mem = m.mem :=
    by simp [Mach.volAdrift]

@[simp] theorem Mach.volGo_keeps (m : Mach) (st : VolSt) :
    (m.volGo st).par = m.par ∧ (m.volGo st).tim = m.tim ∧ (m.volGo st).pwr = m.pwr ∧ (m.volGo st).boot = m.boot ∧
    (m.volGo st).vlt = m.vlt ∧ (m.volGo st).ins = m.ins ∧ (m.volGo st).hall = m.hall ∧ (m.volGo st).fe = m.fe ∧
    (m.volGo st).trm = m.trm ∧ (m.volGo st).mnt = m.mnt ∧ (m.volGo st).trg = m.trg ∧ (m.volGo st).dec = m.dec ∧
    (m.volGo st).qre = m.qre ∧ (m.volGo st).store = m.store ∧ (m.volGo st).ldg = m.ldg ∧ (m.volGo st).tels = m.tels ∧
    (m.volGo st).dsp = m.dsp ∧ (m.volGo st).asy = m.asy ∧ (m.volGo st).iso = m.iso ∧ (m.volGo st).cal = m.cal ∧
    (m.volGo st).mem = m.mem :=
    by simp [Mach.volGo]

@[simp] theorem Mach.volStep_keeps (m : Mach) :
    m.volStep.par = m.par ∧ m.volStep.tim = m.tim ∧ m.volStep.pwr = m.pwr ∧ m.volStep.boot = m.boot ∧ m.volStep.vlt = m.vlt ∧
    m.volStep.ins = m.ins ∧ m.volStep.hall = m.hall ∧ m.volStep.fe = m.fe ∧ m.volStep.trm = m.trm ∧ m.volStep.mnt = m.mnt ∧
    m.volStep.trg = m.trg ∧ m.volStep.dec = m.dec ∧ m.volStep.qre = m.qre ∧ m.volStep.store = m.store ∧ m.volStep.ldg = m.ldg ∧
    m.volStep.tels = m.tels ∧ m.volStep.dsp = m.dsp ∧ m.volStep.asy = m.asy ∧ m.volStep.iso = m.iso ∧ m.volStep.cal = m.cal ∧
    m.volStep.mem = m.mem :=
    by unfold Mach.volStep; (repeat' split) <;> simp

@[simp] theorem Mach.volState_keeps (m : Mach) :
    m.volState.par = m.par ∧ m.volState.tim = m.tim ∧ m.volState.pwr = m.pwr ∧ m.volState.boot = m.boot ∧
    m.volState.vlt = m.vlt ∧ m.volState.ins = m.ins ∧ m.volState.fe = m.fe ∧ m.volState.trm = m.trm ∧ m.volState.mnt = m.mnt ∧
    m.volState.trg = m.trg ∧ m.volState.dec = m.dec ∧ m.volState.qre = m.qre ∧ m.volState.store = m.store ∧
    m.volState.ldg = m.ldg ∧ m.volState.tels = m.tels ∧ m.volState.dsp = m.dsp ∧ m.volState.asy = m.asy ∧
    m.volState.iso = m.iso ∧ m.volState.cal = m.cal ∧ m.volState.mem = m.mem :=
    by simp [Mach.volState]

@[simp] theorem Mach.volLeave_keeps (m : Mach) (i : Nat) :
    (m.volLeave i).par = m.par ∧ (m.volLeave i).tim = m.tim ∧ (m.volLeave i).pwr = m.pwr ∧ (m.volLeave i).boot = m.boot ∧
    (m.volLeave i).vlt = m.vlt ∧ (m.volLeave i).ins = m.ins ∧ (m.volLeave i).fe = m.fe ∧ (m.volLeave i).trm = m.trm ∧
    (m.volLeave i).mnt = m.mnt ∧ (m.volLeave i).trg = m.trg ∧ (m.volLeave i).tels = m.tels ∧ (m.volLeave i).dsp = m.dsp ∧
    (m.volLeave i).asy = m.asy ∧ (m.volLeave i).iso = m.iso ∧ (m.volLeave i).cal = m.cal ∧ (m.volLeave i).mem = m.mem :=
    by unfold Mach.volLeave; dsimp only; (repeat' split) <;> simp

@[simp] theorem Mach.joinFail_keeps (m : Mach) (i code a : Nat) :
    (m.joinFail i code a).par = m.par ∧ (m.joinFail i code a).tim = m.tim ∧ (m.joinFail i code a).pwr = m.pwr ∧
    (m.joinFail i code a).boot = m.boot ∧ (m.joinFail i code a).vlt = m.vlt ∧ (m.joinFail i code a).ins = m.ins ∧
    (m.joinFail i code a).hall = m.hall ∧ (m.joinFail i code a).fe = m.fe ∧ (m.joinFail i code a).trm = m.trm ∧
    (m.joinFail i code a).mnt = m.mnt ∧ (m.joinFail i code a).trg = m.trg ∧ (m.joinFail i code a).dec = m.dec ∧
    (m.joinFail i code a).qre = m.qre ∧ (m.joinFail i code a).store = m.store ∧ (m.joinFail i code a).ldg = m.ldg ∧
    (m.joinFail i code a).tels = m.tels ∧ (m.joinFail i code a).dsp = m.dsp ∧ (m.joinFail i code a).asy = m.asy ∧
    (m.joinFail i code a).iso = m.iso ∧ (m.joinFail i code a).cal = m.cal ∧ (m.joinFail i code a).vol = m.vol ∧
    (m.joinFail i code a).mem = m.mem :=
    by simp [Mach.joinFail]

@[simp] theorem Mach.volPortUp_keeps (m : Mach) (i : Nat) :
    (m.volPortUp i).par = m.par ∧ (m.volPortUp i).tim = m.tim ∧ (m.volPortUp i).pwr = m.pwr ∧ (m.volPortUp i).boot = m.boot ∧
    (m.volPortUp i).vlt = m.vlt ∧ (m.volPortUp i).ins = m.ins ∧ (m.volPortUp i).fe = m.fe ∧ (m.volPortUp i).trm = m.trm ∧
    (m.volPortUp i).mnt = m.mnt ∧ (m.volPortUp i).trg = m.trg ∧ (m.volPortUp i).dec = m.dec ∧ (m.volPortUp i).qre = m.qre ∧
    (m.volPortUp i).store = m.store ∧ (m.volPortUp i).ldg = m.ldg ∧ (m.volPortUp i).tels = m.tels ∧
    (m.volPortUp i).dsp = m.dsp ∧ (m.volPortUp i).asy = m.asy ∧ (m.volPortUp i).iso = m.iso ∧ (m.volPortUp i).cal = m.cal ∧
    (m.volPortUp i).mem = m.mem :=
    by simp [Mach.volPortUp]

@[simp] theorem Mach.hopDone_keeps (m : Mach) :
    m.hopDone.par = m.par ∧ m.hopDone.tim = m.tim ∧ m.hopDone.pwr = m.pwr ∧ m.hopDone.boot = m.boot ∧ m.hopDone.vlt = m.vlt ∧
    m.hopDone.ins = m.ins ∧ m.hopDone.hall = m.hall ∧ m.hopDone.fe = m.fe ∧ m.hopDone.trm = m.trm ∧ m.hopDone.mnt = m.mnt ∧
    m.hopDone.trg = m.trg ∧ m.hopDone.dec = m.dec ∧ m.hopDone.qre = m.qre ∧ m.hopDone.store = m.store ∧ m.hopDone.ldg = m.ldg ∧
    m.hopDone.tels = m.tels ∧ m.hopDone.dsp = m.dsp ∧ m.hopDone.asy = m.asy ∧ m.hopDone.iso = m.iso ∧ m.hopDone.cal = m.cal ∧
    m.hopDone.mem = m.mem :=
    by unfold Mach.hopDone; dsimp only; (repeat' split) <;> simp

@[simp] theorem Mach.vturn_keeps (m : Mach) (i count turn : Nat) :
    (m.vturn i count turn).par = m.par ∧ (m.vturn i count turn).tim = m.tim ∧ (m.vturn i count turn).pwr = m.pwr ∧
    (m.vturn i count turn).boot = m.boot ∧ (m.vturn i count turn).vlt = m.vlt ∧ (m.vturn i count turn).ins = m.ins ∧
    (m.vturn i count turn).hall = m.hall ∧ (m.vturn i count turn).fe = m.fe ∧ (m.vturn i count turn).trm = m.trm ∧
    (m.vturn i count turn).mnt = m.mnt ∧ (m.vturn i count turn).trg = m.trg ∧ (m.vturn i count turn).dec = m.dec ∧
    (m.vturn i count turn).qre = m.qre ∧ (m.vturn i count turn).store = m.store ∧ (m.vturn i count turn).ldg = m.ldg ∧
    (m.vturn i count turn).tels = m.tels ∧ (m.vturn i count turn).dsp = m.dsp ∧ (m.vturn i count turn).asy = m.asy ∧
    (m.vturn i count turn).iso = m.iso ∧ (m.vturn i count turn).cal = m.cal ∧ (m.vturn i count turn).mem = m.mem :=
    by simp [Mach.vturn]

@[simp] theorem Mach.vhop_keeps (m : Mach) (i : Nat) (thetaW : Int) (xd : Nat) :
    (m.vhop i thetaW xd).par = m.par ∧ (m.vhop i thetaW xd).tim = m.tim ∧ (m.vhop i thetaW xd).pwr = m.pwr ∧
    (m.vhop i thetaW xd).boot = m.boot ∧ (m.vhop i thetaW xd).vlt = m.vlt ∧ (m.vhop i thetaW xd).ins = m.ins ∧
    (m.vhop i thetaW xd).fe = m.fe ∧ (m.vhop i thetaW xd).trm = m.trm ∧ (m.vhop i thetaW xd).mnt = m.mnt ∧
    (m.vhop i thetaW xd).trg = m.trg ∧ (m.vhop i thetaW xd).dec = m.dec ∧ (m.vhop i thetaW xd).qre = m.qre ∧
    (m.vhop i thetaW xd).store = m.store ∧ (m.vhop i thetaW xd).ldg = m.ldg ∧ (m.vhop i thetaW xd).tels = m.tels ∧
    (m.vhop i thetaW xd).dsp = m.dsp ∧ (m.vhop i thetaW xd).asy = m.asy ∧ (m.vhop i thetaW xd).iso = m.iso ∧
    (m.vhop i thetaW xd).cal = m.cal ∧ (m.vhop i thetaW xd).mem = m.mem :=
    by unfold Mach.vhop; dsimp only; (repeat' split) <;> simp

@[simp] theorem Mach.alignStart_keeps (m : Mach) (theta : Int) (ring : Bool) :
    (m.alignStart theta ring).par = m.par ∧ (m.alignStart theta ring).tim = m.tim ∧ (m.alignStart theta ring).pwr = m.pwr ∧
    (m.alignStart theta ring).boot = m.boot ∧ (m.alignStart theta ring).vlt = m.vlt ∧ (m.alignStart theta ring).ins = m.ins ∧
    (m.alignStart theta ring).hall = m.hall ∧ (m.alignStart theta ring).fe = m.fe ∧ (m.alignStart theta ring).trm = m.trm ∧
    (m.alignStart theta ring).mnt = m.mnt ∧ (m.alignStart theta ring).trg = m.trg ∧ (m.alignStart theta ring).dec = m.dec ∧
    (m.alignStart theta ring).qre = m.qre ∧ (m.alignStart theta ring).store = m.store ∧ (m.alignStart theta ring).ldg = m.ldg ∧
    (m.alignStart theta ring).tels = m.tels ∧ (m.alignStart theta ring).dsp = m.dsp ∧ (m.alignStart theta ring).asy = m.asy ∧
    (m.alignStart theta ring).iso = m.iso ∧ (m.alignStart theta ring).cal = m.cal ∧ (m.alignStart theta ring).mem = m.mem :=
    by unfold Mach.alignStart; dsimp only; (repeat' split) <;> simp

@[simp] theorem Mach.ringCalAlign_keeps (m : Mach) :
    m.ringCalAlign.par = m.par ∧ m.ringCalAlign.tim = m.tim ∧ m.ringCalAlign.pwr = m.pwr ∧ m.ringCalAlign.boot = m.boot ∧
    m.ringCalAlign.vlt = m.vlt ∧ m.ringCalAlign.ins = m.ins ∧ m.ringCalAlign.hall = m.hall ∧ m.ringCalAlign.fe = m.fe ∧
    m.ringCalAlign.trm = m.trm ∧ m.ringCalAlign.mnt = m.mnt ∧ m.ringCalAlign.trg = m.trg ∧ m.ringCalAlign.dec = m.dec ∧
    m.ringCalAlign.qre = m.qre ∧ m.ringCalAlign.store = m.store ∧ m.ringCalAlign.ldg = m.ldg ∧ m.ringCalAlign.tels = m.tels ∧
    m.ringCalAlign.dsp = m.dsp ∧ m.ringCalAlign.asy = m.asy ∧ m.ringCalAlign.iso = m.iso ∧ m.ringCalAlign.cal = m.cal ∧
    m.ringCalAlign.mem = m.mem :=
    by unfold Mach.ringCalAlign; dsimp only; (repeat' split) <;> simp

@[simp] theorem Mach.armGo_keeps (m : Mach) (left : BitVec 8) (a : Int) :
    (m.armGo left a).ctl = m.ctl ∧ (m.armGo left a).par = m.par ∧ (m.armGo left a).tim = m.tim ∧ (m.armGo left a).pwr = m.pwr ∧
    (m.armGo left a).boot = m.boot ∧ (m.armGo left a).vlt = m.vlt ∧ (m.armGo left a).ins = m.ins ∧
    (m.armGo left a).flt = m.flt ∧ (m.armGo left a).hall = m.hall ∧ (m.armGo left a).fe = m.fe ∧ (m.armGo left a).trm = m.trm ∧
    (m.armGo left a).mnt = m.mnt ∧ (m.armGo left a).trg = m.trg ∧ (m.armGo left a).dec = m.dec ∧ (m.armGo left a).qre = m.qre ∧
    (m.armGo left a).store = m.store ∧ (m.armGo left a).ldg = m.ldg ∧ (m.armGo left a).tels = m.tels ∧
    (m.armGo left a).dsp = m.dsp ∧ (m.armGo left a).asy = m.asy ∧ (m.armGo left a).iso = m.iso ∧ (m.armGo left a).cal = m.cal ∧
    (m.armGo left a).mem = m.mem :=
    by unfold Mach.armGo; (repeat' split) <;> simp

@[simp] theorem Mach.armCheck_keeps (m : Mach) :
    m.armCheck.par = m.par ∧ m.armCheck.tim = m.tim ∧ m.armCheck.pwr = m.pwr ∧ m.armCheck.boot = m.boot ∧
    m.armCheck.vlt = m.vlt ∧ m.armCheck.ins = m.ins ∧ m.armCheck.hall = m.hall ∧ m.armCheck.fe = m.fe ∧
    m.armCheck.trm = m.trm ∧ m.armCheck.mnt = m.mnt ∧ m.armCheck.trg = m.trg ∧ m.armCheck.dec = m.dec ∧
    m.armCheck.qre = m.qre ∧ m.armCheck.store = m.store ∧ m.armCheck.ldg = m.ldg ∧ m.armCheck.tels = m.tels ∧
    m.armCheck.dsp = m.dsp ∧ m.armCheck.asy = m.asy ∧ m.armCheck.iso = m.iso ∧ m.armCheck.cal = m.cal ∧
    m.armCheck.mem = m.mem :=
    by unfold Mach.armCheck; (repeat' split) <;> simp

@[simp] theorem Mach.sendReady_keeps (m : Mach) (bits : BitVec 16) :
    (m.sendReady bits).ctl = m.ctl ∧ (m.sendReady bits).par = m.par ∧ (m.sendReady bits).tim = m.tim ∧
    (m.sendReady bits).pwr = m.pwr ∧ (m.sendReady bits).boot = m.boot ∧ (m.sendReady bits).vlt = m.vlt ∧
    (m.sendReady bits).ins = m.ins ∧ (m.sendReady bits).flt = m.flt ∧ (m.sendReady bits).hall = m.hall ∧
    (m.sendReady bits).fe = m.fe ∧ (m.sendReady bits).trm = m.trm ∧ (m.sendReady bits).mnt = m.mnt ∧
    (m.sendReady bits).trg = m.trg ∧ (m.sendReady bits).dec = m.dec ∧ (m.sendReady bits).qre = m.qre ∧
    (m.sendReady bits).store = m.store ∧ (m.sendReady bits).ldg = m.ldg ∧ (m.sendReady bits).tels = m.tels ∧
    (m.sendReady bits).dsp = m.dsp ∧ (m.sendReady bits).asy = m.asy ∧ (m.sendReady bits).iso = m.iso ∧
    (m.sendReady bits).cal = m.cal ∧ (m.sendReady bits).mem = m.mem :=
    by simp [Mach.sendReady]

@[simp] theorem Mach.volumeArm_keeps (m : Mach) :
    m.volumeArm.tim = m.tim ∧ m.volumeArm.pwr = m.pwr ∧ m.volumeArm.boot = m.boot ∧ m.volumeArm.vlt = m.vlt ∧
    m.volumeArm.ins = m.ins ∧ m.volumeArm.fe = m.fe ∧ m.volumeArm.trm = m.trm ∧ m.volumeArm.mnt = m.mnt ∧
    m.volumeArm.ldg = m.ldg ∧ m.volumeArm.dsp = m.dsp ∧ m.volumeArm.asy = m.asy ∧ m.volumeArm.iso = m.iso ∧
    m.volumeArm.mem = m.mem :=
    by unfold Mach.volumeArm; dsimp only; (repeat' split) <;> simp

@[simp] theorem Mach.fltTest_keeps (m : Mach) (k : Option Master) (v : Word) :
    (m.fltTest k v).par = m.par ∧ (m.fltTest k v).tim = m.tim ∧ (m.fltTest k v).pwr = m.pwr ∧ (m.fltTest k v).boot = m.boot ∧
    (m.fltTest k v).vlt = m.vlt ∧ (m.fltTest k v).ins = m.ins ∧ (m.fltTest k v).hall = m.hall ∧ (m.fltTest k v).fe = m.fe ∧
    (m.fltTest k v).trm = m.trm ∧ (m.fltTest k v).mnt = m.mnt ∧ (m.fltTest k v).trg = m.trg ∧ (m.fltTest k v).dec = m.dec ∧
    (m.fltTest k v).qre = m.qre ∧ (m.fltTest k v).store = m.store ∧ (m.fltTest k v).ldg = m.ldg ∧
    (m.fltTest k v).tels = m.tels ∧ (m.fltTest k v).dsp = m.dsp ∧ (m.fltTest k v).asy = m.asy ∧ (m.fltTest k v).iso = m.iso ∧
    (m.fltTest k v).cal = m.cal ∧ (m.fltTest k v).vol = m.vol ∧ (m.fltTest k v).mem = m.mem :=
    by
  unfold Mach.fltTest
  refine ⟨?_, ?_, ?_, ?_, ?_, ?_, ?_, ?_, ?_, ?_, ?_, ?_, ?_, ?_, ?_, ?_, ?_, ?_, ?_, ?_, ?_, ?_⟩ <;> ((try dsimp only); (repeat' split) <;> simp [foldl_keeps])

@[simp] theorem Mach.alertClear_keeps (m : Mach) (v : Word) (raised : BitVec 11) :
    (m.alertClear v raised).ctl = m.ctl ∧ (m.alertClear v raised).par = m.par ∧ (m.alertClear v raised).tim = m.tim ∧
    (m.alertClear v raised).pwr = m.pwr ∧ (m.alertClear v raised).boot = m.boot ∧ (m.alertClear v raised).vlt = m.vlt ∧
    (m.alertClear v raised).ins = m.ins ∧ (m.alertClear v raised).hall = m.hall ∧ (m.alertClear v raised).fe = m.fe ∧
    (m.alertClear v raised).trm = m.trm ∧ (m.alertClear v raised).mnt = m.mnt ∧ (m.alertClear v raised).trg = m.trg ∧
    (m.alertClear v raised).dec = m.dec ∧ (m.alertClear v raised).qre = m.qre ∧ (m.alertClear v raised).store = m.store ∧
    (m.alertClear v raised).ldg = m.ldg ∧ (m.alertClear v raised).tels = m.tels ∧ (m.alertClear v raised).spn = m.spn ∧
    (m.alertClear v raised).dsp = m.dsp ∧ (m.alertClear v raised).asy = m.asy ∧ (m.alertClear v raised).iso = m.iso ∧
    (m.alertClear v raised).cal = m.cal ∧ (m.alertClear v raised).vol = m.vol ∧ (m.alertClear v raised).mem = m.mem :=
    ⟨rfl, rfl, rfl, rfl, rfl, rfl, rfl, rfl, rfl, rfl, rfl, rfl, rfl, rfl, rfl, rfl, rfl, rfl, rfl, rfl, rfl, rfl, rfl, rfl⟩

@[simp] theorem Mach.modAccs_keeps (m : Mach) (f : Nat → Accu → Accu) :
    (m.modAccs f).ctl = m.ctl ∧ (m.modAccs f).par = m.par ∧ (m.modAccs f).tim = m.tim ∧ (m.modAccs f).pwr = m.pwr ∧
    (m.modAccs f).boot = m.boot ∧ (m.modAccs f).vlt = m.vlt ∧ (m.modAccs f).ins = m.ins ∧ (m.modAccs f).flt = m.flt ∧
    (m.modAccs f).hall = m.hall ∧ (m.modAccs f).fe = m.fe ∧ (m.modAccs f).trm = m.trm ∧ (m.modAccs f).mnt = m.mnt ∧
    (m.modAccs f).trg = m.trg ∧ (m.modAccs f).dec = m.dec ∧ (m.modAccs f).qre = m.qre ∧ (m.modAccs f).store = m.store ∧
    (m.modAccs f).ldg = m.ldg ∧ (m.modAccs f).tels = m.tels ∧ (m.modAccs f).spn = m.spn ∧ (m.modAccs f).dsp = m.dsp ∧
    (m.modAccs f).iso = m.iso ∧ (m.modAccs f).cal = m.cal ∧ (m.modAccs f).vol = m.vol ∧ (m.modAccs f).mem = m.mem :=
    ⟨rfl, rfl, rfl, rfl, rfl, rfl, rfl, rfl, rfl, rfl, rfl, rfl, rfl, rfl, rfl, rfl, rfl, rfl, rfl, rfl, rfl, rfl, rfl, rfl⟩

@[simp] theorem Mach.emptyWindow_keeps (m : Mach) (j : Nat) :
    (m.emptyWindow j).ctl = m.ctl ∧ (m.emptyWindow j).par = m.par ∧ (m.emptyWindow j).tim = m.tim ∧
    (m.emptyWindow j).pwr = m.pwr ∧ (m.emptyWindow j).boot = m.boot ∧ (m.emptyWindow j).vlt = m.vlt ∧
    (m.emptyWindow j).ins = m.ins ∧ (m.emptyWindow j).flt = m.flt ∧ (m.emptyWindow j).hall = m.hall ∧
    (m.emptyWindow j).fe = m.fe ∧ (m.emptyWindow j).trm = m.trm ∧ (m.emptyWindow j).mnt = m.mnt ∧
    (m.emptyWindow j).trg = m.trg ∧ (m.emptyWindow j).dec = m.dec ∧ (m.emptyWindow j).qre = m.qre ∧
    (m.emptyWindow j).store = m.store ∧ (m.emptyWindow j).ldg = m.ldg ∧ (m.emptyWindow j).tels = m.tels ∧
    (m.emptyWindow j).spn = m.spn ∧ (m.emptyWindow j).dsp = m.dsp ∧ (m.emptyWindow j).iso = m.iso ∧
    (m.emptyWindow j).cal = m.cal ∧ (m.emptyWindow j).vol = m.vol ∧ (m.emptyWindow j).mem = m.mem :=
    ⟨rfl, rfl, rfl, rfl, rfl, rfl, rfl, rfl, rfl, rfl, rfl, rfl, rfl, rfl, rfl, rfl, rfl, rfl, rfl, rfl, rfl, rfl, rfl, rfl⟩

@[simp] theorem Mach.haltAcc_keeps (m : Mach) (j : Nat) :
    (m.haltAcc j).ctl = m.ctl ∧ (m.haltAcc j).par = m.par ∧ (m.haltAcc j).tim = m.tim ∧ (m.haltAcc j).pwr = m.pwr ∧
    (m.haltAcc j).boot = m.boot ∧ (m.haltAcc j).vlt = m.vlt ∧ (m.haltAcc j).ins = m.ins ∧ (m.haltAcc j).flt = m.flt ∧
    (m.haltAcc j).hall = m.hall ∧ (m.haltAcc j).fe = m.fe ∧ (m.haltAcc j).trm = m.trm ∧ (m.haltAcc j).mnt = m.mnt ∧
    (m.haltAcc j).trg = m.trg ∧ (m.haltAcc j).dec = m.dec ∧ (m.haltAcc j).qre = m.qre ∧ (m.haltAcc j).store = m.store ∧
    (m.haltAcc j).ldg = m.ldg ∧ (m.haltAcc j).tels = m.tels ∧ (m.haltAcc j).spn = m.spn ∧ (m.haltAcc j).dsp = m.dsp ∧
    (m.haltAcc j).iso = m.iso ∧ (m.haltAcc j).cal = m.cal ∧ (m.haltAcc j).vol = m.vol ∧ (m.haltAcc j).mem = m.mem :=
    ⟨rfl, rfl, rfl, rfl, rfl, rfl, rfl, rfl, rfl, rfl, rfl, rfl, rfl, rfl, rfl, rfl, rfl, rfl, rfl, rfl, rfl, rfl, rfl, rfl⟩

@[simp] theorem Mach.haltAccs_keeps (m : Mach) (p : Nat → Bool) :
    (m.haltAccs p).par = m.par ∧ (m.haltAccs p).tim = m.tim ∧ (m.haltAccs p).pwr = m.pwr ∧ (m.haltAccs p).boot = m.boot ∧
    (m.haltAccs p).vlt = m.vlt ∧ (m.haltAccs p).ins = m.ins ∧ (m.haltAccs p).hall = m.hall ∧ (m.haltAccs p).fe = m.fe ∧
    (m.haltAccs p).trm = m.trm ∧ (m.haltAccs p).mnt = m.mnt ∧ (m.haltAccs p).trg = m.trg ∧ (m.haltAccs p).dec = m.dec ∧
    (m.haltAccs p).qre = m.qre ∧ (m.haltAccs p).store = m.store ∧ (m.haltAccs p).ldg = m.ldg ∧ (m.haltAccs p).tels = m.tels ∧
    (m.haltAccs p).dsp = m.dsp ∧ (m.haltAccs p).iso = m.iso ∧ (m.haltAccs p).cal = m.cal ∧ (m.haltAccs p).vol = m.vol ∧
    (m.haltAccs p).mem = m.mem :=
    by
  unfold Mach.haltAccs
  refine ⟨?_, ?_, ?_, ?_, ?_, ?_, ?_, ?_, ?_, ?_, ?_, ?_, ?_, ?_, ?_, ?_, ?_, ?_, ?_, ?_, ?_⟩ <;> ((try dsimp only); (repeat' split) <;> simp [foldl_keeps])

@[simp] theorem Mach.request_keeps (m : Mach) (j : Nat) :
    (m.request j).ctl = m.ctl ∧ (m.request j).par = m.par ∧ (m.request j).tim = m.tim ∧ (m.request j).pwr = m.pwr ∧
    (m.request j).boot = m.boot ∧ (m.request j).vlt = m.vlt ∧ (m.request j).ins = m.ins ∧ (m.request j).flt = m.flt ∧
    (m.request j).hall = m.hall ∧ (m.request j).fe = m.fe ∧ (m.request j).trm = m.trm ∧ (m.request j).mnt = m.mnt ∧
    (m.request j).trg = m.trg ∧ (m.request j).dec = m.dec ∧ (m.request j).qre = m.qre ∧ (m.request j).store = m.store ∧
    (m.request j).ldg = m.ldg ∧ (m.request j).tels = m.tels ∧ (m.request j).spn = m.spn ∧ (m.request j).dsp = m.dsp ∧
    (m.request j).iso = m.iso ∧ (m.request j).cal = m.cal ∧ (m.request j).vol = m.vol ∧ (m.request j).mem = m.mem :=
    by simp [Mach.request]

@[simp] theorem Mach.requests_keeps (m : Mach) (p : Nat → Bool) :
    (m.requests p).par = m.par ∧ (m.requests p).tim = m.tim ∧ (m.requests p).pwr = m.pwr ∧ (m.requests p).boot = m.boot ∧
    (m.requests p).vlt = m.vlt ∧ (m.requests p).ins = m.ins ∧ (m.requests p).hall = m.hall ∧ (m.requests p).fe = m.fe ∧
    (m.requests p).trm = m.trm ∧ (m.requests p).mnt = m.mnt ∧ (m.requests p).trg = m.trg ∧ (m.requests p).dec = m.dec ∧
    (m.requests p).qre = m.qre ∧ (m.requests p).store = m.store ∧ (m.requests p).ldg = m.ldg ∧ (m.requests p).tels = m.tels ∧
    (m.requests p).dsp = m.dsp ∧ (m.requests p).iso = m.iso ∧ (m.requests p).cal = m.cal ∧ (m.requests p).vol = m.vol ∧
    (m.requests p).mem = m.mem :=
    by
  unfold Mach.requests
  refine ⟨?_, ?_, ?_, ?_, ?_, ?_, ?_, ?_, ?_, ?_, ?_, ?_, ?_, ?_, ?_, ?_, ?_, ?_, ?_, ?_, ?_⟩ <;> ((try dsimp only); (repeat' split) <;> simp [foldl_keeps])

@[simp] theorem Mach.ask_keeps (m : Mach) (job : Job) (cls input : Nat) :
    (m.ask job cls input).ctl = m.ctl ∧ (m.ask job cls input).par = m.par ∧ (m.ask job cls input).tim = m.tim ∧
    (m.ask job cls input).pwr = m.pwr ∧ (m.ask job cls input).boot = m.boot ∧ (m.ask job cls input).vlt = m.vlt ∧
    (m.ask job cls input).ins = m.ins ∧ (m.ask job cls input).flt = m.flt ∧ (m.ask job cls input).hall = m.hall ∧
    (m.ask job cls input).fe = m.fe ∧ (m.ask job cls input).trm = m.trm ∧ (m.ask job cls input).mnt = m.mnt ∧
    (m.ask job cls input).trg = m.trg ∧ (m.ask job cls input).dec = m.dec ∧ (m.ask job cls input).qre = m.qre ∧
    (m.ask job cls input).store = m.store ∧ (m.ask job cls input).ldg = m.ldg ∧ (m.ask job cls input).tels = m.tels ∧
    (m.ask job cls input).spn = m.spn ∧ (m.ask job cls input).dsp = m.dsp ∧ (m.ask job cls input).iso = m.iso ∧
    (m.ask job cls input).cal = m.cal ∧ (m.ask job cls input).vol = m.vol ∧ (m.ask job cls input).mem = m.mem :=
    ⟨rfl, rfl, rfl, rfl, rfl, rfl, rfl, rfl, rfl, rfl, rfl, rfl, rfl, rfl, rfl, rfl, rfl, rfl, rfl, rfl, rfl, rfl, rfl, rfl⟩

@[simp] theorem Mach.startConv_keeps (m : Mach) (r : AsyReq) (f : Asy → Asy) :
    (m.startConv r f).ctl = m.ctl ∧ (m.startConv r f).par = m.par ∧ (m.startConv r f).tim = m.tim ∧
    (m.startConv r f).pwr = m.pwr ∧ (m.startConv r f).boot = m.boot ∧ (m.startConv r f).vlt = m.vlt ∧
    (m.startConv r f).ins = m.ins ∧ (m.startConv r f).flt = m.flt ∧ (m.startConv r f).hall = m.hall ∧
    (m.startConv r f).fe = m.fe ∧ (m.startConv r f).trm = m.trm ∧ (m.startConv r f).mnt = m.mnt ∧
    (m.startConv r f).trg = m.trg ∧ (m.startConv r f).dec = m.dec ∧ (m.startConv r f).qre = m.qre ∧
    (m.startConv r f).store = m.store ∧ (m.startConv r f).ldg = m.ldg ∧ (m.startConv r f).tels = m.tels ∧
    (m.startConv r f).spn = m.spn ∧ (m.startConv r f).dsp = m.dsp ∧ (m.startConv r f).iso = m.iso ∧
    (m.startConv r f).cal = m.cal ∧ (m.startConv r f).vol = m.vol ∧ (m.startConv r f).mem = m.mem :=
    ⟨rfl, rfl, rfl, rfl, rfl, rfl, rfl, rfl, rfl, rfl, rfl, rfl, rfl, rfl, rfl, rfl, rfl, rfl, rfl, rfl, rfl, rfl, rfl, rfl⟩

/-- A started request changes only the Assay. -/
theorem Mach.serveOne_keeps (m m1 : Mach) (h : m.serveOne = some m1) : m1 = { m with asy := m1.asy } := by
  unfold Mach.serveOne at h; dsimp only at h
  (repeat' split at h) <;> first | (cases h; done) | (injection h with h; subst h; rfl)

/-- So do several. -/
theorem Mach.serveN_keeps (n : Nat) (m : Mach) : Mach.serveN n m = { m with asy := (Mach.serveN n m).asy } := by
  induction n generalizing m with
  | zero => rfl
  | succ n ih =>
    unfold Mach.serveN; split
    · next h => rw [ih, Mach.serveOne_keeps _ _ h]
    · rfl

@[simp] theorem Mach.serve_keeps (m : Mach) :
    m.serve.par = m.par ∧ m.serve.tim = m.tim ∧ m.serve.pwr = m.pwr ∧ m.serve.boot = m.boot ∧ m.serve.vlt = m.vlt ∧
    m.serve.ins = m.ins ∧ m.serve.hall = m.hall ∧ m.serve.fe = m.fe ∧ m.serve.trm = m.trm ∧ m.serve.mnt = m.mnt ∧
    m.serve.trg = m.trg ∧ m.serve.dec = m.dec ∧ m.serve.qre = m.qre ∧ m.serve.store = m.store ∧ m.serve.ldg = m.ldg ∧
    m.serve.tels = m.tels ∧ m.serve.dsp = m.dsp ∧ m.serve.iso = m.iso ∧ m.serve.cal = m.cal ∧ m.serve.vol = m.vol ∧
    m.serve.mem = m.mem :=
    by
  unfold Mach.serve; split
  · rw [Mach.serveN_keeps]; simp
  · simp

@[simp] theorem Mach.continuous_keeps (m : Mach) (p : Nat → Bool) :
    (m.continuous p).par = m.par ∧ (m.continuous p).tim = m.tim ∧ (m.continuous p).pwr = m.pwr ∧
    (m.continuous p).boot = m.boot ∧ (m.continuous p).vlt = m.vlt ∧ (m.continuous p).ins = m.ins ∧
    (m.continuous p).hall = m.hall ∧ (m.continuous p).fe = m.fe ∧ (m.continuous p).trm = m.trm ∧ (m.continuous p).mnt = m.mnt ∧
    (m.continuous p).trg = m.trg ∧ (m.continuous p).dec = m.dec ∧ (m.continuous p).qre = m.qre ∧
    (m.continuous p).store = m.store ∧ (m.continuous p).ldg = m.ldg ∧ (m.continuous p).tels = m.tels ∧
    (m.continuous p).dsp = m.dsp ∧ (m.continuous p).iso = m.iso ∧ (m.continuous p).cal = m.cal ∧ (m.continuous p).vol = m.vol ∧
    (m.continuous p).mem = m.mem :=
    by simp [Mach.continuous]

@[simp] theorem Mach.startsOf_keeps (m : Mach) (p : Nat → Bool) :
    (m.startsOf p).ctl = m.ctl ∧ (m.startsOf p).par = m.par ∧ (m.startsOf p).tim = m.tim ∧ (m.startsOf p).pwr = m.pwr ∧
    (m.startsOf p).boot = m.boot ∧ (m.startsOf p).vlt = m.vlt ∧ (m.startsOf p).ins = m.ins ∧ (m.startsOf p).flt = m.flt ∧
    (m.startsOf p).hall = m.hall ∧ (m.startsOf p).fe = m.fe ∧ (m.startsOf p).trm = m.trm ∧ (m.startsOf p).mnt = m.mnt ∧
    (m.startsOf p).trg = m.trg ∧ (m.startsOf p).dec = m.dec ∧ (m.startsOf p).qre = m.qre ∧ (m.startsOf p).store = m.store ∧
    (m.startsOf p).ldg = m.ldg ∧ (m.startsOf p).tels = m.tels ∧ (m.startsOf p).spn = m.spn ∧ (m.startsOf p).dsp = m.dsp ∧
    (m.startsOf p).iso = m.iso ∧ (m.startsOf p).cal = m.cal ∧ (m.startsOf p).vol = m.vol ∧ (m.startsOf p).mem = m.mem :=
    by simp [Mach.startsOf]

@[simp] theorem Mach.beatStarts_keeps (m : Mach) :
    m.beatStarts.ctl = m.ctl ∧ m.beatStarts.par = m.par ∧ m.beatStarts.tim = m.tim ∧ m.beatStarts.pwr = m.pwr ∧
    m.beatStarts.boot = m.boot ∧ m.beatStarts.vlt = m.vlt ∧ m.beatStarts.ins = m.ins ∧ m.beatStarts.flt = m.flt ∧
    m.beatStarts.hall = m.hall ∧ m.beatStarts.fe = m.fe ∧ m.beatStarts.trm = m.trm ∧ m.beatStarts.mnt = m.mnt ∧
    m.beatStarts.trg = m.trg ∧ m.beatStarts.dec = m.dec ∧ m.beatStarts.qre = m.qre ∧ m.beatStarts.store = m.store ∧
    m.beatStarts.ldg = m.ldg ∧ m.beatStarts.tels = m.tels ∧ m.beatStarts.spn = m.spn ∧ m.beatStarts.dsp = m.dsp ∧
    m.beatStarts.iso = m.iso ∧ m.beatStarts.cal = m.cal ∧ m.beatStarts.vol = m.vol ∧ m.beatStarts.mem = m.mem :=
    by simp [Mach.beatStarts]

@[simp] theorem Mach.trkClear_keeps (m : Mach) (v : Word) :
    (m.trkClear v).ctl = m.ctl ∧ (m.trkClear v).par = m.par ∧ (m.trkClear v).tim = m.tim ∧ (m.trkClear v).pwr = m.pwr ∧
    (m.trkClear v).boot = m.boot ∧ (m.trkClear v).vlt = m.vlt ∧ (m.trkClear v).ins = m.ins ∧ (m.trkClear v).flt = m.flt ∧
    (m.trkClear v).hall = m.hall ∧ (m.trkClear v).fe = m.fe ∧ (m.trkClear v).trm = m.trm ∧ (m.trkClear v).mnt = m.mnt ∧
    (m.trkClear v).trg = m.trg ∧ (m.trkClear v).dec = m.dec ∧ (m.trkClear v).qre = m.qre ∧ (m.trkClear v).store = m.store ∧
    (m.trkClear v).ldg = m.ldg ∧ (m.trkClear v).tels = m.tels ∧ (m.trkClear v).spn = m.spn ∧ (m.trkClear v).dsp = m.dsp ∧
    (m.trkClear v).iso = m.iso ∧ (m.trkClear v).cal = m.cal ∧ (m.trkClear v).vol = m.vol ∧ (m.trkClear v).mem = m.mem :=
    ⟨rfl, rfl, rfl, rfl, rfl, rfl, rfl, rfl, rfl, rfl, rfl, rfl, rfl, rfl, rfl, rfl, rfl, rfl, rfl, rfl, rfl, rfl, rfl, rfl⟩

@[simp] theorem Mach.isoGo_keeps (m : Mach) (st : IsoSt) :
    (m.isoGo st).par = m.par ∧ (m.isoGo st).tim = m.tim ∧ (m.isoGo st).pwr = m.pwr ∧ (m.isoGo st).boot = m.boot ∧
    (m.isoGo st).vlt = m.vlt ∧ (m.isoGo st).ins = m.ins ∧ (m.isoGo st).fe = m.fe ∧ (m.isoGo st).trm = m.trm ∧
    (m.isoGo st).mnt = m.mnt ∧ (m.isoGo st).trg = m.trg ∧ (m.isoGo st).dec = m.dec ∧ (m.isoGo st).qre = m.qre ∧
    (m.isoGo st).store = m.store ∧ (m.isoGo st).ldg = m.ldg ∧ (m.isoGo st).tels = m.tels ∧ (m.isoGo st).dsp = m.dsp ∧
    (m.isoGo st).asy = m.asy ∧ (m.isoGo st).vol = m.vol ∧ (m.isoGo st).mem = m.mem :=
    by simp [Mach.isoGo]

@[simp] theorem Mach.isoLog_keeps (m : Mach) (arisen : BitVec 4) :
    (m.isoLog arisen).par = m.par ∧ (m.isoLog arisen).tim = m.tim ∧ (m.isoLog arisen).pwr = m.pwr ∧
    (m.isoLog arisen).boot = m.boot ∧ (m.isoLog arisen).vlt = m.vlt ∧ (m.isoLog arisen).ins = m.ins ∧
    (m.isoLog arisen).hall = m.hall ∧ (m.isoLog arisen).fe = m.fe ∧ (m.isoLog arisen).trm = m.trm ∧
    (m.isoLog arisen).mnt = m.mnt ∧ (m.isoLog arisen).trg = m.trg ∧ (m.isoLog arisen).dec = m.dec ∧
    (m.isoLog arisen).qre = m.qre ∧ (m.isoLog arisen).store = m.store ∧ (m.isoLog arisen).ldg = m.ldg ∧
    (m.isoLog arisen).tels = m.tels ∧ (m.isoLog arisen).dsp = m.dsp ∧ (m.isoLog arisen).asy = m.asy ∧
    (m.isoLog arisen).cal = m.cal ∧ (m.isoLog arisen).vol = m.vol ∧ (m.isoLog arisen).mem = m.mem :=
    by
  unfold Mach.isoLog
  refine ⟨?_, ?_, ?_, ?_, ?_, ?_, ?_, ?_, ?_, ?_, ?_, ?_, ?_, ?_, ?_, ?_, ?_, ?_, ?_, ?_, ?_⟩ <;> ((try dsimp only); (repeat' split) <;> simp [foldl_keeps])

@[simp] theorem Mach.isoCheck_keeps (m : Mach) :
    m.isoCheck.par = m.par ∧ m.isoCheck.tim = m.tim ∧ m.isoCheck.pwr = m.pwr ∧ m.isoCheck.boot = m.boot ∧
    m.isoCheck.vlt = m.vlt ∧ m.isoCheck.ins = m.ins ∧ m.isoCheck.fe = m.fe ∧ m.isoCheck.trm = m.trm ∧ m.isoCheck.mnt = m.mnt ∧
    m.isoCheck.trg = m.trg ∧ m.isoCheck.dec = m.dec ∧ m.isoCheck.qre = m.qre ∧ m.isoCheck.store = m.store ∧
    m.isoCheck.ldg = m.ldg ∧ m.isoCheck.tels = m.tels ∧ m.isoCheck.dsp = m.dsp ∧ m.isoCheck.asy = m.asy ∧
    m.isoCheck.vol = m.vol ∧ m.isoCheck.mem = m.mem :=
    by simp [Mach.isoCheck]

@[simp] theorem Mach.isoStale_keeps (m : Mach) :
    m.isoStale.par = m.par ∧ m.isoStale.tim = m.tim ∧ m.isoStale.pwr = m.pwr ∧ m.isoStale.boot = m.boot ∧
    m.isoStale.vlt = m.vlt ∧ m.isoStale.ins = m.ins ∧ m.isoStale.fe = m.fe ∧ m.isoStale.trm = m.trm ∧ m.isoStale.mnt = m.mnt ∧
    m.isoStale.trg = m.trg ∧ m.isoStale.dec = m.dec ∧ m.isoStale.qre = m.qre ∧ m.isoStale.store = m.store ∧
    m.isoStale.ldg = m.ldg ∧ m.isoStale.tels = m.tels ∧ m.isoStale.dsp = m.dsp ∧ m.isoStale.asy = m.asy ∧
    m.isoStale.vol = m.vol ∧ m.isoStale.mem = m.mem :=
    by simp [Mach.isoStale]

@[simp] theorem Mach.resumeSet_keeps (m : Mach) (x : Nat) :
    (m.resumeSet x).par = m.par ∧ (m.resumeSet x).tim = m.tim ∧ (m.resumeSet x).pwr = m.pwr ∧ (m.resumeSet x).boot = m.boot ∧
    (m.resumeSet x).vlt = m.vlt ∧ (m.resumeSet x).ins = m.ins ∧ (m.resumeSet x).hall = m.hall ∧ (m.resumeSet x).fe = m.fe ∧
    (m.resumeSet x).trm = m.trm ∧ (m.resumeSet x).mnt = m.mnt ∧ (m.resumeSet x).trg = m.trg ∧ (m.resumeSet x).dec = m.dec ∧
    (m.resumeSet x).qre = m.qre ∧ (m.resumeSet x).store = m.store ∧ (m.resumeSet x).ldg = m.ldg ∧
    (m.resumeSet x).tels = m.tels ∧ (m.resumeSet x).dsp = m.dsp ∧ (m.resumeSet x).iso = m.iso ∧ (m.resumeSet x).cal = m.cal ∧
    (m.resumeSet x).vol = m.vol ∧ (m.resumeSet x).mem = m.mem :=
    by
  unfold Mach.resumeSet
  refine ⟨?_, ?_, ?_, ?_, ?_, ?_, ?_, ?_, ?_, ?_, ?_, ?_, ?_, ?_, ?_, ?_, ?_, ?_, ?_, ?_, ?_⟩ <;> ((try dsimp only); (repeat' split) <;> simp [foldl_keeps])

@[simp] theorem Mach.pointFail_keeps (m : Mach) (cause : Nat) :
    (m.pointFail cause).par = m.par ∧ (m.pointFail cause).tim = m.tim ∧ (m.pointFail cause).pwr = m.pwr ∧
    (m.pointFail cause).boot = m.boot ∧ (m.pointFail cause).vlt = m.vlt ∧ (m.pointFail cause).ins = m.ins ∧
    (m.pointFail cause).hall = m.hall ∧ (m.pointFail cause).fe = m.fe ∧ (m.pointFail cause).trm = m.trm ∧
    (m.pointFail cause).mnt = m.mnt ∧ (m.pointFail cause).trg = m.trg ∧ (m.pointFail cause).dec = m.dec ∧
    (m.pointFail cause).qre = m.qre ∧ (m.pointFail cause).store = m.store ∧ (m.pointFail cause).ldg = m.ldg ∧
    (m.pointFail cause).tels = m.tels ∧ (m.pointFail cause).dsp = m.dsp ∧ (m.pointFail cause).iso = m.iso ∧
    (m.pointFail cause).cal = m.cal ∧ (m.pointFail cause).vol = m.vol ∧ (m.pointFail cause).mem = m.mem :=
    by unfold Mach.pointFail; dsimp only; (repeat' split) <;> simp

@[simp] theorem Mach.pointOver_keeps (m : Mach) :
    m.pointOver.ctl = m.ctl ∧ m.pointOver.par = m.par ∧ m.pointOver.tim = m.tim ∧ m.pointOver.pwr = m.pwr ∧
    m.pointOver.boot = m.boot ∧ m.pointOver.vlt = m.vlt ∧ m.pointOver.ins = m.ins ∧ m.pointOver.flt = m.flt ∧
    m.pointOver.hall = m.hall ∧ m.pointOver.fe = m.fe ∧ m.pointOver.trm = m.trm ∧ m.pointOver.mnt = m.mnt ∧
    m.pointOver.trg = m.trg ∧ m.pointOver.dec = m.dec ∧ m.pointOver.qre = m.qre ∧ m.pointOver.store = m.store ∧
    m.pointOver.ldg = m.ldg ∧ m.pointOver.tels = m.tels ∧ m.pointOver.spn = m.spn ∧ m.pointOver.dsp = m.dsp ∧
    m.pointOver.iso = m.iso ∧ m.pointOver.cal = m.cal ∧ m.pointOver.vol = m.vol ∧ m.pointOver.mem = m.mem :=
    ⟨rfl, rfl, rfl, rfl, rfl, rfl, rfl, rfl, rfl, rfl, rfl, rfl, rfl, rfl, rfl, rfl, rfl, rfl, rfl, rfl, rfl, rfl, rfl, rfl⟩

@[simp] theorem Mach.calCmd_keeps (m : Mach) (v : Word) :
    (m.calCmd v).par = m.par ∧ (m.calCmd v).tim = m.tim ∧ (m.calCmd v).pwr = m.pwr ∧ (m.calCmd v).boot = m.boot ∧
    (m.calCmd v).vlt = m.vlt ∧ (m.calCmd v).ins = m.ins ∧ (m.calCmd v).hall = m.hall ∧ (m.calCmd v).fe = m.fe ∧
    (m.calCmd v).trm = m.trm ∧ (m.calCmd v).mnt = m.mnt ∧ (m.calCmd v).trg = m.trg ∧ (m.calCmd v).dec = m.dec ∧
    (m.calCmd v).qre = m.qre ∧ (m.calCmd v).store = m.store ∧ (m.calCmd v).ldg = m.ldg ∧ (m.calCmd v).tels = m.tels ∧
    (m.calCmd v).dsp = m.dsp ∧ (m.calCmd v).iso = m.iso ∧ (m.calCmd v).vol = m.vol ∧ (m.calCmd v).mem = m.mem :=
    by simp [Mach.calCmd]

@[simp] theorem Mach.wireNext_keeps (m : Mach) :
    m.wireNext.par = m.par ∧ m.wireNext.tim = m.tim ∧ m.wireNext.pwr = m.pwr ∧ m.wireNext.boot = m.boot ∧
    m.wireNext.vlt = m.vlt ∧ m.wireNext.ins = m.ins ∧ m.wireNext.hall = m.hall ∧ m.wireNext.fe = m.fe ∧
    m.wireNext.trm = m.trm ∧ m.wireNext.mnt = m.mnt ∧ m.wireNext.trg = m.trg ∧ m.wireNext.dec = m.dec ∧
    m.wireNext.qre = m.qre ∧ m.wireNext.store = m.store ∧ m.wireNext.ldg = m.ldg ∧ m.wireNext.tels = m.tels ∧
    m.wireNext.dsp = m.dsp ∧ m.wireNext.iso = m.iso ∧ m.wireNext.cal = m.cal ∧ m.wireNext.vol = m.vol ∧
    m.wireNext.mem = m.mem :=
    by unfold Mach.wireNext; dsimp only; (repeat' split) <;> simp

@[simp] theorem Mach.wireDue_keeps (m : Mach) (e : Nat) :
    (m.wireDue e).par = m.par ∧ (m.wireDue e).tim = m.tim ∧ (m.wireDue e).pwr = m.pwr ∧ (m.wireDue e).boot = m.boot ∧
    (m.wireDue e).vlt = m.vlt ∧ (m.wireDue e).ins = m.ins ∧ (m.wireDue e).hall = m.hall ∧ (m.wireDue e).fe = m.fe ∧
    (m.wireDue e).trm = m.trm ∧ (m.wireDue e).mnt = m.mnt ∧ (m.wireDue e).trg = m.trg ∧ (m.wireDue e).dec = m.dec ∧
    (m.wireDue e).qre = m.qre ∧ (m.wireDue e).store = m.store ∧ (m.wireDue e).ldg = m.ldg ∧ (m.wireDue e).tels = m.tels ∧
    (m.wireDue e).dsp = m.dsp ∧ (m.wireDue e).iso = m.iso ∧ (m.wireDue e).cal = m.cal ∧ (m.wireDue e).vol = m.vol ∧
    (m.wireDue e).mem = m.mem :=
    by simp [Mach.wireDue]

@[simp] theorem Mach.asyStart_keeps (m : Mach) :
    m.asyStart.par = m.par ∧ m.asyStart.tim = m.tim ∧ m.asyStart.pwr = m.pwr ∧ m.asyStart.boot = m.boot ∧
    m.asyStart.vlt = m.vlt ∧ m.asyStart.ins = m.ins ∧ m.asyStart.fe = m.fe ∧ m.asyStart.trm = m.trm ∧ m.asyStart.mnt = m.mnt ∧
    m.asyStart.trg = m.trg ∧ m.asyStart.dec = m.dec ∧ m.asyStart.qre = m.qre ∧ m.asyStart.store = m.store ∧
    m.asyStart.ldg = m.ldg ∧ m.asyStart.tels = m.tels ∧ m.asyStart.dsp = m.dsp ∧ m.asyStart.vol = m.vol ∧
    m.asyStart.mem = m.mem :=
    by
  unfold Mach.asyStart
  refine ⟨?_, ?_, ?_, ?_, ?_, ?_, ?_, ?_, ?_, ?_, ?_, ?_, ?_, ?_, ?_, ?_, ?_, ?_⟩ <;> ((try dsimp only); (repeat' split) <;> simp [foldl_keeps])

@[simp] theorem Mach.selectCert_keeps (m : Mach) :
    m.selectCert.par = m.par ∧ m.selectCert.tim = m.tim ∧ m.selectCert.pwr = m.pwr ∧ m.selectCert.boot = m.boot ∧
    m.selectCert.vlt = m.vlt ∧ m.selectCert.ins = m.ins ∧ m.selectCert.hall = m.hall ∧ m.selectCert.fe = m.fe ∧
    m.selectCert.trm = m.trm ∧ m.selectCert.mnt = m.mnt ∧ m.selectCert.trg = m.trg ∧ m.selectCert.dec = m.dec ∧
    m.selectCert.qre = m.qre ∧ m.selectCert.store = m.store ∧ m.selectCert.ldg = m.ldg ∧ m.selectCert.tels = m.tels ∧
    m.selectCert.dsp = m.dsp ∧ m.selectCert.asy = m.asy ∧ m.selectCert.iso = m.iso ∧ m.selectCert.vol = m.vol ∧
    m.selectCert.mem = m.mem :=
    by simp [Mach.selectCert]

@[simp] theorem Mach.useFront_keeps (m : Mach) (differs : Nat → Bool) (k : Nat) :
    (m.useFront differs k).par = m.par ∧ (m.useFront differs k).tim = m.tim ∧ (m.useFront differs k).pwr = m.pwr ∧
    (m.useFront differs k).boot = m.boot ∧ (m.useFront differs k).vlt = m.vlt ∧ (m.useFront differs k).ins = m.ins ∧
    (m.useFront differs k).hall = m.hall ∧ (m.useFront differs k).mnt = m.mnt ∧ (m.useFront differs k).dec = m.dec ∧
    (m.useFront differs k).qre = m.qre ∧ (m.useFront differs k).store = m.store ∧ (m.useFront differs k).ldg = m.ldg ∧
    (m.useFront differs k).tels = m.tels ∧ (m.useFront differs k).dsp = m.dsp ∧ (m.useFront differs k).asy = m.asy ∧
    (m.useFront differs k).iso = m.iso ∧ (m.useFront differs k).cal = m.cal ∧ (m.useFront differs k).vol = m.vol ∧
    (m.useFront differs k).mem = m.mem :=
    by simp [Mach.useFront]

@[simp] theorem Mach.frontsMoved_keeps (m was : Mach) :
    (m.frontsMoved was).par = m.par ∧ (m.frontsMoved was).tim = m.tim ∧ (m.frontsMoved was).pwr = m.pwr ∧
    (m.frontsMoved was).boot = m.boot ∧ (m.frontsMoved was).vlt = m.vlt ∧ (m.frontsMoved was).ins = m.ins ∧
    (m.frontsMoved was).hall = m.hall ∧ (m.frontsMoved was).mnt = m.mnt ∧ (m.frontsMoved was).dec = m.dec ∧
    (m.frontsMoved was).qre = m.qre ∧ (m.frontsMoved was).store = m.store ∧ (m.frontsMoved was).ldg = m.ldg ∧
    (m.frontsMoved was).tels = m.tels ∧ (m.frontsMoved was).dsp = m.dsp ∧ (m.frontsMoved was).asy = m.asy ∧
    (m.frontsMoved was).iso = m.iso ∧ (m.frontsMoved was).cal = m.cal ∧ (m.frontsMoved was).vol = m.vol ∧
    (m.frontsMoved was).mem = m.mem :=
    by
  unfold Mach.frontsMoved
  refine ⟨?_, ?_, ?_, ?_, ?_, ?_, ?_, ?_, ?_, ?_, ?_, ?_, ?_, ?_, ?_, ?_, ?_, ?_, ?_⟩ <;> ((try dsimp only); (repeat' split) <;> simp [foldl_keeps])

@[simp] theorem Mach.startPoint_keeps (m was : Mach) :
    (m.startPoint was).par = m.par ∧ (m.startPoint was).tim = m.tim ∧ (m.startPoint was).pwr = m.pwr ∧
    (m.startPoint was).boot = m.boot ∧ (m.startPoint was).vlt = m.vlt ∧ (m.startPoint was).ins = m.ins ∧
    (m.startPoint was).dec = m.dec ∧ (m.startPoint was).qre = m.qre ∧ (m.startPoint was).store = m.store ∧
    (m.startPoint was).ldg = m.ldg ∧ (m.startPoint was).tels = m.tels ∧ (m.startPoint was).dsp = m.dsp ∧
    (m.startPoint was).asy = m.asy ∧ (m.startPoint was).iso = m.iso ∧ (m.startPoint was).vol = m.vol ∧
    (m.startPoint was).mem = m.mem :=
    by simp [Mach.startPoint]

@[simp] theorem Mach.calRun_keeps (m : Mach) (v : Word) :
    (m.calRun v).par = m.par ∧ (m.calRun v).tim = m.tim ∧ (m.calRun v).pwr = m.pwr ∧ (m.calRun v).boot = m.boot ∧
    (m.calRun v).vlt = m.vlt ∧ (m.calRun v).ins = m.ins ∧ (m.calRun v).dec = m.dec ∧ (m.calRun v).qre = m.qre ∧
    (m.calRun v).store = m.store ∧ (m.calRun v).ldg = m.ldg ∧ (m.calRun v).tels = m.tels ∧ (m.calRun v).dsp = m.dsp ∧
    (m.calRun v).iso = m.iso ∧ (m.calRun v).vol = m.vol ∧ (m.calRun v).mem = m.mem :=
    by simp [Mach.calRun]

@[simp] theorem Mach.calAbort_keeps (m : Mach) (v : Word) :
    (m.calAbort v).ctl = m.ctl ∧ (m.calAbort v).par = m.par ∧ (m.calAbort v).tim = m.tim ∧ (m.calAbort v).pwr = m.pwr ∧
    (m.calAbort v).boot = m.boot ∧ (m.calAbort v).vlt = m.vlt ∧ (m.calAbort v).ins = m.ins ∧ (m.calAbort v).flt = m.flt ∧
    (m.calAbort v).hall = m.hall ∧ (m.calAbort v).fe = m.fe ∧ (m.calAbort v).trm = m.trm ∧ (m.calAbort v).mnt = m.mnt ∧
    (m.calAbort v).trg = m.trg ∧ (m.calAbort v).dec = m.dec ∧ (m.calAbort v).qre = m.qre ∧ (m.calAbort v).store = m.store ∧
    (m.calAbort v).ldg = m.ldg ∧ (m.calAbort v).tels = m.tels ∧ (m.calAbort v).spn = m.spn ∧ (m.calAbort v).dsp = m.dsp ∧
    (m.calAbort v).asy = m.asy ∧ (m.calAbort v).iso = m.iso ∧ (m.calAbort v).vol = m.vol ∧ (m.calAbort v).mem = m.mem :=
    by simp [Mach.calAbort]

@[simp] theorem Mach.calSeal_keeps (m : Mach) (v : Word) (bad : Bool) :
    (m.calSeal v bad).par = m.par ∧ (m.calSeal v bad).tim = m.tim ∧ (m.calSeal v bad).pwr = m.pwr ∧
    (m.calSeal v bad).boot = m.boot ∧ (m.calSeal v bad).ins = m.ins ∧ (m.calSeal v bad).hall = m.hall ∧
    (m.calSeal v bad).fe = m.fe ∧ (m.calSeal v bad).trm = m.trm ∧ (m.calSeal v bad).mnt = m.mnt ∧
    (m.calSeal v bad).trg = m.trg ∧ (m.calSeal v bad).dec = m.dec ∧ (m.calSeal v bad).qre = m.qre ∧
    (m.calSeal v bad).ldg = m.ldg ∧ (m.calSeal v bad).tels = m.tels ∧ (m.calSeal v bad).dsp = m.dsp ∧
    (m.calSeal v bad).asy = m.asy ∧ (m.calSeal v bad).iso = m.iso ∧ (m.calSeal v bad).vol = m.vol ∧
    (m.calSeal v bad).mem = m.mem :=
    by simp [Mach.calSeal]

@[simp] theorem Mach.certLost_keeps (m : Mach) (s : Nat) :
    (m.certLost s).par = m.par ∧ (m.certLost s).tim = m.tim ∧ (m.certLost s).pwr = m.pwr ∧ (m.certLost s).boot = m.boot ∧
    (m.certLost s).vlt = m.vlt ∧ (m.certLost s).ins = m.ins ∧ (m.certLost s).hall = m.hall ∧ (m.certLost s).fe = m.fe ∧
    (m.certLost s).trm = m.trm ∧ (m.certLost s).mnt = m.mnt ∧ (m.certLost s).trg = m.trg ∧ (m.certLost s).dec = m.dec ∧
    (m.certLost s).qre = m.qre ∧ (m.certLost s).store = m.store ∧ (m.certLost s).ldg = m.ldg ∧ (m.certLost s).tels = m.tels ∧
    (m.certLost s).dsp = m.dsp ∧ (m.certLost s).asy = m.asy ∧ (m.certLost s).iso = m.iso ∧ (m.certLost s).vol = m.vol ∧
    (m.certLost s).mem = m.mem :=
    by simp [Mach.certLost]

@[simp] theorem Mach.sealFails_keeps (m : Mach) (cause : Nat) :
    (m.sealFails cause).par = m.par ∧ (m.sealFails cause).tim = m.tim ∧ (m.sealFails cause).pwr = m.pwr ∧
    (m.sealFails cause).boot = m.boot ∧ (m.sealFails cause).vlt = m.vlt ∧ (m.sealFails cause).ins = m.ins ∧
    (m.sealFails cause).hall = m.hall ∧ (m.sealFails cause).fe = m.fe ∧ (m.sealFails cause).trm = m.trm ∧
    (m.sealFails cause).mnt = m.mnt ∧ (m.sealFails cause).trg = m.trg ∧ (m.sealFails cause).dec = m.dec ∧
    (m.sealFails cause).qre = m.qre ∧ (m.sealFails cause).store = m.store ∧ (m.sealFails cause).ldg = m.ldg ∧
    (m.sealFails cause).tels = m.tels ∧ (m.sealFails cause).dsp = m.dsp ∧ (m.sealFails cause).asy = m.asy ∧
    (m.sealFails cause).iso = m.iso ∧ (m.sealFails cause).vol = m.vol :=
    by unfold Mach.sealFails; dsimp only; (repeat' split) <;> simp

@[simp] theorem Mach.checkCert_keeps (m : Mach) (readIn : Bool) (bad : List Nat) (s : Nat) :
    (m.checkCert readIn bad s).par = m.par ∧ (m.checkCert readIn bad s).tim = m.tim ∧ (m.checkCert readIn bad s).pwr = m.pwr ∧
    (m.checkCert readIn bad s).boot = m.boot ∧ (m.checkCert readIn bad s).vlt = m.vlt ∧
    (m.checkCert readIn bad s).ins = m.ins ∧ (m.checkCert readIn bad s).hall = m.hall ∧ (m.checkCert readIn bad s).fe = m.fe ∧
    (m.checkCert readIn bad s).trm = m.trm ∧ (m.checkCert readIn bad s).mnt = m.mnt ∧ (m.checkCert readIn bad s).trg = m.trg ∧
    (m.checkCert readIn bad s).dec = m.dec ∧ (m.checkCert readIn bad s).qre = m.qre ∧
    (m.checkCert readIn bad s).store = m.store ∧ (m.checkCert readIn bad s).ldg = m.ldg ∧
    (m.checkCert readIn bad s).tels = m.tels ∧ (m.checkCert readIn bad s).dsp = m.dsp ∧
    (m.checkCert readIn bad s).asy = m.asy ∧ (m.checkCert readIn bad s).iso = m.iso ∧ (m.checkCert readIn bad s).vol = m.vol ∧
    (m.checkCert readIn bad s).mem = m.mem :=
    by simp [Mach.checkCert]

@[simp] theorem Mach.checkCerts_keeps (m : Mach) (readIn : Bool) (bad : List Nat) :
    (m.checkCerts readIn bad).par = m.par ∧ (m.checkCerts readIn bad).tim = m.tim ∧ (m.checkCerts readIn bad).pwr = m.pwr ∧
    (m.checkCerts readIn bad).boot = m.boot ∧ (m.checkCerts readIn bad).vlt = m.vlt ∧ (m.checkCerts readIn bad).ins = m.ins ∧
    (m.checkCerts readIn bad).hall = m.hall ∧ (m.checkCerts readIn bad).fe = m.fe ∧ (m.checkCerts readIn bad).trm = m.trm ∧
    (m.checkCerts readIn bad).mnt = m.mnt ∧ (m.checkCerts readIn bad).trg = m.trg ∧ (m.checkCerts readIn bad).dec = m.dec ∧
    (m.checkCerts readIn bad).qre = m.qre ∧ (m.checkCerts readIn bad).store = m.store ∧ (m.checkCerts readIn bad).ldg = m.ldg ∧
    (m.checkCerts readIn bad).tels = m.tels ∧ (m.checkCerts readIn bad).dsp = m.dsp ∧ (m.checkCerts readIn bad).asy = m.asy ∧
    (m.checkCerts readIn bad).iso = m.iso ∧ (m.checkCerts readIn bad).vol = m.vol ∧ (m.checkCerts readIn bad).mem = m.mem :=
    by
  unfold Mach.checkCerts
  refine ⟨?_, ?_, ?_, ?_, ?_, ?_, ?_, ?_, ?_, ?_, ?_, ?_, ?_, ?_, ?_, ?_, ?_, ?_, ?_, ?_, ?_⟩ <;> ((try dsimp only); (repeat' split) <;> simp [foldl_keeps])

@[simp] theorem Mach.slotValid_keeps (m : Mach) (n : Nat) (on : Bool) :
    (m.slotValid n on).ctl = m.ctl ∧ (m.slotValid n on).par = m.par ∧ (m.slotValid n on).tim = m.tim ∧
    (m.slotValid n on).pwr = m.pwr ∧ (m.slotValid n on).boot = m.boot ∧ (m.slotValid n on).ins = m.ins ∧
    (m.slotValid n on).flt = m.flt ∧ (m.slotValid n on).hall = m.hall ∧ (m.slotValid n on).fe = m.fe ∧
    (m.slotValid n on).trm = m.trm ∧ (m.slotValid n on).mnt = m.mnt ∧ (m.slotValid n on).trg = m.trg ∧
    (m.slotValid n on).dec = m.dec ∧ (m.slotValid n on).qre = m.qre ∧ (m.slotValid n on).store = m.store ∧
    (m.slotValid n on).ldg = m.ldg ∧ (m.slotValid n on).tels = m.tels ∧ (m.slotValid n on).spn = m.spn ∧
    (m.slotValid n on).dsp = m.dsp ∧ (m.slotValid n on).asy = m.asy ∧ (m.slotValid n on).iso = m.iso ∧
    (m.slotValid n on).cal = m.cal ∧ (m.slotValid n on).vol = m.vol ∧ (m.slotValid n on).mem = m.mem :=
    ⟨rfl, rfl, rfl, rfl, rfl, rfl, rfl, rfl, rfl, rfl, rfl, rfl, rfl, rfl, rfl, rfl, rfl, rfl, rfl, rfl, rfl, rfl, rfl, rfl⟩

@[simp] theorem Mach.vaultEcc_keeps (m : Mach) (bad : List Nat) :
    (m.vaultEcc bad).par = m.par ∧ (m.vaultEcc bad).tim = m.tim ∧ (m.vaultEcc bad).pwr = m.pwr ∧
    (m.vaultEcc bad).boot = m.boot ∧ (m.vaultEcc bad).ins = m.ins ∧ (m.vaultEcc bad).hall = m.hall ∧
    (m.vaultEcc bad).fe = m.fe ∧ (m.vaultEcc bad).trm = m.trm ∧ (m.vaultEcc bad).mnt = m.mnt ∧ (m.vaultEcc bad).trg = m.trg ∧
    (m.vaultEcc bad).dec = m.dec ∧ (m.vaultEcc bad).qre = m.qre ∧ (m.vaultEcc bad).store = m.store ∧
    (m.vaultEcc bad).ldg = m.ldg ∧ (m.vaultEcc bad).tels = m.tels ∧ (m.vaultEcc bad).dsp = m.dsp ∧
    (m.vaultEcc bad).asy = m.asy ∧ (m.vaultEcc bad).iso = m.iso ∧ (m.vaultEcc bad).cal = m.cal ∧ (m.vaultEcc bad).vol = m.vol ∧
    (m.vaultEcc bad).mem = m.mem :=
    by
  unfold Mach.vaultEcc
  refine ⟨?_, ?_, ?_, ?_, ?_, ?_, ?_, ?_, ?_, ?_, ?_, ?_, ?_, ?_, ?_, ?_, ?_, ?_, ?_, ?_, ?_⟩ <;> ((try dsimp only); (repeat' split) <;> simp [foldl_keeps])

@[simp] theorem Mach.slotsHit_keeps (m : Mach) (bad : List Nat) :
    (m.slotsHit bad).par = m.par ∧ (m.slotsHit bad).tim = m.tim ∧ (m.slotsHit bad).pwr = m.pwr ∧
    (m.slotsHit bad).boot = m.boot ∧ (m.slotsHit bad).ins = m.ins ∧ (m.slotsHit bad).hall = m.hall ∧
    (m.slotsHit bad).fe = m.fe ∧ (m.slotsHit bad).trm = m.trm ∧ (m.slotsHit bad).mnt = m.mnt ∧ (m.slotsHit bad).trg = m.trg ∧
    (m.slotsHit bad).dec = m.dec ∧ (m.slotsHit bad).qre = m.qre ∧ (m.slotsHit bad).store = m.store ∧
    (m.slotsHit bad).ldg = m.ldg ∧ (m.slotsHit bad).tels = m.tels ∧ (m.slotsHit bad).dsp = m.dsp ∧
    (m.slotsHit bad).asy = m.asy ∧ (m.slotsHit bad).iso = m.iso ∧ (m.slotsHit bad).cal = m.cal ∧ (m.slotsHit bad).vol = m.vol ∧
    (m.slotsHit bad).mem = m.mem :=
    by
  unfold Mach.slotsHit; dsimp only
  exact ⟨foldl_keeps Mach.par _ (fun _ _ => by (repeat' split) <;> simp) _ _, foldl_keeps Mach.tim _ (fun _ _ => by (repeat' split) <;> simp) _ _, foldl_keeps Mach.pwr _ (fun _ _ => by (repeat' split) <;> simp) _ _, foldl_keeps Mach.boot _ (fun _ _ => by (repeat' split) <;> simp) _ _, foldl_keeps Mach.ins _ (fun _ _ => by (repeat' split) <;> simp) _ _, foldl_keeps Mach.hall _ (fun _ _ => by (repeat' split) <;> simp) _ _, foldl_keeps Mach.fe _ (fun _ _ => by (repeat' split) <;> simp) _ _, foldl_keeps Mach.trm _ (fun _ _ => by (repeat' split) <;> simp) _ _, foldl_keeps Mach.mnt _ (fun _ _ => by (repeat' split) <;> simp) _ _, foldl_keeps Mach.trg _ (fun _ _ => by (repeat' split) <;> simp) _ _, foldl_keeps Mach.dec _ (fun _ _ => by (repeat' split) <;> simp) _ _, foldl_keeps Mach.qre _ (fun _ _ => by (repeat' split) <;> simp) _ _, foldl_keeps Mach.store _ (fun _ _ => by (repeat' split) <;> simp) _ _, foldl_keeps Mach.ldg _ (fun _ _ => by (repeat' split) <;> simp) _ _, foldl_keeps Mach.tels _ (fun _ _ => by (repeat' split) <;> simp) _ _, foldl_keeps Mach.dsp _ (fun _ _ => by (repeat' split) <;> simp) _ _, foldl_keeps Mach.asy _ (fun _ _ => by (repeat' split) <;> simp) _ _, foldl_keeps Mach.iso _ (fun _ _ => by (repeat' split) <;> simp) _ _, foldl_keeps Mach.cal _ (fun _ _ => by (repeat' split) <;> simp) _ _, foldl_keeps Mach.vol _ (fun _ _ => by (repeat' split) <;> simp) _ _, foldl_keeps Mach.mem _ (fun _ _ => by (repeat' split) <;> simp) _ _⟩

/-- Choosing a bank changes only the log (and with it the messages that a record sends). -/
@[simp] theorem Mach.chooseBank_keeps (m : Mach) (sec : Nat) (bad : List Nat) :
    (m.chooseBank sec bad).1.par = m.par ∧ (m.chooseBank sec bad).1.tim = m.tim ∧ (m.chooseBank sec bad).1.pwr = m.pwr ∧
    (m.chooseBank sec bad).1.boot = m.boot ∧ (m.chooseBank sec bad).1.vlt = m.vlt ∧ (m.chooseBank sec bad).1.ins = m.ins ∧
    (m.chooseBank sec bad).1.hall = m.hall ∧ (m.chooseBank sec bad).1.fe = m.fe ∧ (m.chooseBank sec bad).1.trm = m.trm ∧
    (m.chooseBank sec bad).1.mnt = m.mnt ∧ (m.chooseBank sec bad).1.trg = m.trg ∧ (m.chooseBank sec bad).1.dec = m.dec ∧
    (m.chooseBank sec bad).1.qre = m.qre ∧ (m.chooseBank sec bad).1.store = m.store ∧ (m.chooseBank sec bad).1.ldg = m.ldg ∧
    (m.chooseBank sec bad).1.tels = m.tels ∧ (m.chooseBank sec bad).1.dsp = m.dsp ∧ (m.chooseBank sec bad).1.asy = m.asy ∧
    (m.chooseBank sec bad).1.iso = m.iso ∧ (m.chooseBank sec bad).1.cal = m.cal ∧ (m.chooseBank sec bad).1.vol = m.vol ∧
    (m.chooseBank sec bad).1.mem = m.mem := by
  unfold Mach.chooseBank; (repeat' split) <;> simp

@[simp] theorem Mach.imagesHit_keeps (m : Mach) (bad : List Nat) :
    (m.imagesHit bad).par = m.par ∧ (m.imagesHit bad).tim = m.tim ∧ (m.imagesHit bad).pwr = m.pwr ∧
    (m.imagesHit bad).boot = m.boot ∧ (m.imagesHit bad).ins = m.ins ∧ (m.imagesHit bad).hall = m.hall ∧
    (m.imagesHit bad).fe = m.fe ∧ (m.imagesHit bad).trm = m.trm ∧ (m.imagesHit bad).mnt = m.mnt ∧
    (m.imagesHit bad).trg = m.trg ∧ (m.imagesHit bad).dec = m.dec ∧ (m.imagesHit bad).qre = m.qre ∧
    (m.imagesHit bad).store = m.store ∧ (m.imagesHit bad).ldg = m.ldg ∧ (m.imagesHit bad).tels = m.tels ∧
    (m.imagesHit bad).dsp = m.dsp ∧ (m.imagesHit bad).asy = m.asy ∧ (m.imagesHit bad).iso = m.iso ∧
    (m.imagesHit bad).cal = m.cal ∧ (m.imagesHit bad).vol = m.vol ∧ (m.imagesHit bad).mem = m.mem :=
    by simp [Mach.imagesHit]

@[simp] theorem Mach.vaultHit_keeps (m : Mach) (bad : List Nat) :
    (m.vaultHit bad).par = m.par ∧ (m.vaultHit bad).tim = m.tim ∧ (m.vaultHit bad).pwr = m.pwr ∧
    (m.vaultHit bad).boot = m.boot ∧ (m.vaultHit bad).ins = m.ins ∧ (m.vaultHit bad).hall = m.hall ∧
    (m.vaultHit bad).fe = m.fe ∧ (m.vaultHit bad).trm = m.trm ∧ (m.vaultHit bad).mnt = m.mnt ∧ (m.vaultHit bad).trg = m.trg ∧
    (m.vaultHit bad).dec = m.dec ∧ (m.vaultHit bad).qre = m.qre ∧ (m.vaultHit bad).store = m.store ∧
    (m.vaultHit bad).ldg = m.ldg ∧ (m.vaultHit bad).tels = m.tels ∧ (m.vaultHit bad).dsp = m.dsp ∧
    (m.vaultHit bad).asy = m.asy ∧ (m.vaultHit bad).iso = m.iso ∧ (m.vaultHit bad).vol = m.vol ∧
    (m.vaultHit bad).mem = m.mem :=
    by simp [Mach.vaultHit]

@[simp] theorem Mach.linkDown_keeps (m : Mach) (i cause : Nat) :
    (m.linkDown i cause).par = m.par ∧ (m.linkDown i cause).tim = m.tim ∧ (m.linkDown i cause).pwr = m.pwr ∧
    (m.linkDown i cause).boot = m.boot ∧ (m.linkDown i cause).vlt = m.vlt ∧ (m.linkDown i cause).fe = m.fe ∧
    (m.linkDown i cause).trm = m.trm ∧ (m.linkDown i cause).mnt = m.mnt ∧ (m.linkDown i cause).trg = m.trg ∧
    (m.linkDown i cause).dsp = m.dsp ∧ (m.linkDown i cause).asy = m.asy ∧ (m.linkDown i cause).iso = m.iso ∧
    (m.linkDown i cause).cal = m.cal ∧ (m.linkDown i cause).mem = m.mem :=
    by unfold Mach.linkDown; dsimp only; (repeat' split) <;> simp

@[simp] theorem Mach.stepFail_keeps (m : Mach) (i : Nat) :
    (m.stepFail i).par = m.par ∧ (m.stepFail i).tim = m.tim ∧ (m.stepFail i).pwr = m.pwr ∧ (m.stepFail i).boot = m.boot ∧
    (m.stepFail i).vlt = m.vlt ∧ (m.stepFail i).ins = m.ins ∧ (m.stepFail i).fe = m.fe ∧ (m.stepFail i).trm = m.trm ∧
    (m.stepFail i).mnt = m.mnt ∧ (m.stepFail i).trg = m.trg ∧ (m.stepFail i).dec = m.dec ∧ (m.stepFail i).qre = m.qre ∧
    (m.stepFail i).store = m.store ∧ (m.stepFail i).ldg = m.ldg ∧ (m.stepFail i).tels = m.tels ∧ (m.stepFail i).dsp = m.dsp ∧
    (m.stepFail i).asy = m.asy ∧ (m.stepFail i).iso = m.iso ∧ (m.stepFail i).cal = m.cal ∧ (m.stepFail i).mem = m.mem :=
    by simp [Mach.stepFail]

@[simp] theorem Mach.portLost_keeps (m : Mach) (i cause : Nat) :
    (m.portLost i cause).par = m.par ∧ (m.portLost i cause).tim = m.tim ∧ (m.portLost i cause).pwr = m.pwr ∧
    (m.portLost i cause).boot = m.boot ∧ (m.portLost i cause).vlt = m.vlt ∧ (m.portLost i cause).fe = m.fe ∧
    (m.portLost i cause).trm = m.trm ∧ (m.portLost i cause).mnt = m.mnt ∧ (m.portLost i cause).trg = m.trg ∧
    (m.portLost i cause).dsp = m.dsp ∧ (m.portLost i cause).asy = m.asy ∧ (m.portLost i cause).iso = m.iso ∧
    (m.portLost i cause).cal = m.cal ∧ (m.portLost i cause).mem = m.mem :=
    by unfold Mach.portLost; (repeat' split) <;> simp

@[simp] theorem Mach.portsSettle_keeps (m : Mach) (cause : Nat) :
    (m.portsSettle cause).par = m.par ∧ (m.portsSettle cause).tim = m.tim ∧ (m.portsSettle cause).pwr = m.pwr ∧
    (m.portsSettle cause).boot = m.boot ∧ (m.portsSettle cause).vlt = m.vlt ∧ (m.portsSettle cause).fe = m.fe ∧
    (m.portsSettle cause).trm = m.trm ∧ (m.portsSettle cause).mnt = m.mnt ∧ (m.portsSettle cause).trg = m.trg ∧
    (m.portsSettle cause).dsp = m.dsp ∧ (m.portsSettle cause).asy = m.asy ∧ (m.portsSettle cause).iso = m.iso ∧
    (m.portsSettle cause).cal = m.cal ∧ (m.portsSettle cause).mem = m.mem :=
    by
  unfold Mach.portsSettle
  refine ⟨?_, ?_, ?_, ?_, ?_, ?_, ?_, ?_, ?_, ?_, ?_, ?_, ?_, ?_⟩ <;> ((try dsimp only); (repeat' split) <;> simp [foldl_keeps])

@[simp] theorem Mach.hello_keeps (m : Mach) (i : Nat) (h : HelloObs) :
    (m.hello i h).par = m.par ∧ (m.hello i h).tim = m.tim ∧ (m.hello i h).pwr = m.pwr ∧ (m.hello i h).boot = m.boot ∧
    (m.hello i h).vlt = m.vlt ∧ (m.hello i h).ins = m.ins ∧ (m.hello i h).fe = m.fe ∧ (m.hello i h).trm = m.trm ∧
    (m.hello i h).mnt = m.mnt ∧ (m.hello i h).trg = m.trg ∧ (m.hello i h).dec = m.dec ∧ (m.hello i h).qre = m.qre ∧
    (m.hello i h).store = m.store ∧ (m.hello i h).ldg = m.ldg ∧ (m.hello i h).tels = m.tels ∧ (m.hello i h).dsp = m.dsp ∧
    (m.hello i h).asy = m.asy ∧ (m.hello i h).iso = m.iso ∧ (m.hello i h).cal = m.cal ∧ (m.hello i h).mem = m.mem :=
    by simp [Mach.hello]

@[simp] theorem Mach.spnRetrain_keeps (m : Mach) (v : Word) :
    (m.spnRetrain v).par = m.par ∧ (m.spnRetrain v).tim = m.tim ∧ (m.spnRetrain v).pwr = m.pwr ∧
    (m.spnRetrain v).boot = m.boot ∧ (m.spnRetrain v).vlt = m.vlt ∧ (m.spnRetrain v).fe = m.fe ∧ (m.spnRetrain v).trm = m.trm ∧
    (m.spnRetrain v).mnt = m.mnt ∧ (m.spnRetrain v).trg = m.trg ∧ (m.spnRetrain v).dsp = m.dsp ∧ (m.spnRetrain v).asy = m.asy ∧
    (m.spnRetrain v).iso = m.iso ∧ (m.spnRetrain v).cal = m.cal ∧ (m.spnRetrain v).mem = m.mem :=
    by
  unfold Mach.spnRetrain
  refine ⟨?_, ?_, ?_, ?_, ?_, ?_, ?_, ?_, ?_, ?_, ?_, ?_, ?_, ?_⟩ <;> ((try dsimp only); (repeat' split) <;> simp [foldl_keeps])

@[simp] theorem Mach.uncorrectable_keeps (m : Mach) (i : Nat) :
    (m.uncorrectable i).par = m.par ∧ (m.uncorrectable i).tim = m.tim ∧ (m.uncorrectable i).pwr = m.pwr ∧
    (m.uncorrectable i).boot = m.boot ∧ (m.uncorrectable i).vlt = m.vlt ∧ (m.uncorrectable i).ins = m.ins ∧
    (m.uncorrectable i).fe = m.fe ∧ (m.uncorrectable i).trm = m.trm ∧ (m.uncorrectable i).mnt = m.mnt ∧
    (m.uncorrectable i).trg = m.trg ∧ (m.uncorrectable i).dec = m.dec ∧ (m.uncorrectable i).qre = m.qre ∧
    (m.uncorrectable i).store = m.store ∧ (m.uncorrectable i).ldg = m.ldg ∧ (m.uncorrectable i).tels = m.tels ∧
    (m.uncorrectable i).dsp = m.dsp ∧ (m.uncorrectable i).asy = m.asy ∧ (m.uncorrectable i).iso = m.iso ∧
    (m.uncorrectable i).cal = m.cal ∧ (m.uncorrectable i).mem = m.mem :=
    by simp [Mach.uncorrectable]

@[simp] theorem Mach.badPacket_keeps (m : Mach) (i : Nat) (type : Byte) :
    (m.badPacket i type).par = m.par ∧ (m.badPacket i type).tim = m.tim ∧ (m.badPacket i type).pwr = m.pwr ∧
    (m.badPacket i type).boot = m.boot ∧ (m.badPacket i type).vlt = m.vlt ∧ (m.badPacket i type).ins = m.ins ∧
    (m.badPacket i type).hall = m.hall ∧ (m.badPacket i type).fe = m.fe ∧ (m.badPacket i type).trm = m.trm ∧
    (m.badPacket i type).mnt = m.mnt ∧ (m.badPacket i type).trg = m.trg ∧ (m.badPacket i type).dec = m.dec ∧
    (m.badPacket i type).qre = m.qre ∧ (m.badPacket i type).store = m.store ∧ (m.badPacket i type).ldg = m.ldg ∧
    (m.badPacket i type).tels = m.tels ∧ (m.badPacket i type).dsp = m.dsp ∧ (m.badPacket i type).asy = m.asy ∧
    (m.badPacket i type).iso = m.iso ∧ (m.badPacket i type).cal = m.cal ∧ (m.badPacket i type).vol = m.vol ∧
    (m.badPacket i type).mem = m.mem :=
    by simp [Mach.badPacket]

@[simp] theorem Mach.ackIn_keeps (m : Mach) (i : Nat) (tag : BitVec 16) (status : BitVec 3) :
    (m.ackIn i tag status).par = m.par ∧ (m.ackIn i tag status).tim = m.tim ∧ (m.ackIn i tag status).pwr = m.pwr ∧
    (m.ackIn i tag status).boot = m.boot ∧ (m.ackIn i tag status).vlt = m.vlt ∧ (m.ackIn i tag status).ins = m.ins ∧
    (m.ackIn i tag status).hall = m.hall ∧ (m.ackIn i tag status).fe = m.fe ∧ (m.ackIn i tag status).trm = m.trm ∧
    (m.ackIn i tag status).mnt = m.mnt ∧ (m.ackIn i tag status).trg = m.trg ∧ (m.ackIn i tag status).dec = m.dec ∧
    (m.ackIn i tag status).qre = m.qre ∧ (m.ackIn i tag status).store = m.store ∧ (m.ackIn i tag status).ldg = m.ldg ∧
    (m.ackIn i tag status).dsp = m.dsp ∧ (m.ackIn i tag status).asy = m.asy ∧ (m.ackIn i tag status).iso = m.iso ∧
    (m.ackIn i tag status).cal = m.cal ∧ (m.ackIn i tag status).vol = m.vol ∧ (m.ackIn i tag status).mem = m.mem :=
    by simp [Mach.ackIn]

@[simp] theorem Mach.writeAck_keeps (m : Mach) (a : AckObs) :
    (m.writeAck a).par = m.par ∧ (m.writeAck a).tim = m.tim ∧ (m.writeAck a).pwr = m.pwr ∧ (m.writeAck a).boot = m.boot ∧
    (m.writeAck a).vlt = m.vlt ∧ (m.writeAck a).ins = m.ins ∧ (m.writeAck a).hall = m.hall ∧ (m.writeAck a).fe = m.fe ∧
    (m.writeAck a).trm = m.trm ∧ (m.writeAck a).mnt = m.mnt ∧ (m.writeAck a).trg = m.trg ∧ (m.writeAck a).dec = m.dec ∧
    (m.writeAck a).qre = m.qre ∧ (m.writeAck a).ldg = m.ldg ∧ (m.writeAck a).dsp = m.dsp ∧ (m.writeAck a).asy = m.asy ∧
    (m.writeAck a).iso = m.iso ∧ (m.writeAck a).cal = m.cal ∧ (m.writeAck a).vol = m.vol :=
    by unfold Mach.writeAck; (repeat' split) <;> simp

@[simp] theorem Mach.eventSend_keeps (m : Mach) :
    m.eventSend.ctl = m.ctl ∧ m.eventSend.par = m.par ∧ m.eventSend.tim = m.tim ∧ m.eventSend.pwr = m.pwr ∧
    m.eventSend.boot = m.boot ∧ m.eventSend.vlt = m.vlt ∧ m.eventSend.ins = m.ins ∧ m.eventSend.flt = m.flt ∧
    m.eventSend.hall = m.hall ∧ m.eventSend.fe = m.fe ∧ m.eventSend.trm = m.trm ∧ m.eventSend.mnt = m.mnt ∧
    m.eventSend.trg = m.trg ∧ m.eventSend.dec = m.dec ∧ m.eventSend.qre = m.qre ∧ m.eventSend.store = m.store ∧
    m.eventSend.ldg = m.ldg ∧ m.eventSend.tels = m.tels ∧ m.eventSend.dsp = m.dsp ∧ m.eventSend.asy = m.asy ∧
    m.eventSend.iso = m.iso ∧ m.eventSend.cal = m.cal ∧ m.eventSend.vol = m.vol ∧ m.eventSend.mem = m.mem :=
    by unfold Mach.eventSend; dsimp only; (repeat' split) <;> simp

@[simp] theorem Mach.planeCheck_keeps (m : Mach) :
    m.planeCheck.par = m.par ∧ m.planeCheck.tim = m.tim ∧ m.planeCheck.pwr = m.pwr ∧ m.planeCheck.boot = m.boot ∧
    m.planeCheck.vlt = m.vlt ∧ m.planeCheck.ins = m.ins ∧ m.planeCheck.hall = m.hall ∧ m.planeCheck.fe = m.fe ∧
    m.planeCheck.trm = m.trm ∧ m.planeCheck.mnt = m.mnt ∧ m.planeCheck.trg = m.trg ∧ m.planeCheck.dec = m.dec ∧
    m.planeCheck.qre = m.qre ∧ m.planeCheck.store = m.store ∧ m.planeCheck.ldg = m.ldg ∧ m.planeCheck.tels = m.tels ∧
    m.planeCheck.asy = m.asy ∧ m.planeCheck.iso = m.iso ∧ m.planeCheck.cal = m.cal ∧ m.planeCheck.vol = m.vol ∧
    m.planeCheck.mem = m.mem :=
    by simp [Mach.planeCheck]

@[simp] theorem Mach.cmapLoad_keeps (m : Mach) (bad : Bool) :
    (m.cmapLoad bad).par = m.par ∧ (m.cmapLoad bad).tim = m.tim ∧ (m.cmapLoad bad).pwr = m.pwr ∧
    (m.cmapLoad bad).boot = m.boot ∧ (m.cmapLoad bad).vlt = m.vlt ∧ (m.cmapLoad bad).ins = m.ins ∧
    (m.cmapLoad bad).hall = m.hall ∧ (m.cmapLoad bad).fe = m.fe ∧ (m.cmapLoad bad).trm = m.trm ∧ (m.cmapLoad bad).mnt = m.mnt ∧
    (m.cmapLoad bad).trg = m.trg ∧ (m.cmapLoad bad).dec = m.dec ∧ (m.cmapLoad bad).qre = m.qre ∧ (m.cmapLoad bad).ldg = m.ldg ∧
    (m.cmapLoad bad).tels = m.tels ∧ (m.cmapLoad bad).asy = m.asy ∧ (m.cmapLoad bad).iso = m.iso ∧
    (m.cmapLoad bad).cal = m.cal ∧ (m.cmapLoad bad).vol = m.vol ∧ (m.cmapLoad bad).mem = m.mem :=
    by simp [Mach.cmapLoad]

@[simp] theorem Mach.dsiBegin_keeps (m : Mach) :
    m.dsiBegin.par = m.par ∧ m.dsiBegin.tim = m.tim ∧ m.dsiBegin.pwr = m.pwr ∧ m.dsiBegin.boot = m.boot ∧
    m.dsiBegin.vlt = m.vlt ∧ m.dsiBegin.ins = m.ins ∧ m.dsiBegin.hall = m.hall ∧ m.dsiBegin.fe = m.fe ∧
    m.dsiBegin.trm = m.trm ∧ m.dsiBegin.mnt = m.mnt ∧ m.dsiBegin.trg = m.trg ∧ m.dsiBegin.dec = m.dec ∧
    m.dsiBegin.qre = m.qre ∧ m.dsiBegin.store = m.store ∧ m.dsiBegin.ldg = m.ldg ∧ m.dsiBegin.tels = m.tels ∧
    m.dsiBegin.asy = m.asy ∧ m.dsiBegin.iso = m.iso ∧ m.dsiBegin.cal = m.cal ∧ m.dsiBegin.vol = m.vol ∧
    m.dsiBegin.mem = m.mem :=
    ⟨rfl, rfl, rfl, rfl, rfl, rfl, rfl, rfl, rfl, rfl, rfl, rfl, rfl, rfl, rfl, rfl, rfl, rfl, rfl, rfl, rfl⟩

@[simp] theorem Mach.badMode_keeps (m : Mach) (k : Nat) :
    (m.badMode k).par = m.par ∧ (m.badMode k).tim = m.tim ∧ (m.badMode k).pwr = m.pwr ∧ (m.badMode k).boot = m.boot ∧
    (m.badMode k).vlt = m.vlt ∧ (m.badMode k).ins = m.ins ∧ (m.badMode k).hall = m.hall ∧ (m.badMode k).fe = m.fe ∧
    (m.badMode k).trm = m.trm ∧ (m.badMode k).mnt = m.mnt ∧ (m.badMode k).trg = m.trg ∧ (m.badMode k).dec = m.dec ∧
    (m.badMode k).qre = m.qre ∧ (m.badMode k).store = m.store ∧ (m.badMode k).ldg = m.ldg ∧ (m.badMode k).tels = m.tels ∧
    (m.badMode k).asy = m.asy ∧ (m.badMode k).iso = m.iso ∧ (m.badMode k).cal = m.cal ∧ (m.badMode k).vol = m.vol ∧
    (m.badMode k).mem = m.mem :=
    by simp [Mach.badMode]

@[simp] theorem Mach.dsiFollow_keeps (m : Mach) :
    m.dsiFollow.par = m.par ∧ m.dsiFollow.tim = m.tim ∧ m.dsiFollow.pwr = m.pwr ∧ m.dsiFollow.boot = m.boot ∧
    m.dsiFollow.vlt = m.vlt ∧ m.dsiFollow.ins = m.ins ∧ m.dsiFollow.hall = m.hall ∧ m.dsiFollow.fe = m.fe ∧
    m.dsiFollow.trm = m.trm ∧ m.dsiFollow.mnt = m.mnt ∧ m.dsiFollow.trg = m.trg ∧ m.dsiFollow.dec = m.dec ∧
    m.dsiFollow.qre = m.qre ∧ m.dsiFollow.store = m.store ∧ m.dsiFollow.ldg = m.ldg ∧ m.dsiFollow.tels = m.tels ∧
    m.dsiFollow.asy = m.asy ∧ m.dsiFollow.iso = m.iso ∧ m.dsiFollow.cal = m.cal ∧ m.dsiFollow.vol = m.vol ∧
    m.dsiFollow.mem = m.mem :=
    by simp [Mach.dsiFollow]

@[simp] theorem Mach.dpTrain_keeps (m : Mach) :
    m.dpTrain.par = m.par ∧ m.dpTrain.tim = m.tim ∧ m.dpTrain.pwr = m.pwr ∧ m.dpTrain.boot = m.boot ∧ m.dpTrain.vlt = m.vlt ∧
    m.dpTrain.ins = m.ins ∧ m.dpTrain.hall = m.hall ∧ m.dpTrain.fe = m.fe ∧ m.dpTrain.trm = m.trm ∧ m.dpTrain.mnt = m.mnt ∧
    m.dpTrain.trg = m.trg ∧ m.dpTrain.dec = m.dec ∧ m.dpTrain.qre = m.qre ∧ m.dpTrain.store = m.store ∧ m.dpTrain.ldg = m.ldg ∧
    m.dpTrain.tels = m.tels ∧ m.dpTrain.asy = m.asy ∧ m.dpTrain.iso = m.iso ∧ m.dpTrain.cal = m.cal ∧ m.dpTrain.vol = m.vol ∧
    m.dpTrain.mem = m.mem :=
    by simp [Mach.dpTrain]

@[simp] theorem Mach.dpFollow_keeps (m : Mach) :
    m.dpFollow.par = m.par ∧ m.dpFollow.tim = m.tim ∧ m.dpFollow.pwr = m.pwr ∧ m.dpFollow.boot = m.boot ∧
    m.dpFollow.vlt = m.vlt ∧ m.dpFollow.ins = m.ins ∧ m.dpFollow.hall = m.hall ∧ m.dpFollow.fe = m.fe ∧
    m.dpFollow.trm = m.trm ∧ m.dpFollow.mnt = m.mnt ∧ m.dpFollow.trg = m.trg ∧ m.dpFollow.dec = m.dec ∧
    m.dpFollow.qre = m.qre ∧ m.dpFollow.store = m.store ∧ m.dpFollow.ldg = m.ldg ∧ m.dpFollow.tels = m.tels ∧
    m.dpFollow.asy = m.asy ∧ m.dpFollow.iso = m.iso ∧ m.dpFollow.cal = m.cal ∧ m.dpFollow.vol = m.vol ∧
    m.dpFollow.mem = m.mem :=
    by simp [Mach.dpFollow]

@[simp] theorem Mach.dspTake_keeps (m : Mach) (p : Nat → Bool) (bad : Bool) :
    (m.dspTake p bad).tim = m.tim ∧ (m.dspTake p bad).pwr = m.pwr ∧ (m.dspTake p bad).boot = m.boot ∧
    (m.dspTake p bad).vlt = m.vlt ∧ (m.dspTake p bad).ins = m.ins ∧ (m.dspTake p bad).hall = m.hall ∧
    (m.dspTake p bad).fe = m.fe ∧ (m.dspTake p bad).trm = m.trm ∧ (m.dspTake p bad).mnt = m.mnt ∧
    (m.dspTake p bad).trg = m.trg ∧ (m.dspTake p bad).dec = m.dec ∧ (m.dspTake p bad).qre = m.qre ∧
    (m.dspTake p bad).ldg = m.ldg ∧ (m.dspTake p bad).tels = m.tels ∧ (m.dspTake p bad).asy = m.asy ∧
    (m.dspTake p bad).iso = m.iso ∧ (m.dspTake p bad).cal = m.cal ∧ (m.dspTake p bad).vol = m.vol ∧
    (m.dspTake p bad).mem = m.mem :=
    by simp [Mach.dspTake]

@[simp] theorem Mach.dspTakeAll_keeps (m : Mach) (bad : Bool) :
    (m.dspTakeAll bad).tim = m.tim ∧ (m.dspTakeAll bad).pwr = m.pwr ∧ (m.dspTakeAll bad).boot = m.boot ∧
    (m.dspTakeAll bad).vlt = m.vlt ∧ (m.dspTakeAll bad).ins = m.ins ∧ (m.dspTakeAll bad).hall = m.hall ∧
    (m.dspTakeAll bad).fe = m.fe ∧ (m.dspTakeAll bad).trm = m.trm ∧ (m.dspTakeAll bad).mnt = m.mnt ∧
    (m.dspTakeAll bad).trg = m.trg ∧ (m.dspTakeAll bad).dec = m.dec ∧ (m.dspTakeAll bad).qre = m.qre ∧
    (m.dspTakeAll bad).ldg = m.ldg ∧ (m.dspTakeAll bad).tels = m.tels ∧ (m.dspTakeAll bad).asy = m.asy ∧
    (m.dspTakeAll bad).iso = m.iso ∧ (m.dspTakeAll bad).cal = m.cal ∧ (m.dspTakeAll bad).vol = m.vol ∧
    (m.dspTakeAll bad).mem = m.mem :=
    by simp [Mach.dspTakeAll]

@[simp] theorem Mach.frameStart_keeps (m : Mach) (dark : Bool) :
    (m.frameStart dark).par = m.par ∧ (m.frameStart dark).tim = m.tim ∧ (m.frameStart dark).pwr = m.pwr ∧
    (m.frameStart dark).boot = m.boot ∧ (m.frameStart dark).vlt = m.vlt ∧ (m.frameStart dark).ins = m.ins ∧
    (m.frameStart dark).hall = m.hall ∧ (m.frameStart dark).fe = m.fe ∧ (m.frameStart dark).trm = m.trm ∧
    (m.frameStart dark).mnt = m.mnt ∧ (m.frameStart dark).trg = m.trg ∧ (m.frameStart dark).dec = m.dec ∧
    (m.frameStart dark).qre = m.qre ∧ (m.frameStart dark).store = m.store ∧ (m.frameStart dark).ldg = m.ldg ∧
    (m.frameStart dark).tels = m.tels ∧ (m.frameStart dark).asy = m.asy ∧ (m.frameStart dark).iso = m.iso ∧
    (m.frameStart dark).cal = m.cal ∧ (m.frameStart dark).vol = m.vol ∧ (m.frameStart dark).mem = m.mem :=
    ⟨rfl, rfl, rfl, rfl, rfl, rfl, rfl, rfl, rfl, rfl, rfl, rfl, rfl, rfl, rfl, rfl, rfl, rfl, rfl, rfl, rfl⟩

@[simp] theorem Mach.frameSummary_keeps (m : Mach) :
    m.frameSummary.par = m.par ∧ m.frameSummary.tim = m.tim ∧ m.frameSummary.pwr = m.pwr ∧ m.frameSummary.boot = m.boot ∧
    m.frameSummary.vlt = m.vlt ∧ m.frameSummary.ins = m.ins ∧ m.frameSummary.hall = m.hall ∧ m.frameSummary.fe = m.fe ∧
    m.frameSummary.trm = m.trm ∧ m.frameSummary.mnt = m.mnt ∧ m.frameSummary.trg = m.trg ∧ m.frameSummary.dec = m.dec ∧
    m.frameSummary.qre = m.qre ∧ m.frameSummary.store = m.store ∧ m.frameSummary.ldg = m.ldg ∧ m.frameSummary.tels = m.tels ∧
    m.frameSummary.asy = m.asy ∧ m.frameSummary.iso = m.iso ∧ m.frameSummary.cal = m.cal ∧ m.frameSummary.vol = m.vol ∧
    m.frameSummary.mem = m.mem :=
    ⟨rfl, rfl, rfl, rfl, rfl, rfl, rfl, rfl, rfl, rfl, rfl, rfl, rfl, rfl, rfl, rfl, rfl, rfl, rfl, rfl, rfl⟩

@[simp] theorem Mach.scanStart_keeps (m : Mach) :
    m.scanStart.tim = m.tim ∧ m.scanStart.pwr = m.pwr ∧ m.scanStart.boot = m.boot ∧ m.scanStart.vlt = m.vlt ∧
    m.scanStart.ins = m.ins ∧ m.scanStart.hall = m.hall ∧ m.scanStart.fe = m.fe ∧ m.scanStart.trm = m.trm ∧
    m.scanStart.mnt = m.mnt ∧ m.scanStart.trg = m.trg ∧ m.scanStart.dec = m.dec ∧ m.scanStart.qre = m.qre ∧
    m.scanStart.store = m.store ∧ m.scanStart.ldg = m.ldg ∧ m.scanStart.tels = m.tels ∧ m.scanStart.asy = m.asy ∧
    m.scanStart.iso = m.iso ∧ m.scanStart.cal = m.cal ∧ m.scanStart.vol = m.vol ∧ m.scanStart.mem = m.mem :=
    by simp [Mach.scanStart]

@[simp] theorem Mach.teLost_keeps (m : Mach) :
    m.teLost.par = m.par ∧ m.teLost.tim = m.tim ∧ m.teLost.pwr = m.pwr ∧ m.teLost.boot = m.boot ∧ m.teLost.vlt = m.vlt ∧
    m.teLost.ins = m.ins ∧ m.teLost.hall = m.hall ∧ m.teLost.fe = m.fe ∧ m.teLost.trm = m.trm ∧ m.teLost.mnt = m.mnt ∧
    m.teLost.trg = m.trg ∧ m.teLost.dec = m.dec ∧ m.teLost.qre = m.qre ∧ m.teLost.store = m.store ∧ m.teLost.ldg = m.ldg ∧
    m.teLost.tels = m.tels ∧ m.teLost.asy = m.asy ∧ m.teLost.iso = m.iso ∧ m.teLost.cal = m.cal ∧ m.teLost.vol = m.vol ∧
    m.teLost.mem = m.mem :=
    by simp [Mach.teLost]

@[simp] theorem Mach.underrun_keeps (m : Mach) (ecc : Option Nat) :
    (m.underrun ecc).par = m.par ∧ (m.underrun ecc).tim = m.tim ∧ (m.underrun ecc).pwr = m.pwr ∧
    (m.underrun ecc).boot = m.boot ∧ (m.underrun ecc).vlt = m.vlt ∧ (m.underrun ecc).ins = m.ins ∧
    (m.underrun ecc).hall = m.hall ∧ (m.underrun ecc).fe = m.fe ∧ (m.underrun ecc).trm = m.trm ∧ (m.underrun ecc).mnt = m.mnt ∧
    (m.underrun ecc).trg = m.trg ∧ (m.underrun ecc).dec = m.dec ∧ (m.underrun ecc).qre = m.qre ∧ (m.underrun ecc).ldg = m.ldg ∧
    (m.underrun ecc).tels = m.tels ∧ (m.underrun ecc).asy = m.asy ∧ (m.underrun ecc).iso = m.iso ∧
    (m.underrun ecc).cal = m.cal ∧ (m.underrun ecc).vol = m.vol ∧ (m.underrun ecc).mem = m.mem :=
    by unfold Mach.underrun; dsimp only; (repeat' split) <;> simp

@[simp] theorem Mach.railAbsent_keeps (m : Mach) (r : Nat) :
    (m.railAbsent r).par = m.par ∧ (m.railAbsent r).tim = m.tim ∧ (m.railAbsent r).pwr = m.pwr ∧
    (m.railAbsent r).boot = m.boot ∧ (m.railAbsent r).vlt = m.vlt ∧ (m.railAbsent r).ins = m.ins ∧
    (m.railAbsent r).hall = m.hall ∧ (m.railAbsent r).fe = m.fe ∧ (m.railAbsent r).trm = m.trm ∧ (m.railAbsent r).mnt = m.mnt ∧
    (m.railAbsent r).trg = m.trg ∧ (m.railAbsent r).dec = m.dec ∧ (m.railAbsent r).qre = m.qre ∧
    (m.railAbsent r).store = m.store ∧ (m.railAbsent r).ldg = m.ldg ∧ (m.railAbsent r).tels = m.tels ∧
    (m.railAbsent r).dsp = m.dsp ∧ (m.railAbsent r).asy = m.asy ∧ (m.railAbsent r).iso = m.iso ∧ (m.railAbsent r).cal = m.cal ∧
    (m.railAbsent r).vol = m.vol ∧ (m.railAbsent r).mem = m.mem :=
    by simp [Mach.railAbsent]

@[simp] theorem Mach.railCheck_keeps (m : Mach) (d : Nat) :
    (m.railCheck d).par = m.par ∧ (m.railCheck d).tim = m.tim ∧ (m.railCheck d).boot = m.boot ∧ (m.railCheck d).vlt = m.vlt ∧
    (m.railCheck d).ins = m.ins ∧ (m.railCheck d).hall = m.hall ∧ (m.railCheck d).fe = m.fe ∧ (m.railCheck d).trm = m.trm ∧
    (m.railCheck d).mnt = m.mnt ∧ (m.railCheck d).trg = m.trg ∧ (m.railCheck d).dec = m.dec ∧ (m.railCheck d).qre = m.qre ∧
    (m.railCheck d).store = m.store ∧ (m.railCheck d).ldg = m.ldg ∧ (m.railCheck d).tels = m.tels ∧
    (m.railCheck d).dsp = m.dsp ∧ (m.railCheck d).asy = m.asy ∧ (m.railCheck d).iso = m.iso ∧ (m.railCheck d).cal = m.cal ∧
    (m.railCheck d).vol = m.vol ∧ (m.railCheck d).mem = m.mem :=
    by
  unfold Mach.railCheck
  refine ⟨?_, ?_, ?_, ?_, ?_, ?_, ?_, ?_, ?_, ?_, ?_, ?_, ?_, ?_, ?_, ?_, ?_, ?_, ?_, ?_, ?_⟩ <;> ((try dsimp only); (repeat' split) <;> simp [foldl_keeps])

@[simp] theorem Mach.switchOn_keeps (m : Mach) (d : Nat) :
    (m.switchOn d).par = m.par ∧ (m.switchOn d).tim = m.tim ∧ (m.switchOn d).boot = m.boot ∧ (m.switchOn d).vlt = m.vlt ∧
    (m.switchOn d).ins = m.ins ∧ (m.switchOn d).hall = m.hall ∧ (m.switchOn d).fe = m.fe ∧ (m.switchOn d).trm = m.trm ∧
    (m.switchOn d).mnt = m.mnt ∧ (m.switchOn d).trg = m.trg ∧ (m.switchOn d).dec = m.dec ∧ (m.switchOn d).qre = m.qre ∧
    (m.switchOn d).store = m.store ∧ (m.switchOn d).ldg = m.ldg ∧ (m.switchOn d).tels = m.tels ∧ (m.switchOn d).dsp = m.dsp ∧
    (m.switchOn d).asy = m.asy ∧ (m.switchOn d).iso = m.iso ∧ (m.switchOn d).cal = m.cal ∧ (m.switchOn d).vol = m.vol ∧
    (m.switchOn d).mem = m.mem :=
    by simp [Mach.switchOn]

/-- What switching domains on leaves as it was. -/
theorem Mach.switchNextN_keeps (n : Nat) (m : Mach) :
    (Mach.switchNextN n m).par = m.par ∧ (Mach.switchNextN n m).tim = m.tim ∧ (Mach.switchNextN n m).boot = m.boot ∧
    (Mach.switchNextN n m).vlt = m.vlt ∧ (Mach.switchNextN n m).ins = m.ins ∧ (Mach.switchNextN n m).hall = m.hall ∧
    (Mach.switchNextN n m).fe = m.fe ∧ (Mach.switchNextN n m).trm = m.trm ∧ (Mach.switchNextN n m).mnt = m.mnt ∧
    (Mach.switchNextN n m).trg = m.trg ∧ (Mach.switchNextN n m).dec = m.dec ∧ (Mach.switchNextN n m).qre = m.qre ∧
    (Mach.switchNextN n m).store = m.store ∧ (Mach.switchNextN n m).ldg = m.ldg ∧ (Mach.switchNextN n m).tels = m.tels ∧
    (Mach.switchNextN n m).dsp = m.dsp ∧ (Mach.switchNextN n m).asy = m.asy ∧ (Mach.switchNextN n m).iso = m.iso ∧
    (Mach.switchNextN n m).cal = m.cal ∧ (Mach.switchNextN n m).vol = m.vol ∧ (Mach.switchNextN n m).mem = m.mem := by
  induction n generalizing m with
  | zero => exact ⟨rfl, rfl, rfl, rfl, rfl, rfl, rfl, rfl, rfl, rfl, rfl, rfl, rfl, rfl, rfl, rfl, rfl, rfl, rfl, rfl, rfl⟩
  | succ n ih =>
    unfold Mach.switchNextN; dsimp only
    (repeat' split) <;> simp [ih, Mach.switchOn]

@[simp] theorem Mach.switchNext_keeps (m : Mach) :
    m.switchNext.par = m.par ∧ m.switchNext.tim = m.tim ∧ m.switchNext.boot = m.boot ∧ m.switchNext.vlt = m.vlt ∧
    m.switchNext.ins = m.ins ∧ m.switchNext.hall = m.hall ∧ m.switchNext.fe = m.fe ∧ m.switchNext.trm = m.trm ∧
    m.switchNext.mnt = m.mnt ∧ m.switchNext.trg = m.trg ∧ m.switchNext.dec = m.dec ∧ m.switchNext.qre = m.qre ∧
    m.switchNext.store = m.store ∧ m.switchNext.ldg = m.ldg ∧ m.switchNext.tels = m.tels ∧ m.switchNext.dsp = m.dsp ∧
    m.switchNext.asy = m.asy ∧ m.switchNext.iso = m.iso ∧ m.switchNext.cal = m.cal ∧ m.switchNext.vol = m.vol ∧
    m.switchNext.mem = m.mem :=
    Mach.switchNextN_keeps ..

@[simp] theorem Mach.queueDomains_keeps (m : Mach) :
    m.queueDomains.par = m.par ∧ m.queueDomains.tim = m.tim ∧ m.queueDomains.boot = m.boot ∧ m.queueDomains.vlt = m.vlt ∧
    m.queueDomains.ins = m.ins ∧ m.queueDomains.hall = m.hall ∧ m.queueDomains.fe = m.fe ∧ m.queueDomains.trm = m.trm ∧
    m.queueDomains.mnt = m.mnt ∧ m.queueDomains.trg = m.trg ∧ m.queueDomains.dec = m.dec ∧ m.queueDomains.qre = m.qre ∧
    m.queueDomains.store = m.store ∧ m.queueDomains.ldg = m.ldg ∧ m.queueDomains.tels = m.tels ∧ m.queueDomains.dsp = m.dsp ∧
    m.queueDomains.asy = m.asy ∧ m.queueDomains.iso = m.iso ∧ m.queueDomains.cal = m.cal ∧ m.queueDomains.vol = m.vol ∧
    m.queueDomains.mem = m.mem :=
    by unfold Mach.queueDomains; dsimp only; (repeat' split) <;> simp

@[simp] theorem Mach.railReturn_keeps (m : Mach) :
    m.railReturn.par = m.par ∧ m.railReturn.tim = m.tim ∧ m.railReturn.boot = m.boot ∧ m.railReturn.vlt = m.vlt ∧
    m.railReturn.ins = m.ins ∧ m.railReturn.hall = m.hall ∧ m.railReturn.fe = m.fe ∧ m.railReturn.trm = m.trm ∧
    m.railReturn.mnt = m.mnt ∧ m.railReturn.trg = m.trg ∧ m.railReturn.dec = m.dec ∧ m.railReturn.qre = m.qre ∧
    m.railReturn.store = m.store ∧ m.railReturn.ldg = m.ldg ∧ m.railReturn.tels = m.tels ∧ m.railReturn.dsp = m.dsp ∧
    m.railReturn.asy = m.asy ∧ m.railReturn.iso = m.iso ∧ m.railReturn.cal = m.cal ∧ m.railReturn.vol = m.vol ∧
    m.railReturn.mem = m.mem :=
    by
  unfold Mach.railReturn
  refine ⟨?_, ?_, ?_, ?_, ?_, ?_, ?_, ?_, ?_, ?_, ?_, ?_, ?_, ?_, ?_, ?_, ?_, ?_, ?_, ?_, ?_⟩ <;> ((try dsimp only); (repeat' split) <;> simp [foldl_keeps])

@[simp] theorem Mach.vaultRefuse_keeps (m : Mach) (op cause : Nat) :
    (m.vaultRefuse op cause).ctl = m.ctl ∧ (m.vaultRefuse op cause).par = m.par ∧ (m.vaultRefuse op cause).tim = m.tim ∧
    (m.vaultRefuse op cause).pwr = m.pwr ∧ (m.vaultRefuse op cause).boot = m.boot ∧ (m.vaultRefuse op cause).ins = m.ins ∧
    (m.vaultRefuse op cause).flt = m.flt ∧ (m.vaultRefuse op cause).hall = m.hall ∧ (m.vaultRefuse op cause).fe = m.fe ∧
    (m.vaultRefuse op cause).trm = m.trm ∧ (m.vaultRefuse op cause).mnt = m.mnt ∧ (m.vaultRefuse op cause).trg = m.trg ∧
    (m.vaultRefuse op cause).dec = m.dec ∧ (m.vaultRefuse op cause).qre = m.qre ∧ (m.vaultRefuse op cause).store = m.store ∧
    (m.vaultRefuse op cause).ldg = m.ldg ∧ (m.vaultRefuse op cause).tels = m.tels ∧ (m.vaultRefuse op cause).spn = m.spn ∧
    (m.vaultRefuse op cause).dsp = m.dsp ∧ (m.vaultRefuse op cause).asy = m.asy ∧ (m.vaultRefuse op cause).iso = m.iso ∧
    (m.vaultRefuse op cause).cal = m.cal ∧ (m.vaultRefuse op cause).vol = m.vol ∧ (m.vaultRefuse op cause).mem = m.mem :=
    by simp [Mach.vaultRefuse]

@[simp] theorem Mach.vaultStart_keeps (m : Mach) (op : Nat) (o : VaultOp) :
    (m.vaultStart op o).ctl = m.ctl ∧ (m.vaultStart op o).par = m.par ∧ (m.vaultStart op o).tim = m.tim ∧
    (m.vaultStart op o).pwr = m.pwr ∧ (m.vaultStart op o).boot = m.boot ∧ (m.vaultStart op o).ins = m.ins ∧
    (m.vaultStart op o).flt = m.flt ∧ (m.vaultStart op o).hall = m.hall ∧ (m.vaultStart op o).fe = m.fe ∧
    (m.vaultStart op o).trm = m.trm ∧ (m.vaultStart op o).mnt = m.mnt ∧ (m.vaultStart op o).trg = m.trg ∧
    (m.vaultStart op o).dec = m.dec ∧ (m.vaultStart op o).qre = m.qre ∧ (m.vaultStart op o).store = m.store ∧
    (m.vaultStart op o).ldg = m.ldg ∧ (m.vaultStart op o).tels = m.tels ∧ (m.vaultStart op o).spn = m.spn ∧
    (m.vaultStart op o).dsp = m.dsp ∧ (m.vaultStart op o).asy = m.asy ∧ (m.vaultStart op o).iso = m.iso ∧
    (m.vaultStart op o).cal = m.cal ∧ (m.vaultStart op o).vol = m.vol ∧ (m.vaultStart op o).mem = m.mem :=
    ⟨rfl, rfl, rfl, rfl, rfl, rfl, rfl, rfl, rfl, rfl, rfl, rfl, rfl, rfl, rfl, rfl, rfl, rfl, rfl, rfl, rfl, rfl, rfl, rfl⟩

@[simp] theorem Mach.vaultProgram_keeps (m : Mach) :
    m.vaultProgram.par = m.par ∧ m.vaultProgram.tim = m.tim ∧ m.vaultProgram.pwr = m.pwr ∧ m.vaultProgram.boot = m.boot ∧
    m.vaultProgram.ins = m.ins ∧ m.vaultProgram.hall = m.hall ∧ m.vaultProgram.fe = m.fe ∧ m.vaultProgram.trm = m.trm ∧
    m.vaultProgram.mnt = m.mnt ∧ m.vaultProgram.trg = m.trg ∧ m.vaultProgram.dec = m.dec ∧ m.vaultProgram.qre = m.qre ∧
    m.vaultProgram.ldg = m.ldg ∧ m.vaultProgram.tels = m.tels ∧ m.vaultProgram.dsp = m.dsp ∧ m.vaultProgram.asy = m.asy ∧
    m.vaultProgram.iso = m.iso ∧ m.vaultProgram.cal = m.cal ∧ m.vaultProgram.vol = m.vol ∧ m.vaultProgram.mem = m.mem :=
    by simp [Mach.vaultProgram]

@[simp] theorem Mach.vaultErase_keeps (m : Mach) (v : Word) :
    (m.vaultErase v).ctl = m.ctl ∧ (m.vaultErase v).par = m.par ∧ (m.vaultErase v).tim = m.tim ∧ (m.vaultErase v).pwr = m.pwr ∧
    (m.vaultErase v).boot = m.boot ∧ (m.vaultErase v).ins = m.ins ∧ (m.vaultErase v).flt = m.flt ∧
    (m.vaultErase v).hall = m.hall ∧ (m.vaultErase v).fe = m.fe ∧ (m.vaultErase v).trm = m.trm ∧ (m.vaultErase v).mnt = m.mnt ∧
    (m.vaultErase v).trg = m.trg ∧ (m.vaultErase v).dec = m.dec ∧ (m.vaultErase v).qre = m.qre ∧
    (m.vaultErase v).store = m.store ∧ (m.vaultErase v).ldg = m.ldg ∧ (m.vaultErase v).tels = m.tels ∧
    (m.vaultErase v).spn = m.spn ∧ (m.vaultErase v).dsp = m.dsp ∧ (m.vaultErase v).asy = m.asy ∧ (m.vaultErase v).iso = m.iso ∧
    (m.vaultErase v).cal = m.cal ∧ (m.vaultErase v).vol = m.vol ∧ (m.vaultErase v).mem = m.mem :=
    by unfold Mach.vaultErase; (repeat' split) <;> simp

@[simp] theorem Mach.vaultExport_keeps (m : Mach) :
    m.vaultExport.par = m.par ∧ m.vaultExport.tim = m.tim ∧ m.vaultExport.pwr = m.pwr ∧ m.vaultExport.boot = m.boot ∧
    m.vaultExport.ins = m.ins ∧ m.vaultExport.hall = m.hall ∧ m.vaultExport.fe = m.fe ∧ m.vaultExport.trm = m.trm ∧
    m.vaultExport.mnt = m.mnt ∧ m.vaultExport.trg = m.trg ∧ m.vaultExport.dec = m.dec ∧ m.vaultExport.qre = m.qre ∧
    m.vaultExport.store = m.store ∧ m.vaultExport.ldg = m.ldg ∧ m.vaultExport.tels = m.tels ∧ m.vaultExport.dsp = m.dsp ∧
    m.vaultExport.asy = m.asy ∧ m.vaultExport.iso = m.iso ∧ m.vaultExport.cal = m.cal ∧ m.vaultExport.vol = m.vol ∧
    m.vaultExport.mem = m.mem :=
    by simp [Mach.vaultExport]

@[simp] theorem Mach.vaultCtl_keeps (m : Mach) (v : Word) :
    (m.vaultCtl v).par = m.par ∧ (m.vaultCtl v).tim = m.tim ∧ (m.vaultCtl v).pwr = m.pwr ∧ (m.vaultCtl v).boot = m.boot ∧
    (m.vaultCtl v).ins = m.ins ∧ (m.vaultCtl v).hall = m.hall ∧ (m.vaultCtl v).fe = m.fe ∧ (m.vaultCtl v).trm = m.trm ∧
    (m.vaultCtl v).mnt = m.mnt ∧ (m.vaultCtl v).trg = m.trg ∧ (m.vaultCtl v).dec = m.dec ∧ (m.vaultCtl v).qre = m.qre ∧
    (m.vaultCtl v).ldg = m.ldg ∧ (m.vaultCtl v).tels = m.tels ∧ (m.vaultCtl v).dsp = m.dsp ∧ (m.vaultCtl v).asy = m.asy ∧
    (m.vaultCtl v).iso = m.iso ∧ (m.vaultCtl v).cal = m.cal ∧ (m.vaultCtl v).vol = m.vol ∧ (m.vaultCtl v).mem = m.mem :=
    by unfold Mach.vaultCtl; (repeat' split) <;> simp

@[simp] theorem Mach.vaultEnd_keeps (m : Mach) (st : BitVec 2) (cause : BitVec 8) (len : Nat) :
    (m.vaultEnd st cause len).ctl = m.ctl ∧ (m.vaultEnd st cause len).par = m.par ∧ (m.vaultEnd st cause len).tim = m.tim ∧
    (m.vaultEnd st cause len).pwr = m.pwr ∧ (m.vaultEnd st cause len).boot = m.boot ∧ (m.vaultEnd st cause len).ins = m.ins ∧
    (m.vaultEnd st cause len).flt = m.flt ∧ (m.vaultEnd st cause len).hall = m.hall ∧ (m.vaultEnd st cause len).fe = m.fe ∧
    (m.vaultEnd st cause len).trm = m.trm ∧ (m.vaultEnd st cause len).mnt = m.mnt ∧ (m.vaultEnd st cause len).trg = m.trg ∧
    (m.vaultEnd st cause len).dec = m.dec ∧ (m.vaultEnd st cause len).qre = m.qre ∧ (m.vaultEnd st cause len).store = m.store ∧
    (m.vaultEnd st cause len).ldg = m.ldg ∧ (m.vaultEnd st cause len).tels = m.tels ∧ (m.vaultEnd st cause len).spn = m.spn ∧
    (m.vaultEnd st cause len).dsp = m.dsp ∧ (m.vaultEnd st cause len).asy = m.asy ∧ (m.vaultEnd st cause len).iso = m.iso ∧
    (m.vaultEnd st cause len).cal = m.cal ∧ (m.vaultEnd st cause len).vol = m.vol ∧ (m.vaultEnd st cause len).mem = m.mem :=
    ⟨rfl, rfl, rfl, rfl, rfl, rfl, rfl, rfl, rfl, rfl, rfl, rfl, rfl, rfl, rfl, rfl, rfl, rfl, rfl, rfl, rfl, rfl, rfl, rfl⟩

@[simp] theorem Mach.queueInsert_keeps (m : Mach) (k : Option Master) (apply : Bool) (slot : Nat) :
    (m.queueInsert k apply slot).ctl = m.ctl ∧ (m.queueInsert k apply slot).par = m.par ∧
    (m.queueInsert k apply slot).tim = m.tim ∧ (m.queueInsert k apply slot).pwr = m.pwr ∧
    (m.queueInsert k apply slot).boot = m.boot ∧ (m.queueInsert k apply slot).vlt = m.vlt ∧
    (m.queueInsert k apply slot).flt = m.flt ∧ (m.queueInsert k apply slot).hall = m.hall ∧
    (m.queueInsert k apply slot).fe = m.fe ∧ (m.queueInsert k apply slot).trm = m.trm ∧
    (m.queueInsert k apply slot).mnt = m.mnt ∧ (m.queueInsert k apply slot).trg = m.trg ∧
    (m.queueInsert k apply slot).dec = m.dec ∧ (m.queueInsert k apply slot).qre = m.qre ∧
    (m.queueInsert k apply slot).store = m.store ∧ (m.queueInsert k apply slot).ldg = m.ldg ∧
    (m.queueInsert k apply slot).tels = m.tels ∧ (m.queueInsert k apply slot).spn = m.spn ∧
    (m.queueInsert k apply slot).dsp = m.dsp ∧ (m.queueInsert k apply slot).asy = m.asy ∧
    (m.queueInsert k apply slot).iso = m.iso ∧ (m.queueInsert k apply slot).cal = m.cal ∧
    (m.queueInsert k apply slot).vol = m.vol ∧ (m.queueInsert k apply slot).mem = m.mem :=
    by simp [Mach.queueInsert]

@[simp] theorem Mach.winStart_keeps (m : Mach) (v : Word) :
    (m.winStart v).par = m.par ∧ (m.winStart v).tim = m.tim ∧ (m.winStart v).pwr = m.pwr ∧ (m.winStart v).boot = m.boot ∧
    (m.winStart v).vlt = m.vlt ∧ (m.winStart v).ins = m.ins ∧ (m.winStart v).flt = m.flt ∧ (m.winStart v).hall = m.hall ∧
    (m.winStart v).fe = m.fe ∧ (m.winStart v).trm = m.trm ∧ (m.winStart v).mnt = m.mnt ∧ (m.winStart v).trg = m.trg ∧
    (m.winStart v).dec = m.dec ∧ (m.winStart v).qre = m.qre ∧ (m.winStart v).store = m.store ∧ (m.winStart v).ldg = m.ldg ∧
    (m.winStart v).tels = m.tels ∧ (m.winStart v).spn = m.spn ∧ (m.winStart v).dsp = m.dsp ∧ (m.winStart v).asy = m.asy ∧
    (m.winStart v).iso = m.iso ∧ (m.winStart v).cal = m.cal ∧ (m.winStart v).vol = m.vol ∧ (m.winStart v).mem = m.mem :=
    by simp [Mach.winStart]

@[simp] theorem Mach.insertStat_keeps (m : Mach) (result : Nat) (written : Nat) (skipped : Nat) :
    (m.insertStat result written skipped).ctl = m.ctl ∧ (m.insertStat result written skipped).par = m.par ∧
    (m.insertStat result written skipped).tim = m.tim ∧ (m.insertStat result written skipped).pwr = m.pwr ∧
    (m.insertStat result written skipped).boot = m.boot ∧ (m.insertStat result written skipped).vlt = m.vlt ∧
    (m.insertStat result written skipped).flt = m.flt ∧ (m.insertStat result written skipped).hall = m.hall ∧
    (m.insertStat result written skipped).fe = m.fe ∧ (m.insertStat result written skipped).trm = m.trm ∧
    (m.insertStat result written skipped).mnt = m.mnt ∧ (m.insertStat result written skipped).trg = m.trg ∧
    (m.insertStat result written skipped).dec = m.dec ∧ (m.insertStat result written skipped).qre = m.qre ∧
    (m.insertStat result written skipped).store = m.store ∧ (m.insertStat result written skipped).ldg = m.ldg ∧
    (m.insertStat result written skipped).tels = m.tels ∧ (m.insertStat result written skipped).spn = m.spn ∧
    (m.insertStat result written skipped).dsp = m.dsp ∧ (m.insertStat result written skipped).asy = m.asy ∧
    (m.insertStat result written skipped).iso = m.iso ∧ (m.insertStat result written skipped).cal = m.cal ∧
    (m.insertStat result written skipped).vol = m.vol ∧ (m.insertStat result written skipped).mem = m.mem :=
    ⟨rfl, rfl, rfl, rfl, rfl, rfl, rfl, rfl, rfl, rfl, rfl, rfl, rfl, rfl, rfl, rfl, rfl, rfl, rfl, rfl, rfl, rfl, rfl, rfl⟩

@[simp] theorem Mach.baseSet_keeps (m : Mach) (a : Nat) (v : Word) :
    (m.baseSet a v).ctl = m.ctl ∧ (m.baseSet a v).tim = m.tim ∧ (m.baseSet a v).pwr = m.pwr ∧ (m.baseSet a v).vlt = m.vlt ∧
    (m.baseSet a v).ins = m.ins ∧ (m.baseSet a v).flt = m.flt ∧ (m.baseSet a v).hall = m.hall ∧ (m.baseSet a v).fe = m.fe ∧
    (m.baseSet a v).trm = m.trm ∧ (m.baseSet a v).mnt = m.mnt ∧ (m.baseSet a v).trg = m.trg ∧ (m.baseSet a v).dec = m.dec ∧
    (m.baseSet a v).qre = m.qre ∧ (m.baseSet a v).store = m.store ∧ (m.baseSet a v).ldg = m.ldg ∧
    (m.baseSet a v).tels = m.tels ∧ (m.baseSet a v).spn = m.spn ∧ (m.baseSet a v).dsp = m.dsp ∧ (m.baseSet a v).asy = m.asy ∧
    (m.baseSet a v).iso = m.iso ∧ (m.baseSet a v).cal = m.cal ∧ (m.baseSet a v).vol = m.vol ∧ (m.baseSet a v).mem = m.mem :=
    by unfold Mach.baseSet; dsimp only; (repeat' split) <;> simp

@[simp] theorem Mach.acqReadyRise_keeps (m : Mach) :
    m.acqReadyRise.par = m.par ∧ m.acqReadyRise.tim = m.tim ∧ m.acqReadyRise.pwr = m.pwr ∧ m.acqReadyRise.vlt = m.vlt ∧
    m.acqReadyRise.ins = m.ins ∧ m.acqReadyRise.hall = m.hall ∧ m.acqReadyRise.trm = m.trm ∧ m.acqReadyRise.mnt = m.mnt ∧
    m.acqReadyRise.trg = m.trg ∧ m.acqReadyRise.dec = m.dec ∧ m.acqReadyRise.qre = m.qre ∧ m.acqReadyRise.store = m.store ∧
    m.acqReadyRise.ldg = m.ldg ∧ m.acqReadyRise.tels = m.tels ∧ m.acqReadyRise.dsp = m.dsp ∧ m.acqReadyRise.asy = m.asy ∧
    m.acqReadyRise.iso = m.iso ∧ m.acqReadyRise.cal = m.cal ∧ m.acqReadyRise.vol = m.vol ∧ m.acqReadyRise.mem = m.mem :=
    by simp [Mach.acqReadyRise]

@[simp] theorem Mach.noteResult_keeps (m : Mach) (k : Master) (c : Commit) (r : CRes) :
    (m.noteResult k c r).par = m.par ∧ (m.noteResult k c r).tim = m.tim ∧ (m.noteResult k c r).pwr = m.pwr ∧
    (m.noteResult k c r).boot = m.boot ∧ (m.noteResult k c r).vlt = m.vlt ∧ (m.noteResult k c r).ins = m.ins ∧
    (m.noteResult k c r).flt = m.flt ∧ (m.noteResult k c r).hall = m.hall ∧ (m.noteResult k c r).fe = m.fe ∧
    (m.noteResult k c r).trm = m.trm ∧ (m.noteResult k c r).mnt = m.mnt ∧ (m.noteResult k c r).trg = m.trg ∧
    (m.noteResult k c r).dec = m.dec ∧ (m.noteResult k c r).qre = m.qre ∧ (m.noteResult k c r).store = m.store ∧
    (m.noteResult k c r).ldg = m.ldg ∧ (m.noteResult k c r).tels = m.tels ∧ (m.noteResult k c r).spn = m.spn ∧
    (m.noteResult k c r).dsp = m.dsp ∧ (m.noteResult k c r).asy = m.asy ∧ (m.noteResult k c r).iso = m.iso ∧
    (m.noteResult k c r).cal = m.cal ∧ (m.noteResult k c r).vol = m.vol ∧ (m.noteResult k c r).mem = m.mem :=
    by simp [Mach.noteResult]

@[simp] theorem Mach.flushCtrl_keeps (m : Mach) :
    m.flushCtrl.par = m.par ∧ m.flushCtrl.tim = m.tim ∧ m.flushCtrl.pwr = m.pwr ∧ m.flushCtrl.boot = m.boot ∧
    m.flushCtrl.vlt = m.vlt ∧ m.flushCtrl.ins = m.ins ∧ m.flushCtrl.flt = m.flt ∧ m.flushCtrl.hall = m.hall ∧
    m.flushCtrl.fe = m.fe ∧ m.flushCtrl.trm = m.trm ∧ m.flushCtrl.mnt = m.mnt ∧ m.flushCtrl.trg = m.trg ∧
    m.flushCtrl.dec = m.dec ∧ m.flushCtrl.qre = m.qre ∧ m.flushCtrl.store = m.store ∧ m.flushCtrl.ldg = m.ldg ∧
    m.flushCtrl.tels = m.tels ∧ m.flushCtrl.dsp = m.dsp ∧ m.flushCtrl.asy = m.asy ∧ m.flushCtrl.iso = m.iso ∧
    m.flushCtrl.cal = m.cal ∧ m.flushCtrl.vol = m.vol ∧ m.flushCtrl.mem = m.mem :=
    by
  unfold Mach.flushCtrl
  refine ⟨?_, ?_, ?_, ?_, ?_, ?_, ?_, ?_, ?_, ?_, ?_, ?_, ?_, ?_, ?_, ?_, ?_, ?_, ?_, ?_, ?_, ?_, ?_⟩ <;> ((try dsimp only); (repeat' split) <;> simp [foldl_keeps])

@[simp] theorem Mach.noteBits_keeps (m : Mach) (k : Nat) :
    (m.noteBits k).par = m.par ∧ (m.noteBits k).tim = m.tim ∧ (m.noteBits k).pwr = m.pwr ∧ (m.noteBits k).boot = m.boot ∧
    (m.noteBits k).vlt = m.vlt ∧ (m.noteBits k).ins = m.ins ∧ (m.noteBits k).hall = m.hall ∧ (m.noteBits k).fe = m.fe ∧
    (m.noteBits k).trm = m.trm ∧ (m.noteBits k).mnt = m.mnt ∧ (m.noteBits k).trg = m.trg ∧ (m.noteBits k).dec = m.dec ∧
    (m.noteBits k).qre = m.qre ∧ (m.noteBits k).store = m.store ∧ (m.noteBits k).ldg = m.ldg ∧ (m.noteBits k).tels = m.tels ∧
    (m.noteBits k).dsp = m.dsp ∧ (m.noteBits k).asy = m.asy ∧ (m.noteBits k).iso = m.iso ∧ (m.noteBits k).cal = m.cal ∧
    (m.noteBits k).vol = m.vol ∧ (m.noteBits k).mem = m.mem :=
    ⟨rfl, rfl, rfl, rfl, rfl, rfl, rfl, rfl, rfl, rfl, rfl, rfl, rfl, rfl, rfl, rfl, rfl, rfl, rfl, rfl, rfl, rfl⟩

@[simp] theorem Mach.runTo_keeps (m : Mach) (n : Nat) :
    (m.runTo n).par = m.par ∧ (m.runTo n).pwr = m.pwr ∧ (m.runTo n).boot = m.boot ∧ (m.runTo n).vlt = m.vlt ∧
    (m.runTo n).ins = m.ins ∧ (m.runTo n).hall = m.hall ∧ (m.runTo n).fe = m.fe ∧ (m.runTo n).trm = m.trm ∧
    (m.runTo n).mnt = m.mnt ∧ (m.runTo n).trg = m.trg ∧ (m.runTo n).dec = m.dec ∧ (m.runTo n).qre = m.qre ∧
    (m.runTo n).store = m.store ∧ (m.runTo n).ldg = m.ldg ∧ (m.runTo n).tels = m.tels ∧ (m.runTo n).dsp = m.dsp ∧
    (m.runTo n).asy = m.asy ∧ (m.runTo n).iso = m.iso ∧ (m.runTo n).cal = m.cal ∧ (m.runTo n).vol = m.vol ∧
    (m.runTo n).mem = m.mem :=
    ⟨rfl, rfl, rfl, rfl, rfl, rfl, rfl, rfl, rfl, rfl, rfl, rfl, rfl, rfl, rfl, rfl, rfl, rfl, rfl, rfl, rfl⟩

@[simp] theorem Mach.pendingArm_keeps (m : Mach) :
    m.pendingArm.tim = m.tim ∧ m.pendingArm.pwr = m.pwr ∧ m.pendingArm.boot = m.boot ∧ m.pendingArm.vlt = m.vlt ∧
    m.pendingArm.ins = m.ins ∧ m.pendingArm.fe = m.fe ∧ m.pendingArm.trm = m.trm ∧ m.pendingArm.mnt = m.mnt ∧
    m.pendingArm.ldg = m.ldg ∧ m.pendingArm.dsp = m.dsp ∧ m.pendingArm.asy = m.asy ∧ m.pendingArm.iso = m.iso ∧
    m.pendingArm.mem = m.mem :=
    by
  unfold Mach.pendingArm; split
  · exact ⟨behalf_keeps Mach.tim (fun _ _ => rfl) _ _ _ (by simp), behalf_keeps Mach.pwr (fun _ _ => rfl) _ _ _ (by simp), behalf_keeps Mach.boot (fun _ _ => rfl) _ _ _ (by simp), behalf_keeps Mach.vlt (fun _ _ => rfl) _ _ _ (by simp), behalf_keeps Mach.ins (fun _ _ => rfl) _ _ _ (by simp), behalf_keeps Mach.fe (fun _ _ => rfl) _ _ _ (by simp), behalf_keeps Mach.trm (fun _ _ => rfl) _ _ _ (by simp), behalf_keeps Mach.mnt (fun _ _ => rfl) _ _ _ (by simp), behalf_keeps Mach.ldg (fun _ _ => rfl) _ _ _ (by simp), behalf_keeps Mach.dsp (fun _ _ => rfl) _ _ _ (by simp), behalf_keeps Mach.asy (fun _ _ => rfl) _ _ _ (by simp), behalf_keeps Mach.iso (fun _ _ => rfl) _ _ _ (by simp), behalf_keeps Mach.mem (fun _ _ => rfl) _ _ _ (by simp)⟩
  · simp

@[simp] theorem Mach.reply_keeps (m : Mach) (v : Via) (r : Reply) :
    (m.reply v r).par = m.par ∧ (m.reply v r).tim = m.tim ∧ (m.reply v r).pwr = m.pwr ∧ (m.reply v r).boot = m.boot ∧
    (m.reply v r).vlt = m.vlt ∧ (m.reply v r).ins = m.ins ∧ (m.reply v r).hall = m.hall ∧ (m.reply v r).fe = m.fe ∧
    (m.reply v r).trm = m.trm ∧ (m.reply v r).mnt = m.mnt ∧ (m.reply v r).trg = m.trg ∧ (m.reply v r).dec = m.dec ∧
    (m.reply v r).qre = m.qre ∧ (m.reply v r).store = m.store ∧ (m.reply v r).ldg = m.ldg ∧ (m.reply v r).tels = m.tels ∧
    (m.reply v r).dsp = m.dsp ∧ (m.reply v r).asy = m.asy ∧ (m.reply v r).iso = m.iso ∧ (m.reply v r).cal = m.cal ∧
    (m.reply v r).vol = m.vol ∧ (m.reply v r).mem = m.mem :=
    by unfold Mach.reply; dsimp only; (repeat' split) <;> simp

end Sys2Proof.Machine
end

