-- ==== Sys2Proof/Machine/Wire.lean ====
section
/-! DEFINITION. Machine/Wire.lean: what travels on the lanes of a Spine port: packet bytes, control flits, the data flit stream, blocks,
scrambling, the RS(544,514) code, PAM4 levels and training frames, and the command that a received packet or flit is (ch. 17, 22). -/

namespace Sys2Proof.Machine

/-! ### Packets (R555 to R557, R573) -/

/-- A packet on the wire: its header fields and the content of its body (R555). -/
structure RawPacket where
  type    : Byte
  flags   : BitVec 3 := 0
  seq     : BitVec 12 := 0
  tag     : BitVec 16 := 0
  addr    : BitVec 64 := 0
  content : List Byte := []
  deriving DecidableEq, Repr, Inhabited

/-- Bytes filled up with zeros to whole 8-byte words (R555). -/
def padWords (bs : List Byte) : List Byte := bs ++ List.replicate ((8 - bs.length % 8) % 8) 0

/-- Bytes 0 to 13 of the header (R555). -/
def RawPacket.head (w : RawPacket) : List Byte :=
  leBytes (w.type.toNat + 2 ^ 8 * w.content.length + 2 ^ 17 * w.flags.toNat + 2 ^ 20 * w.seq.toNat) 4 ++ leBytes w.tag.toNat 2
    ++ leBytes w.addr.toNat 8

/-- The bytes of a packet (R555, R556). -/
def RawPacket.bytes (w : RawPacket) : List Byte :=
  let body := padWords w.content
  w.head ++ leBytes (crc16 (w.head ++ body)).toNat 2 ++ body

/-- Bytes that a packet takes whose header starts with these (R555). -/
def packetSize (bs : List Byte) : Nat := 16 + 8 * ((nfld (leNat (bs.take 4)) 8 9 + 7) / 8)

/-- The packet that these bytes spell; none where the CRC-16 fails (R555, R556). -/
def rawPacket (bs : List Byte) : Option RawPacket :=
  let n := leNat (bs.take 4)
  if (crc16 (bs.take 14 ++ bs.drop 16)).toNat != leNat ((bs.drop 14).take 2) then none
  else some { type := BitVec.ofNat 8 n, flags := BitVec.ofNat 3 (nfld n 17 3), seq := BitVec.ofNat 12 (nfld n 20 12)
              tag := BitVec.ofNat 16 (leNat ((bs.drop 4).take 2)), addr := BitVec.ofNat 64 (leNat ((bs.drop 6).take 8))
              content := (bs.drop 16).take (nfld n 8 9) }

/-- The body of an EVENT (R573). -/
def EventPkt.body (e : EventPkt) : List Byte :=
  leBytes e.source.toNat 2 ++ leBytes e.code.toNat 2 ++ leBytes e.arg.toNat 4 ++ leBytes e.beat 8

/-- A packet that the engine sends under number `seq` (R557, R558, R561). -/
def Packet.raw (seq : BitVec 12) : Packet → RawPacket
  | .write tag a d => { type := 1, seq, tag, addr := BitVec.ofNat 64 a, content := d }
  | .writeAck tag st => { type := 2, flags := st, seq, tag }
  | .readData tag a d last st => { type := 4, flags := BitVec.ofNat 3 (b2n last + 2 * st.toNat), seq, tag, addr := BitVec.ofNat 64 a, content := d }
  | .ctrl resp body => { type := 5, flags := BitVec.ofNat 3 (b2n resp), seq, content := body }
  | .event e => { type := 6, seq, content := e.body }
  | .folio tag a d first last => { type := 7, flags := BitVec.ofNat 3 (b2n first + 2 * b2n last), seq, tag, addr := BitVec.ofNat 64 a, content := d }
  | .keyRequest q => { type := 9, seq, content := leBytes q.toNat 4 ++ List.replicate 4 0 }

/-- The bytes of the packets that a port has sent and that are not acknowledged, in number order: what a replay sends again (R565). -/
def Port.replayBytes (p : Port) : List Byte := p.unacked.flatMap fun e => (e.2.raw e.1).bytes

/-- The packets of a data flit stream from a place where a header is due (R559): zero words are padding. `fuel` counts words. -/
def packetsIn : Nat → List Byte → List (List Byte)
  | 0, _ => []
  | fuel + 1, bs =>
    if bs.length < 8 then []
    else if (bs.take 8).all (· == 0) then packetsIn fuel (bs.drop 8)
    else if bs.length < packetSize bs then []
    else bs.take (packetSize bs) :: packetsIn fuel (bs.drop (packetSize bs))

/-! ### Control flits (R552 to R554) -/

/-- The control flits, by their fields (R552). -/
inductive Flit where
  | sync (echo : Bool) (count : BitVec 64) (time : BitVec 96) (pos : Byte)
  | idle
  | align (lanes : Byte) (count : BitVec 64)
  | credit (fp fn fc : BitVec 16)
  | linkack (nak : Bool) (next : BitVec 12)
  | down (cause : Byte)
  | hello (h : HelloObs)
  deriving DecidableEq, Repr, Inhabited

/-- Bytes 0 to 27 of a control flit up to its last field (R552). -/
def Flit.fields : Flit → List Byte
  | .sync echo count time pos => [0x08, BitVec.ofNat 8 (b2n echo)] ++ leBytes count.toNat 8 ++ leBytes time.toNat 12 ++ [pos]
  | .idle => [0x10]
  | .align l count => [0x11, l] ++ leBytes count.toNat 8
  | .credit p n c => [0x12, 0] ++ leBytes p.toNat 2 ++ leBytes n.toNat 2 ++ leBytes c.toNat 2
  | .linkack nak next => [0x13, BitVec.ofNat 8 (b2n nak)] ++ leBytes next.toNat 2
  | .down cause => [0x14, cause]
  | .hello h => [0x15, h.version] ++ leBytes h.part.toNat 2 ++ leBytes h.build.toNat 2 ++ [h.role, h.pos] ++ leBytes h.p.toNat 2
      ++ leBytes h.n.toNat 2 ++ leBytes h.c.toNat 2 ++ leBytes h.serial.toNat 8

/-- The 32 bytes of a control flit (R552). -/
def Flit.bytes (f : Flit) : List Byte :=
  let body := f.fields ++ List.replicate (28 - f.fields.length) 0
  body ++ leBytes (crc32c body).toNat 4

/-- The control flit that 32 bytes spell; none for a wrong CRC-32C or an unknown code (R552). -/
def flitOf (bs : List Byte) : Option Flit :=
  let num (i n : Nat) : Nat := leNat ((bs.drop i).take n)
  let b (i : Nat) : Byte := bs.getD i 0
  if num 28 4 != (crc32c (bs.take 28)).toNat then none
  else match (b 0).toNat with
    | 0x08 => some (.sync ((b 1).getLsbD 0) (BitVec.ofNat 64 (num 2 8)) (BitVec.ofNat 96 (num 10 12)) (b 22))
    | 0x10 => some .idle
    | 0x11 => some (.align (b 1) (BitVec.ofNat 64 (num 2 8)))
    | 0x12 => some (.credit (BitVec.ofNat 16 (num 2 2)) (BitVec.ofNat 16 (num 4 2)) (BitVec.ofNat 16 (num 6 2)))
    | 0x13 => some (.linkack ((b 1).getLsbD 0) (BitVec.ofNat 12 (num 2 2)))
    | 0x14 => some (.down (b 1))
    | 0x15 => some (.hello { version := b 1, part := BitVec.ofNat 16 (num 2 2), build := BitVec.ofNat 16 (num 4 2), role := b 6, pos := b 7
                             p := BitVec.ofNat 16 (num 8 2), n := BitVec.ofNat 16 (num 10 2), c := BitVec.ofNat 16 (num 12 2)
                             serial := BitVec.ofNat 64 (num 14 8) })
    | _ => none

/-- The HELLO that the engine sends on port i (R554, R566). -/
def Mach.helloFlit (m : Mach) (i : Nat) : Flit :=
  .hello { part := 0x4810, build := 1, role := BitVec.ofNat 8 i, pos := BitVec.ofNat 8 m.volPos
           p := if i = 0 then 4096 else 2048, n := if i = 0 then 512 else 256, c := if i = 0 then 2048 else 1024
           serial := m.vlt.serial }

/-- The LINKACK that a port has sent last (R552, R562, R563). -/
def Port.ackFlit (p : Port) : Option Flit := p.sentAck.map fun a => .linkack a.1 a.2

/-- The CREDIT that reports a port's freed words (R552, R568). -/
def Port.creditFlit (p : Port) : Flit := .credit (BitVec.ofNat 16 p.freed.p) (BitVec.ofNat 16 p.freed.n) (BitVec.ofNat 16 p.freed.c)

/-- The DOWN flit that a port has sent last (R552, R576). -/
def Port.downFlit (p : Port) : Option Flit := p.sentDown.map fun c => .down (c.setWidth 8)

/-- The SYNC that is due on the east port (R552, R716). -/
def Mach.syncOut (m : Mach) : Option Flit :=
  m.vol.sentAt.map fun s => .sync false (BitVec.ofNat 64 s.1) (BitVec.ofNat 96 s.2) (BitVec.ofNat 8 m.volPos)

/-! ### What arrives (R552, R557, R560, R562, R713) -/

/-- The command of a Volume message body on port p (R713, R714). -/
def volCommand (p : Fin 3) (bs : List Byte) : Instr :=
  let b0 := (bs.getD 0 0).toNat
  let f2 := leNat ((bs.drop 2).take 2)
  let f4 := w32 (leNat ((bs.drop 4).take 4))
  let v : VMsg := { port := p, origin := Fin.ofNat 8 (nfld b0 0 3), target := Fin.ofNat 8 (nfld b0 3 3), bcast := nfld b0 6 1 == 1 }
  match (bs.getD 1 0).toNat with
  | 0x40 => .join p (Fin.ofNat 8 (nfld f2 0 3)) (BitVec.ofNat 4 (nfld f2 8 4))
  | 0x41 => .vturn p (BitVec.ofNat 16 f2) f4
  | 0x42 => .vhop p (BitVec.ofNat 16 f2) f4
  | 0x43 => .digest v f4
  | 0x44 => .armreq v f4
  | 0x45 => .ready v (BitVec.ofNat 16 f2) f4
  | 0x46 => .armgo v (BitVec.ofNat 8 f2) f4
  | 0x47 => .armcancel v f4
  | 0x48 => .vtrig v (BitVec.ofNat 16 f2) f4
  | 0x49 => .vstop v (f2 % 2 == 1) f4
  | 0x4A => .rcal v f4
  | _ => .unknownVolumeMessage v

/-- The command of a packet that arrives on port p with the expected number (R557, R560, R713). `ecc` is the operand of READ_REQ. None
for a packet that the engine does not ask for and no command names: READ_DATA, a CTRL response and EVENT. (DESIGN CHOICE, log 124) -/
def RawPacket.command (w : RawPacket) (p : Fin 3) (ecc : Option Nat) : Option Instr :=
  let n := w.content.length
  let fits := decide (w.addr.toNat % 256 + n ≤ 256)
  let bad := some (Instr.malformedPacket p w.type)
  match w.type.toNat with
  | 1 => if w.flags = 0 ∧ 1 ≤ n ∧ fits then some (.write p w.tag w.addr w.content) else bad
  | 2 => if n = 0 then some (.writeAck (.packet p w.tag w.flags)) else bad
  | 3 =>
    let k := nfld (leNat (w.content.take 2)) 0 13
    if w.flags = 0 ∧ n = 8 ∧ 1 ≤ k ∧ k ≤ 4096 then some (.readReq p w.tag w.addr k ecc) else bad
  | 4 => if n ≤ 256 ∧ fits then none else bad
  | 5 =>
    if n = 8 ∧ w.flags.toNat ≤ 1 then (if w.flags = 1 then none else if p = 0 then ctrlCommand w.content else some (volCommand p w.content))
    else bad
  | 6 => if w.flags = 0 ∧ n = 16 then none else bad
  | 7 => if 1 ≤ n ∧ n ≤ 256 ∧ w.flags.toNat ≤ 3 then some (.folio p w.tag w.content (w.flags.getLsbD 0) (w.flags.getLsbD 1)) else bad
  | 9 => if w.flags = 0 ∧ n = 8 then some (.keyRequest p (w32 (leNat (w.content.take 4)))) else bad
  | _ => bad

/-- The command that the bytes of a packet are on port p (R560, R562): one with a wrong CRC-16 or another number is discarded. -/
def Mach.packetCommand (m : Mach) (p : Fin 3) (bs : List Byte) (ecc : Option Nat) : Option Instr :=
  match rawPacket bs with
  | none => some (.discardedPacket p)
  | some w => if w.seq = (m.portOf p.val).expect then w.command p ecc else some (.discardedPacket p)

/-- The command that a received control flit is on port p (R552, R554, R717). `sent`, `seen` and `skews` are the operands of SYNC and
ALIGN. -/
def flitCommand (p : Fin 3) (bs : List Byte) (sent seen : Int) (skews : Vector Byte 4) : Instr :=
  match flitOf bs with
  | none => .ignoredControlFlit p
  | some (.sync echo count time _) => .sync p echo count time sent seen
  | some .idle => .idle p
  | some (.align _ _) => .align p skews
  | some (.credit a b c) => .credit p a b c
  | some (.linkack nak next) => .linkack p nak next
  | some (.down _) => .down p
  | some (.hello h) => .hello p h

/-! ### Blocks, scrambling and FEC (R542 to R545) -/

/-- Bits, least significant first (R542). -/
def bitsOf (w n : Nat) : List Bool := (List.range n).map w.testBit

/-- The number whose bits these are, least significant first. -/
def ofBits (bs : List Bool) : Nat := bs.foldr (fun b x => b2n b + 2 * x) 0

/-- A flit in a stream of blocks: whether it is a data flit, and its 32 bytes. -/
abbrev FlitBytes := Bool × List Byte

/-- The data bytes of a stream of flits: control flits are removed wherever they stand (R559). -/
def dataBytes (fs : List FlitBytes) : List Byte := (fs.filter (·.1)).flatMap (·.2)

/-- The packets of a stream of flits (R559). -/
def streamPackets (fs : List FlitBytes) : List (List Byte) := packetsIn ((dataBytes fs).length / 8) (dataBytes fs)

/-- One bit through the scrambler 1 + x^39 + x^58, `s` holding the bits sent last, the latest in bit 0 (R542). -/
def scrambleBit (s : BitVec 58) (b : Bool) : Bool × BitVec 58 :=
  let o := b ^^ s.getLsbD 38 ^^ s.getLsbD 57
  (o, (s <<< 1) ||| BitVec.ofNat 58 (b2n o))

/-- Bits through the scrambler. -/
def scramble : BitVec 58 → List Bool → List Bool × BitVec 58
  | s, [] => ([], s)
  | s, b :: bs =>
    let (o, s1) := scrambleBit s b
    let (r, s2) := scramble s1 bs
    (o :: r, s2)

/-- The 257-bit block of a flit (R542): the header bit, 1 for a data flit, unscrambled, then the 256 payload bits scrambled. That the
header bit goes first is PRESUMED (log 124). -/
def blockOf (s : BitVec 58) (f : FlitBytes) : List Bool × BitVec 58 :=
  let (bits, s1) := scramble s (f.2.flatMap fun b => bitsOf b.toNat 8)
  (f.1 :: bits, s1)

/-- The blocks of a stream of flits, joined. -/
def blocksOf : BitVec 58 → List FlitBytes → List Bool × BitVec 58
  | s, [] => ([], s)
  | s, f :: fs =>
    let (b, s1) := blockOf s f
    let (r, s2) := blocksOf s1 fs
    (b ++ r, s2)

/-- The product of two elements of GF(2^10), whose field polynomial is x^10 + x^3 + 1. (PRESUMED, log 124) -/
def gfMul (a b : BitVec 10) : BitVec 10 :=
  (List.range 10).foldr (fun i r => (if r.getLsbD 9 then (r <<< 1) ^^^ 9 else r <<< 1) ^^^ (if a.getLsbD i then b else 0)) 0

/-- The power n of the element x. -/
def gfPow : Nat → BitVec 10
  | 0 => 1
  | n + 1 => gfMul 2 (gfPow n)

/-- The generator polynomial of RS(544,514) without its leading 1, the highest coefficient first: the product of x + a^j for j from 0
to 29. (PRESUMED, log 124) -/
def rsGen : List (BitVec 10) :=
  let step (g : List (BitVec 10)) (r : BitVec 10) : List (BitVec 10) :=
    List.zipWith (· ^^^ ·) (g ++ [0]) (0 :: g.map (gfMul r))
  ((List.range 30).foldl (fun g j => step g (gfPow j)) [1]).drop 1

/-- The 30 check symbols of a message (R543): the remainder of its division by the generator. -/
def rsCheck (gen msg : List (BitVec 10)) : List (BitVec 10) :=
  msg.foldl (fun r x => let q := x ^^^ r.headD 0; List.zipWith (fun c g => c ^^^ gfMul q g) (r.drop 1 ++ [0]) gen) (List.replicate 30 0)

/-- Bits cut into symbols of 10, the first bit the least significant. (PRESUMED, log 124) -/
def symbolsOf : Nat → List Bool → List (BitVec 10)
  | 0, _ => []
  | n + 1, bs => BitVec.ofNat 10 (ofBits (bs.take 10)) :: symbolsOf n (bs.drop 10)

/-- The codeword of 20 blocks: 514 data symbols and 30 check symbols (R543). -/
def codeword (bits : List Bool) : List (BitVec 10) :=
  let msg := symbolsOf 514 bits
  msg ++ rsCheck rsGen msg

/-- The symbols of a codeword that go on lane l of a port with `lanes` lanes: symbol i on lane i mod L (R543). -/
def laneSymbols (lanes l : Nat) (c : List (BitVec 10)) : List (BitVec 10) :=
  ((List.range c.length).filter fun i => i % lanes == l).map fun i => c.getD i 0

/-! ### PAM4 and training frames (R538, R548) -/

/-- The PAM4 level of a bit pair, Gray-coded (R538). -/
def grayLevel : Bool → Bool → Nat
  | false, false => 0
  | false, true => 1
  | true, true => 2
  | true, false => 3

/-- The levels of a run of bits, two bits a symbol, the earlier bit of the pair first. (PRESUMED, log 124) -/
def grayLevels : List Bool → List Nat
  | a :: b :: bs => grayLevel a b :: grayLevels bs
  | _ => []

/-- The levels that a codeword puts on a lane. -/
def laneLevels (lanes l : Nat) (c : List (BitVec 10)) : List Nat := grayLevels ((laneSymbols lanes l c).flatMap fun x => bitsOf x.toNat 10)

/-- The levels of a training frame field: 3, 0 for a 1 and 0, 3 for a 0, bit 0 first (R548). -/
def fieldLevels (w : Word) : List Nat := (bitsOf w.toNat 32).flatMap fun b => if b then [3, 0] else [0, 3]

/-- The 4,384 levels of training frame k that port i sends on lane l (R548): marker, request word, status word, PRBS13. -/
def trainingLevels (i l k : Nat) (request status : Word) : List Nat :=
  List.replicate 16 3 ++ List.replicate 16 0 ++ fieldLevels request ++ fieldLevels status
    ++ grayLevels ((List.range 8448).map fun n => Config.prbsBit i l (8448 * k + n))

/-- A tap's status after a request (R548, R549): 0 not updated, 1 updated, 2 at minimum, 3 at maximum, of its magnitude. (DEDUCED, log 124) -/
def tapStatus (req mag lo hi : Nat) : Nat := if req = 0 then 0 else if mag ≤ lo then 2 else if hi ≤ mag then 3 else 1

/-- The status word that the engine sends on lane l (R548, R549), `x` being the lane after the request word `w`: tap status, receiver ready
and the lane number. -/
def Lane.statusWord (x : Lane) (l : Nat) (w : Word) (ready : Bool) : Word :=
  w32 (tapStatus (fld w 0 2) x.pre 0 16 + 2 ^ 2 * tapStatus (fld w 2 2) x.main 26 64 + 2 ^ 4 * tapStatus (fld w 4 2) x.post 0 22
    + 2 ^ 8 * b2n ready + 2 ^ 12 * l)

end Sys2Proof.Machine
end

