-- ==== Sys2Proof/WellFormed.lean ====
section
/-! DEFINITION. WellFormed.lean: which operands a command of each row can have. -/

namespace Sys2Proof

/-- No value twice. -/
def distinct {α : Type} [DecidableEq α] : List α → Bool
  | [] => true
  | a :: t => !t.contains a && distinct t

/-- A lowest sample never lies above the latest (R104). -/
def RailObs.wf (o : RailObs) : Bool := decide (o.low ≤ o.mv) && decide (o.mv < 65536)

/-- An offset inside the Vault's 8 MiB (R213). -/
def inVaultImage (a : Nat) : Bool := decide (a < 0x80_0000)

/-- One observation a rail, expert addresses only (R39), DDR5 words and symbols counted in words, and offsets
inside the Vault. -/
def BeatObs.wf (o : BeatObs) : Bool :=
  distinct (o.rails.map (·.rail)) && o.rails.all RailObs.wf && o.recompBad.all (fun a => decide (0x400 ≤ a) && decide (a < 0x10000)) &&
  distinct o.badStage && o.symbols.all (fun x => decide (x.2.2 < 2 ^ 32)) && decide (o.ddrFixed < 2 ^ 32) &&
  o.vaultBad.all inVaultImage && decide (o.vaultFixed < 2 ^ 16) && distinct (o.measured.map (·.1))

/-- A trimmed sample lies in the slice code range (R309). -/
def isCode (y : Int) : Bool := decide (-32768 ≤ y) && decide (y ≤ 32767)

/-- A sample comes with y(d+1) and the 66 from y(d) down to y(d-65), as far as there are any since the slice clocks started (R383, R384),
and with up to 64 that follow. -/
def Obs.wf : Obs → Bool
  | .sample _ d ys ahead => ys.length == min 67 (d + 2) && decide (ahead.length ≤ 64) && ys.all isCode && ahead.all isCode
  | .aux _ _ clk _ => decide (clk < 1024)

/-- The steps of DDR5 training and the words they give (R463, R465). -/
def TrainObs.wf (o : TrainObs) : Bool :=
  (o.fail.all fun f => decide (1 ≤ f.1) && decide (f.1 < 16) && f.2 != 0) && distinct (o.words.map fun w => (w.1, w.2.1))

/-- A sink has up to four lanes (R625). -/
def SinkObs.wf (o : SinkObs) : Bool := decide (1 ≤ o.lanes) && decide (o.lanes ≤ 4) && decide (o.maxRate ≤ 3)

/-- Volume messages travel on the east and west ports (R709). -/
def onVolume (p : Fin 3) : Bool := p != 0

/-- A Volume message's port (R713). -/
def VMsg.wf (v : VMsg) : Bool := onVolume v.port

/-- Which commands can arise. A row with no check of its own takes every operand its types admit. -/
def Instr.wf : Instr → Bool
  | .resetRelease o => distinct (o.rails.map (·.1)) && o.rails.all fun r => decide (r.2 < 65536)
  | .brownoutReset _ => true
  | .resetNAssert _ => true
  | .vaultReadIn bad => bad.all inVaultImage
  | .readyRise => true
  | .baseConfigTakeIntoUse => true
  | .acqReadyRise => true
  | .beat o => o.wf
  | .nop _ => true
  | .read _ => true
  | .stage _ => true
  | .commit _ _ => true
  | .abort _ => true
  | .insert _ => true
  | .escTake _ => true
  | .escRenew _ => true
  | .escGive _ => true
  | .status _ => true
  | .commitLand _ o => o.wf
  | .deferredRelease _ o => o.wf
  | .leaseExpiry _ o => o.wf
  | .paramWrite _ _ _ => true
  | .unpin _ _ => true
  | .sessionResetSpi => true
  | .sessionResetHost => true
  | .windowRead _ => true
  | .windowWrite _ => true
  | .windowDone _ => true
  | .quireBoundTakeIntoUse => true
  | .timeSetRequest => true
  | .timeActionCancel => true
  | .timeStepRequest _ => true
  | .timeStep => true
  | .relockRetry => true
  | .refLost _ => true
  | .qualificationWindowEnd missing met => !missing || met.isNone
  | .refLocked => true
  | .refAbsent => true
  | .corePllUnlock => true
  | .corePllLock => true
  | .coreRelockSwitchback => true
  | .relockFail _ => true
  | .synthUnlock => true
  | .synthLock => true
  | .sliceClockRestart => true
  | .ppsEdge => true
  | .shedEnter _ samples => !samples.isEmpty && decide (samples.length ≤ 256) && samples.all fun mv => decide (mv < 65536)
  | .shedExit => true
  | .pwrRecover => true
  | .pwrDomenWrite _ _ => true
  | .domainUsable _ => true
  | .railReturn => true
  | .ddr5TrainingStart => true
  | .ddr5TrainingEnd o => o.wf
  | .qreMemretrain => true
  | .foregroundCalStart => true
  | .foregroundCalEnd obs => distinct (obs.map (·.n))
  | .overloadFire _ => true
  | .overloadEnd _ => true
  | .settlingEnd => true
  | .modeChangeClockRestart => true
  | .trimBlockEnd o => distinct (o.coefs.map (·.1))
  | .trimEpochLand o => o.wf
  | .trimGapOpen => true
  | .mintApply => true
  | .spanChangeHoldEnd => true
  | .spanChangeCode => true
  | .playbackLoadDone _ => true
  | .playbackStart => true
  | .playbackAdvance => true
  | .mintComply _ => true
  | .mintDisconnect => true
  | .mntComplyClear _ => true
  | .mntFaultClear _ => true
  | .auxHoldEnd => true
  | .clearingRound obs => obs.all Obs.wf
  | .rateCredit => true
  | .decFirdef _ => true
  | .qreArm => true
  | .pendingArm => true
  | .qreStop => true
  | .qreFinish => true
  | .qreRelease v => v != 0
  | .folioEnd => true
  | .folioHeaderWrite => true
  | .qreOverflow _ => true
  | .ddr5Refresh _ => true
  | .prechargePowerDown _ => true
  | .selfRefreshEnter => true
  | .selfRefreshExit => true
  | .ledgerTake _ _ => true
  | .ledgerFolioDone _ => true
  | .ldgClose => true
  | .ldgFree _ => true
  | .pageClearDone _ => true
  | .decayPass => true
  | .decayPassEnd => true
  | .ldgHclear => true
  | .histogramClearDone => true
  | .tellerGo _ => true
  | .tellerAbort _ => true
  | .slipFetch _ _ => true
  | .holdReread _ _ => true
  | .folioClaim _ => true
  | .tellerWriteIssue _ => true
  | .writeAck _ => true
  | .tellerTimeout _ => true
  | .slipPosted _ => true
  | .trainingStart _ => true
  | .trainingFrame _ _ => true
  | .trainingStepFail _ => true
  | .trainingRestart _ => true
  | .spnNopartner _ => true
  | .hello _ _ => true
  | .sync _ _ _ _ _ _ => true
  | .idle _ => true
  | .align _ _ => true
  | .alignMissing _ => true
  | .credit _ _ _ _ => true
  | .linkack _ _ _ => true
  | .down _ => true
  | .write _ _ addr data => decide (1 ≤ data.length) && decide (addr.toNat % 256 + data.length ≤ 256)
  | .readReq _ _ _ n ecc => decide (1 ≤ n) && decide (n ≤ 4096) && ecc.all fun i => decide (i < n)
  | .folio _ _ data _ _ => decide (1 ≤ data.length) && decide (data.length ≤ 256)
  | .keyRequest _ _ => true
  | .uncorrectableCodeword _ => true
  | .nakRepeat _ => true
  | .replayTimeout _ => true
  | .lossOfSignal _ => true
  | .retrainAfterDown _ => true
  | .spnRetrain _ => true
  | .spnCtlWrite _ => true
  | .eventSend => true
  | .scanoutStart => true
  | .vblank _ => true
  | .frameEnd => true
  | .n0Start _ => true
  | .flipRequest _ _ => true
  | .dsiStart => true
  | .dsiStartDone => true
  | .teEdge _ => true
  | .dspTelost => true
  | .dpConnect o => o.wf
  | .dpIrqHpd _ => true
  | .dpDisconnect => true
  | .dpTrainingDone _ => true
  | .dspDpretrain => true
  | .dspUnderrun _ => true
  | .assayStart v => v.all fun w => w.getLsbD 0
  | .assayStop v => !v.getLsbD 0
  | .assayRequest _ => true
  | .pwmPeriodStart => true
  | .pwmHighEnd => true
  | .conversionEnd _ _ => true
  | .asyKick _ => true
  | .asyTrkclr _ => true
  | .asyCfgWrite _ _ _ => true
  | .asyCalZero _ _ => true
  | .asyCalFull _ _ => true
  | .openWireCheck _ => true
  | .openWireSettled => true
  | .isoCtlWrite _ => true
  | .isoStale => true
  | .calRun _ => true
  | .calPointStart => true
  | .calSettleEnd => true
  | .calCompute => true
  | .calAbort => true
  | .calDraftclr => true
  | .calSeal _ _ => true
  | .certSeal _ => true
  | .join p _ _ => onVolume p
  | .vturn p _ _ => onVolume p
  | .vhop p _ _ => onVolume p
  | .digest v _ => v.wf
  | .armreq v _ => v.wf
  | .ready v _ _ => v.wf
  | .armgo v _ _ => v.wf
  | .armcancel v _ => v.wf
  | .vtrig v _ _ => v.wf
  | .vstop v _ _ => v.wf
  | .rcal v _ => v.wf
  | .volumeAlign _ => true
  | .vsyncMark _ => true
  | .armWaitExpiry => true
  | .volumeArm => true
  | .volumeStop => true
  | .volRingcal => true
  | .ringCalAlign => true
  | .volConfigWrite _ _ => true
  | .logRecordWrite => true
  | .logToken => true
  | .fltTest _ _ => true
  | .alertClear _ _ => true
  | .vaultProgram _ _ => true
  | .vaultErase _ _ => true
  | .vaultExport => true
  | .vaultOpDone o => o.bad.all inVaultImage
  | .vaultScrubStart => true
  | .vltScrubnow => true
  | .vaultScrub _ bad => bad.all inVaultImage
  | .poweredSecond => true
  | .insApplyRequest _ slot => slot != 0
  | .insRemoveRequest _ slot => slot != 0
  | .insertApply o => o.wf
  | .insertRemove o => o.wf
  | .undefinedOpcode _ op => decide (10 ≤ op.toNat)
  | .malformedPacket _ _ => true
  | .discardedPacket _ => true
  | .ignoredControlFlit _ => true
  | .unknownVolumeMessage v => v.wf
  | .detectorChange obs => obs.all Obs.wf
  | .rxAdaptationEnd _ => true

end Sys2Proof
end

