-- ==== Sys2Proof/Tests/Slice0.lean ====
section
/-! SUPPORT. Tests/Slice0.lean: our own tests. Ill-formed terms that each check refuses; values that the spec works out; and for every
statement of Certificates/Slice0/Obligations.lean that has hypotheses, states and operands that meet them, clause by clause. -/

set_option Elab.async false

open Sys2Proof Sys2Proof.Machine

namespace Sys2Proof.Tests

/-- A running engine: out of reset, started up, every domain usable, clocks locked, DDR5 trained with 4 GiB. -/
def up : State := { State.reset with
  m.boot := { inReset := false, cause := 1, step4 := true, readIn := true, baseInUse := true, ready := true, acqReady := true }
  m.pwr.dom := Vector.replicate 8 .usable
  m.tim.ref := .locked, m.tim.everLocked := true, m.tim.holding := false, m.tim.synthLock := true, m.tim.slices := true
  m.tim.beats := 1, m.store.st := .trained, m.store.size := 4, m.fe.cal := .passed, m.flt.found := true }

/-- A state with parameter values stored. -/
def pv (l : List (Nat × Word)) (s : State) : State := { s with m := l.foldl (fun m e => m.pset e.1 e.2) s.m }

/-- An engine with parameter values stored. -/
def pvm (l : List (Nat × Word)) (m : Mach) : Mach := l.foldl (fun m e => m.pset e.1 e.2) m


/-- A state with bytes written to memory. -/
def withBytes (a : Nat) (bs : List Byte) (s : State) : State := { s with m := s.m.poke a bs }

/-- Bytes with their CRC-32C behind them. -/
def crcEnded (bs : List Byte) : List Byte := bs ++ leBytes (crc32c bs).toNat 4

theorem pinned_rwp (a : Nat) (h : ({ up with m.par.pins := [0xA20] } : State).m.pinned a = true) : isRwp a = true := by
  have : a = 0xA20 := by simpa [Mach.pinned] using h
  subst this; decide +kernel

/-- An annex whose closing CRC-32C holds: a limit above its time, one channel, zeros. -/
def annex : List Byte := [0, 0, 0, 0, 0, 0, 1] ++ List.replicate 13 0 ++ [1] ++ List.replicate 27 0 ++ List.replicate 48 0 ++ List.replicate 48 0
  ++ List.replicate 48 0 ++ List.replicate 48 0 ++ List.replicate 48 0 ++ List.replicate 48 0 ++ List.replicate 44 0

/-- A state that a seal finds ready: a draft, and the annex in memory. -/
def sealable : State := withBytes 380 [0xDF, 0xEA, 0x1E, 0x35] (withBytes 20 [1] (withBytes 6 [1] { up with m.cal.draft := [(0, default)] }))

set_option maxRecDepth 100000 in
theorem annex_read : readBytes sealable.m.mem sealable.m.annexAddr 384 = annex ++ [0xDF, 0xEA, 0x1E, 0x35] := by decide +kernel

theorem crc32Run_append (c : Word) (a b : List Byte) : crc32Run c (a ++ b) = crc32Run (crc32Run c a) b := List.foldl_append ..

set_option maxRecDepth 100000 in
theorem annex_crc : crc32c annex = 0x351EEADF := by
  unfold crc32c annex
  have h1 : crc32Run 0xFFFFFFFF ([0, 0, 0, 0, 0, 0, 1] ++ List.replicate 13 0 ++ [1] ++ List.replicate 27 0) = 0x86B1C8E2 := by decide +kernel
  have h2 : crc32Run 0x86b1c8e2 (List.replicate 48 0) = 0x5845c486 := by decide +kernel
  have h3 : crc32Run 0x5845c486 (List.replicate 48 0) = 0xaf611d92 := by decide +kernel
  have h4 : crc32Run 0xaf611d92 (List.replicate 48 0) = 0x262b677d := by decide +kernel
  have h5 : crc32Run 0x262b677d (List.replicate 48 0) = 0x08769d7c := by decide +kernel
  have h6 : crc32Run 0x08769d7c (List.replicate 48 0) = 0x921ef21b := by decide +kernel
  have h7 : crc32Run 0x921ef21b (List.replicate 48 0) = 0x00ee783c := by decide +kernel
  have h8 : crc32Run 0x00ee783c (List.replicate 44 0) = 0xCAE11520 := by decide +kernel
  rw [crc32Run_append, crc32Run_append, crc32Run_append, crc32Run_append, crc32Run_append, crc32Run_append, crc32Run_append, h1, h2, h3, h4, h5,
    h6, h7, h8]
  decide +kernel

set_option maxRecDepth 100000 in
theorem sealable_ok : sealable.m.sealFault (15 : Fin 16).val false = 0 := by
  have ht : (annex ++ [0xDF, 0xEA, 0x1E, 0x35]).take 380 = annex := by decide +kernel
  unfold Mach.sealFault
  rw [annex_read]
  dsimp only
  rw [ht, annex_crc]
  decide +kernel

/-! ### Well-formedness: a term that each check refuses -/

/-- A request, a Volume message and a beat to build terms from. -/
def rq : Req := { via := .ctrl 0 }
def vm : VMsg := { port := 1, origin := 0 }
def vm0 : VMsg := { port := 0, origin := 0 }
def badRail : BeatObs := { rails := [{ rail := 0, mv := 900, low := 901 }] }
def sinkOk : SinkObs := { lanes := 4, maxRate := 3 }

/-- Every check that names an operand refuses a term that fails it. -/
theorem wf_refuses : ([
    .resetRelease ⟨[(0, 800), (0, 800)], false⟩, .resetRelease ⟨[(0, 65536)], true⟩, .vaultReadIn [0x80_0000], .beat badRail,
    .beat { rails := [{ rail := 1, mv := 65536, low := 0 }] }, .beat { rails := [{ rail := 2, mv := 9, low := 9 }, { rail := 2, mv := 8, low := 8 }] },
    .beat { recompBad := [0x3FF] }, .beat { recompBad := [0x10000] }, .beat { badStage := [.spi, .spi] }, .beat { symbols := [(0, 0, 2 ^ 32)] },
    .beat { ddrFixed := 2 ^ 32 }, .commitLand .spi badRail, .deferredRelease .host badRail, .leaseExpiry 0 badRail, .trimEpochLand badRail,
    .insertApply badRail, .insertRemove badRail, .qualificationWindowEnd true (some true), .shedEnter 0 [65536], .shedEnter 0 [], .shedEnter 0 (List.replicate 257 0),
    .ddr5TrainingEnd { fail := some (0, 1) }, .ddr5TrainingEnd { fail := some (16, 1) }, .ddr5TrainingEnd { fail := some (1, 0) },
    .ddr5TrainingEnd { words := [(0, 0, 1), (0, 0, 2)] }, .foregroundCalEnd [{ n := 5 }, { n := 5 }],
    .trimBlockEnd { coefs := [(7, default), (7, default)] }] ++ [
    .clearingRound [.sample 0 0 [1] []], .clearingRound [.sample 0 0 [1, 32768] []], .clearingRound [.sample 0 0 [1, 2] (List.replicate 65 0)],
    .clearingRound [.aux 0 false 1024 0], .detectorChange [.sample 3 9 [] []],
    .qreRelease 0, .write 0 0 0 [], .write 0 0 255 [0, 0], .readReq 0 0 0 0 none, .readReq 0 0 0 4097 none, .readReq 0 0 0 8 (some 8), .folio 0 0 [] true false,
    .folio 0 0 (List.replicate 257 0) true false, .dpConnect { sinkOk with lanes := 0 }, .dpConnect { sinkOk with lanes := 5 },
    .dpConnect { sinkOk with maxRate := 4 }, .assayStart (some 2), .assayStop 1, .join 0 0 2, .vturn 0 0 0, .vhop 0 0 0, .digest vm0 0,
    .armreq vm0 0, .ready vm0 0 0, .armgo vm0 0 0, .armcancel vm0 0, .vtrig vm0 0 0, .vstop vm0 true 0, .rcal vm0 0, .unknownVolumeMessage vm0,
    .vaultScrub 0 [0x80_0000], .vaultOpDone { bad := [0x80_0000] }, .insApplyRequest .spi 0, .insRemoveRequest .host 0, .undefinedOpcode rq 9] : List Instr).all (fun i => !i.wf) = true := by
  decide +kernel

/-- Beside them, terms at the ends of what the checks admit. -/
theorem wf_admits : ([
    .resetRelease ⟨[(0, 0), (8, 65535)], false⟩, .vaultReadIn [0x7F_FFFF], .beat { rails := [{ rail := 8, mv := 65535, low := 65535 }], recompBad := [0x400, 0xFFFF] },
    .qualificationWindowEnd true none, .qualificationWindowEnd false (some true), .shedEnter 8 [65535], .shedEnter 8 (List.replicate 256 0), .ddr5TrainingEnd { fail := some (15, 8) },
    .foregroundCalEnd [{ n := 4 }, { n := 5 }], .clearingRound [.sample 3 0 [-32768, 32767] (List.replicate 64 0), .aux 1 true 1023 1023], .qreRelease 1, .write 0 0 254 [1, 2],
    .readReq 1 0 0 4096 (some 8), .folio 2 0 (List.replicate 256 0) true true, .dpConnect sinkOk, .assayStart none, .assayStart (some 1), .assayStop 0,
    .join 2 7 8, .digest vm 0, .insApplyRequest .spi 31, .undefinedOpcode rq 10] : List Instr).all Instr.wf = true := by
  decide +kernel

/-! ### Values that the spec works out -/

/-- ch. 04, worked case: the CRC-8 of the frame that stages `TIM.SFREQ` = 25, and the check over all eight bytes. -/
theorem test_crc8 : crc8 [0x02, 0x04, 0x04, 0, 0, 0, 0x19] = 0x99 ∧ crc8 [0x02, 0x04, 0x04, 0, 0, 0, 0x19, 0x99] = 0 := by decide +kernel

/-- R219: the CRC-32C of the ASCII bytes "123456789". -/
theorem test_crc32c : crc32c [0x31, 0x32, 0x33, 0x34, 0x35, 0x36, 0x37, 0x38, 0x39] = 0xE306_9283 := by decide +kernel

/-- R556: the CRC-16 of the same bytes. -/
theorem test_crc16 : crc16 [0x31, 0x32, 0x33, 0x34, 0x35, 0x36, 0x37, 0x38, 0x39] = 0x29B1 := by decide +kernel

/-- The F2 frame of ch. 04's worked case, and the same frame with a bit of its CRC-8 turned. -/
def f2 (crc : Byte) : Instr := .stage { via := .spi 64 crc 0, addr := 0x0404, data := 25 }

/-- What a command leaves, or the state before where it does not answer a next state. -/
def after (i : Instr) (s : State) : State := match exec i s with
  | .next t => t
  | _ => s

/-- ch. 04, worked case: with `ID.EXPERT` = 0 F2 is left to be answered EXPERTOFF, address 0x0404, data 0, and stages nothing. -/
theorem test_stage_expertoff :
    (after (f2 0x99) up).m.ctl.port.code = 9 ∧ (after (f2 0x99) up).m.ctl.port.addr = 0x0404 ∧ (after (f2 0x99) up).m.ctl.port.data = 0 ∧
    (after (f2 0x99) up).m.ctl.spi.staging = [] := by
  decide +kernel

/-- ch. 04, worked case: with `ID.EXPERT` = 1 the same frame (F4) is left to be answered OK, address 0x0404, data 0, and stages one value. -/
theorem test_stage_ok :
    (after (f2 0x99) (pv [(4, 1)] up)).m.ctl.port.code = 0 ∧ (after (f2 0x99) (pv [(4, 1)] up)).m.ctl.port.addr = 0x0404 ∧
    (after (f2 0x99) (pv [(4, 1)] up)).m.ctl.port.data = 0 ∧ (after (f2 0x99) (pv [(4, 1)] up)).m.ctl.spi.staging = [(0x0404, 25)] := by
  decide +kernel

/-- R141 and code 2 of ch. 04: a frame whose CRC-8 is wrong is left to be answered CRCFAIL, and is counted. -/
theorem test_stage_crcfail : (after (f2 0x98) up).m.ctl.port.code = 2 ∧ (after (f2 0x98) up).m.ctl.port.crcErr = 1 := by decide +kernel

/-- ch. 14 and ch. 16, worked cases: the slot sizes of one input with 128 granules in OPEN and of two inputs with 16 granules in another preset. -/
theorem test_slot_size :
    ({ inputs := 1, gran := 128, preset := 0 } : QCfg).slotSize = 10304 ∧ ({ inputs := 3, gran := 16, preset := 1 } : QCfg).slotSize = 4160 := by
  decide +kernel

/-- ch. 14, worked case: 500 ns into second 1,200 is the stamp of fraction 140,737,488. -/
theorem test_stamp : ({ State.reset.m.tim with off := 0 } : Tim).stampRat ((1200 * 10 ^ 9 + 500) * uStamp * 2 ^ 48) (10 ^ 9) = 0x0000_04B0_0000_0863_7BD0 := by
  decide +kernel

/-- ch. 15, worked case: bin 1,324 of page 0. -/
theorem test_bin_addr : binAddr 0 1324 = 0x0010_0000_A580 := by decide +kernel

/-- ch. 03, worked case: the VDD_SLC thresholds of the five stages at the reset values, in µV, and a recovery level. -/
theorem test_thresholds :
    [1, 2, 3, 4, 5].map (State.reset.m.threshold 2) = [873000, 864000, 855000, 846000, 828000] ∧ State.reset.m.recovery 2 1 = 882000 := by
  decide +kernel

/-- R620's figures in ch. 19: the DSI lane rates of M1 and M6 in Mbit/s. -/
theorem test_dsi_rates : (modeOf 1).laneRate 4 = 1030 ∧ (modeOf 6).laneRate 4 = 4100 := by decide +kernel

/-- ch. 16, worked case: the fields of the control word 0x0014_06C1. -/
theorem test_slip_control :
    let s : Slip := { ctl := 0x0014_06C1 }
    s.kind = 1 ∧ s.dest = 0 ∧ s.halfIrq = true ∧ s.fullIrq = true ∧ s.last = false ∧ s.release = true ∧ s.crcBit = true ∧ s.ring = 20 := by
  decide +kernel

/-- ch. 20, worked case: the gain that u₁ − u₀ = 536,892,387 gives. -/
theorem test_gain : gainOf 0x2000_0000 (536892387 * 2 ^ 16) = some 0x3FFF_583C := by decide +kernel

/-- ch. 21, worked case: the node voltage V+. -/
theorem test_node_volt : nodeVolt 0x2000_0000 53692460 3221 (2 * 536892389) = 53687091 := by decide +kernel

/-- ch. 21, worked case: the entry's coefficients O, γ and β. -/
theorem test_fit :
    (fitEntry 2048 53687091 (-53687091) 1074 1717256192 (-1718927360) (-1074708480)).map (fun e => (e.o, e.gamma, e.beta))
      = some (-835584, -262144, 399584) := by
  decide +kernel

/-- ch. 29, case A: what its basic values derive: range code 1, offset 7,864, an AUX threshold of 3,072 and `QRE.LEN` 15. -/
theorem test_derived :
    let m := pvm [(0x100, 500), (0x101, 120000), (0x150, 500000), (0x800, 1), (0x145, 1024)] up.m
    (m.derive 0x800).map (·.z) = [1] ∧ (m.derive 0x801).map (·.z) = [7864] ∧ (m.derive 0xA01).map (·.z) = [3072] ∧
    (m.derive 0xC04).map (·.z) = [15] := by
  decide +kernel

/-- ch. 17, worked case: the header of READ_REQ number 0x2A5 with tag 0x42 for 32 bytes at 0x0010_0000_A580, and its body. -/
theorem test_read_req :
    let w : RawPacket := { type := 3, seq := 0x2A5, tag := 0x42, addr := 0x0010_0000_A580, content := [0x20, 0, 0, 0, 0, 0, 0, 0] }
    w.bytes.take 14 = [0x03, 0x08, 0x50, 0x2A, 0x42, 0x00, 0x80, 0xA5, 0, 0, 0x10, 0, 0, 0] ∧
    w.bytes.drop 16 = [0x20, 0, 0, 0, 0, 0, 0, 0] ∧ rawPacket w.bytes = some w := by
  decide +kernel

/-- ch. 17, worked case: the first bytes of the READ_DATA that answers it, number 0x117, 32 bytes, last. -/
theorem test_read_data : ((Packet.readData 0x42 0x0010_0000_A580 (List.replicate 32 0) true 0).raw 0x117).bytes.take 4 = [0x04, 0x20, 0x72, 0x11] := by
  decide +kernel

/-- R538: the bit pairs 00, 01, 11 and 10 are the levels 0 to 3. -/
theorem test_gray : grayLevels [false, false, false, true, true, true, true, false] = [0, 1, 2, 3] := by decide

/-- ch. 04, worked case: the 64 bits of F2 are the STAGE that `f2` is. -/
theorem test_frame_command : frameCommand 64 0 0x0204_0400_0000_1999 = f2 0x99 := by decide +kernel

/-- ch. 08, worked case: range 1 with O = 7,864 centres the range near 120 mV; an input at 300, -60, 119.995 and 400 mV. -/
theorem test_ideal_codes :
    [300000000000, -60000000000, 119995000000, 400000000000].map (idealRaw (rangeOf 1) 7864) = [369, -369, 0, 511] := by
  decide +kernel

/-- ch. 08 and ch. 09, worked cases: the slices that take two samples of IN1 in DUAL and one in SINGLE. -/
theorem test_slices : [sliceOf 2 0 412160, sliceOf 2 0 412161, sliceOf 4 0 10] = [0, 64, 130] := by decide +kernel

/-- ch. 10, worked case: 1.25 mA at code 0x2800 with span 1, and 6,554 LSB of 20 mA / 16,384 at code 0x2CCD with span 3. -/
theorem test_mint_current : diffCurrent 0x2800 1 = 1250 * 16384 ∧ diffCurrent 0x2CCD 3 = 6554 * 20000 := by decide +kernel

/-! ### What meets the hypotheses of the statements -/

/-- States and operands that meet the hypotheses of StepTakesTheFrontCommand, clause by clause. -/
theorem meets_StepTakesTheFrontCommand :
    (∃ c : Instr, ∃ rest : List Instr, ∃ s : State, s.pending = c :: rest) ∧
    (∃ s : State, s.pending = []) :=
  ⟨⟨.nop { via := .ctrl 0, addr := 0, data := 0 }, ⟨[], ⟨{ up with pending := .nop { via := .ctrl 0, addr := 0, data := 0 } :: [] }, by decide +kernel⟩⟩⟩,
   ⟨{ up with pending := [] }, by decide +kernel⟩⟩

/-- States and operands that meet the hypotheses of BeatWorkStaysOrderly. -/
theorem meets_BeatWorkStaysOrderly :
    ∃ s : State, ∃ t : State, s.orderly = true ∧ step s = .next t :=
  ⟨up, up.tick, by decide +kernel, rfl⟩

/-- States and operands that meet the hypotheses of MemoryStaysCanonical. -/
theorem meets_MemoryStaysCanonical :
    ∃ s : State, ∃ t : State, Memory.wf s.m.mem = true ∧ step s = .next t :=
  ⟨up, up.tick, by decide +kernel, rfl⟩

/-- States and operands that meet the hypotheses of ParametersStayCanonical. -/
theorem meets_ParametersStayCanonical :
    ∃ s : State, ∃ t : State, swf resetOf s.m.par.landed = true ∧ step s = .next t :=
  ⟨up, up.tick, by decide +kernel, rfl⟩

/-- States and operands that meet the hypotheses of OnlyRwpParametersArePinned. -/
theorem meets_OnlyRwpParametersArePinned :
    ∃ s : State, ∃ t : State, (∀ a, s.m.pinned a = true → isRwp a = true) ∧ step s = .next t ∧ ∃ a, t.m.pinned a = true :=
  ⟨{ up with m.par.pins := [0xA20] }, ({ up with m.par.pins := [0xA20] } : State).tick, pinned_rwp, rfl, 0xA20, by decide +kernel⟩

/-- States and operands that meet the hypotheses of OnlyResetEndsReady. -/
theorem meets_OnlyResetEndsReady :
    ∃ s : State, ∃ t : State, s.awake ∧ s.m.boot.ready = true ∧ (∀ c rest, s.pending = c :: rest → entersReset c = false) ∧ step s = .next t :=
  ⟨up, up.tick, by decide +kernel, by decide +kernel, fun _ _ h => (by cases h), rfl⟩

/-- States and operands that meet the hypotheses of BeatCountAdvancesByOne, clause by clause. -/
theorem meets_BeatCountAdvancesByOne :
    (∃ s : State, ∃ t : State, (∀ c rest, s.pending = c :: rest → entersReset c = false) ∧ step s = .next t) ∧
    (∃ m : Mach, ∃ o : BeatObs, 1 ≤ m.tim.beats) :=
  ⟨⟨up, up.tick, fun _ _ h => (by cases h), rfl⟩,
   ⟨up.m, ⟨{}, by decide +kernel⟩⟩⟩

/-- States and operands that meet the hypotheses of NothingActsInReset. -/
theorem meets_NothingActsInReset :
    ∃ c : Instr, ∃ s : State, s.m.boot.inReset = true ∧ movesReset c = false :=
  ⟨.nop { via := .ctrl 0, addr := 0, data := 0 }, ⟨{ up with m.boot.inReset := true }, by decide +kernel⟩⟩

/-- States and operands that meet the hypotheses of StartUpRunsInOrder, clause by clause. -/
theorem meets_StartUpRunsInOrder :
    (∃ rails : List (Fin 9 × Nat), ∃ s : State, s.m.boot.inReset = true ∧ s.m.boot.factory = false) ∧
    (∃ rails : List (Fin 9 × Nat), ∃ test : Bool, ∃ s : State, (s.awake ∨ s.m.boot.factory = true)) ∧
    (∃ bad : List Nat, ∃ s : State, s.awake ∧ s.m.boot.readIn = false ∧ s.m.boot.baseInUse = false) ∧
    (∃ s : State, s.awake ∧ s.m.boot.readIn = true ∧ s.m.boot.baseInUse = false ∧ s.m.running = false) ∧
    (∃ bad : List Nat, ∃ s : State, s.m.boot.readIn = true) ∧
    (∃ s : State, (s.m.boot.readIn = false ∨ s.m.boot.baseInUse = true)) ∧
    (∃ s : State, s.awake ∧ s.m.boot.baseInUse = true ∧ s.m.boot.ready = false) ∧
    (∃ s : State, s.awake ∧ s.m.boot.acqReady = false ∧ s.m.fe.cal = .passed ∧ s.m.store.st = .trained ∧ s.m.tim.slices = true) ∧
    (∃ s : State, (s.m.boot.baseInUse = false ∨ s.m.boot.ready = true)) ∧
    (∃ s : State, (s.m.boot.acqReady = true ∨ s.m.fe.cal ≠ .passed ∨ s.m.store.st ≠ .trained ∨ s.m.tim.slices = false)) :=
  ⟨⟨[], ⟨{ up with m.boot.inReset := true, m.boot.factory := false }, by decide +kernel⟩⟩,
   ⟨[], ⟨false, ⟨up, by decide +kernel⟩⟩⟩,
   ⟨[], ⟨{ up with m.boot.readIn := false, m.boot.baseInUse := false }, by decide +kernel⟩⟩,
   ⟨{ up with m.boot.readIn := true, m.boot.baseInUse := false }, by decide +kernel⟩,
   ⟨[], ⟨{ up with m.boot.readIn := true }, by decide +kernel⟩⟩,
   ⟨{ up with m.boot.readIn := false }, by decide +kernel⟩,
   ⟨{ up with m.boot.baseInUse := true, m.boot.ready := false }, by decide +kernel⟩,
   ⟨{ up with m.boot.acqReady := false, m.fe.cal := .passed, m.store.st := .trained, m.tim.slices := true }, by decide +kernel⟩,
   ⟨{ up with m.boot.baseInUse := false }, by decide +kernel⟩,
   ⟨{ up with m.boot.acqReady := true, m.fe.cal := .running }, by decide +kernel⟩⟩

/-- States and operands that meet the hypotheses of BeatRunsItsStepsInOrder. -/
theorem meets_BeatRunsItsStepsInOrder :
    ∃ o : BeatObs, ∃ s : State, s.awake ∧ s.work = 9 :=
  ⟨{}, ⟨{ up with work := 9 }, by decide +kernel⟩⟩

/-- States and operands that meet the hypotheses of LandingCommandsRunToTheirStep, clause by clause. -/
theorem meets_LandingCommandsRunToTheirStep :
    (∃ o : BeatObs, ∃ s : State, s.awake ∧ s.work = 9 ∧ ∃ c, s.m.ctl.spi.commit = some c ∧ c.landing ≤ s.m.tim.beats + 1) ∧
    (∃ o : BeatObs, ∃ s : State, s.awake ∧ s.work = 9 ∧ ∃ c, s.m.ctl.host.commit = some c ∧ c.landing ≤ s.m.tim.beats + 1) ∧
    (∃ o : BeatObs, ∃ s : State, s.awake ∧ s.work = 9 ∧ s.m.boot.acqReady = true ∧ s.before = none ∧ s.m.ctl.spi.deferred ≠ []) ∧
    (∃ o : BeatObs, ∃ s : State, s.awake ∧ s.work = 9 ∧ s.m.boot.acqReady = true ∧ s.before = none ∧ s.m.ctl.host.deferred ≠ []) ∧
    (∃ o : BeatObs, ∃ s : State, s.awake ∧ s.work = 9 ∧ ∃ n : Fin 8, s.m.ctl.locks[n].st = .held ∧ s.m.ctl.locks[n].lease = 0) ∧
    (∃ o : BeatObs, ∃ s : State, s.awake ∧ s.work = 9 ∧ ∃ r, ∃ rest, s.m.ins.queue = r :: rest ∧ r.apply = true ∧ r.after ≤ s.m.tim.beats) ∧
    (∃ o : BeatObs, ∃ s : State, s.awake ∧ s.work = 9 ∧ ∃ r, ∃ rest, s.m.ins.queue = r :: rest ∧ r.apply = false ∧ r.after ≤ s.m.tim.beats) ∧
    (∃ o : BeatObs, ∃ s : State, s.awake ∧ s.work = 9 ∧ s.m.trm.pending.isSome = true ∧ s.m.qre.cur = none) ∧
    (∃ o : BeatObs, ∃ s : State, ∃ b : Mach, s.awake ∧ s.before = some b ∧ ∃ k : Master, ∃ c : Commit, s.work + 1 = stepOf k ∧
      (s.m.session k).due = some c ∧ (s.m.session k).deferred = [] ∧ (b.session k).deferred = [] ∧ b.boot.acqReady = true ∧
      o.badStage.contains k = false ∧ (s.m.session k).count = c.num) ∧
    (∃ o : BeatObs, ∃ s : State, ∃ b : Mach, s.awake ∧ s.before = some b ∧
      ∃ k : Master, ∃ c : Commit, ∃ rest : List Commit, s.work + 1 = stepOf k ∧ b.boot.acqReady = true ∧ s.m.pwr.stage < 6 ∧
      (s.m.session k).deferred = c :: rest ∧ (s.m.session k).due = none ∧ o.badStage.contains k = false) ∧
    (∃ o : BeatObs, ∃ s : State, ∃ b : Mach, s.awake ∧ s.before = some b ∧ ∃ n : Fin 8, s.work = 0 ∧ s.m.ctl.locks[n].st = .held ∧
      s.m.ctl.locks[n].lease = 0) ∧
    (∃ o : BeatObs, ∃ s : State, ∃ b : Mach, s.awake ∧ s.before = some b ∧ ∃ r : InsReq, ∃ rest : List InsReq, s.work = 1 ∧
      s.m.ins.queue = r :: rest ∧ r.after < s.m.tim.beats ∧ b.boot.acqReady = true ∧ r.apply = true ∧ o.vaultBad = [] ∧
      s.m.vlt.slots.getLsbD r.slot = true ∧ (s.m.ins.active = 0 ∨ s.m.ins.active = r.slot)) ∧
    (∃ o : BeatObs, ∃ s : State, ∃ b : Mach, s.awake ∧ s.before = some b ∧ ∃ r : InsReq, ∃ rest : List InsReq, s.work = 1 ∧
      s.m.ins.queue = r :: rest ∧ r.after < s.m.tim.beats ∧ b.boot.acqReady = true ∧ r.apply = false ∧ s.m.ins.active = r.slot) ∧
    (∃ o : BeatObs, ∃ s : State, ∃ b : Mach, s.awake ∧ s.before = some b ∧ ∃ p, s.work = 5 ∧ s.m.trm.pending = some p ∧ s.m.qre.cur = none ∧
      s.m.trm.landedAt ≠ some s.m.tim.beats) ∧
    (∃ k : Master, ∃ n : Fin 8, ∃ o : BeatObs, ∃ s : State, (s.m.session k).commit = none ∧ (s.m.session k).due = none) ∧
    (∃ k : Master, ∃ n : Fin 8, ∃ o : BeatObs, ∃ s : State, (s.m.session k).deferred = []) ∧
    (∃ k : Master, ∃ n : Fin 8, ∃ o : BeatObs, ∃ s : State, (s.m.ctl.locks[n].st ≠ .held ∨ s.m.ctl.locks[n].lease ≠ 0)) ∧
    (∃ k : Master, ∃ n : Fin 8, ∃ o : BeatObs, ∃ s : State, s.m.ins.queue = []) ∧
    (∃ k : Master, ∃ n : Fin 8, ∃ o : BeatObs, ∃ s : State, (s.m.trm.pending = none ∨ s.m.qre.cur ≠ none)) :=
  ⟨⟨{}, ⟨{ up with work := 9, m.ctl.spi.commit := some default }, ⟨by decide +kernel, ⟨by decide +kernel, ⟨default, by decide +kernel⟩⟩⟩⟩⟩,
   ⟨{}, ⟨{ up with work := 9, m.ctl.host.commit := some default }, ⟨by decide +kernel, ⟨by decide +kernel, ⟨default, by decide +kernel⟩⟩⟩⟩⟩,
   ⟨{}, ⟨{ up with work := 9, m.boot.acqReady := true, before := none, m.ctl.spi.deferred := [default] }, by decide +kernel⟩⟩,
   ⟨{}, ⟨{ up with work := 9, m.boot.acqReady := true, before := none, m.ctl.host.deferred := [default] }, by decide +kernel⟩⟩,
   ⟨{}, ⟨{ up with work := 9, m.ctl.locks := vmod up.m.ctl.locks 0 fun x => { x with st := .held, lease := 0 } }, ⟨by decide +kernel, ⟨by decide +kernel, ⟨0, by decide +kernel⟩⟩⟩⟩⟩,
   ⟨{}, ⟨{ up with work := 9, m.ins.queue := { apply := true, slot := 31, master := none, after := 1 } :: [] }, ⟨by decide +kernel, ⟨by decide +kernel, ⟨{ apply := true, slot := 31, master := none, after := 1 }, ⟨[], by decide +kernel⟩⟩⟩⟩⟩⟩,
   ⟨{}, ⟨{ up with work := 9, m.ins.queue := { apply := false, slot := 31, master := none, after := 1 } :: [] }, ⟨by decide +kernel, ⟨by decide +kernel, ⟨{ apply := false, slot := 31, master := none, after := 1 }, ⟨[], by decide +kernel⟩⟩⟩⟩⟩⟩,
   ⟨{}, ⟨{ up with work := 9, m.trm.pending := some default, m.qre.cur := none }, by decide +kernel⟩⟩,
   ⟨{}, ⟨{ up with before := some up.m, work := 3, m.ctl.host.due := some { changes := [(0xA14, 0)], landing := 1, num := 0 } }, ⟨up.m, ⟨by decide +kernel, ⟨by decide +kernel, ⟨.host, ⟨{ changes := [(0xA14, 0)], landing := 1, num := 0 }, by decide +kernel⟩⟩⟩⟩⟩⟩⟩,
   ⟨{}, ⟨{ up with before := some up.m, work := 2, m.ctl.spi.deferred := [{ changes := [(0xA14, 0)], landing := 1, num := 0 }] }, ⟨up.m, ⟨by decide +kernel, ⟨by decide +kernel, ⟨.spi, ⟨{ changes := [(0xA14, 0)], landing := 1, num := 0 }, ⟨[], by decide +kernel⟩⟩⟩⟩⟩⟩⟩⟩,
   ⟨{}, ⟨{ up with before := some up.m, work := 0, m.ctl.locks := vmod up.m.ctl.locks 0 fun x => { x with st := .held, lease := 0 } }, ⟨up.m, ⟨by decide +kernel, ⟨by decide +kernel, ⟨0, by decide +kernel⟩⟩⟩⟩⟩⟩,
   ⟨{}, ⟨{ up with before := some up.m, work := 1, m.vlt.slots := 0x80000000, m.ins.queue := [{ apply := true, slot := 31, master := none, after := 0 }] }, ⟨up.m, ⟨by decide +kernel, ⟨by decide +kernel, ⟨{ apply := true, slot := 31, master := none, after := 0 }, ⟨[], by decide +kernel⟩⟩⟩⟩⟩⟩⟩,
   ⟨{}, ⟨{ up with before := some up.m, work := 1, m.ins.active := 31, m.ins.queue := [{ apply := false, slot := 31, master := none, after := 0 }] }, ⟨up.m, ⟨by decide +kernel, ⟨by decide +kernel, ⟨{ apply := false, slot := 31, master := none, after := 0 }, ⟨[], by decide +kernel⟩⟩⟩⟩⟩⟩⟩,
   ⟨{}, ⟨{ up with before := some up.m, work := 5, m.trm.pending := some default, m.qre.cur := none }, ⟨up.m, ⟨by decide +kernel, ⟨by decide +kernel, ⟨default, by decide +kernel⟩⟩⟩⟩⟩⟩,
   ⟨.spi, ⟨0, ⟨{}, ⟨up, by decide +kernel⟩⟩⟩⟩,
   ⟨.spi, ⟨0, ⟨{}, ⟨up, by decide +kernel⟩⟩⟩⟩,
   ⟨.spi, ⟨0, ⟨{}, ⟨up, by decide +kernel⟩⟩⟩⟩,
   ⟨.spi, ⟨0, ⟨{}, ⟨{ up with m.ins.queue := [] }, by decide +kernel⟩⟩⟩⟩,
   ⟨.spi, ⟨0, ⟨{}, ⟨{ up with m.trm.pending := none }, by decide +kernel⟩⟩⟩⟩⟩

/-- States and operands that meet the hypotheses of EscrowLocksMove, clause by clause. -/
theorem meets_EscrowLocksMove :
    (∃ q : Req, ∃ s : State, s.awake ∧ let m := s.m.received q; let k := Via.master q.via; let n := q.addr.toNat;
      let l := vget m.ctl.locks n; let lease := fld q.data 0 21; n < 8 ∧ 1 ≤ lease ∧ lease ≤ 1048576 ∧ s.m.admits 0x06 q = true ∧
      l.st = .free ∧ (k = .spi ∨ s.spiTakes n = false)) ∧
    (∃ q : Req, ∃ s : State, s.awake ∧ let m := s.m.received q; let k := Via.master q.via; let n := q.addr.toNat;
      let l := vget m.ctl.locks n; let lease := fld q.data 0 21; n < 8 ∧ 1 ≤ lease ∧ lease ≤ 1048576 ∧ s.m.admits 0x06 q = true ∧
      (l.st = .forfeit ∨ (l.st = .held ∧ l.owner = some (Master.other k)) ∨ (l.st = .free ∧ k = .host ∧ s.spiTakes n = true))) ∧
    (∃ q : Req, ∃ s : State, s.awake ∧ let m := s.m.received q; let k := Via.master q.via; let n := q.addr.toNat;
      let l := vget m.ctl.locks n; let lease := fld q.data 0 21; n < 8 ∧ 1 ≤ lease ∧ lease ≤ 1048576 ∧ s.m.admits 0x06 q = true ∧
      l.st = .held ∧ l.owner = some k) ∧
    (∃ q : Req, ∃ s : State, s.awake ∧ let m := s.m.received q; let k := Via.master q.via; let n := q.addr.toNat;
      let l := vget m.ctl.locks n; let lease := fld q.data 0 21; n < 8 ∧ 1 ≤ lease ∧ lease ≤ 1048576 ∧ s.m.admits 0x07 q = true ∧
      l.st = .held ∧ l.owner = some k) ∧
    (∃ q : Req, ∃ s : State, s.awake ∧ let m := s.m.received q; let k := Via.master q.via; let n := q.addr.toNat;
      let lease := fld q.data 0 21; n < 8 ∧ 1 ≤ lease ∧ lease ≤ 1048576 ∧ s.m.admits 0x07 q = true ∧ m.heldBy n k = false) ∧
    (∃ q : Req, ∃ s : State, s.awake ∧ let m := s.m.received q; let k := Via.master q.via; let n := q.addr.toNat;
      let l := vget m.ctl.locks n; n < 8 ∧ s.m.admits 0x08 q = true ∧ l.st = .held ∧ l.owner = some k) ∧
    (∃ q : Req, ∃ s : State, s.awake ∧ let m := s.m.received q; let k := Via.master q.via; let n := q.addr.toNat; n < 8 ∧
      s.m.admits 0x08 q = true ∧ m.heldBy n k = false) ∧
    (∃ q : Req, ∃ s : State, s.awake ∧ let n := q.addr.toNat; let lease := fld q.data 0 21; (8 ≤ n ∨ lease = 0 ∨ 1048576 < lease) ∧
      s.m.admits 0x06 q = true) ∧
    (∃ q : Req, ∃ s : State, s.awake ∧ let n := q.addr.toNat; let lease := fld q.data 0 21; (8 ≤ n ∨ lease = 0 ∨ 1048576 < lease) ∧
      s.m.admits 0x07 q = true) ∧
    (∃ q : Req, ∃ s : State, s.awake ∧ let n := q.addr.toNat; let lease := fld q.data 0 21; (8 ≤ n ∨ lease = 0 ∨ 1048576 < lease) ∧ 8 ≤ n ∧
      s.m.admits 0x08 q = true) ∧
    (∃ m : Mach, ∃ n : Fin 8, ∃ k : Fin 8, m.ctl.locks[n].st = .held ∧ m.ctl.locks[n].lease = 0) ∧
    (∃ m : Mach, ∃ n : Fin 8, ∃ k : Fin 8, m.ctl.locks[n].st = .held ∧ m.ctl.locks[n].lease ≠ 0) ∧
    (∃ m : Mach, ∃ n : Fin 8, ∃ k : Fin 8, m.ctl.locks[n].st = .forfeit) ∧
    (∃ m : Mach, ∃ n : Fin 8, ∃ k : Fin 8, m.ctl.locks[n].st = .free) ∧
    (∃ m : Mach, ∃ n : Fin 8, ∃ k : Fin 8, n ≠ k) :=
  ⟨⟨{ via := .ctrl 0, addr := 7, data := 1 }, ⟨{ up with m.spn.port := vmod up.m.spn.port 0 fun x => { x with st := .up }, m.ctl.locks := vmod up.m.ctl.locks 7 fun x => { x with st := .free, owner := none } }, by dsimp only; decide +kernel⟩⟩,
   ⟨{ via := .ctrl 0, addr := 7, data := 1048576 }, ⟨{ up with m.spn.port := vmod up.m.spn.port 0 fun x => { x with st := .up }, m.ctl.locks := vmod up.m.ctl.locks 7 fun x => { x with st := .forfeit, owner := none } }, by dsimp only; decide +kernel⟩⟩,
   ⟨{ via := .ctrl 0, addr := 7, data := 1 }, ⟨{ up with m.spn.port := vmod up.m.spn.port 0 fun x => { x with st := .up }, m.ctl.locks := vmod up.m.ctl.locks 7 fun x => { x with st := .held, owner := some .host } }, by dsimp only; decide +kernel⟩⟩,
   ⟨{ via := .ctrl 0, addr := 7, data := 1048576 }, ⟨{ up with m.spn.port := vmod up.m.spn.port 0 fun x => { x with st := .up }, m.ctl.locks := vmod up.m.ctl.locks 7 fun x => { x with st := .held, owner := some .host } }, by dsimp only; decide +kernel⟩⟩,
   ⟨{ via := .ctrl 0, addr := 7, data := 1 }, ⟨{ up with m.spn.port := vmod up.m.spn.port 0 fun x => { x with st := .up }, m.ctl.locks := vmod up.m.ctl.locks 7 fun x => { x with st := .free, owner := none } }, by dsimp only; decide +kernel⟩⟩,
   ⟨{ via := .ctrl 0, addr := 7, data := 1 }, ⟨{ up with m.spn.port := vmod up.m.spn.port 0 fun x => { x with st := .up }, m.ctl.locks := vmod up.m.ctl.locks 7 fun x => { x with st := .held, owner := some .host } }, by dsimp only; decide +kernel⟩⟩,
   ⟨{ via := .ctrl 0, addr := 7, data := 1 }, ⟨{ up with m.spn.port := vmod up.m.spn.port 0 fun x => { x with st := .up }, m.ctl.locks := vmod up.m.ctl.locks 7 fun x => { x with st := .held, owner := some .spi } }, by dsimp only; decide +kernel⟩⟩,
   ⟨{ via := .ctrl 0 }, ⟨{ up with m.spn.port := vmod up.m.spn.port 0 fun x => { x with st := .up } }, by dsimp only; decide +kernel⟩⟩,
   ⟨{ via := .ctrl 0 }, ⟨{ up with m.spn.port := vmod up.m.spn.port 0 fun x => { x with st := .up } }, by dsimp only; decide +kernel⟩⟩,
   ⟨{ via := .ctrl 0, addr := 8, data := 1 }, ⟨{ up with m.spn.port := vmod up.m.spn.port 0 fun x => { x with st := .up } }, by dsimp only; decide +kernel⟩⟩,
   ⟨{ up.m with ctl.locks := vmod up.m.ctl.locks 0 fun x => { x with st := .held, lease := 0 } }, ⟨0, ⟨0, by decide +kernel⟩⟩⟩,
   ⟨{ up.m with ctl.locks := vmod up.m.ctl.locks 7 fun x => { x with st := .held, lease := 1 } }, ⟨7, ⟨0, by decide +kernel⟩⟩⟩,
   ⟨{ up.m with ctl.locks := vmod up.m.ctl.locks 0 fun x => { x with st := .forfeit } }, ⟨0, ⟨0, by decide +kernel⟩⟩⟩,
   ⟨{ up.m with ctl.locks := vmod up.m.ctl.locks 0 fun x => { x with st := .free } }, ⟨0, ⟨0, by decide +kernel⟩⟩⟩,
   ⟨up.m, ⟨0, ⟨7, by decide +kernel⟩⟩⟩⟩

/-- States and operands that meet the hypotheses of CommitsAreRefusedOrDeferred, clause by clause. -/
theorem meets_CommitsAreRefusedOrDeferred :
    (∃ m : Mach, ∃ b : Mach, ∃ k : Master, ∃ o : BeatObs, ∃ c : Commit, (m.session k).due = some c ∧ (m.session k).deferred = [] ∧
      (b.session k).deferred = [] ∧ b.boot.acqReady = true ∧ o.badStage.contains k = false ∧ (m.session k).count = c.num ∧
      b.commitRefused k c.changes = true) ∧
    (∃ m : Mach, ∃ b : Mach, ∃ k : Master, ∃ o : BeatObs, ∃ c : Commit, (m.session k).due = some c ∧ b.boot.acqReady = false ∧
      m.pwr.stage < 6 ∧ c.changes.any (fun e => touchesAcq e.1) = true ∧ o.badStage.contains k = false ∧ (m.session k).count = c.num) ∧
    (∃ m : Mach, ∃ b : Mach, ∃ k : Master, ∃ o : BeatObs, ∃ c : Commit, (m.session k).due = some c ∧ b.boot.acqReady = false ∧
      m.pwr.stage < 6 ∧ c.changes.any (fun e => touchesAcq e.1) = true ∧ o.badStage.contains k = false ∧ (m.session k).count = c.num ∧
      (m.session k).deferred.length < 16) ∧
    (∃ m : Mach, ∃ b : Mach, ∃ k : Master, ∃ o : BeatObs, ∃ c : Commit, (m.session k).due = some c ∧ b.boot.acqReady = false ∧
      m.pwr.stage < 6 ∧ c.changes.any (fun e => touchesAcq e.1) = true ∧ o.badStage.contains k = false ∧ (m.session k).count = c.num ∧
      16 ≤ (m.session k).deferred.length) :=
  ⟨⟨{ up.m with ctl.spi.due := some { changes := [(0xC00, 1)], landing := 1, num := 0 } }, ⟨{ up.m with tim.slices := false }, ⟨.spi, ⟨{}, ⟨{ changes := [(0xC00, 1)], landing := 1, num := 0 }, by decide +kernel⟩⟩⟩⟩⟩,
   ⟨{ up.m with ctl.spi.due := some { changes := [(0xC00, 1)], landing := 1, num := 0 }, ctl.spi.deferred := List.replicate 0 default }, ⟨{ up.m with boot.acqReady := false }, ⟨.spi, ⟨{}, ⟨{ changes := [(0xC00, 1)], landing := 1, num := 0 }, by decide +kernel⟩⟩⟩⟩⟩,
   ⟨{ up.m with ctl.spi.due := some { changes := [(0xC00, 1)], landing := 1, num := 0 }, ctl.spi.deferred := List.replicate 15 default }, ⟨{ up.m with boot.acqReady := false }, ⟨.spi, ⟨{}, ⟨{ changes := [(0xC00, 1)], landing := 1, num := 0 }, by decide +kernel⟩⟩⟩⟩⟩,
   ⟨{ up.m with ctl.spi.due := some { changes := [(0xC00, 1)], landing := 1, num := 0 }, ctl.spi.deferred := List.replicate 16 default }, ⟨{ up.m with boot.acqReady := false }, ⟨.spi, ⟨{}, ⟨{ changes := [(0xC00, 1)], landing := 1, num := 0 }, by decide +kernel⟩⟩⟩⟩⟩⟩

/-- States and operands that meet the hypotheses of WritesLandAndPinsRelease, clause by clause. -/
theorem meets_WritesLandAndPinsRelease :
    (∃ k : Master, ∃ a : BitVec 16, ∃ v : Word, ∃ s : State, s.awake ∧ s.work < 5 ∧ 0xA10 ≤ a.toNat ∧ a.toNat ≤ 0xA14 ∧
      valueOk a.toNat v = true ∧ s.m.dec.waiting = false ∧ swf resetOf s.m.par.landed = true) ∧
    (∃ k : Master, ∃ v : Word, ∃ s : State, s.awake ∧ s.work < 9 ∧ valueOk 5 v = true ∧ isRwp v.toNat = true ∧
      coverOwner s.m.ctl.locks s.m.pval v.toNat ≠ some (Master.other k)) :=
  ⟨⟨.host, ⟨0xA14, ⟨0, ⟨{ up with m.dec.waiting := false, work := 4 }, by decide +kernel⟩⟩⟩⟩,
   ⟨.spi, ⟨0xA20, ⟨{ up with work := 8 }, by decide +kernel⟩⟩⟩⟩

/-- States and operands that meet the hypotheses of ReadsStatusAndAbortAnswer, clause by clause. -/
theorem meets_ReadsStatusAndAbortAnswer :
    (∃ q : Req, ∃ s : State, s.awake ∧ s.m.admits 0x00 q = true) ∧
    (∃ q : Req, ∃ s : State, s.awake ∧ s.m.admits 0x01 q = true ∧ defined q.addr.toNat = true) ∧
    (∃ q : Req, ∃ s : State, s.awake ∧ s.m.admits 0x01 q = true ∧ defined q.addr.toNat = false) ∧
    (∃ q : Req, ∃ s : State, s.awake ∧ s.m.admits 0x09 q = true) ∧
    (∃ q : Req, ∃ s : State, s.awake ∧ s.m.admits 0x04 q = true) :=
  ⟨⟨{ via := .ctrl 0 }, ⟨{ up with m.spn.port := vmod up.m.spn.port 0 fun x => { x with st := .up } }, by decide +kernel⟩⟩,
   ⟨{ via := .ctrl 0 }, ⟨{ up with m.spn.port := vmod up.m.spn.port 0 fun x => { x with st := .up } }, by decide +kernel⟩⟩,
   ⟨{ via := .ctrl 0, addr := 0x0B, data := 0 }, ⟨{ up with m.spn.port := vmod up.m.spn.port 0 fun x => { x with st := .up } }, by decide +kernel⟩⟩,
   ⟨{ via := .ctrl 0 }, ⟨{ up with m.spn.port := vmod up.m.spn.port 0 fun x => { x with st := .up } }, by decide +kernel⟩⟩,
   ⟨{ via := .ctrl 0 }, ⟨{ up with m.spn.port := vmod up.m.spn.port 0 fun x => { x with st := .up } }, by decide +kernel⟩⟩⟩

/-- States and operands that meet the hypotheses of StageChecksInOrder, clause by clause. -/
theorem meets_StageChecksInOrder :
    (∃ q : Req, ∃ s : State, s.awake ∧ s.m.admits 0x02 q = true ∧ let a := q.addr.toNat; defined a = false) ∧
    (∃ q : Req, ∃ s : State, s.awake ∧ s.m.admits 0x02 q = true ∧ let a := q.addr.toNat; defined a = true ∧ 0x400 ≤ a ∧
      bitOf (s.view.pval 4) 0 = false) ∧
    (∃ q : Req, ∃ s : State, s.awake ∧ s.m.admits 0x02 q = true ∧ let m := s.m.received q; let k := Via.master q.via; let a := q.addr.toNat;
      defined a = true ∧ (a < 0x400 ∨ bitOf (s.view.pval 4) 0 = true) ∧ (valueOk a q.data = false ∨ m.stageRefused k a q.data = true)) ∧
    (∃ q : Req, ∃ s : State, s.awake ∧ s.m.admits 0x02 q = true ∧ let m := s.m.received q; let k := Via.master q.via; let a := q.addr.toNat;
      defined a = true ∧ (a < 0x400 ∨ bitOf (s.view.pval 4) 0 = true) ∧ valueOk a q.data = true ∧ m.stageRefused k a q.data = false ∧
      coverOwner m.ctl.locks m.pval a = some (Master.other k)) ∧
    (∃ q : Req, ∃ s : State, s.awake ∧ s.m.admits 0x02 q = true ∧ let m := s.m.received q; let k := Via.master q.via; let a := q.addr.toNat;
      defined a = true ∧ (a < 0x400 ∨ bitOf (s.view.pval 4) 0 = true) ∧ valueOk a q.data = true ∧ m.stageRefused k a q.data = false ∧
      coverOwner m.ctl.locks m.pval a ≠ some (Master.other k) ∧ (if m.usesKeep k then 64 else 512) ≤ (m.staging k).length ∧
      (m.staging k).lookup a = none) ∧
    (∃ q : Req, ∃ s : State, s.awake ∧ s.m.admits 0x02 q = true ∧ let m := s.m.received q; let k := Via.master q.via; let a := q.addr.toNat;
      defined a = true ∧ (a < 0x400 ∨ bitOf (s.view.pval 4) 0 = true) ∧ valueOk a q.data = true ∧ m.stageRefused k a q.data = false ∧
      coverOwner m.ctl.locks m.pval a ≠ some (Master.other k) ∧
      ((m.staging k).length < (if m.usesKeep k then 64 else 512) ∨ ((m.staging k).lookup a).isSome = true)) :=
  ⟨⟨{ via := .ctrl 0, addr := 0x0B, data := 0 }, ⟨{ up with m.spn.port := vmod up.m.spn.port 0 fun x => { x with st := .up } }, by dsimp only; decide +kernel⟩⟩,
   ⟨{ via := .ctrl 0, addr := 0x400, data := 0 }, ⟨{ up with m.spn.port := vmod up.m.spn.port 0 fun x => { x with st := .up } }, by dsimp only; decide +kernel⟩⟩,
   ⟨{ via := .ctrl 0, addr := 0x40, data := 0 }, ⟨{ up with m.spn.port := vmod up.m.spn.port 0 fun x => { x with st := .up } }, by dsimp only; decide +kernel⟩⟩,
   ⟨{ via := .ctrl 0, addr := 0xA14, data := 0 }, ⟨(pv [(4, 1), (0x640, 0x0A140A14)] { up with m.spn.port := vmod up.m.spn.port 0 fun x => { x with st := .up }, m.ctl.locks := vmod up.m.ctl.locks 0 fun x => { x with st := .held, owner := some .spi } }), by dsimp only; decide +kernel⟩⟩,
   ⟨{ via := .ctrl 0, addr := 0xA14, data := 0 }, ⟨(pv [(4, 1)] { up with m.spn.port := vmod up.m.spn.port 0 fun x => { x with st := .up }, m.ctl.host.staging := (List.range 512).map fun i => (0x2000 + i, 0) }), by dsimp only; decide +kernel⟩⟩,
   ⟨{ via := .ctrl 0, addr := 0xA14, data := 0 }, ⟨(pv [(4, 1)] { up with m.spn.port := vmod up.m.spn.port 0 fun x => { x with st := .up }, m.ctl.host.staging := (List.range 511).map fun i => (0x2000 + i, 0) }), by dsimp only; decide +kernel⟩⟩⟩

/-- States and operands that meet the hypotheses of CommitSealsTheStagingArea, clause by clause. -/
theorem meets_CommitSealsTheStagingArea :
    (∃ q : Req, ∃ s : State, s.awake ∧ s.m.admits 0x03 q = true ∧ let m := s.m.received q; let k := Via.master q.via;
      let n := (m.staging k).length; let count := fld q.data 0 10; n ≠ 0 ∧ (count = 0 ∨ count = n) ∧ (m.session k).commit = none ∧ n ≤ 256) ∧
    (∃ q : Req, ∃ s : State, s.awake ∧ s.m.admits 0x03 q = true ∧ let m := s.m.received q; let k := Via.master q.via;
      let n := (m.staging k).length; let count := fld q.data 0 10; n ≠ 0 ∧ (count = 0 ∨ count = n) ∧ (m.session k).commit = none ∧
      (m.session k).due = none ∧ n ≤ 256) ∧
    (∃ q : Req, ∃ s : State, s.awake ∧ s.m.admits 0x03 q = true ∧ let m := s.m.received q; let k := Via.master q.via;
      let n := (m.staging k).length; let count := fld q.data 0 10; (n = 0 ∨ (count ≠ 0 ∧ count ≠ n) ∨ (m.session k).commit.isSome = true)) ∧
    (∃ q : Req, ∃ s : State, s.awake ∧ s.m.admits 0x03 q = true ∧ let m := s.m.received q; let k := Via.master q.via;
      let n := (m.staging k).length; let count := fld q.data 0 10; (count = 0 ∨ count = n) ∧ (m.session k).commit = none ∧ 256 < n) :=
  ⟨⟨{ via := .ctrl 0, addr := 0, data := 256 }, ⟨{ up with m.spn.port := vmod up.m.spn.port 0 fun x => { x with st := .up }, m.ctl.host.staging := (List.range 256).map fun i => (0x2000 + i, 0) }, by dsimp only; decide +kernel⟩⟩,
   ⟨{ via := .ctrl 0, addr := 0, data := 256 }, ⟨{ up with m.spn.port := vmod up.m.spn.port 0 fun x => { x with st := .up }, m.ctl.host.staging := (List.range 256).map fun i => (0x2000 + i, 0) }, by dsimp only; decide +kernel⟩⟩,
   ⟨{ via := .ctrl 0, addr := 0, data := 2 }, ⟨{ up with m.spn.port := vmod up.m.spn.port 0 fun x => { x with st := .up }, m.ctl.host.staging := (List.range 1).map fun i => (0x2000 + i, 0) }, by dsimp only; decide +kernel⟩⟩,
   ⟨{ via := .ctrl 0, addr := 0, data := 0 }, ⟨{ up with m.spn.port := vmod up.m.spn.port 0 fun x => { x with st := .up }, m.ctl.host.staging := (List.range 257).map fun i => (0x2000 + i, 0) }, by dsimp only; decide +kernel⟩⟩⟩

/-- States and operands that meet the hypotheses of InsertRequestsQueue, clause by clause. -/
theorem meets_InsertRequestsQueue :
    (∃ q : Req, ∃ s : State, s.awake ∧ s.m.admits 0x05 q = true ∧ let m := s.m.received q; let k := Via.master q.via;
      valueOk 0x780 q.data = true ∧ k = .host ∧ m.ins.queue.length + s.spiInserts < 8) ∧
    (∃ q : Req, ∃ s : State, s.awake ∧ s.m.admits 0x05 q = true ∧ let m := s.m.received q; let k := Via.master q.via;
      let r : InsReq := { apply := fld q.data 8 2 == 1, slot := fld q.data 0 5, master := some k, after := m.tim.beats, clk := some m.tim.clk };
      let same (r : InsReq) : Bool := r.master == some .host && r.after == m.tim.beats && r.clk == some m.tim.clk;
      ∃ front : List InsReq, ∃ back : List InsReq, valueOk 0x780 q.data = true ∧ k = .spi ∧ m.ins.queue.length < 8 ∧
      m.ins.queue = front ++ back ∧ back.all same = true ∧ (front.getLast?.all fun x => !same x) = true) ∧
    (∃ q : Req, ∃ s : State, s.awake ∧ s.m.admits 0x05 q = true ∧ let m := s.m.received q; let k := Via.master q.via;
      (valueOk 0x780 q.data = false ∨ 8 ≤ m.ins.queue.length + (if k = .host then s.spiInserts else 0))) ∧
    (∃ k : Master, ∃ slot : Fin 32, ∃ s : State, s.awake ∧ slot ≠ 0 ∧ s.m.ins.queue.length < 8) ∧
    (∃ k : Master, ∃ slot : Fin 32, ∃ s : State, s.awake ∧ slot ≠ 0 ∧ 8 ≤ s.m.ins.queue.length) :=
  ⟨⟨{ via := .ctrl 0, addr := 0, data := 0x11F }, ⟨{ up with m.spn.port := vmod up.m.spn.port 0 fun x => { x with st := .up }, m.ins.queue := List.replicate 7 default }, by dsimp only; decide +kernel⟩⟩,
   ⟨{ via := .spi 64 (crc8 [0x05, 0, 0, 0, 0, 1, 0x1F]) 0, addr := 0, data := 0x11F }, ⟨{ up with m.ins.queue := [default, { apply := true, slot := 1, master := some .host, after := 1, clk := some 0 }] }, ⟨by decide +kernel, ⟨by decide +kernel, ⟨[default], ⟨[{ apply := true, slot := 1, master := some .host, after := 1, clk := some 0 }], by dsimp only; decide +kernel⟩⟩⟩⟩⟩⟩,
   ⟨{ via := .ctrl 0, addr := 0, data := 0x11F }, ⟨{ up with m.spn.port := vmod up.m.spn.port 0 fun x => { x with st := .up }, m.ins.queue := List.replicate 8 default }, by dsimp only; decide +kernel⟩⟩,
   ⟨.spi, ⟨31, ⟨{ up with m.ins.queue := List.replicate 7 default }, by decide +kernel⟩⟩⟩,
   ⟨.spi, ⟨1, ⟨{ up with m.ins.queue := List.replicate 8 default }, by decide +kernel⟩⟩⟩⟩

/-- States and operands that meet the hypotheses of BadRequestsAreAnsweredAndDoNothing, clause by clause. -/
theorem meets_BadRequestsAreAnsweredAndDoNothing :
    (∃ q : Req, ∃ op : Byte, ∃ s : State, s.awake ∧ 10 ≤ op.toNat ∧ s.m.admits op q = true) ∧
    (∃ a : BitVec 16, ∃ v : Word, ∃ crc : Byte, ∃ early : Nat, ∃ s : State, s.awake ∧ s.m.boot.ready = true ∧
      let q : Req := { via := .spi 64 crc early, addr := a, data := v }; crc8 (requestBytes q 0x02) ≠ crc) ∧
    (∃ a : BitVec 16, ∃ v : Word, ∃ crc : Byte, ∃ sck : Nat, ∃ early : Nat, ∃ s : State, s.awake ∧ s.m.boot.ready = true ∧ sck ≠ 64) ∧
    (∃ a : BitVec 16, ∃ v : Word, ∃ crc : Byte, ∃ early : Nat, ∃ s : State, s.awake ∧ s.m.boot.ready = false) ∧
    (∃ a : BitVec 16, ∃ v : Word, ∃ early : Nat, ∃ s : State, s.awake ∧ s.m.boot.ready = true ∧ s.m.keepMode = true ∧
      keepHandles 0x02 a.toNat = false) ∧
    (∃ q : Req, ∃ tag : Byte, ∃ s : State, s.awake ∧ q.via = .ctrl tag ∧ s.m.portUp 0 = true ∧ let m := s.m.acceptPkt 0 1 8;
      16 ≤ m.ctrlWaiting) ∧
    (∃ a : BitVec 16, ∃ v : Word, ∃ tag : Byte, ∃ s : State, s.m.portUp 0 = false) :=
  ⟨⟨{ via := .ctrl 0 }, ⟨10, ⟨{ up with m.spn.port := vmod up.m.spn.port 0 fun x => { x with st := .up } }, by decide +kernel⟩⟩⟩,
   ⟨0, ⟨0, ⟨0, ⟨0, ⟨{ up with m.boot.ready := true }, by dsimp only; decide +kernel⟩⟩⟩⟩⟩,
   ⟨0, ⟨0, ⟨0, ⟨0, ⟨0, ⟨{ up with m.boot.ready := true }, by decide +kernel⟩⟩⟩⟩⟩⟩,
   ⟨0, ⟨0, ⟨0, ⟨0, ⟨{ up with m.boot.ready := false }, by decide +kernel⟩⟩⟩⟩⟩,
   ⟨0xC00, ⟨0, ⟨0, ⟨{ up with m.pwr.stage := 6 }, by decide +kernel⟩⟩⟩⟩,
   ⟨{ via := .ctrl 0 }, ⟨0, ⟨{ up with m.spn.port := vmod up.m.spn.port 0 fun x => { x with st := .up }, m.ctl.ctrlOut := List.replicate 16 default }, by dsimp only; decide +kernel⟩⟩⟩,
   ⟨0, ⟨0, ⟨0, ⟨up, by decide +kernel⟩⟩⟩⟩⟩

/-- States and operands that meet the hypotheses of ResponseFollowsInTheNextFrame. -/
theorem meets_ResponseFollowsInTheNextFrame :
    ∃ m : Mach, ∃ q : Req, ∃ r : Reply, ∃ sck : Nat, ∃ early : Nat, ∃ crc : Byte, q.via = .spi sck crc early :=
  ⟨up.m, ⟨{ via := .spi 0 0 0 }, ⟨default, ⟨0, ⟨0, ⟨0, by decide +kernel⟩⟩⟩⟩⟩⟩

/-- States and operands that meet the hypotheses of SessionResetClearsOneMaster. -/
theorem meets_SessionResetClearsOneMaster :
    ∃ s : State, ∃ k : Master, s.awake :=
  ⟨up, ⟨.spi, by decide +kernel⟩⟩

/-- States and operands that meet the hypotheses of WindowCopiesWords, clause by clause. -/
theorem meets_WindowCopiesWords :
    (∃ len : Fin 16, ∃ s : State, s.awake ∧ s.m.ctl.win.st ≠ 1) ∧
    (∃ len : Fin 16, ∃ s : State, s.m.ctl.win.st = 1) ∧
    (∃ ecc : Option Nat, ∃ s : State, s.m.ctl.win.st ≠ 1) ∧
    (∃ ecc : Option Nat, ∃ s : State, s.awake ∧ s.m.ctl.win.st = 1 ∧ s.m.winFault ≠ 0) ∧
    (∃ ecc : Option Nat, ∃ s : State, s.awake ∧ s.m.ctl.win.st = 1 ∧ s.m.winFault = 0 ∧ s.m.ctl.win.write = true ∧ s.m.ctl.win.len ≤ 16 ∧
      Memory.wf s.m.mem = true) ∧
    (∃ n : Nat, ∃ s : State, s.awake ∧ s.m.ctl.win.st = 1 ∧ s.m.winFault = 0 ∧ s.m.ctl.win.write = false ∧ n < s.m.ctl.win.len ∧
      s.m.ctl.win.len ≤ 16 ∧ swf resetOf s.m.par.landed = true) ∧
    (∃ s : State, s.awake ∧ s.m.ctl.win.st = 1 ∧ s.m.winFault = 0 ∧ s.m.ctl.win.write = false ∧ s.m.ctl.win.len ≤ 16 ∧
      swf resetOf s.m.par.landed = true) :=
  ⟨⟨0, ⟨up, by decide +kernel⟩⟩,
   ⟨0, ⟨{ up with m.ctl.win.st := 1 }, by decide +kernel⟩⟩,
   ⟨none, ⟨up, by decide +kernel⟩⟩,
   ⟨none, ⟨{ up with m.ctl.win.st := 1, m.ctl.win.len := 1, m.ctl.win.addr := 0x30_0000_0000 }, by decide +kernel⟩⟩,
   ⟨none, ⟨{ up with m.ctl.win.st := 1, m.ctl.win.write := true, m.ctl.win.len := 16 }, by decide +kernel⟩⟩,
   ⟨0, ⟨{ up with m.ctl.win.st := 1, m.ctl.win.write := false, m.ctl.win.len := 16, m.ctl.win.addr := 0 }, by decide +kernel⟩⟩,
   ⟨{ up with m.ctl.win.st := 1, m.ctl.win.write := false }, by decide +kernel⟩⟩

/-- States and operands that meet the hypotheses of TimeActionsAreSetAndTaken, clause by clause. -/
theorem meets_TimeActionsAreSetAndTaken :
    (∃ s : State, s.awake ∧ s.m.isMember = false) ∧
    (∃ s : State, s.m.isMember = true) ∧
    (∃ ns : Int, ∃ s : State, s.awake ∧ s.m.tim.action = some (.adj ns) ∧ s.m.running = false) ∧
    (∃ ns : Int, ∃ s : State, s.awake ∧ s.m.tim.action = some (.adj ns) ∧ s.m.running = true) :=
  ⟨⟨up, by decide +kernel⟩,
   ⟨(pv [(0x2900, 1), (0x2901, 1)] up), by decide +kernel⟩,
   ⟨0, ⟨{ up with m.tim.action := some (.adj 0) }, by decide +kernel⟩⟩,
   ⟨0, ⟨{ up with m.tim.action := some (.adj 0), m.qre.st := .running }, by decide +kernel⟩⟩⟩

/-- States and operands that meet the hypotheses of ReferenceStatesChange, clause by clause. -/
theorem meets_ReferenceStatesChange :
    (∃ s : State, s.awake ∧ (s.m.tim.ref = .locked ∨ s.m.tim.ref = .locking)) ∧
    (∃ s : State, s.awake ∧ (s.m.tim.ref = .freerun ∨ s.m.tim.ref = .holdover)) ∧
    (∃ s : State, s.awake ∧ ∃ w, (s.m.tim.ref = .freerun ∨ s.m.tim.ref = .holdover) ∧ s.m.tim.win = some w ∧ w ≤ s.m.tim.beats) ∧
    (∃ s : State, s.awake ∧ s.m.tim.ref = .locking) ∧
    (∃ s : State, s.awake ∧ s.m.tim.ref ≠ .locking) ∧
    (∃ w : Nat, ∃ s : State, s.awake ∧ s.m.tim.win = some w ∧ w + 1024 ≤ s.m.tim.beats ∧
      let free : Prop := s.m.tim.ref = .freerun ∨ s.m.tim.ref = .holdover; free ∧ s.m.tim.qualClean = true ∧ fld (s.m.pval 0x401) 0 2 = 0) ∧
    (∃ w : Nat, ∃ s : State, s.awake ∧ s.m.tim.win = some w ∧ w + 1024 ≤ s.m.tim.beats ∧
      let free : Prop := s.m.tim.ref = .freerun ∨ s.m.tim.ref = .holdover; free ∧ s.m.tim.qualClean = true ∧ fld (s.m.pval 0x401) 0 2 = 0 ∧
      s.m.tim.exhausted = false) ∧
    (∃ w : Nat, ∃ s : State, s.awake ∧ s.m.tim.win = some w ∧ w + 1024 ≤ s.m.tim.beats ∧
      let free : Prop := s.m.tim.ref = .freerun ∨ s.m.tim.ref = .holdover; ∃ missing : Bool, free) ∧
    (∃ w : Nat, ∃ s : State, s.awake ∧ s.m.tim.win = some w ∧ w + 1024 ≤ s.m.tim.beats ∧
      let free : Prop := s.m.tim.ref = .freerun ∨ s.m.tim.ref = .holdover; ∃ met : Option Bool, free) ∧
    (∃ w : Nat, ∃ s : State, s.awake ∧ s.m.tim.win = some w ∧ w + 1024 ≤ s.m.tim.beats ∧ ∃ met : Option Bool, s.m.tim.ref = .locking) ∧
    (∃ w : Nat, ∃ s : State, s.awake ∧ s.m.tim.win = some w ∧ w + 1024 ≤ s.m.tim.beats ∧ s.m.tim.ref = .locking ∧ s.m.tim.qualClean = true) ∧
    (∃ missing : Bool, ∃ met : Option Bool, ∃ s : State, s.m.tim.ref = .locked) ∧
    (∃ missing : Bool, ∃ met : Option Bool, ∃ w : Nat, ∃ s : State, s.m.tim.win = some w ∧ s.m.tim.beats < w + 1024) ∧
    (∃ s : State, s.awake ∧ s.m.tim.ref = .freerun ∧ s.m.tim.absentDone = false) ∧
    (∃ s : State, (s.m.tim.ref ≠ .freerun ∨ s.m.tim.absentDone = true)) :=
  ⟨⟨{ up with m.tim.ref := .locked }, by decide +kernel⟩,
   ⟨{ up with m.tim.ref := .freerun }, by decide +kernel⟩,
   ⟨{ up with m.tim.ref := .freerun, m.tim.win := some default }, ⟨by decide +kernel, ⟨default, by decide +kernel⟩⟩⟩,
   ⟨{ up with m.tim.ref := .locking }, by decide +kernel⟩,
   ⟨up, by decide +kernel⟩,
   ⟨0, ⟨{ up with m.tim.win := some 0, m.tim.qualClean := true, m.tim.beats := 1024, m.tim.ref := .holdover }, by dsimp only; decide +kernel⟩⟩,
   ⟨0, ⟨{ up with m.tim.win := some 0, m.tim.qualClean := true, m.tim.exhausted := false, m.tim.beats := 1024, m.tim.ref := .holdover }, by dsimp only; decide +kernel⟩⟩,
   ⟨0, ⟨{ up with m.tim.win := some 0, m.tim.beats := 1024, m.tim.ref := .holdover }, ⟨by decide +kernel, ⟨by decide +kernel, ⟨by decide +kernel, ⟨false, by dsimp only; decide +kernel⟩⟩⟩⟩⟩⟩,
   ⟨0, ⟨{ up with m.tim.win := some 0, m.tim.beats := 1024, m.tim.ref := .holdover }, ⟨by decide +kernel, ⟨by decide +kernel, ⟨by decide +kernel, ⟨none, by dsimp only; decide +kernel⟩⟩⟩⟩⟩⟩,
   ⟨0, { up with m.tim.win := some 0, m.tim.ref := .locking, m.tim.beats := 1024 }, by decide +kernel, by decide +kernel, by decide +kernel, none, by decide +kernel⟩,
   ⟨0, ⟨{ up with m.tim.win := some 0, m.tim.ref := .locking, m.tim.qualClean := true, m.tim.beats := 1024 }, by decide +kernel⟩⟩,
   ⟨false, ⟨none, ⟨{ up with m.tim.ref := .locked, m.tim.beats := 1024 }, by decide +kernel⟩⟩⟩,
   ⟨false, ⟨none, ⟨0, ⟨{ up with m.tim.win := some 0, m.tim.beats := 1023 }, by decide +kernel⟩⟩⟩⟩,
   ⟨{ up with m.tim.ref := .freerun, m.tim.absentDone := false }, by decide +kernel⟩,
   ⟨up, by decide +kernel⟩⟩

/-- States and operands that meet the hypotheses of CoreRelockRunsItsCourse, clause by clause. -/
theorem meets_CoreRelockRunsItsCourse :
    (∃ s : State, s.awake ∧ s.m.tim.holding = false ∧ s.m.tim.exhausted = false) ∧
    (∃ s : State, s.awake ∧ s.m.tim.holding = false ∧ s.m.tim.exhausted = true) ∧
    (∃ s : State, s.awake ∧ s.m.tim.holding = true) ∧
    (∃ s : State, s.awake ∧ s.m.tim.core.active = true ∧ s.m.tim.core.lock = false ∧ s.m.tim.core.again = false) ∧
    (∃ s : State, (s.m.tim.core.active = false ∨ s.m.tim.core.lock = true ∨ s.m.tim.core.again = true)) ∧
    (∃ s : State, s.awake ∧ s.m.tim.core.active = true ∧ s.m.tim.core.lock = true ∧ s.m.tim.synthAfter = false ∧ s.m.tim.coreCause ≠ 0 ∧
      s.m.tim.synth.active = false ∧ s.m.tim.synthLock = true ∧ s.m.domUp 3 = true ∧ s.m.fe.gating = false ∧ s.m.running = false ∧
      s.m.store.st ≠ .untrained) ∧
    (∃ s : State, s.awake ∧ s.m.tim.core.active = true ∧ s.m.tim.core.lock = true ∧ s.m.tim.synthAfter = true ∧ s.m.domUp 3 = true ∧
      s.m.tim.exhausted = false) ∧
    (∃ s : State, (s.m.tim.core.active = false ∨ s.m.tim.core.lock = false)) ∧
    (∃ t : Tim, ∃ stop : Bool, t.refStopped = false) ∧
    (∃ t : Tim, ∃ stop : Bool, t.refStopped = false ∧ t.holding = false) ∧
    (∃ t : Tim, ∃ stop : Bool, t.refStopped = false ∧ t.holding = true) :=
  ⟨⟨{ up with m.tim.holding := false, m.tim.exhausted := false }, by decide +kernel⟩,
   ⟨{ up with m.tim.holding := false, m.tim.exhausted := true }, by decide +kernel⟩,
   ⟨{ up with m.tim.holding := true }, by decide +kernel⟩,
   ⟨{ up with m.tim.core.active := true, m.tim.core.lock := false, m.tim.core.again := false }, by decide +kernel⟩,
   ⟨{ up with m.tim.core.active := false }, by decide +kernel⟩,
   ⟨{ up with m.tim.core.active := true, m.tim.core.lock := true, m.tim.synthAfter := false, m.tim.synth.active := false, m.tim.synthLock := true, m.fe.gating := false, m.tim.coreCause := 2 }, by decide +kernel⟩,
   ⟨{ up with m.tim.core.active := true, m.tim.core.lock := true, m.tim.synthAfter := true, m.tim.exhausted := false }, by decide +kernel⟩,
   ⟨{ up with m.tim.core.active := false }, by decide +kernel⟩,
   ⟨default, ⟨false, by decide +kernel⟩⟩,
   ⟨{ holding := false }, ⟨false, by decide +kernel⟩⟩,
   ⟨default, ⟨false, by decide +kernel⟩⟩⟩

/-- States and operands that meet the hypotheses of RelocksRetryAndExhaust, clause by clause. -/
theorem meets_RelocksRetryAndExhaust :
    (∃ s : State, s.awake ∧ s.m.tim.synthLock = true ∧ s.m.domUp 3 = true ∧ s.m.tim.exhausted = false ∧ s.m.tim.core.active = false) ∧
    (∃ s : State, s.awake ∧ s.m.tim.synthLock = true ∧ s.m.domUp 3 = true ∧ s.m.tim.exhausted = true) ∧
    (∃ s : State, s.awake ∧ s.m.tim.synth.active = true ∧ s.m.tim.synth.lock = false ∧ s.m.tim.synth.again = false) ∧
    (∃ s : State, (s.m.tim.synth.active = false ∨ s.m.tim.synth.lock = true ∨ s.m.tim.synth.again = true)) ∧
    (∃ s : State, s.awake ∧ s.m.tim.synth.active = true ∧ s.m.tim.synth.lock = true ∧ s.m.running = false) ∧
    (∃ s : State, (s.m.tim.synth.active = false ∨ s.m.tim.synth.lock = false)) ∧
    (∃ s : State, s.m.tim.synthLock = false) ∧
    (∃ s : State, s.awake ∧ s.m.tim.core.active = true ∧ s.m.tim.core.lock = false ∧ s.m.tim.core.again = false) ∧
    (∃ m : Mach, m.tim.core.again = true ∧ m.tim.synth.again = false ∧ m.tim.exhausted = false) ∧
    (∃ s : State, s.awake ∧ s.m.domUp 1 = true ∧ s.m.tim.core.active = false ∧ s.m.tim.synth.active = false ∧ s.m.tim.holding = true) ∧
    (∃ s : State, s.awake ∧ s.m.tim.core.active = true ∧ s.m.tim.core.lock = false ∧ s.m.tim.synth.active = false) ∧
    (∃ s : State, s.awake ∧ s.m.domUp 1 = true ∧ s.m.domUp 3 = true ∧ s.m.tim.core.active = false ∧ s.m.tim.synth.active = false ∧
      s.m.tim.holding = false ∧ s.m.tim.synthLock = false) ∧
    (∃ s : State, s.awake ∧ s.m.tim.core.active = false ∧ s.m.tim.synth.active = false ∧ s.m.tim.holding = false ∧ s.m.tim.synthLock = true) ∧
    (∃ s : State, (s.m.tim.core.active = false ∨ s.m.tim.core.lock = true ∨ s.m.tim.core.again = true)) :=
  ⟨⟨{ up with m.tim.synthLock := true, m.tim.exhausted := false, m.tim.core.active := false }, by decide +kernel⟩,
   ⟨{ up with m.tim.synthLock := true, m.tim.exhausted := true }, by decide +kernel⟩,
   ⟨{ up with m.tim.synth.active := true, m.tim.synth.lock := false, m.tim.synth.again := false }, by decide +kernel⟩,
   ⟨{ up with m.tim.synth.active := false }, by decide +kernel⟩,
   ⟨{ up with m.tim.synth.active := true, m.tim.synth.lock := true }, by decide +kernel⟩,
   ⟨{ up with m.tim.synth.active := false }, by decide +kernel⟩,
   ⟨{ up with m.tim.synthLock := false }, by decide +kernel⟩,
   ⟨{ up with m.tim.core.active := true, m.tim.core.lock := false, m.tim.core.again := false }, by decide +kernel⟩,
   ⟨{ up.m with tim.core.again := true, tim.synth.again := false, tim.exhausted := false }, by decide +kernel⟩,
   ⟨{ up with m.tim.core.active := false, m.tim.synth.active := false, m.tim.holding := true }, by decide +kernel⟩,
   ⟨{ up with m.tim.core.active := true, m.tim.core.lock := false, m.tim.synth.active := false }, by decide +kernel⟩,
   ⟨{ up with m.tim.core.active := false, m.tim.synth.active := false, m.tim.holding := false, m.tim.synthLock := false }, by decide +kernel⟩,
   ⟨{ up with m.tim.core.active := false, m.tim.synth.active := false, m.tim.holding := false, m.tim.synthLock := true }, by decide +kernel⟩,
   ⟨{ up with m.tim.core.active := false }, by decide +kernel⟩⟩

/-- States and operands that meet the hypotheses of PpsEdgesAreCountedAndJudged, clause by clause. -/
theorem meets_PpsEdgesAreCountedAndJudged :
    (∃ s : State, s.awake) ∧
    (∃ h : Nat, ∃ s : State, s.awake ∧ s.m.tim.since = some h ∧ 2000000000 ≤ h + 200000 ∧ h ≤ 2000200000 ∧ s.m.tim.action = some .set ∧
      s.m.running = false ∧ s.m.tim.holding = false ∧ s.m.tim.ref = .locked) :=
  ⟨⟨up, by decide +kernel⟩,
   ⟨1999800000, ⟨{ up with m.tim.since := some 1999800000, m.tim.action := some .set, m.tim.holding := false, m.tim.ref := .locked }, by decide +kernel⟩⟩⟩

/-- States and operands that meet the hypotheses of QuiresArmAndStop, clause by clause. -/
theorem meets_QuiresArmAndStop :
    (∃ s : State, s.awake ∧ s.work = 9 ∧ s.m.volOn = false ∧ s.m.armRefused [(0xC00, 1)] = false ∧ swf resetOf s.m.par.landed = true ∧
      s.m.running = false ∧ s.m.armShed s.m.quireCfg = false ∧ s.m.armFault s.m.quireCfg = 0) ∧
    (∃ s : State, s.awake ∧ s.work = 9 ∧ s.m.volOn = false ∧ s.m.armRefused [(0xC00, 1)] = false ∧ swf resetOf s.m.par.landed = true ∧
      s.m.running = false ∧ s.m.armShed s.m.quireCfg = false ∧ s.m.armFault s.m.quireCfg ≠ 0) ∧
    (∃ s : State, s.awake ∧ s.work = 9 ∧ s.m.volOn = false ∧ s.m.armRefused [(0xC00, 1)] = false ∧ swf resetOf s.m.par.landed = true ∧
      s.m.running = true) ∧
    (∃ s : State, s.awake ∧ s.work = 9 ∧ s.m.volOn = false ∧ s.m.armRefused [(0xC00, 1)] = false ∧ swf resetOf s.m.par.landed = true ∧
      s.m.armShed s.m.quireCfg = true) ∧
    (∃ s : State, s.awake ∧ s.work < 5 ∧ s.m.isMember = false ∧ s.m.armRefused [(0xC00, 1)] = false) ∧
    (∃ s : State, (s.m.isMember = true ∨ s.m.armRefused [(0xC00, 1)] = true)) ∧
    (∃ s : State, s.awake ∧ s.m.qre.armPending = true ∧ s.m.running = true) ∧
    (∃ s : State, s.awake ∧ s.m.qre.armPending = true ∧ s.m.running = false) ∧
    (∃ s : State, s.m.qre.armPending = false) ∧
    (∃ s : State, s.awake ∧ s.m.isMember = false ∧ s.m.qre.st = .running ∧ s.m.qre.cur.isSome = true) ∧
    (∃ s : State, s.awake ∧ s.m.isMember = false ∧ s.m.qre.st = .running ∧ s.m.qre.cur = none) ∧
    (∃ s : State, s.awake ∧ s.m.isMember = false ∧ s.m.running = true) ∧
    (∃ s : State, s.awake ∧ s.m.isMember = false ∧ s.m.running = false ∧ s.m.vol.arm = none) :=
  ⟨⟨{ up with work := 9 }, by decide +kernel⟩,
   ⟨(pv [(0xC03, 0)] { up with work := 9 }), by decide +kernel⟩,
   ⟨{ up with work := 9, m.qre.st := .running }, by decide +kernel⟩,
   ⟨{ up with work := 9, m.pwr.stage := 4, m.par.quire := [(0x840, 2)] }, by decide +kernel⟩,
   ⟨{ up with work := 4 }, by decide +kernel⟩,
   ⟨(pv [(0x2900, 1), (0x2901, 1)] up), by decide +kernel⟩,
   ⟨{ up with m.qre.armPending := true, m.qre.st := .running }, by decide +kernel⟩,
   ⟨{ up with m.qre.armPending := true }, by decide +kernel⟩,
   ⟨{ up with m.qre.armPending := false }, by decide +kernel⟩,
   ⟨{ up with m.qre.st := .running, m.qre.cur := some default }, by decide +kernel⟩,
   ⟨{ up with m.qre.st := .running, m.qre.cur := none }, by decide +kernel⟩,
   ⟨{ up with m.qre.st := .running }, by decide +kernel⟩,
   ⟨{ up with m.vol.arm := none }, by decide +kernel⟩⟩

/-- States and operands that meet the hypotheses of FoliosAreStored, clause by clause. -/
theorem meets_FoliosAreStored :
    (∃ f : Folio, ∃ s : State, s.awake ∧ s.m.qre.cur = some f ∧ s.m.running = true) ∧
    (∃ s : State, s.m.qre.cur = none) ∧
    (∃ m : Mach, ∃ f : Folio, ∃ a : Nat, f.held ≤ 64 * f.cfg.gran ∧ (a < f.addr + 64 ∨ f.addr + f.cfg.slotSize ≤ a)) ∧
    (∃ f : Folio, ∃ s : State, s.awake ∧ s.m.qre.pend = [f] ∧ f.beat2 < s.m.tim.beats ∧ f.qid = s.m.qre.qid ∧ s.m.qre.st = .closed ∧
      Memory.wf s.m.mem = true) :=
  ⟨⟨default, ⟨{ up with m.qre.cur := some default, m.qre.st := .running }, by decide +kernel⟩⟩,
   ⟨{ up with m.qre.cur := none }, by decide +kernel⟩,
   ⟨up.m, ⟨default, ⟨0, by decide +kernel⟩⟩⟩,
   ⟨default, ⟨{ up with m.qre.pend := [default], m.qre.st := .closed }, by decide +kernel⟩⟩⟩

/-- States and operands that meet the hypotheses of ReleaseOverflowAndTaking, clause by clause. -/
theorem meets_ReleaseOverflowAndTaking :
    (∃ v : Word, ∃ s : State, s.awake ∧ valueOk 0xC0D v = true ∧ s.m.qre.releasable = []) ∧
    (∃ held : Nat, ∃ s : State, s.awake ∧ s.m.running = true) ∧
    (∃ held : Nat, ∃ s : State, s.m.running = false) ∧
    (∃ s : State, s.awake ∧ s.m.running = false ∧ s.m.cal.st ≠ .running) ∧
    (∃ s : State, s.m.running = true) :=
  ⟨⟨1, ⟨{ up with m.qre.releasable := [] }, by decide +kernel⟩⟩,
   ⟨0, ⟨{ up with m.qre.st := .running }, by decide +kernel⟩⟩,
   ⟨0, ⟨up, by decide +kernel⟩⟩,
   ⟨up, by decide +kernel⟩,
   ⟨{ up with m.qre.st := .running }, by decide +kernel⟩⟩

/-- States and operands that meet the hypotheses of PowerStagesAndDomainsSwitch, clause by clause. -/
theorem meets_PowerStagesAndDomainsSwitch :
    (∃ r : Fin 9, ∃ samples : List Nat, ∃ s : State, s.awake ∧ let run := samples.take (s.m.pnat 0x50B);
      let on (k : Nat) : Bool := decide (5 ≤ k) || bitOf (s.m.pval 0x503) (k - 1);
      let top := ((List.range 7).filter fun k => k != 0 && s.m.railOn r.val && on k && decide (run.length = s.m.pnat 0x50B) && run.all fun mv => decide (1000 * mv < s.m.threshold r.val k)).getLastD 0;
      top ≤ s.m.pwr.stage) ∧
    (∃ r : Fin 9, ∃ samples : List Nat, ∃ s : State, s.awake ∧ let run := samples.take (s.m.pnat 0x50B);
      let on (k : Nat) : Bool := decide (5 ≤ k) || bitOf (s.m.pval 0x503) (k - 1);
      let top := ((List.range 7).filter fun k => k != 0 && s.m.railOn r.val && on k && decide (run.length = s.m.pnat 0x50B) && run.all fun mv => decide (1000 * mv < s.m.threshold r.val k)).getLastD 0;
      s.m.pwr.stage < top) ∧
    (∃ s : State, s.awake ∧ s.m.tim.clk = 0 ∧ s.m.pwr.hold = false) ∧
    (∃ s : State, (s.m.pwr.hold = true ∨ s.m.tim.clk ≠ 0)) ∧
    (∃ s : State, s.awake ∧ s.m.pwr.hold = true ∧ s.m.recovered 4 = true ∧ s.m.tim.clk = 0) ∧
    (∃ s : State, s.awake ∧ s.m.pwr.hold = true ∧ s.m.recovered 4 = true ∧ s.m.tim.clk ≠ 0) ∧
    (∃ s : State, (s.m.pwr.hold = false ∨ s.m.recovered 4 = false)) ∧
    (∃ k : Master, ∃ v : Word, ∃ s : State, s.m.domRefused k v = true) ∧
    (∃ k : Master, ∃ v : Word, ∃ s : State, s.awake ∧ s.m.domRefused k v = false ∧ valueOk 0x501 v = true ∧
      swf resetOf s.m.par.landed = true ∧ s.m.running = false ∧ s.m.dec.waiting = false) ∧
    (∃ d : Fin 8, ∃ s : State, s.awake ∧ s.m.pwr.dom[d] = .switching) ∧
    (∃ d : Fin 8, ∃ s : State, s.m.pwr.dom[d] ≠ .switching) ∧
    (∃ s : State, s.awake ∧
      let back (d : Nat) : Bool := s.m.pwr.heldOff.getLsbD d && (domRails d).all fun r => vget (vget s.m.pwr.rails r).above 0 == 64;
      (List.range 8).any back = false) ∧
    (∃ s : State, s.awake ∧
      let back (d : Nat) : Bool := s.m.pwr.heldOff.getLsbD d && (domRails d).all fun r => vget (vget s.m.pwr.rails r).above 0 == 64;
      s.m.pwr.checked = 255 ∧ (List.range 8).any back = true) :=
  ⟨⟨0, ⟨[], ⟨up, by dsimp only; decide +kernel⟩⟩⟩,
   ⟨0, ⟨List.replicate 16 0, ⟨up, by dsimp only; decide +kernel⟩⟩⟩,
   ⟨{ up with m.tim.clk := 0, m.pwr.hold := false, m.pwr.rails := Vector.replicate 9 { above := Vector.replicate 6 64 } }, by decide +kernel⟩,
   ⟨{ up with m.pwr.hold := true }, by decide +kernel⟩,
   ⟨{ up with m.pwr.hold := true, m.tim.clk := 0, m.pwr.rails := Vector.replicate 9 { above := Vector.replicate 6 64 } }, by decide +kernel⟩,
   ⟨{ up with m.pwr.hold := true, m.pwr.rails := Vector.replicate 9 { above := Vector.replicate 6 64 }, m.pwr.stage := 4, m.tim.clk := 1 }, by decide +kernel⟩,
   ⟨{ up with m.pwr.hold := false }, by decide +kernel⟩,
   ⟨.spi, ⟨0, ⟨up, by decide +kernel⟩⟩⟩,
   ⟨.spi, ⟨0xFF, ⟨{ up with m.dec.waiting := false }, by decide +kernel⟩⟩⟩,
   ⟨0, ⟨{ up with m.pwr.dom := vset up.m.pwr.dom 0 .switching }, by decide +kernel⟩⟩,
   ⟨0, ⟨up, by decide +kernel⟩⟩,
   ⟨up, by dsimp only; decide +kernel⟩,
   ⟨{ up with m.pwr.checked := 255, m.pwr.heldOff := 2, m.pwr.rails := Vector.replicate 9 { above := Vector.replicate 6 64 } }, by dsimp only; decide +kernel⟩⟩

/-- States and operands that meet the hypotheses of MemoryTrainsAndRests, clause by clause. -/
theorem meets_MemoryTrainsAndRests :
    (∃ s : State, s.awake ∧ s.m.domUp 4 = true ∧ s.m.store.st = .untrained ∧ s.m.boot.step4 = true ∧ s.m.boot.onPll = true) ∧
    (∃ s : State, (s.m.domUp 4 = false ∨ s.m.store.st ≠ .untrained ∨ s.m.boot.step4 = false ∨ s.m.boot.onPll = false)) ∧
    (∃ s : State, s.awake ∧ s.m.domUp 4 = true ∧ s.m.running = false ∧ s.m.dec.waiting = false ∧ swf resetOf s.m.par.landed = true ∧
      s.m.par.quire.lookup 0xC43 = none ∧ s.m.par.frame.lookup 0xC43 = none) ∧
    (∃ ws : List (Fin 4 × Fin 15 × Word), ∃ s : State, s.awake ∧ s.m.store.st = .training) ∧
    (∃ step : Nat, ∃ subs : BitVec 4, ∃ ws : List (Fin 4 × Fin 15 × Word), ∃ s : State, s.awake ∧ s.m.store.st = .training) ∧
    (∃ o : TrainObs, ∃ s : State, s.m.store.st ≠ .training) ∧
    (∃ s : State, s.awake ∧ s.m.ddrUp = true ∧ s.m.store.selfRef = false) ∧
    (∃ s : State, s.awake ∧ s.m.ddrUp = true ∧ s.m.store.selfRef = false ∧ ∃ c : Fin 4, True) ∧
    (∃ s : State, s.awake ∧ s.m.ddrUp = true ∧ s.m.store.selfRef = false ∧ s.m.tolerant = true ∧ s.m.store.accessed = false) ∧
    (∃ s : State, s.awake ∧ s.m.ddrUp = true ∧ s.m.store.selfRef = false ∧ (s.m.tolerant = false ∨ s.m.store.accessed = true)) ∧
    (∃ s : State, (s.m.ddrUp = false ∨ s.m.store.selfRef = true)) ∧
    (∃ s : State, s.awake ∧ s.m.store.selfRef = true ∧ s.m.ddrUp = true) ∧
    (∃ s : State, (s.m.store.selfRef = false ∨ s.m.ddrUp = false)) ∧
    (∃ s : State, s.m.running = true) :=
  ⟨⟨{ up with m.store.st := .untrained, m.boot.step4 := true, m.boot.onPll := true }, by decide +kernel⟩,
   ⟨{ up with m.pwr.dom := vset up.m.pwr.dom 4 .off }, by decide +kernel⟩,
   ⟨{ up with m.dec.waiting := false }, by decide +kernel⟩,
   ⟨[], ⟨{ up with m.store.st := .training }, by decide +kernel⟩⟩,
   ⟨0, ⟨0, ⟨[], ⟨{ up with m.store.st := .training }, by decide +kernel⟩⟩⟩⟩,
   ⟨default, ⟨up, by decide +kernel⟩⟩,
   ⟨{ up with m.store.selfRef := false }, by decide +kernel⟩,
   ⟨{ up with m.store.selfRef := false }, ⟨by decide +kernel, ⟨by decide +kernel, ⟨by decide +kernel, ⟨3, trivial⟩⟩⟩⟩⟩,
   ⟨{ up with m.store.selfRef := false, m.store.accessed := false }, by decide +kernel⟩,
   ⟨{ up with m.store.selfRef := false, m.store.accessed := true }, by decide +kernel⟩,
   ⟨{ up with m.store.st := .untrained }, by decide +kernel⟩,
   ⟨{ up with m.store.selfRef := true }, by decide +kernel⟩,
   ⟨{ up with m.store.selfRef := false }, by decide +kernel⟩,
   ⟨{ up with m.qre.st := .running }, by decide +kernel⟩⟩

/-- States and operands that meet the hypotheses of ForegroundCalibrationPassesOrFails, clause by clause. -/
theorem meets_ForegroundCalibrationPassesOrFails :
    (∃ b : Nat, ∃ s : State, s.awake ∧ s.m.fe.cal = .notRun ∧ s.m.boot.baseInUse = true ∧ s.m.tim.core.active = false ∧
      s.m.tim.synth.active = false ∧ s.m.tim.slices = true ∧ s.m.domUp 3 = true ∧ s.m.domUp 2 = true ∧ s.m.pwr.in34Down = false ∧
      s.m.fe.dacAt = some b ∧ b ≤ s.m.tim.beats) ∧
    (∃ s : State, (s.m.fe.cal ≠ .notRun ∨ s.m.boot.baseInUse = false ∨ s.m.tim.core.active = true ∨ s.m.tim.synth.active = true ∨ s.m.tim.slices = false ∨ s.m.domUp 3 = false ∨ s.m.domUp 2 = false ∨ s.m.pwr.in34Down = true ∨ s.m.fe.dacAt = none)) ∧
    (∃ m : Mach, ∃ o : List (Fin 256 × Int × Nat), m.fe.cal = .running ∧ m.fe.meas ≤ 24 ∧ m.fe.measFrom + 16256 ≤ m.tim.beats ∧
      (m.departs o = false ∨ m.fe.repeated = true)) ∧
    (∃ m : Mach, ∃ o : List (Fin 256 × Int × Nat), m.fe.cal = .running ∧ m.fe.meas ≤ 24 ∧ m.fe.measFrom + 16256 ≤ m.tim.beats ∧
      m.departs o = true ∧ m.fe.repeated = false) ∧
    (∃ m : Mach, ∃ o : List (Fin 256 × Int × Nat), (m.fe.cal ≠ .running ∨ m.tim.beats < m.fe.measFrom + 16256)) ∧
    (∃ obs : List SliceObs, ∃ s : State, s.awake ∧ s.m.fe.cal = .running ∧ 24 < s.m.fe.meas ∧
      let fig (n : Nat) : SliceFig := ((obs.find? fun o => o.n.val == n).map fun o => ({ ofs := o.ofs, gain := o.gain, noise := o.noise, lin := o.lin } : SliceFig)).getD {};
      let bad := (List.range 256).filter fun n => s.m.slicePowered n && (fig n).fault.isSome; bad = []) ∧
    (∃ obs : List SliceObs, ∃ s : State, s.awake ∧ s.m.fe.cal = .running ∧ 24 < s.m.fe.meas ∧
      let fig (n : Nat) : SliceFig := ((obs.find? fun o => o.n.val == n).map fun o => ({ ofs := o.ofs, gain := o.gain, noise := o.noise, lin := o.lin } : SliceFig)).getD {};
      let bad := (List.range 256).filter fun n => s.m.slicePowered n && (fig n).fault.isSome; bad ≠ []) ∧
    (∃ obs : List SliceObs, ∃ s : State, (s.m.fe.cal ≠ .running ∨ s.m.fe.meas ≤ 24)) :=
  ⟨⟨0, ⟨{ up with m.fe.cal := .notRun, m.boot.baseInUse := true, m.tim.core.active := false, m.tim.synth.active := false, m.tim.slices := true, m.pwr.in34Down := false, m.fe.dacAt := some 0 }, by decide +kernel⟩⟩,
   ⟨up, by decide +kernel⟩,
   ⟨{ up.m with fe.cal := .running, tim.beats := 16256 }, ⟨[], by decide +kernel⟩⟩,
   ⟨{ up.m with fe.cal := .running, fe.repeated := false, tim.beats := 16257, fe.meas := 24, fe.prior := [(24, [(255, 1)])] }, ⟨[], by decide +kernel⟩⟩,
   ⟨up.m, ⟨[], by decide +kernel⟩⟩,
   ⟨[{ n := 255, noise := 128 }], ⟨{ up with m.fe.cal := .running, m.fe.meas := 25 }, by dsimp only; decide +kernel⟩⟩,
   ⟨[{ n := 255, noise := 129 }], ⟨{ up with m.fe.cal := .running, m.fe.meas := 25 }, by dsimp only; decide +kernel⟩⟩,
   ⟨[], ⟨up, by decide +kernel⟩⟩⟩

/-- States and operands that meet the hypotheses of OverloadSettlingAndModeRestart, clause by clause. -/
theorem meets_OverloadSettlingAndModeRestart :
    (∃ k : Fin 4, ∃ p : Int, ∃ n : Int, ∃ s : State, s.awake ∧ s.m.fe.front[k].powered = true ∧ s.m.fe.front[k].firing = false ∧
      s.m.overloads k.val p n = true) ∧
    (∃ k : Fin 4, ∃ p : Int, ∃ n : Int, ∃ s : State, s.awake ∧ s.m.fe.front[k].firing = true ∧
      (s.m.fe.front[k].powered = false ∨ s.m.overloads k.val p n = false)) ∧
    (∃ k : Fin 4, ∃ p : Int, ∃ n : Int, ∃ s : State, (s.m.fe.front[k].powered && s.m.overloads k.val p n) = s.m.fe.front[k].firing) ∧
    (∃ k : Fin 4, ∃ s : State, s.awake ∧ s.m.fe.front[k].firing = false) ∧
    (∃ k : Fin 4, ∃ s : State, s.m.fe.front[k].firing = true) ∧
    (∃ s : State, s.awake) ∧
    (∃ s : State, s.awake ∧ s.m.fe.gating = true ∧ s.m.fe.restartAt ≤ s.m.tim.beats ∧ s.m.domUp 3 = true ∧ s.m.tim.synthLock = true ∧
      s.m.tim.core.active = false ∧ s.m.tim.synth.active = false ∧ s.m.running = false) ∧
    (∃ s : State, s.awake ∧ s.m.fe.gating = true ∧ s.m.fe.restartAt ≤ s.m.tim.beats ∧
      (s.m.domUp 3 = false ∨ s.m.tim.synthLock = false ∨ s.m.tim.core.active = true ∨ s.m.tim.synth.active = true)) ∧
    (∃ s : State, (s.m.fe.gating = false ∨ s.m.tim.beats < s.m.fe.restartAt)) :=
  ⟨⟨3, ⟨850000000001, ⟨0, ⟨{ up with m.fe.front := vmod up.m.fe.front 3 fun x => { x with powered := true, firing := false } }, by decide +kernel⟩⟩⟩⟩,
   ⟨0, ⟨0, ⟨0, ⟨{ up with m.fe.front := vmod up.m.fe.front 0 fun x => { x with firing := true, powered := false } }, by decide +kernel⟩⟩⟩⟩,
   ⟨0, ⟨0, ⟨0, ⟨up, by decide +kernel⟩⟩⟩⟩,
   ⟨3, ⟨{ up with m.fe.front := vmod up.m.fe.front 3 fun x => { x with firing := false } }, by decide +kernel⟩⟩,
   ⟨0, ⟨{ up with m.fe.front := vmod up.m.fe.front 0 fun x => { x with firing := true } }, by decide +kernel⟩⟩,
   ⟨up, by decide +kernel⟩,
   ⟨{ up with m.fe.gating := true, m.tim.synthLock := true, m.tim.core.active := false, m.tim.synth.active := false, m.fe.restartAt := 1 }, by decide +kernel⟩,
   ⟨{ up with m.fe.gating := true, m.pwr.dom := vset up.m.pwr.dom 3 .off }, by decide +kernel⟩,
   ⟨{ up with m.fe.gating := false }, by decide +kernel⟩⟩

/-- States and operands that meet the hypotheses of TrimBlocksFormSets, clause by clause. -/
theorem meets_TrimBlocksFormSets :
    (∃ o : BlockObs, ∃ s : State, s.awake ∧ s.m.trm.st = .unsettled ∧ s.m.tim.slices = true ∧ s.m.trm.bad = false ∧ s.m.blockFoul = false) ∧
    (∃ m : Mach, ∃ k : Nat, ∃ f : Nat → Coef, ((List.range 256).any fun n => inputOfSlice m.fe.mode n == k && m.slicePowered n) = true) ∧
    (∃ o : BlockObs, ∃ s : State, s.awake ∧ (s.m.trm.st = .unsettled ∨ s.m.trm.st = .settled) ∧ s.m.tim.slices = true ∧
      (s.m.trm.bad = true ∨ s.m.blockFoul = true)) ∧
    (∃ o : BlockObs, ∃ s : State, (s.m.trm.st = .idle ∨ s.m.trm.st = .held ∨ s.m.tim.slices = false)) ∧
    (∃ s : State, s.awake ∧ s.m.trm.pending.isSome = true ∧ bitOf (s.m.use 0x880) 1 = true ∧ s.m.useN 0x882 ≤ s.m.trm.wait) ∧
    (∃ s : State, (s.m.trm.pending = none ∨ bitOf (s.m.use 0x880) 1 = false ∨ s.m.trm.wait < s.m.useN 0x882)) ∧
    (∃ m : Mach, ∃ p : Pending, m.trm.pending = some p ∧ m.qre.cur = none ∧ m.trm.landedAt ≠ some m.tim.beats) ∧
    (∃ m : Mach, (m.trm.pending = none ∨ m.qre.cur.isSome = true ∨ m.trm.landedAt = some m.tim.beats)) :=
  ⟨⟨default, ⟨{ up with m.trm.st := .unsettled, m.tim.slices := true, m.trm.bad := false, m.mnt.st := .pilot }, by decide +kernel⟩⟩,
   ⟨up.m, ⟨0, ⟨default, by decide +kernel⟩⟩⟩,
   ⟨default, ⟨{ up with m.trm.st := .unsettled, m.tim.slices := true, m.trm.bad := true }, by decide +kernel⟩⟩,
   ⟨default, ⟨{ up with m.trm.st := .idle }, by decide +kernel⟩⟩,
   ⟨(pv [(0x880, 2), (0x882, 8)] { up with m.trm.pending := some default, m.trm.wait := 8 }), by decide +kernel⟩,
   ⟨{ up with m.trm.pending := none }, by decide +kernel⟩,
   ⟨{ up.m with trm.pending := some default, qre.cur := none }, ⟨default, by decide +kernel⟩⟩,
   ⟨{ up.m with trm.pending := none }, by decide +kernel⟩⟩

/-- States and operands that meet the hypotheses of MintAppliesAndSpansChange, clause by clause. -/
theorem meets_MintAppliesAndSpansChange :
    (∃ s : State, s.awake ∧ s.m.cal.st ≠ .running) ∧
    (∃ s : State, s.awake ∧ s.m.mnt.phase = .hold ∧ s.m.cal.st ≠ .running ∧ (s.m.mnt.st = .static ∨ s.m.mnt.st = .play)) ∧
    (∃ s : State, s.awake ∧ s.m.mnt.phase = .hold) ∧
    (∃ s : State, s.awake ∧ s.m.mnt.phase = .switched ∧ s.m.mnt.st = .static ∧ (s.m.mintCopy).mintState = .static ∧ s.m.mnt.stopped = false ∧
      s.m.cal.st ≠ .running ∧ s.m.mnt.span = BitVec.ofNat 2 (s.m.pnat 0x902) ∧ s.m.mnt.opened = false) ∧
    (∃ s : State, s.m.mnt.phase ≠ .hold) ∧
    (∃ s : State, s.m.mnt.phase ≠ .switched) ∧
    (∃ v : Word, ∃ s : State, s.awake) :=
  ⟨⟨up, by decide +kernel⟩,
   ⟨{ up with m.mnt.phase := .hold, m.mnt.st := .static }, by decide +kernel⟩,
   ⟨{ up with m.mnt.phase := .hold }, by decide +kernel⟩,
   ⟨{ up with m.mnt.phase := .switched, m.mnt.st := .static, m.mnt.due := false, m.mnt.released := true, m.mnt.stopped := false }, by decide +kernel⟩,
   ⟨up, by decide +kernel⟩,
   ⟨up, by decide +kernel⟩,
   ⟨0, ⟨up, by decide +kernel⟩⟩⟩

/-- States and operands that meet the hypotheses of MintPlaysAndTrips, clause by clause. -/
theorem meets_MintPlaysAndTrips :
    (∃ s : State, s.awake ∧ s.m.mnt.loading = true ∧ s.m.ddrUp = true ∧ let len := s.m.pnat 0x906;
      let a := s.m.pnat 0x905 * 2 ^ 32 + s.m.pnat 0x904; s.m.inDdr a (2 * len) = true) ∧
    (∃ s : State, s.awake ∧ s.m.mnt.loading = true ∧ s.m.ddrUp = true ∧ let len := s.m.pnat 0x906;
      let a := s.m.pnat 0x905 * 2 ^ 32 + s.m.pnat 0x904; ∃ bad, (bad = true ∨ s.m.inDdr a (2 * len) = false)) ∧
    (∃ bad : Bool, ∃ s : State, s.m.mnt.loading = false) ∧
    (∃ s : State, s.awake ∧ s.m.mnt.st = .play ∧ s.m.mnt.loaded = true ∧ s.m.mnt.loading = false ∧ s.m.mnt.playing = false ∧
      s.m.mintClock = true) ∧
    (∃ s : State, s.awake ∧ s.m.mnt.st = .play ∧ s.m.mnt.playing = true ∧ s.m.mintClock = true) ∧
    (∃ s : State, (s.m.mnt.loaded = false ∨ s.m.mnt.loading = true ∨ s.m.mnt.playing = true)) ∧
    (∃ s : State, s.m.mnt.playing = false) ∧
    (∃ s : State, (s.m.mnt.st ≠ .play ∨ s.m.mintClock = false)) ∧
    (∃ points : BitVec 3, ∃ s : State, s.awake ∧ s.m.mnt.st ≠ .off ∧ s.m.mnt.opened = false ∧ s.m.domUp 7 = true) ∧
    (∃ points : BitVec 3, ∃ s : State, (s.m.mnt.st = .off ∨ s.m.mnt.opened = true)) ∧
    (∃ s : State, s.awake ∧ s.m.mnt.st = .forced ∧ s.m.mnt.comply.getLsbD 0 = true ∧ s.m.mnt.opened = false) ∧
    (∃ s : State, (s.m.mnt.st ≠ .forced ∨ s.m.mnt.opened = true ∨ s.m.mnt.comply.getLsbD 0 = false)) :=
  ⟨⟨{ up with m.mnt.loading := true }, by dsimp only; decide +kernel⟩,
   ⟨{ up with m.mnt.loading := true }, ⟨by decide +kernel, ⟨by decide +kernel, ⟨by decide +kernel, ⟨true, by dsimp only; decide +kernel⟩⟩⟩⟩⟩,
   ⟨false, ⟨{ up with m.mnt.loading := false }, by decide +kernel⟩⟩,
   ⟨{ up with m.mnt.st := .play, m.mnt.loaded := true, m.mnt.loading := false, m.mnt.playing := false, m.mnt.stopped := false }, by decide +kernel⟩,
   ⟨{ up with m.mnt.st := .play, m.mnt.playing := true, m.mnt.stopped := false }, by decide +kernel⟩,
   ⟨{ up with m.mnt.loaded := false }, by decide +kernel⟩,
   ⟨{ up with m.mnt.playing := false }, by decide +kernel⟩,
   ⟨up, by decide +kernel⟩,
   ⟨1, ⟨{ up with m.mnt.opened := false, m.mnt.st := .static }, by decide +kernel⟩⟩,
   ⟨0, ⟨{ up with m.mnt.st := .off }, by decide +kernel⟩⟩,
   ⟨{ up with m.mnt.st := .forced, m.mnt.opened := false, m.mnt.comply := 1 }, by decide +kernel⟩,
   ⟨up, by decide +kernel⟩⟩

/-- States and operands that meet the hypotheses of DetectionsAreCounted, clause by clause. -/
theorem meets_DetectionsAreCounted :
    (∃ obs : List Obs, ∃ s : State, s.awake) ∧
    (∃ obs : List Obs, ∃ s : State, s.awake ∧ (s.m.detectAll obs).2.1 = []) ∧
    (∃ obs : List Obs, ∃ s : State, (s.m.detectAll obs).2.1 ≠ []) ∧
    (∃ s : State, s.awake) ∧
    (∃ b : Nat, ∃ s : State, s.awake ∧ s.m.trg.auxHold = some b ∧ b ≤ s.m.tim.beats) ∧
    (∃ b : Nat, ∃ s : State, s.awake ∧ s.m.trg.auxHold = some b ∧ s.m.tim.beats < b) ∧
    (∃ v : BitVec 4, ∃ s : State, s.awake ∧ s.m.running = false) ∧
    (∃ v : BitVec 4, ∃ s : State, s.awake ∧ s.m.running = true) ∧
    (∃ s : State, s.m.trg.auxHold = none) :=
  ⟨⟨[], ⟨up, by decide +kernel⟩⟩,
   ⟨[], ⟨up, by decide +kernel⟩⟩,
   ⟨[.aux 1000000000000 false 0 0], ⟨(pv [(0xA03, 1), (0x1800, 0x1B)] { up with m.trg.entries := vmod up.m.trg.entries 0 fun x => { x with a := .low } }), by decide +kernel⟩⟩,
   ⟨up, by decide +kernel⟩,
   ⟨1, ⟨{ up with m.trg.auxHold := some 1 }, by decide +kernel⟩⟩,
   ⟨2, ⟨{ up with m.trg.auxHold := some 2 }, by decide +kernel⟩⟩,
   ⟨0, ⟨up, by decide +kernel⟩⟩,
   ⟨0, ⟨{ up with m.qre.st := .running }, by decide +kernel⟩⟩,
   ⟨{ up with m.trg.auxHold := none }, by decide +kernel⟩⟩

/-- States and operands that meet the hypotheses of TriggersAreAcceptedOrRejected, clause by clause. -/
theorem meets_TriggersAreAcceptedOrRejected :
    (∃ m : Mach, ∃ d : Detection, ∃ mask : BitVec 64, m.qre.cfg.volume = false ∧ m.running = false) ∧
    (∃ m : Mach, ∃ d : Detection, ∃ mask : BitVec 64, m.qre.cfg.volume = false ∧ m.qre.st = .running ∧
      m.qre.cfg.trigIndex d.inst < m.qre.lastEnd) ∧
    (∃ m : Mach, ∃ d : Detection, ∃ mask : BitVec 64, m.qre.cfg.volume = false ∧ m.qre.st = .running ∧
      m.qre.lastEnd ≤ m.qre.cfg.trigIndex d.inst ∧ m.qre.cur = none ∧
      let m1 : Mach := { m with trg := { m.trg with holdCnt := min (m.trg.holdCnt + 1) (2 ^ 25 - 1) } }; m1.holdoffOver d.stamp = false) ∧
    (∃ m : Mach, ∃ d : Detection, ∃ mask : BitVec 64, m.qre.cfg.volume = false ∧ m.qre.st = .running ∧
      m.qre.lastEnd ≤ m.qre.cfg.trigIndex d.inst ∧ m.qre.cur = none ∧
      let m1 : Mach := { m with trg := { m.trg with holdCnt := min (m.trg.holdCnt + 1) (2 ^ 25 - 1) } }; m1.holdoffOver d.stamp = true ∧
      m.trg.credits = 0) ∧
    (∃ m : Mach, ∃ d : Detection, ∃ mask : BitVec 64, m.qre.cfg.volume = false ∧ m.qre.st = .running ∧
      m.qre.lastEnd ≤ m.qre.cfg.trigIndex d.inst ∧ m.qre.cur = none ∧
      let m1 : Mach := { m with trg := { m.trg with holdCnt := min (m.trg.holdCnt + 1) (2 ^ 25 - 1) } }; m1.holdoffOver d.stamp = true ∧
      0 < m.trg.credits) :=
  ⟨⟨{ up.m with qre.cfg.volume := false }, ⟨{ entry := 0, src := 0, stamp := 0, inst := 0 }, ⟨0, by decide +kernel⟩⟩⟩,
   ⟨{ up.m with qre.cfg.volume := false, qre.st := .running, qre.lastEnd := 1 }, ⟨{ entry := 0, src := 0, stamp := 0, inst := 0 }, ⟨0, by decide +kernel⟩⟩⟩,
   ⟨(pvm [(0xA20, 1)] { up.m with qre.cfg.volume := false, qre.st := .running, qre.cur := none, trg.lastAcc := some 0 }), ⟨{ entry := 0, src := 0, stamp := 0, inst := 0 }, ⟨0, by dsimp only; decide +kernel⟩⟩⟩,
   ⟨{ up.m with qre.cfg.volume := false, qre.st := .running, qre.cur := none, trg.credits := 0, trg.holdCnt := 0 }, ⟨{ entry := 0, src := 0, stamp := 0, inst := 0 }, ⟨0, by dsimp only; decide +kernel⟩⟩⟩,
   ⟨{ up.m with qre.cfg.volume := false, qre.st := .running, qre.cur := none, trg.credits := 1 }, ⟨{ entry := 0, src := 0, stamp := 0, inst := 0 }, ⟨0, by dsimp only; decide +kernel⟩⟩⟩⟩

/-- States and operands that meet the hypotheses of LedgerAccumulatesFolios, clause by clause. -/
theorem meets_LedgerAccumulatesFolios :
    (∃ bad : Bool, ∃ ecc : Option Nat, ∃ r : LdgRef, ∃ rest : List LdgRef, ∃ s : State, s.awake ∧ s.m.ldg.backlog = r :: rest ∧
      s.m.ldg.busy = none ∧ s.m.ldg.closeReq = false ∧ s.m.stageOn 3 = false ∧ s.m.ddrUp = true) ∧
    (∃ bad : Bool, ∃ ecc : Option Nat, ∃ s : State, (s.m.ldg.backlog = [] ∨ s.m.ldg.busy.isSome = true ∨ s.m.stageOn 3 = true ∨ s.m.ddrUp = false)) ∧
    (∃ b : LdgBusy, ∃ p : Fin 2, ∃ ecc : Option Nat, ∃ s : State, s.awake ∧ s.m.ldg.busy = some b ∧ b.page = some p.val ∧
      s.m.stageOn 3 = false) ∧
    (∃ b : LdgBusy, ∃ h : Nat × Nat × Nat × Int × Nat, ∃ s : State, s.awake ∧ s.m.ldg.busy = some b ∧ b.page = none ∧ b.hist = some h ∧
      s.m.stageOn 3 = false ∧ s.m.ldg.closeReq = false ∧ s.m.ldg.ends = []) ∧
    (∃ s : State, (s.m.ldg.busy = none ∨ s.m.stageOn 3 = true)) ∧
    (∃ p : Nat, ∃ g : Page, ∃ slot : List Byte, ∃ mem : List Host.Cell, ∃ e : Nat × Nat × Nat, ∃ a : Nat, (a < binAddr p e.2.2 ∨ binAddr p e.2.2 + 32 ≤ a)) :=
  ⟨⟨false, ⟨none, ⟨{ qid := 0, idx := 0, addr := 0, size := 256, armGen := 0 }, ⟨[], ⟨{ up with m.ldg.backlog := { qid := 0, idx := 0, addr := 0, size := 256, armGen := 0 } :: [], m.ldg.busy := none, m.ldg.closeReq := false }, by decide +kernel⟩⟩⟩⟩⟩,
   ⟨false, ⟨none, ⟨{ up with m.ldg.backlog := [] }, by decide +kernel⟩⟩⟩,
   ⟨{ ref := { qid := 0, idx := 0, addr := 0, size := 256, armGen := 0 }, page := some 1, slot := [] }, ⟨1, ⟨none, ⟨{ up with m.ldg.busy := some { ref := { qid := 0, idx := 0, addr := 0, size := 256, armGen := 0 }, page := some 1, slot := [] } }, by decide +kernel⟩⟩⟩⟩,
   ⟨{ ref := { qid := 0, idx := 0, addr := 0, size := 256, armGen := 0 }, page := none, slot := [], hist := some (0, 0, 0, 0, 0) }, ⟨(0, 0, 0, 0, 0), ⟨{ up with m.ldg.busy := some { ref := { qid := 0, idx := 0, addr := 0, size := 256, armGen := 0 }, page := none, slot := [], hist := some (0, 0, 0, 0, 0) }, m.ldg.closeReq := false, m.ldg.ends := [] }, by decide +kernel⟩⟩⟩,
   ⟨{ up with m.ldg.busy := none }, by decide +kernel⟩,
   ⟨0, ⟨default, ⟨[], ⟨[], ⟨default, ⟨0, by decide +kernel⟩⟩⟩⟩⟩⟩⟩

/-- States and operands that meet the hypotheses of PagesAndHistogramClear, clause by clause. -/
theorem meets_PagesAndHistogramClear :
    (∃ p : Fin 2, ∃ s : State, s.awake ∧ s.m.ldg.busy = none ∧ s.m.ldg.open = some p.val) ∧
    (∃ s : State, s.m.ldg.busy = none ∧ s.m.ldg.open = none) ∧
    (∃ s : State, s.awake ∧ s.m.ldg.busy.isSome = true) ∧
    (∃ v : BitVec 2, ∃ s : State, s.awake) ∧
    (∃ p : Fin 2, ∃ s : State, s.awake ∧ s.m.ldg.pages[p].st = .clearing) ∧
    (∃ p : Fin 2, ∃ s : State, s.m.ldg.pages[p].st ≠ .clearing) ∧
    (∃ s : State, s.awake ∧ s.m.pnat 0xD45 ≠ 0 ∧ s.m.pnat 0xD45 ≤ s.m.ldg.decayCnt ∧ s.m.stageOn 3 = false) ∧
    (∃ s : State, (s.m.pnat 0xD45 = 0 ∨ s.m.ldg.decayCnt < s.m.pnat 0xD45 ∨ s.m.stageOn 3 = true)) ∧
    (∃ s : State, s.awake ∧ s.m.ldg.decaying = true ∧ s.m.stageOn 3 = false) ∧
    (∃ s : State, (s.m.ldg.decaying = false ∨ s.m.stageOn 3 = true)) ∧
    (∃ s : State, s.awake) ∧
    (∃ s : State, s.awake ∧ s.m.ldg.clearing = true) ∧
    (∃ s : State, s.m.ldg.clearing = false) :=
  ⟨⟨1, ⟨{ up with m.ldg.pages := vmod up.m.ldg.pages 1 fun x => { x with st := .accumulating } }, by decide +kernel⟩⟩,
   ⟨{ up with m.ldg.busy := none }, by decide +kernel⟩,
   ⟨{ up with m.ldg.busy := some default }, by decide +kernel⟩,
   ⟨0, ⟨up, by decide +kernel⟩⟩,
   ⟨1, ⟨{ up with m.ldg.pages := vmod up.m.ldg.pages 1 fun x => { x with st := .clearing } }, by decide +kernel⟩⟩,
   ⟨0, ⟨up, by decide +kernel⟩⟩,
   ⟨(pv [(0xD45, 1)] { up with m.ldg.decayCnt := 1 }), by decide +kernel⟩,
   ⟨up, by decide +kernel⟩,
   ⟨{ up with m.ldg.decaying := true }, by decide +kernel⟩,
   ⟨{ up with m.ldg.decaying := false }, by decide +kernel⟩,
   ⟨up, by decide +kernel⟩,
   ⟨{ up with m.ldg.clearing := true }, by decide +kernel⟩,
   ⟨{ up with m.ldg.clearing := false }, by decide +kernel⟩⟩

/-- States and operands that meet the hypotheses of TellerChannelsMoveFolios, clause by clause. -/
theorem meets_TellerChannelsMoveFolios :
    (∃ c : Fin 16, ∃ s : State, s.awake ∧ (s.m.tels.ch[c].st = .idle ∨ s.m.tels.ch[c].st = .halted)) ∧
    (∃ c : Fin 16, ∃ s : State, s.m.tels.ch[c].st ≠ .idle ∧ s.m.tels.ch[c].st ≠ .halted) ∧
    (∃ c : Fin 16, ∃ s : State, (s.m.tels.ch[c].st = .idle ∨ s.m.tels.ch[c].st = .halted)) ∧
    (∃ c : Fin 16, ∃ s : State, s.awake ∧ s.m.tels.ch[c].st = .posting) ∧
    (∃ c : Fin 16, ∃ s : State, s.awake ∧ s.m.tels.ch[c].st = .fetch) ∧
    (∃ c : Fin 16, ∃ s : State, s.awake ∧ (s.m.tels.ch[c].st = .moving ∨ s.m.tels.ch[c].st = .draining ∨ s.m.tels.ch[c].st = .waiting)) ∧
    (∃ c : Fin 16, ∃ s : State, s.awake ∧ s.m.ddrUp = true ∧ s.m.inDdr s.m.tels.ch[c].cur 64 = true ∧
      let b := readBytes s.m.mem s.m.tels.ch[c].cur 64; s.m.tels.ch[c].st = .fetch ∧ (slipOf b).kind = 15) ∧
    (∃ c : Fin 16, ∃ s : State, s.awake ∧ s.m.ddrUp = true ∧ s.m.inDdr s.m.tels.ch[c].cur 64 = true ∧
      let b := readBytes s.m.mem s.m.tels.ch[c].cur 64; s.m.tels.ch[c].st = .fetch ∧ (slipOf b).kind ≠ 15 ∧ s.m.slipFault (slipOf b) b = 0) ∧
    (∃ c : Fin 16, ∃ s : State, s.awake ∧ s.m.ddrUp = true ∧ s.m.inDdr s.m.tels.ch[c].cur 64 = true ∧
      let b := readBytes s.m.mem s.m.tels.ch[c].cur 64; s.m.tels.ch[c].st = .fetch ∧ (slipOf b).kind ≠ 15 ∧ s.m.slipFault (slipOf b) b ≠ 0) ∧
    (∃ c : Fin 16, ∃ s : State, s.awake ∧ s.m.ddrUp = true ∧ s.m.inDdr s.m.tels.ch[c].cur 64 = true ∧
      let b := readBytes s.m.mem s.m.tels.ch[c].cur 64; s.m.tels.ch[c].st = .waiting ∧ s.m.tels.ch[c].slip.kind = 15 ∧ (slipOf b).kind = 0 ∧
      s.m.slipFault (slipOf b) b = 0) ∧
    (∃ c : Fin 16, ∃ s : State, s.awake ∧ s.m.ddrUp = true ∧ s.m.inDdr s.m.tels.ch[c].cur 64 = true ∧
      let b := readBytes s.m.mem s.m.tels.ch[c].cur 64; s.m.tels.ch[c].st = .waiting ∧ s.m.tels.ch[c].slip.kind = 15 ∧ (slipOf b).kind = 15) ∧
    (∃ c : Fin 16, ∃ bad : Bool, ∃ s : State, s.awake ∧ s.m.ddrUp = true ∧ s.m.tels.ch[c].st = .fetch ∧
      s.m.inDdr s.m.tels.ch[c].cur 64 = false) ∧
    (∃ c : Fin 16, ∃ bad : Bool, ∃ s : State, s.m.ddrUp = false) ∧
    (∃ c : Fin 16, ∃ s : State, s.awake ∧ s.m.tels.ch[c].st = .moving ∧ (s.m.tels.ch[c].slip.kind = 1 ∨ s.m.tels.ch[c].slip.kind = 2) ∧
      (s.m.tels.ch[c].slip.dest = 0 ∨ s.m.tels.ch[c].slip.dest = 2 ∨ s.m.tels.ch[c].slip.dest = 3) ∧ s.m.tels.ch[c].folio = [] ∧
      s.m.tels.ch[c].claims.length < s.m.tels.ch[c].slip.count ∧ s.m.tels.ch[c].short = false ∧ s.m.ddrUp = true ∧
      s.m.qre.claimed < s.m.qre.headers ∧ (s.m.tels.ch[c].bound = none ∨ s.m.tels.ch[c].bound = some s.m.qre.qid) ∧
      s.m.slotShows (s.m.slotAddr s.m.qre.claimed) s.m.qre.qid s.m.qre.claimed = true) ∧
    (∃ c : Fin 16, ∃ s : State, s.awake ∧ s.m.tels.ch[c].st = .moving ∧ (s.m.tels.ch[c].slip.kind = 1 ∨ s.m.tels.ch[c].slip.kind = 2) ∧
      (s.m.tels.ch[c].slip.dest = 0 ∨ s.m.tels.ch[c].slip.dest = 2 ∨ s.m.tels.ch[c].slip.dest = 3) ∧ s.m.tels.ch[c].folio = [] ∧
      s.m.tels.ch[c].claims.length < s.m.tels.ch[c].slip.count ∧ s.m.tels.ch[c].short = false ∧ s.m.ddrUp = true ∧
      s.m.qre.claimed < s.m.qre.headers ∧ (s.m.tels.ch[c].bound = none ∨ s.m.tels.ch[c].bound = some s.m.qre.qid) ∧
      s.m.slotShows (s.m.slotAddr s.m.qre.claimed) s.m.qre.qid s.m.qre.claimed = false ∧ s.m.inDdr s.m.tels.ch[c].cur 64 = true) ∧
    (∃ c : Fin 16, ∃ s : State, (s.m.qre.headers ≤ s.m.qre.claimed ∨ s.m.tels.ch[c].st ≠ .moving ∨ s.m.tels.ch[c].slip.kind = 0)) :=
  ⟨⟨15, ⟨{ up with m.tels.ch := vmod up.m.tels.ch 15 fun x => { x with st := .idle } }, by decide +kernel⟩⟩,
   ⟨15, ⟨{ up with m.tels.ch := vmod up.m.tels.ch 15 fun x => { x with st := .moving } }, by decide +kernel⟩⟩,
   ⟨0, ⟨{ up with m.tels.ch := vmod up.m.tels.ch 0 fun x => { x with st := .idle } }, by decide +kernel⟩⟩,
   ⟨0, ⟨{ up with m.tels.ch := vmod up.m.tels.ch 0 fun x => { x with st := .posting } }, by decide +kernel⟩⟩,
   ⟨15, ⟨{ up with m.tels.ch := vmod up.m.tels.ch 15 fun x => { x with st := .fetch } }, by decide +kernel⟩⟩,
   ⟨0, ⟨{ up with m.tels.ch := vmod up.m.tels.ch 0 fun x => { x with st := .moving } }, by decide +kernel⟩⟩,
   ⟨15, ⟨withBytes 0 [15] { up with m.tels.ch := vmod up.m.tels.ch 15 fun x => { x with st := .fetch } }, by dsimp only; decide +kernel⟩⟩,
   ⟨15, ⟨withBytes 0 (crcEnded (leBytes 0x10 4 ++ leBytes 1 4 ++ List.replicate 36 0)) { up with m.tels.ch := vmod up.m.tels.ch 15 fun x => { x with st := .fetch } }, by dsimp only; decide +kernel⟩⟩,
   ⟨0, ⟨{ up with m.tels.ch := vmod up.m.tels.ch 0 fun x => { x with st := .fetch } }, by dsimp only; decide +kernel⟩⟩,
   ⟨15, ⟨withBytes 0 (crcEnded (leBytes 0x10 4 ++ leBytes 1 4 ++ List.replicate 36 0)) { up with m.tels.ch := vmod up.m.tels.ch 15 fun x => { x with st := .waiting, slip := { ctl := 15 } } }, by dsimp only; decide +kernel⟩⟩,
   ⟨15, ⟨withBytes 0 [15] { up with m.tels.ch := vmod up.m.tels.ch 15 fun x => { x with st := .waiting, slip := { ctl := 15 } } }, by dsimp only; decide +kernel⟩⟩,
   ⟨15, ⟨false, ⟨{ up with m.tels.ch := vmod up.m.tels.ch 15 fun x => { x with st := .fetch, cur := 0x800000000000 } }, by decide +kernel⟩⟩⟩,
   ⟨0, ⟨false, ⟨{ up with m.store.st := .untrained }, by decide +kernel⟩⟩⟩,
   ⟨15, ⟨withBytes 60 [0x31, 0x05, 0x0B, 0x5A] { up with m.tels.ch := vmod up.m.tels.ch 15 fun x => { x with st := .moving, slip := { ctl := 1, count := 1 } } , m.qre.headers := 1 }, by decide +kernel⟩⟩,
   ⟨15, ⟨{ up with m.tels.ch := vmod up.m.tels.ch 15 fun x => { x with st := .moving, slip := { ctl := 1, count := 1 } } , m.qre.headers := 1 }, by decide +kernel⟩⟩,
   ⟨0, ⟨up, by decide +kernel⟩⟩⟩

/-- States and operands that meet the hypotheses of TellerWritesAndPostings, clause by clause. -/
theorem meets_TellerWritesAndPostings :
    (∃ c : Fin 16, ∃ a : Nat, ∃ n : Nat, ∃ s : State, s.awake ∧ s.m.telNext = some c.val ∧ (s.m.tels.ch[c]).nextWrite = some (a, n) ∧
      s.m.tels.ch[c].slip.kind = 0 ∧ s.m.tels.ch[c].slip.dest = 1 ∧ s.m.tels.ch[c].bytes + n < s.m.tels.ch[c].slip.count) ∧
    (∃ c : Fin 16, ∃ p : Nat, ∃ a : Nat, ∃ n : Nat, ∃ s : State, s.awake ∧ s.m.telNext = some c.val ∧
      (s.m.tels.ch[c]).nextWrite = some (a, n) ∧ s.m.tels.ch[c].slip.kind = 0 ∧ portOfDest s.m.tels.ch[c].slip.dest = some p) ∧
    (∃ c : Fin 16, ∃ a : Nat, ∃ n : Nat, ∃ s : State, s.awake ∧ s.m.telNext = some c.val ∧ (s.m.tels.ch[c]).nextWrite = some (a, n) ∧
      s.m.inDdr s.m.tels.ch[c].cur 64 = true) ∧
    (∃ bad : Bool, ∃ s : State, s.m.telNext = none) ∧
    (∃ c : Fin 16, ∃ w : TelWrite, ∃ s : State, s.awake ∧ s.m.tels.ch[c].slip.dest = 1 ∧ s.m.ddrUp = true ∧
      (s.m.tels.ch[c]).out.find? (fun w => !w.acked) = some w) ∧
    (∃ p : Fin 3, ∃ tag : BitVec 16, ∃ w : TelWrite, ∃ rest : List TelWrite, ∃ s : State, s.awake ∧ s.m.spn.port[p].st = .up ∧
      s.m.takes p.val = true ∧ let c := tag.toNat % 16; portOfDest (vget s.m.tels.ch c).slip.dest = some p.val ∧
      (vget s.m.tels.ch c).out = w :: rest ∧ w.tag = tag ∧ w.acked = false ∧ (vget s.m.tels.ch c).crcPend = false ∧
      (vget s.m.tels.ch c).half = true ∧ (∀ x ∈ rest, x.tag ≠ tag ∧ x.acked = false) ∧ rest ≠ []) ∧
    (∃ p : Fin 3, ∃ tag : BitVec 16, ∃ w : TelWrite, ∃ rest : List TelWrite, ∃ s : State, s.awake ∧ s.m.spn.port[p].st = .up ∧
      s.m.takes p.val = true ∧ let c := tag.toNat % 16; portOfDest (vget s.m.tels.ch c).slip.dest = some p.val ∧
      (vget s.m.tels.ch c).out = w :: rest ∧ w.tag = tag ∧ w.acked = false ∧ (vget s.m.tels.ch c).crcPend = false ∧
      (vget s.m.tels.ch c).half = true ∧ (∀ x ∈ rest, x.tag ≠ tag ∧ x.acked = false) ∧ rest ≠ [] ∧ ∃ st : BitVec 3, st ≠ 0 ∧
      s.m.inDdr (vget s.m.tels.ch c).cur 64 = true) ∧
    (∃ c : Fin 16, ∃ s : State, s.awake ∧
      (s.m.tels.ch[c]).out.any (fun w => !w.acked && decide (s.m.pnat (0xE05 + 16 * c.val) ≤ w.age)) = true ∧
      s.m.tels.ch[c].aborting = false ∧ s.m.inDdr s.m.tels.ch[c].cur 64 = true) ∧
    (∃ c : Fin 16, ∃ s : State, s.m.tels.ch[c].out = []) ∧
    (∃ c : Fin 16, ∃ s : State, s.awake ∧ s.m.tels.ch[c].st = .posting ∧ s.m.tels.ch[c].crcPend = false ∧ s.m.ddrUp = true ∧
      Memory.wf s.m.mem = true) ∧
    (∃ c : Fin 16, ∃ s : State, (s.m.tels.ch[c].st ≠ .posting ∨ s.m.tels.ch[c].crcPend = true ∨ s.m.ddrUp = false)) :=
  ⟨⟨0, ⟨254, ⟨2, ⟨{ up with m.tels.ch := vmod up.m.tels.ch 0 fun x => { x with st := .moving, slip := { ctl := 0x10, count := 4, dst := 253 }, bytes := 1 } }, by decide +kernel⟩⟩⟩⟩,
   ⟨15, ⟨0, ⟨254, ⟨2, ⟨{ up with m.spn.port := vmod up.m.spn.port 0 fun x => { x with st := .up, avail := ⟨256, 256, 256⟩ }, m.tels.ch := vmod up.m.tels.ch 15 fun x => { x with st := .moving, slip := { ctl := 0, count := 4, dst := 253 }, bytes := 1 } }, by decide +kernel⟩⟩⟩⟩⟩,
   ⟨15, ⟨254, ⟨2, ⟨{ up with m.tels.ch := vmod up.m.tels.ch 15 fun x => { x with st := .moving, slip := { ctl := 0x10, count := 4, dst := 253 }, bytes := 1 } }, by decide +kernel⟩⟩⟩⟩,
   ⟨false, ⟨up, by decide +kernel⟩⟩,
   ⟨15, ⟨{ tag := 0, addr := 255, bytes := [1] }, ⟨{ up with m.tels.ch := vmod up.m.tels.ch 15 fun x => { x with st := .moving, slip := { ctl := 0x10, count := 2, dst := 255 }, out := [{ tag := 0, addr := 255, bytes := [1] }] } }, by decide +kernel⟩⟩⟩,
   ⟨0, 15, { tag := 15, addr := 255, bytes := [1] }, [{ tag := 31, addr := 256, bytes := [1] }], { up with m.spn.port := vmod up.m.spn.port 0 fun x => { x with st := .up }, m.tels.ch := vmod up.m.tels.ch 15 fun x => { x with st := .moving, half := true, slip := { ctl := 0, count := 4, dst := 253 }, out := [{ tag := 15, addr := 255, bytes := [1] }, { tag := 31, addr := 256, bytes := [1] }] } }, ⟨by decide +kernel, by decide +kernel, by decide +kernel, by decide +kernel, by decide +kernel, by decide +kernel, by decide +kernel, by decide +kernel, by decide +kernel, by decide +kernel, by decide +kernel⟩⟩,
   ⟨0, 15, { tag := 15, addr := 255, bytes := [1] }, [{ tag := 31, addr := 256, bytes := [1] }], { up with m.spn.port := vmod up.m.spn.port 0 fun x => { x with st := .up }, m.tels.ch := vmod up.m.tels.ch 15 fun x => { x with st := .moving, half := true, slip := { ctl := 0, count := 4, dst := 253 }, out := [{ tag := 15, addr := 255, bytes := [1] }, { tag := 31, addr := 256, bytes := [1] }] } }, ⟨by decide +kernel, by decide +kernel, by decide +kernel, by decide +kernel, by decide +kernel, by decide +kernel, by decide +kernel, by decide +kernel, by decide +kernel, by decide +kernel, by decide +kernel, 7, by decide +kernel, by decide +kernel⟩⟩,
   ⟨15, ⟨{ up with m.tels.ch := vmod up.m.tels.ch 15 fun x => { x with st := .moving, slip := { ctl := 0x100, count := 2, dst := 255 }, out := [{ tag := 0, addr := 255, bytes := [1], age := 65535 }] } }, by decide +kernel⟩⟩,
   ⟨0, ⟨{ up with m.tels.ch := vmod up.m.tels.ch 0 fun x => { x with out := [] } }, by decide +kernel⟩⟩,
   ⟨15, ⟨{ up with m.tels.ch := vmod up.m.tels.ch 15 fun x => { x with st := .posting, endCode := 1 } }, by decide +kernel⟩⟩,
   ⟨0, ⟨up, by decide +kernel⟩⟩⟩

/-- States and operands that meet the hypotheses of PortsTrainAndMeet, clause by clause. -/
theorem meets_PortsTrainAndMeet :
    (∃ p : Fin 3, ∃ s : State, s.awake ∧ s.m.spn.port[p].st = .idle ∧ s.m.portAllowed p.val = true ∧ s.m.boot.ready = true) ∧
    (∃ p : Fin 3, ∃ s : State, s.awake ∧ (s.m.spn.port[p].st ≠ .idle ∨ s.m.portAllowed p.val = false ∨ s.m.boot.ready = false)) ∧
    (∃ p : Fin 3, ∃ s : State, s.awake ∧ (s.m.spn.port[p].st = .train ∨ s.m.spn.port[p].st = .hello) ∧ s.m.spn.port[p].hold = false) ∧
    (∃ p : Fin 3, ∃ s : State, s.awake ∧ s.m.spn.port[p].st = .train ∧ s.m.spn.port[p].hold = true ∧ s.m.portAllowed p.val = true) ∧
    (∃ p : Fin 3, ∃ s : State, s.awake ∧ s.m.spn.port[p].st = .down ∧ s.m.portAllowed p.val = true) ∧
    (∃ p : Fin 3, ∃ s : State, s.awake ∧ s.m.spn.port[p].st = .down ∧ s.m.portAllowed p.val = false) ∧
    (∃ p : Fin 3, ∃ s : State, s.awake ∧ s.m.spn.port[p].st = .train ∧ s.m.spn.port[p].step = 1 ∧ s.m.spn.port[p].hold = false ∧
      s.m.spn.port[p].told = false ∧ s.m.spn.port[p].lanes.toList.any (·.seen) = false) ∧
    (∃ p : Fin 3, ∃ s : State, (s.m.spn.port[p].hold = true ∨ s.m.spn.port[p].told = true ∨ s.m.spn.port[p].lanes.toList.any (·.seen) = true)) ∧
    (∃ p : Fin 3, ∃ s : State, s.awake ∧ s.m.spn.port[p].st = .train ∧ s.m.spn.port[p].step = 3 ∧ s.m.spn.port[p].hold = false) ∧
    (∃ p : Fin 3, ∃ s : State, s.m.spn.port[p].st = .idle) ∧
    (∃ p : Fin 3, ∃ f : FrameObs, ∃ s : State, s.awake ∧ s.m.spn.port[p].st = .train ∧ s.m.spn.port[p].hold = false ∧
      s.m.spn.port[p].step ≤ 2 ∧ f.lane.val < laneCount p.val) ∧
    (∃ p : Fin 3, ∃ f : FrameObs, ∃ s : State, s.m.spn.port[p].st = .train ∧ (s.m.spn.port[p].hold = true ∨ laneCount p.val ≤ f.lane.val)) ∧
    (∃ l : Lane, ∃ w : Word, l.pre ≤ 16 ∧ l.post ≤ 22) ∧
    (∃ l : Lane, ∃ w : Word, fld w 6 2 ≠ 1 ∧ fld w 0 2 = 1) ∧
    (∃ l : Lane, ∃ w : Word, fld w 6 2 ≠ 1 ∧ fld w 0 2 = 2) ∧
    (∃ l : Lane, ∃ w : Word, fld w 6 2 ≠ 1 ∧ fld w 4 2 = 1) ∧
    (∃ l : Lane, ∃ w : Word, fld w 6 2 ≠ 1 ∧ fld w 4 2 = 2) ∧
    (∃ l : Lane, ∃ w : Word, fld w 6 2 ≠ 1 ∧ fld w 0 2 ∉ [1, 2]) ∧
    (∃ l : Lane, ∃ w : Word, fld w 6 2 ≠ 1 ∧ fld w 4 2 ∉ [1, 2]) ∧
    (∃ p : Fin 3, ∃ skews : Vector Byte 4, ∃ s : State, s.awake ∧ s.m.spn.port[p].st = .train ∧ s.m.spn.port[p].step = 4 ∧
      s.m.spn.port[p].hold = false) ∧
    (∃ p : Fin 3, ∃ skews : Vector Byte 4, ∃ s : State, s.m.spn.port[p].st = .up) ∧
    (∃ h : HelloObs, ∃ s : State, s.awake ∧ s.m.spn.port[0].st = .hello ∧ helloOk 0 h = true) ∧
    (∃ p : Fin 3, ∃ h : HelloObs, ∃ s : State, s.awake ∧ s.m.spn.port[p].st = .hello ∧ helloOk p.val h = true ∧ p ≠ 0) ∧
    (∃ p : Fin 3, ∃ h : HelloObs, ∃ s : State, s.m.spn.port[p].st = .hello ∧ helloOk p.val h = false) :=
  ⟨⟨0, ⟨{ up with m.boot.ready := true, m.spn.port := vmod up.m.spn.port 0 fun x => { x with st := .idle } }, by decide +kernel⟩⟩,
   ⟨0, ⟨up, by decide +kernel⟩⟩,
   ⟨0, ⟨{ up with m.spn.port := vmod up.m.spn.port 0 fun x => { x with st := .train, hold := false } }, by decide +kernel⟩⟩,
   ⟨0, ⟨{ up with m.spn.port := vmod up.m.spn.port 0 fun x => { x with st := .train, hold := true } }, by decide +kernel⟩⟩,
   ⟨0, ⟨{ up with m.spn.port := vmod up.m.spn.port 0 fun x => { x with st := .down } }, by decide +kernel⟩⟩,
   ⟨2, ⟨{ up with m.spn.port := vmod up.m.spn.port 2 fun x => { x with st := .down } }, by decide +kernel⟩⟩,
   ⟨0, ⟨{ up with m.spn.port := vmod up.m.spn.port 0 fun x => { x with st := .train, step := 1, hold := false, told := false } }, by decide +kernel⟩⟩,
   ⟨0, ⟨{ up with m.spn.port := vmod up.m.spn.port 0 fun x => { x with hold := true } }, by decide +kernel⟩⟩,
   ⟨0, ⟨{ up with m.spn.port := vmod up.m.spn.port 0 fun x => { x with st := .train, step := 3, hold := false } }, by decide +kernel⟩⟩,
   ⟨0, ⟨{ up with m.spn.port := vmod up.m.spn.port 0 fun x => { x with st := .idle } }, by decide +kernel⟩⟩,
   ⟨2, ⟨{ lane := 0 }, ⟨{ up with m.spn.port := vmod up.m.spn.port 2 fun x => { x with st := .train, hold := false } }, by decide +kernel⟩⟩⟩,
   ⟨0, ⟨default, ⟨{ up with m.spn.port := vmod up.m.spn.port 0 fun x => { x with st := .train, hold := true } }, by decide +kernel⟩⟩⟩,
   ⟨{ pre := 16, post := 22 }, ⟨0, by decide +kernel⟩⟩,
   ⟨default, ⟨1, by decide +kernel⟩⟩,
   ⟨default, ⟨2, by decide +kernel⟩⟩,
   ⟨default, ⟨0x10, by decide +kernel⟩⟩,
   ⟨default, ⟨0x20, by decide +kernel⟩⟩,
   ⟨default, ⟨0, by decide +kernel⟩⟩,
   ⟨default, ⟨0, by decide +kernel⟩⟩,
   ⟨0, ⟨default, ⟨{ up with m.spn.port := vmod up.m.spn.port 0 fun x => { x with st := .train, step := 4, hold := false } }, by decide +kernel⟩⟩⟩,
   ⟨0, ⟨default, ⟨{ up with m.spn.port := vmod up.m.spn.port 0 fun x => { x with st := .up } }, by decide +kernel⟩⟩⟩,
   ⟨{ part := 0x4810, build := 1, role := 4, p := 34, n := 3, c := 34 }, ⟨{ up with m.spn.port := vmod up.m.spn.port 0 fun x => { x with st := .hello } }, by decide +kernel⟩⟩,
   ⟨2, ⟨⟨1, 0x4810, 1, 2, 0, 34, 3, 34, 0⟩, ⟨{ up with m.spn.port := vmod up.m.spn.port 2 fun x => { x with st := .hello } }, by decide +kernel⟩⟩⟩,
   ⟨0, ⟨⟨1, 0x4810, 1, 4, 0, 33, 3, 34, 0⟩, ⟨{ up with m.spn.port := vmod up.m.spn.port 0 fun x => { x with st := .hello } }, by decide +kernel⟩⟩⟩⟩

/-- States and operands that meet the hypotheses of LinkRetryKeepsItsWord, clause by clause. -/
theorem meets_LinkRetryKeepsItsWord :
    (∃ p : Fin 3, ∃ fp : BitVec 16, ∃ fn : BitVec 16, ∃ fc : BitVec 16, ∃ s : State, s.awake ∧ s.m.spn.port[p].st = .up) ∧
    (∃ x : Port, ∃ k : Packet, ∃ rest : List Packet, x.st = .up ∧ x.txq = k :: rest ∧ x.maySend k = true) ∧
    (∃ p : Fin 3, ∃ next : BitVec 12, ∃ s : State, s.awake ∧ s.m.spn.port[p].st = .up ∧
      (next = s.m.spn.port[p].next ∨ ∃ e ∈ s.m.spn.port[p].unacked, e.1 = next)) ∧
    (∃ p : Fin 3, ∃ next : BitVec 12, ∃ s : State, s.awake ∧ s.m.spn.port[p].st = .up ∧ s.m.spn.port[p].txq = [] ∧
      (∃ e ∈ s.m.spn.port[p].unacked, e.1 = next) ∧ s.m.spn.port[p].replays < 4) ∧
    (∃ p : Fin 3, ∃ s : State, s.awake ∧ s.m.spn.port[p].st = .up ∧ s.m.spn.port[p].unacked ≠ [] ∧ s.m.spn.port[p].replays < 4) ∧
    (∃ p : Fin 3, ∃ s : State, s.awake ∧ s.m.spn.port[p].st = .up ∧ s.m.spn.port[p].unacked ≠ [] ∧ 4 ≤ s.m.spn.port[p].replays) ∧
    (∃ p : Fin 3, ∃ s : State, s.m.spn.port[p].unacked = []) ∧
    (∃ p : Fin 3, ∃ s : State, s.awake ∧ s.m.spn.port[p].st = .up ∧ s.m.spn.port[p].discarding = false) ∧
    (∃ p : Fin 3, ∃ s : State, s.awake ∧ s.m.spn.port[p].st = .up ∧ s.m.spn.port[p].discarding = true) ∧
    (∃ p : Fin 3, ∃ s : State, s.awake ∧ s.m.streams p.val = true) ∧
    (∃ p : Fin 3, ∃ s : State, s.awake ∧ s.m.streams p.val = true ∧ (s.m.spn.port[p].st ≠ .up ∨ s.m.spn.port[p].discarding = true)) ∧
    (∃ p : Fin 3, ∃ fp : BitVec 16, ∃ fn : BitVec 16, ∃ fc : BitVec 16, ∃ nak : Bool, ∃ next : BitVec 12, ∃ s : State, s.m.spn.port[p].st = .idle) :=
  ⟨⟨0, ⟨0, ⟨0, ⟨0, ⟨{ up with m.spn.port := vmod up.m.spn.port 0 fun x => { x with st := .up } }, by decide +kernel⟩⟩⟩⟩⟩,
   ⟨{ st := .up, txq := [.ctrl false []], avail := ⟨256, 256, 256⟩ }, ⟨.ctrl false [], ⟨[], by decide +kernel⟩⟩⟩,
   ⟨0, ⟨0, ⟨{ up with m.spn.port := vmod up.m.spn.port 0 fun x => { x with st := .up } }, by decide +kernel⟩⟩⟩,
   ⟨2, ⟨0, ⟨{ up with m.spn.port := vmod up.m.spn.port 2 fun x => { x with st := .up, unacked := [(0, .ctrl false [])], replays := 3 } }, by decide +kernel⟩⟩⟩,
   ⟨2, ⟨{ up with m.spn.port := vmod up.m.spn.port 2 fun x => { x with st := .up, unacked := [(0, .ctrl false [])], replays := 3 } }, by decide +kernel⟩⟩,
   ⟨2, ⟨{ up with m.spn.port := vmod up.m.spn.port 2 fun x => { x with st := .up, unacked := [(0, .ctrl false [])], replays := 4 } }, by decide +kernel⟩⟩,
   ⟨0, ⟨{ up with m.spn.port := vmod up.m.spn.port 0 fun x => { x with unacked := [] } }, by decide +kernel⟩⟩,
   ⟨0, ⟨{ up with m.spn.port := vmod up.m.spn.port 0 fun x => { x with st := .up, discarding := false } }, by decide +kernel⟩⟩,
   ⟨0, ⟨{ up with m.spn.port := vmod up.m.spn.port 0 fun x => { x with st := .up, discarding := true } }, by decide +kernel⟩⟩,
   ⟨2, ⟨{ up with m.spn.port := vmod up.m.spn.port 2 fun x => { x with st := .train, step := 4 } }, by decide +kernel⟩⟩,
   ⟨2, ⟨{ up with m.spn.port := vmod up.m.spn.port 2 fun x => { x with st := .up, discarding := true } }, by decide +kernel⟩⟩,
   ⟨0, ⟨0, ⟨0, ⟨0, ⟨false, ⟨0, ⟨{ up with m.spn.port := vmod up.m.spn.port 0 fun x => { x with st := .idle } }, by decide +kernel⟩⟩⟩⟩⟩⟩⟩⟩

/-- States and operands that meet the hypotheses of LinkDownClearsThePort, clause by clause. -/
theorem meets_LinkDownClearsThePort :
    (∃ p : Fin 3, ∃ f : FrameObs, ∃ s : State, s.awake ∧ s.m.spn.port[p].st = .up) ∧
    (∃ p : Fin 3, ∃ cause : Nat, ∃ s : State, s.m.spn.port[p].st = .up) ∧
    (∃ p : Fin 3, ∃ cause : Nat, ∃ s : State, s.m.spn.port[p].st = .up ∧ p = 0) ∧
    (∃ p : Fin 3, ∃ cause : Nat, ∃ s : State, s.m.spn.port[p].st = .up ∧ ∃ q : Fin 3, q ≠ p) ∧
    (∃ p : Fin 3, ∃ s : State, (s.m.spn.port[p].st = .hello ∨ s.m.spn.port[p].st = .train)) ∧
    (∃ p : Fin 3, ∃ s : State, (s.m.spn.port[p].st = .hello ∨ s.m.spn.port[p].st = .train) ∧
      (s.m.spn.port[p].st = .hello ∨ 4 ≤ s.m.spn.port[p].step)) ∧
    (∃ p : Fin 3, ∃ s : State, (s.m.spn.port[p].st = .hello ∨ s.m.spn.port[p].st = .train) ∧ s.awake) ∧
    (∃ p : Fin 3, ∃ s : State, (s.m.spn.port[p].st = .idle ∨ s.m.spn.port[p].st = .off ∨ s.m.spn.port[p].st = .down)) ∧
    (∃ s : State, s.awake) ∧
    (∃ v : BitVec 3, ∃ s : State, s.awake ∧ swf resetOf s.m.par.landed = true ∧ s.m.running = false ∧ s.m.dec.waiting = false) :=
  ⟨⟨0, ⟨default, ⟨{ up with m.spn.port := vmod up.m.spn.port 0 fun x => { x with st := .up } }, by decide +kernel⟩⟩⟩,
   ⟨0, ⟨0, ⟨{ up with m.spn.port := vmod up.m.spn.port 0 fun x => { x with st := .up } }, by decide +kernel⟩⟩⟩,
   ⟨0, ⟨0, ⟨{ up with m.spn.port := vmod up.m.spn.port 0 fun x => { x with st := .up } }, by decide +kernel⟩⟩⟩,
   ⟨2, 2, { up with m.spn.port := vmod up.m.spn.port 2 fun x => { x with st := .up } }, by decide +kernel, 0, by decide +kernel⟩,
   ⟨0, ⟨{ up with m.spn.port := vmod up.m.spn.port 0 fun x => { x with st := .hello } }, by decide +kernel⟩⟩,
   ⟨2, ⟨{ up with m.spn.port := vmod up.m.spn.port 2 fun x => { x with st := .hello } }, by decide +kernel⟩⟩,
   ⟨0, ⟨{ up with m.spn.port := vmod up.m.spn.port 0 fun x => { x with st := .hello } }, by decide +kernel⟩⟩,
   ⟨0, ⟨{ up with m.spn.port := vmod up.m.spn.port 0 fun x => { x with st := .idle } }, by decide +kernel⟩⟩,
   ⟨up, by decide +kernel⟩,
   ⟨0, ⟨{ up with m.dec.waiting := false }, by decide +kernel⟩⟩⟩

/-- States and operands that meet the hypotheses of PacketsAreActedOn, clause by clause. -/
theorem meets_PacketsAreActedOn :
    (∃ p : Fin 3, ∃ tag : BitVec 16, ∃ addr : BitVec 64, ∃ data : List Byte, ∃ s : State, s.awake ∧ s.m.spn.port[p].st = .up ∧
      s.m.takes p.val = true ∧ bodyOk addr.toNat data.length = true ∧ s.m.inDdr addr.toNat data.length = true ∧ s.m.ddrUp = true ∧
      Memory.wf s.m.mem = true) ∧
    (∃ p : Fin 3, ∃ tag : BitVec 16, ∃ addr : BitVec 64, ∃ data : List Byte, ∃ s : State, s.awake ∧ s.m.spn.port[p].st = .up ∧
      s.m.takes p.val = true ∧ bodyOk addr.toNat data.length = true ∧ (s.m.inDdr addr.toNat data.length = false ∨ s.m.ddrUp = false)) ∧
    (∃ p : Fin 3, ∃ tag : BitVec 16, ∃ addr : BitVec 64, ∃ n : Nat, ∃ s : State, s.awake ∧ s.m.spn.port[p].st = .up ∧
      s.m.takes p.val = true ∧ 1 ≤ n ∧ n ≤ 4096) ∧
    (∃ a : Nat, ∃ n : Nat, n ≤ 4096) ∧
    (∃ n : Nat, n ≤ 4096) ∧
    (∃ p : Fin 3, ∃ tag : BitVec 16, ∃ addr : BitVec 64, ∃ n : Nat, ∃ i : Nat, ∃ s : State, s.awake ∧ s.m.spn.port[p].st = .up ∧
      s.m.takes p.val = true ∧ 1 ≤ n ∧ n ≤ 4096 ∧ s.m.rangeStatus addr.toNat n false = 0) ∧
    (∃ p : Fin 3, ∃ qid : Word, ∃ s : State, s.awake ∧ s.m.spn.port[p].st = .up ∧ s.m.takes p.val = true) ∧
    (∃ p : Fin 3, ∃ tag : BitVec 16, ∃ addr : BitVec 64, ∃ data : List Byte, ∃ n : Nat, ∃ ecc : Option Nat, ∃ qid : Word, ∃ first : Bool, ∃ last : Bool, ∃ s : State, s.awake ∧
      s.m.spn.port[p].st = .up ∧ bodyOk addr.toNat data.length = false) ∧
    (∃ p : Fin 3, ∃ tag : BitVec 16, ∃ addr : BitVec 64, ∃ data : List Byte, ∃ n : Nat, ∃ ecc : Option Nat, ∃ qid : Word, ∃ first : Bool, ∃ last : Bool, ∃ s : State, s.awake ∧
      s.m.spn.port[p].st = .up ∧ (n = 0 ∨ 4096 < n)) ∧
    (∃ p : Fin 3, ∃ tag : BitVec 16, ∃ addr : BitVec 64, ∃ data : List Byte, ∃ n : Nat, ∃ ecc : Option Nat, ∃ qid : Word, ∃ first : Bool, ∃ last : Bool, ∃ s : State, s.awake ∧
      s.m.spn.port[p].st = .up ∧ bodyOk 0 data.length = false) ∧
    (∃ p : Fin 3, ∃ type : Byte, ∃ s : State, s.awake ∧ s.m.spn.port[p].st = .up) ∧
    (∃ p : Fin 3, ∃ type : Byte, ∃ tag : BitVec 16, ∃ addr : BitVec 64, ∃ data : List Byte, ∃ n : Nat, ∃ ecc : Option Nat, ∃ qid : Word, ∃ s : State, s.m.spn.port[p].st ≠ .up) ∧
    (∃ e : EventPkt, ∃ rest : List EventPkt, ∃ s : State, s.awake ∧ s.m.spn.evq = e :: rest ∧ s.m.spn.port[0].st = .up ∧
      s.m.spn.port[0].txq = [] ∧ (s.m.spn.port[0]).maySend (.event e) = true) ∧
    (∃ e : EventPkt, ∃ s : State, (s.m.spn.port[0].txq.any (fun k => k.cls == 0) = true ∨ (s.m.spn.port[0]).avail.p < 4) ∧
      s.m.spn.evq.head? = some e) ∧
    (∃ s : State, (s.m.spn.evq = [] ∨ s.m.spn.port[0].st ≠ .up)) ∧
    (∃ p : Fin 3, ∃ tag : BitVec 16, ∃ data : List Byte, ∃ first : Bool, ∃ last : Bool, ∃ s : State, s.awake ∧ s.m.spn.port[p].st = .up ∧
      s.m.takes p.val = true ∧ bodyOk 0 data.length = true ∧ (bitOf (s.m.pval 0xF80) (4 + p.val) = false ∨ s.m.ddrUp = false)) ∧
    (∃ p : Fin 3, ∃ tag : BitVec 16, ∃ data : List Byte, ∃ last : Bool, ∃ s : State, s.awake ∧ s.m.spn.port[p].st = .up ∧
      s.m.takes p.val = true ∧ bodyOk 0 data.length = true ∧ bitOf (s.m.pval 0xF80) (4 + p.val) = true ∧ s.m.ddrUp = true ∧ data.length < 40 ∧
      last = false) ∧
    (∃ p : Fin 3, ∃ tag : BitVec 16, ∃ data : List Byte, ∃ last : Bool, ∃ s : State, s.awake ∧ s.m.spn.port[p].st = .up ∧
      s.m.takes p.val = true ∧ bodyOk 0 data.length = true ∧ bitOf (s.m.pval 0xF80) (4 + p.val) = true ∧ s.m.ddrUp = true ∧
      s.m.spn.port[p].rxRec = none) :=
  ⟨⟨0, ⟨0, ⟨0xFFFFFF00, ⟨List.replicate 256 0, ⟨{ up with m.spn.port := vmod up.m.spn.port 0 fun x => { x with st := .up } }, by decide +kernel⟩⟩⟩⟩⟩,
   ⟨0, ⟨0, ⟨0x100000000, ⟨[0], ⟨{ up with m.spn.port := vmod up.m.spn.port 0 fun x => { x with st := .up } }, by decide +kernel⟩⟩⟩⟩⟩,
   ⟨0, ⟨0, ⟨0, ⟨4096, ⟨{ up with m.spn.port := vmod up.m.spn.port 0 fun x => { x with st := .up } }, by decide +kernel⟩⟩⟩⟩⟩,
   ⟨0, ⟨0, by decide +kernel⟩⟩,
   ⟨4096, by decide +kernel⟩,
   ⟨0, ⟨0, ⟨0, ⟨4096, ⟨0, ⟨{ up with m.spn.port := vmod up.m.spn.port 0 fun x => { x with st := .up } }, by decide +kernel⟩⟩⟩⟩⟩⟩,
   ⟨0, ⟨0, ⟨{ up with m.spn.port := vmod up.m.spn.port 0 fun x => { x with st := .up } }, by decide +kernel⟩⟩⟩,
   ⟨0, ⟨0, ⟨0, ⟨[], ⟨0, ⟨none, ⟨0, ⟨false, ⟨false, ⟨{ up with m.spn.port := vmod up.m.spn.port 0 fun x => { x with st := .up } }, by decide +kernel⟩⟩⟩⟩⟩⟩⟩⟩⟩⟩,
   ⟨0, ⟨0, ⟨0, ⟨[], ⟨0, ⟨none, ⟨0, ⟨false, ⟨false, ⟨{ up with m.spn.port := vmod up.m.spn.port 0 fun x => { x with st := .up } }, by decide +kernel⟩⟩⟩⟩⟩⟩⟩⟩⟩⟩,
   ⟨0, ⟨0, ⟨0, ⟨[], ⟨0, ⟨none, ⟨0, ⟨false, ⟨false, ⟨{ up with m.spn.port := vmod up.m.spn.port 0 fun x => { x with st := .up } }, by decide +kernel⟩⟩⟩⟩⟩⟩⟩⟩⟩⟩,
   ⟨0, ⟨0, ⟨{ up with m.spn.port := vmod up.m.spn.port 0 fun x => { x with st := .up } }, by decide +kernel⟩⟩⟩,
   ⟨0, ⟨0, ⟨0, ⟨0, ⟨[], ⟨0, ⟨none, ⟨0, ⟨up, by decide +kernel⟩⟩⟩⟩⟩⟩⟩⟩⟩,
   ⟨⟨2, 0, 0, 0⟩, ⟨[], ⟨{ up with m.spn.port := vmod up.m.spn.port 0 fun x => { x with st := .up, avail := { p := 4, n := 4, c := 4 } }, m.spn.evq := [⟨2, 0, 0, 0⟩] }, by decide +kernel⟩⟩⟩,
   ⟨⟨2, 0, 0, 0⟩, ⟨{ up with m.spn.evq := [⟨2, 0, 0, 0⟩] }, by decide +kernel⟩⟩,
   ⟨{ up with m.spn.evq := [] }, by decide +kernel⟩,
   ⟨0, ⟨0, ⟨[0], ⟨false, ⟨false, ⟨(pv [(0xF80, 0)] { up with m.spn.port := vmod up.m.spn.port 0 fun x => { x with st := .up } }), by decide +kernel⟩⟩⟩⟩⟩⟩,
   ⟨0, ⟨0, ⟨List.replicate 39 0, ⟨false, ⟨{ up with m.spn.port := vmod up.m.spn.port 0 fun x => { x with st := .up } }, by decide +kernel⟩⟩⟩⟩⟩,
   ⟨0, ⟨0, ⟨[0], ⟨false, ⟨(pv [(0xF80, 0x10)] { up with m.spn.port := vmod up.m.spn.port 0 fun x => { x with st := .up, rxRec := none } }), by decide +kernel⟩⟩⟩⟩⟩⟩

/-- States and operands that meet the hypotheses of FramesFlipsAndModesTurn, clause by clause. -/
theorem meets_FramesFlipsAndModesTurn :
    (∃ s : State, s.awake ∧ s.m.dsp.st = .off ∧ s.m.domUp 6 = true ∧ s.m.boot.ready = true ∧
      (s.m.store.st = .trained ∨ s.m.store.st = .failed)) ∧
    (∃ s : State, (s.m.dsp.st ≠ .off ∨ s.m.domUp 6 = false ∨ s.m.boot.ready = false ∨ (s.m.store.st ≠ .trained ∧ s.m.store.st ≠ .failed))) ∧
    (∃ s : State, s.awake ∧ s.m.dsp.st ≠ .off ∧ s.m.dsiOn = true ∧ (s.m.dsp.dsi = .off ∨ s.m.dsp.dsi = .held) ∧
      s.m.modeOk s.m.dsp.mode = true) ∧
    (∃ s : State, s.awake ∧ s.m.dsp.dsi = .starting ∧ s.m.dsp.st ≠ .starting) ∧
    (∃ s : State, s.awake ∧ s.m.dsp.dsi = .starting ∧ s.m.dsp.st = .starting) ∧
    (∃ s : State, s.m.dsp.dsi ≠ .starting) ∧
    (∃ bad : Bool, ∃ s : State, s.awake ∧ s.m.dsp.st = .running ∧ s.m.dsp.newMode = false ∧ s.m.dsp.landedNow = []) ∧
    (∃ bad : Bool, ∃ s : State, (s.m.dsp.st ≠ .running ∨ (s.m.dsp.newMode = true ∧ s.m.dsp.dsi ≠ .held))) ∧
    (∃ s : State, s.awake ∧ s.m.dsp.st = .running ∧ s.m.par.frame.lookup 0x2601 = none) ∧
    (∃ s : State, s.awake ∧ s.m.dsp.st = .running ∧ (s.m.par.frame.lookup 0x2601).isSome = true ∧ s.m.dspHeld 0x2601 = false ∧
      s.m.pnat 0x2601 % 8 ≠ s.m.dsp.mode ∧ s.m.modeOk (s.m.pnat 0x2601 % 8) = true) ∧
    (∃ s : State, s.awake ∧ s.m.dsp.st = .running ∧ (s.m.par.frame.lookup 0x2601).isSome = true ∧ s.m.dspHeld 0x2601 = false ∧
      s.m.pnat 0x2601 % 8 ≠ s.m.dsp.mode ∧ s.m.modeOk (s.m.pnat 0x2601 % 8) = false) ∧
    (∃ s : State, s.awake ∧ s.m.dsp.st = .changing ∧ s.m.dsp.change = 1) ∧
    (∃ s : State, (s.m.dsp.st = .off ∨ s.m.dsp.st = .starting)) ∧
    (∃ bad : Bool, ∃ s : State, s.awake ∧ s.m.dsp.st = .changing ∧ s.m.dsp.change = 2 ∧ s.m.dsp.dsi ≠ .starting ∧ s.m.dsp.dp.training = false) ∧
    (∃ bad : Bool, ∃ s : State, (s.m.dsp.st ≠ .changing ∨ s.m.dsp.change ≠ 2 ∨ s.m.dsp.dsi = .starting ∨ s.m.dsp.dp.training = true)) ∧
    (∃ hi : Bool, ∃ v : Word, ∃ s : State, s.awake ∧ s.m.dsp.st = .running ∧ valueOk (if hi then 0x2604 else 0x2603) v = true ∧
      s.m.dec.waiting = false ∧ swf resetOf s.m.par.landed = true) :=
  ⟨⟨{ up with m.dsp.st := .off, m.boot.ready := true, m.store.st := .trained }, by decide +kernel⟩,
   ⟨{ up with m.dsp.st := .running }, by decide +kernel⟩,
   ⟨(pv [(0x2602, 4), (0x2611, 0xFF)] { up with m.dsp.st := .running }), by decide +kernel⟩,
   ⟨{ up with m.dsp.dsi := .starting }, by decide +kernel⟩,
   ⟨{ up with m.dsp.dsi := .starting, m.dsp.st := .starting }, by decide +kernel⟩,
   ⟨up, by decide +kernel⟩,
   ⟨false, ⟨{ up with m.dsp.st := .running, m.dsp.newMode := false, m.dsp.landedNow := [] }, by decide +kernel⟩⟩,
   ⟨false, ⟨up, by decide +kernel⟩⟩,
   ⟨{ up with m.dsp.st := .running }, by decide +kernel⟩,
   ⟨(pv [(0x2611, 0xFF)] { up with m.dsp.st := .running, m.dsp.mode := 7, m.par.frame := [(0x2601, 0)] }), by decide +kernel⟩,
   ⟨(pv [(0x2601, 7)] { up with m.dsp.st := .running, m.dsp.mode := 1, m.par.frame := [(0x2601, 7)] }), by decide +kernel⟩,
   ⟨{ up with m.dsp.st := .changing, m.dsp.change := 1 }, by decide +kernel⟩,
   ⟨{ up with m.dsp.st := .off }, by decide +kernel⟩,
   ⟨false, ⟨{ up with m.dsp.st := .changing, m.dsp.change := 2, m.dsp.dp.training := false }, by decide +kernel⟩⟩,
   ⟨false, ⟨up, by decide +kernel⟩⟩,
   ⟨false, ⟨0, ⟨{ up with m.dsp.st := .running, m.dec.waiting := false }, by decide +kernel⟩⟩⟩⟩

/-- States and operands that meet the hypotheses of SinksAndPanelsFollow, clause by clause. -/
theorem meets_SinksAndPanelsFollow :
    (∃ locked : Bool, ∃ s : State, s.awake ∧ s.m.cmdMode = true ∧ s.m.dsp.st = .running) ∧
    (∃ s : State, s.awake ∧ s.m.cmdMode = true ∧ s.m.dsp.st = .running ∧ s.m.dsp.teLost = false) ∧
    (∃ locked : Bool, ∃ s : State, (s.m.cmdMode = false ∨ s.m.dsp.st ≠ .running)) ∧
    (∃ o : SinkObs, ∃ s : State, s.awake ∧ s.m.dsp.st ≠ .off ∧ bitOf (s.m.use 0x2602) 3 = true ∧ 4 ≤ o.lanes ∧
      dpRate s.m.dsp.mode ≤ o.maxRate) ∧
    (∃ o : SinkObs, ∃ s : State, s.awake ∧ s.m.dsp.st ≠ .off ∧ bitOf (s.m.use 0x2602) 3 = true ∧
      (o.lanes < 4 ∨ o.maxRate < dpRate s.m.dsp.mode)) ∧
    (∃ o : SinkObs, ∃ s : State, (s.m.dsp.st = .off ∨ bitOf (s.m.use 0x2602) 3 = false)) ∧
    (∃ s : State, s.awake) ∧
    (∃ s : State, s.awake ∧ s.m.dsp.dp.connected = true ∧ bitOf (s.m.use 0x2602) 3 = true ∧ 4 ≤ s.m.dsp.dp.lanes ∧
      dpRate s.m.dsp.mode ≤ s.m.dsp.dp.maxRate) ∧
    (∃ s : State, s.awake ∧ s.m.dsp.dp.connected = true ∧ bitOf (s.m.use 0x2602) 3 = true ∧ 4 ≤ s.m.dsp.dp.lanes ∧
      dpRate s.m.dsp.mode ≤ s.m.dsp.dp.maxRate ∧ s.m.dsp.dp.training = false) ∧
    (∃ s : State, s.awake ∧ s.m.dsp.dp.connected = true ∧ bitOf (s.m.use 0x2602) 3 = true ∧ 4 ≤ s.m.dsp.dp.lanes ∧
      dpRate s.m.dsp.mode ≤ s.m.dsp.dp.maxRate ∧ s.m.dsp.dp.training = false ∧ s.m.dsp.dp.failed = true) ∧
    (∃ s : State, s.m.dsp.dp.connected = false) ∧
    (∃ s : State, s.m.dsp.dp.failed = false) ∧
    (∃ s : State, s.awake ∧ s.m.dsp.dp.training = true) ∧
    (∃ s : State, s.awake ∧ s.m.dsp.dp.training = true ∧ ∃ c : Byte, True) ∧
    (∃ c : Option Byte, ∃ s : State, s.m.dsp.dp.training = false) ∧
    (∃ s : State, s.awake ∧ s.m.dsp.st = .running ∧ bitOf (s.m.use 0x2602) 1 = true ∧ s.m.dsp.invalid = false) ∧
    (∃ a : Nat, ∃ s : State, s.awake ∧ s.m.dsp.st = .running ∧ bitOf (s.m.use 0x2602) 1 = true ∧ s.m.dsp.invalid = false) ∧
    (∃ ecc : Option Nat, ∃ s : State, (s.m.dsp.st ≠ .running ∨ bitOf (s.m.use 0x2602) 1 = false ∨ s.m.dsp.invalid = true)) :=
  ⟨⟨false, ⟨(pv [(0x2602, 0x14)] { up with m.dsp.st := .running }), by decide +kernel⟩⟩,
   ⟨(pv [(0x2602, 0x14)] { up with m.dsp.st := .running, m.dsp.teLost := false }), by decide +kernel⟩,
   ⟨false, ⟨up, by decide +kernel⟩⟩,
   ⟨{ lanes := 4, maxRate := 0 }, ⟨(pv [(0x2602, 8)] { up with m.dsp.st := .running }), by decide +kernel⟩⟩,
   ⟨{ lanes := 3, maxRate := 2 }, ⟨(pv [(0x2602, 8)] { up with m.dsp.st := .running }), by decide +kernel⟩⟩,
   ⟨default, ⟨{ up with m.dsp.st := .off }, by decide +kernel⟩⟩,
   ⟨up, by decide +kernel⟩,
   ⟨(pv [(0x2602, 8)] { up with m.dsp.st := .running, m.dsp.dp.connected := true, m.dsp.dp.lanes := 4 }), by decide +kernel⟩,
   ⟨(pv [(0x2602, 8)] { up with m.dsp.st := .running, m.dsp.dp.connected := true, m.dsp.dp.lanes := 4 }), by decide +kernel⟩,
   ⟨(pv [(0x2602, 8)] { up with m.dsp.st := .running, m.dsp.dp.connected := true, m.dsp.dp.failed := true, m.dsp.dp.lanes := 4, m.dsp.dp.maxRate := 3 }), by decide +kernel⟩,
   ⟨{ up with m.dsp.dp.connected := false }, by decide +kernel⟩,
   ⟨{ up with m.dsp.dp.failed := false }, by decide +kernel⟩,
   ⟨{ up with m.dsp.dp.training := true }, by decide +kernel⟩,
   ⟨{ up with m.dsp.dp.training := true }, ⟨by decide +kernel, ⟨by decide +kernel, ⟨0, trivial⟩⟩⟩⟩,
   ⟨none, ⟨{ up with m.dsp.dp.training := false }, by decide +kernel⟩⟩,
   ⟨(pv [(0x2602, 2)] { up with m.dsp.st := .running, m.dsp.invalid := false }), by decide +kernel⟩,
   ⟨0, ⟨(pv [(0x2602, 2)] { up with m.dsp.st := .running, m.dsp.invalid := false }), by decide +kernel⟩⟩,
   ⟨none, ⟨up, by decide +kernel⟩⟩⟩

/-- States and operands that meet the hypotheses of AssayRequestsAndWindowsWork, clause by clause. -/
theorem meets_AssayRequestsAndWindowsWork :
    (∃ s : State, s.awake ∧ s.m.asy.started = false ∧ s.m.boot.readIn = true ∧ bitOf (s.m.pval 0x27D0) 0 = true ∧ s.m.pwr.stage < 6) ∧
    (∃ v : Word, ∃ s : State, s.awake ∧ bitOf v 0 = true ∧ valueOk 0x27D0 v = true ∧ s.m.boot.readIn = true ∧ s.m.pwr.stage < 6 ∧
      s.m.dec.waiting = false ∧ swf resetOf s.m.par.landed = true) ∧
    (∃ v : Word, ∃ s : State, bitOf v 0 = false) ∧
    (∃ s : State, (s.m.asy.started = true ∨ s.m.boot.readIn = false ∨ bitOf (s.m.pval 0x27D0) 0 = false ∨ 6 ≤ s.m.pwr.stage)) ∧
    (∃ v : Word, ∃ s : State, s.awake ∧ s.m.asy.started = true ∧ bitOf v 0 = false ∧ valueOk 0x27D0 v = true ∧ s.m.dec.waiting = false ∧
      swf resetOf s.m.par.landed = true) ∧
    (∃ v : Word, ∃ s : State, bitOf v 0 = true) ∧
    (∃ j : Fin 32, ∃ s : State, s.awake ∧ s.m.asy.started = true ∧ s.m.accOn j.val = true ∧ s.m.suspended j.val = false ∧ s.m.asy.kick = 0) ∧
    (∃ j : Fin 32, ∃ s : State, s.awake ∧ s.m.asy.started = true ∧ s.m.accOn j.val = true ∧ s.m.suspended j.val = false ∧ s.m.asy.kick = 0 ∧
      0 < s.m.asy.accs[j].starts) ∧
    (∃ js : BitVec 32, ∃ s : State, s.awake ∧ (∀ j : Fin 32, js.getLsbD j.val = true → s.m.asy.accs[j].starts = 0)) ∧
    (∃ c : Fin 3, ∃ o : ConvObs, ∃ s : State, s.m.asy.conv c = none) ∧
    (∃ c : Fin 3, ∃ o : ConvObs, ∃ j : Fin 32, ∃ k : Conv, ∃ s : State, s.awake ∧ s.m.asy.conv c = some k ∧ k.drop = false ∧
      k.job = .acc j.val) ∧
    (∃ v : Word, ∃ s : State, s.awake ∧ s.work < 9) ∧
    (∃ v : Word, ∃ s : State, s.awake ∧ s.work = 9) ∧
    (∃ j : Fin 32, ∃ time : Bool, ∃ v : Word, ∃ s : State, s.awake ∧ s.m.dec.waiting = false ∧ swf resetOf s.m.par.landed = true ∧
      let a := if time then 0x2780 + j.val else 0x2700 + 4 * j.val; valueOk a v = true) :=
  ⟨⟨(pv [(0x27D0, 1)] { up with m.asy.started := false, m.boot.readIn := true }), by decide +kernel⟩,
   ⟨1, ⟨{ up with m.boot.readIn := true, m.dec.waiting := false }, by decide +kernel⟩⟩,
   ⟨0, ⟨up, by decide +kernel⟩⟩,
   ⟨{ up with m.asy.started := true }, by decide +kernel⟩,
   ⟨0, ⟨{ up with m.asy.started := true, m.dec.waiting := false }, by decide +kernel⟩⟩,
   ⟨1, ⟨up, by decide +kernel⟩⟩,
   ⟨31, ⟨(pv [(0x277C, 1)] { up with m.asy.started := true }), by decide +kernel⟩⟩,
   ⟨31, ⟨(pv [(0x277C, 1)] { up with m.asy.started := true, m.asy.kick := 0, m.asy.accs := vmod up.m.asy.accs 31 fun x => { x with starts := 1 } }), by decide +kernel⟩⟩,
   ⟨0, ⟨up, by decide +kernel⟩⟩,
   ⟨0, ⟨{ u := 0 }, ⟨up, by decide +kernel⟩⟩⟩,
   ⟨2, ⟨{ u := 0 }, ⟨31, ⟨{ job := .acc 31, cls := 1, input := 0 }, ⟨{ up with m.asy.int := some { job := .acc 31, cls := 1, input := 0 } }, by decide +kernel⟩⟩⟩⟩⟩,
   ⟨0, ⟨{ up with work := 8 }, by decide +kernel⟩⟩,
   ⟨0, ⟨{ up with work := 9 }, by decide +kernel⟩⟩,
   ⟨31, ⟨true, ⟨1, ⟨{ up with m.dec.waiting := false }, by dsimp only; decide +kernel⟩⟩⟩⟩⟩

/-- States and operands that meet the hypotheses of CalibrationWiresAndHeaterFollow, clause by clause. -/
theorem meets_CalibrationWiresAndHeaterFollow :
    (∃ x : Fin 8, ∃ k : Fin 17, ∃ s : State, s.awake ∧ s.m.asy.started = true) ∧
    (∃ x : Fin 8, ∃ k : Fin 17, ∃ s : State, s.awake ∧ s.m.asy.started = false) ∧
    (∃ e : Fin 4, ∃ s : State, s.awake ∧ s.m.asy.started = true ∧ bitOf (s.m.pval 0x27D9) e.val = true ∧ s.m.asy.wire = .none ∧
      s.m.asy.wireDue = 0 ∧ s.m.cal.st ≠ .running ∧ s.m.asy.converts (18 + e.val) = false) ∧
    (∃ e : Fin 4, ∃ s : State, (s.m.asy.started = false ∨ bitOf (s.m.pval 0x27D9) e.val = false)) ∧
    (∃ e : Nat, ∃ s : State, s.awake ∧ s.m.asy.wire = .current e) ∧
    (∃ s : State, (∀ e, s.m.asy.wire ≠ .current e)) ∧
    (∃ v : Word, ∃ s : State, s.awake ∧ valueOk 0x27F0 v = true ∧ s.m.dec.waiting = false ∧ swf resetOf s.m.par.landed = true) ∧
    (∃ s : State, s.awake ∧ s.m.iso.st ≠ .off ∧ s.m.iso.lastBeat + 65536 ≤ s.m.tim.beats) ∧
    (∃ s : State, (s.m.iso.st = .off ∨ s.m.tim.beats < s.m.iso.lastBeat + 65536)) ∧
    (∃ s : State, s.awake ∧ s.m.asy.started = true) ∧
    (∃ s : State, s.awake ∧ s.m.asy.started = true ∧ s.m.iso.high = true) ∧
    (∃ s : State, s.m.asy.started = false) ∧
    (∃ s : State, (s.m.asy.started = false ∨ s.m.iso.high = false)) :=
  ⟨⟨7, ⟨16, ⟨{ up with m.asy.started := true }, by decide +kernel⟩⟩⟩,
   ⟨7, ⟨16, ⟨{ up with m.asy.started := false }, by decide +kernel⟩⟩⟩,
   ⟨3, ⟨(pv [(0x27D9, 8)] { up with m.asy.started := true, m.asy.wire := .none, m.asy.wireDue := 0 }), by decide +kernel⟩⟩,
   ⟨0, ⟨{ up with m.asy.started := false }, by decide +kernel⟩⟩,
   ⟨0, ⟨{ up with m.asy.wire := .current 0 }, by decide +kernel⟩⟩,
   ⟨up, fun e h => by cases h⟩,
   ⟨0, ⟨{ up with m.dec.waiting := false }, by decide +kernel⟩⟩,
   ⟨{ up with m.iso.st := .warming, m.tim.beats := 65536 }, by decide +kernel⟩,
   ⟨{ up with m.iso.st := .off }, by decide +kernel⟩,
   ⟨{ up with m.asy.started := true }, by decide +kernel⟩,
   ⟨{ up with m.asy.started := true, m.iso.high := true }, by decide +kernel⟩,
   ⟨{ up with m.asy.started := false }, by decide +kernel⟩,
   ⟨{ up with m.asy.started := false }, by decide +kernel⟩⟩

/-- States and operands that meet the hypotheses of ChainRunsAndSeals, clause by clause. -/
theorem meets_ChainRunsAndSeals :
    (∃ v : Word, ∃ s : State, s.awake ∧ valueOk 0x2804 v = true ∧ s.m.cal.st ≠ .running ∧ s.m.runFault v ≠ 0) ∧
    (∃ v : Word, ∃ s : State, s.awake ∧ valueOk 0x2804 v = true ∧ s.m.cal.st ≠ .running ∧ s.m.runFault v = 0) ∧
    (∃ v : Word, ∃ s : State, (s.m.cal.st = .running ∨ valueOk 0x2804 v = false)) ∧
    (∃ s : State, s.awake ∧ s.m.cal.pointOver = true ∧ s.m.tim.clk = 0 ∧ s.m.cal.point + 1 < s.m.cal.points) ∧
    (∃ s : State, (s.m.cal.pointOver = false ∨ s.m.tim.clk ≠ 0 ∨ s.m.cal.points ≤ s.m.cal.point + 1)) ∧
    (∃ s : State, s.awake ∧ s.m.cal.st = .running ∧ s.m.cal.fail = none ∧ s.m.cal.settling = true ∧ s.m.cal.startAt ≤ s.m.tim.beats) ∧
    (∃ s : State, (s.m.cal.st ≠ .running ∨ s.m.cal.settling = false ∨ s.m.tim.beats < s.m.cal.startAt)) ∧
    (∃ es : List (Nat × CalEntry), ∃ s : State, s.awake ∧ s.m.cal.pointOver = true ∧ s.m.tim.clk = 0 ∧ s.m.cal.points ≤ s.m.cal.point + 1 ∧
      runResult s.m.cal (s.m.useN 0x840) ((s.m.cal.cur :: s.m.cal.res).reverse) = .inr es) ∧
    (∃ cause : Nat, ∃ s : State, s.awake ∧ s.m.cal.pointOver = true ∧ s.m.tim.clk = 0 ∧ s.m.cal.points ≤ s.m.cal.point + 1 ∧
      runResult s.m.cal (s.m.useN 0x840) ((s.m.cal.cur :: s.m.cal.res).reverse) = .inl cause) ∧
    (∃ s : State, (s.m.cal.pointOver = false ∨ s.m.tim.clk ≠ 0 ∨ s.m.cal.point + 1 < s.m.cal.points)) ∧
    (∃ s : State, s.awake ∧ s.m.cal.st = .running ∧ s.m.cal.fail = none) ∧
    (∃ s : State, s.m.cal.st ≠ .running) ∧
    (∃ s : State, s.awake) ∧
    (∃ slot : Fin 16, ∃ bad : Bool, ∃ s : State, s.awake ∧ s.m.sealFault slot.val bad ≠ 0) ∧
    (∃ slot : Fin 16, ∃ bad : Bool, ∃ s : State, s.awake ∧ s.m.sealFault slot.val bad = 0) ∧
    (∃ slot : Fin 16, ∃ ep : Nat, ∃ bytes : List Byte, ∃ s : State, s.awake ∧ s.m.cal.sealing = some (slot.val, ep, bytes)) ∧
    (∃ bad : Bool, ∃ s : State, s.m.cal.sealing = none) :=
  ⟨⟨0x11, ⟨up, by decide +kernel⟩⟩,
   ⟨0x11, ⟨(pv [(0x2800, 1), (0x2801, 1)] { up with m.trm.st := .held, m.mnt.st := .static, m.asy.started := true }), by decide +kernel⟩⟩,
   ⟨0, ⟨{ up with m.cal.st := .running }, by decide +kernel⟩⟩,
   ⟨{ up with m.cal.st := .running, m.cal.fail := none, m.cal.settling := false, m.cal.left := 0, m.cal.point := 1, m.cal.points := 3 }, by decide +kernel⟩,
   ⟨up, by decide +kernel⟩,
   ⟨{ up with m.cal.st := .running, m.cal.fail := none, m.cal.settling := true, m.cal.startAt := 1 }, by decide +kernel⟩,
   ⟨up, by decide +kernel⟩,
   ⟨[], ⟨{ up with m.cal.st := .running, m.cal.fail := none, m.cal.settling := false, m.cal.left := 0, m.cal.point := 1, m.cal.points := 2, m.cal.cur := { u := 1000000 }, m.cal.res := [{ u := 0 }] }, by decide +kernel⟩⟩,
   ⟨16, ⟨{ up with m.cal.st := .running, m.cal.fail := none, m.cal.settling := false, m.cal.left := 0, m.cal.point := 1, m.cal.points := 2 }, by decide +kernel⟩⟩,
   ⟨up, by decide +kernel⟩,
   ⟨{ up with m.cal.st := .running, m.cal.fail := none }, by decide +kernel⟩,
   ⟨up, by decide +kernel⟩,
   ⟨up, by decide +kernel⟩,
   ⟨15, ⟨false, ⟨up, by decide +kernel⟩⟩⟩,
   ⟨15, false, sealable, by decide +kernel, sealable_ok⟩,
   ⟨15, ⟨1, ⟨[0], ⟨{ up with m.cal.sealing := some (15, 1, [0]) }, by decide +kernel⟩⟩⟩⟩,
   ⟨false, ⟨{ up with m.cal.sealing := none }, by decide +kernel⟩⟩⟩

/-- States and operands that meet the hypotheses of VolumeMessagesAreActedOn, clause by clause. -/
theorem meets_VolumeMessagesAreActedOn :
    (∃ v : VMsg, ∃ s : State, s.awake ∧ v.port ≠ 0 ∧ s.m.portUp v.port.val = true ∧ s.m.joined v.port.val = true ∧
      v.origin.val ≠ s.m.volPos ∧ (v.bcast = true ∨ v.target.val = s.m.volPos) ∧ ∃ d : Word, s.m.isPrincipal = true) ∧
    (∃ v : VMsg, ∃ s : State, s.awake ∧ v.port ≠ 0 ∧ s.m.portUp v.port.val = true ∧ s.m.joined v.port.val = true ∧
      v.origin.val ≠ s.m.volPos ∧ (v.bcast = true ∨ v.target.val = s.m.volPos) ∧ ∃ bits : BitVec 16, ∃ d : Word, s.m.isPrincipal = true) ∧
    (∃ v : VMsg, ∃ s : State, s.awake ∧ v.port ≠ 0 ∧ s.m.portUp v.port.val = true ∧ s.m.joined v.port.val = true ∧
      v.origin.val ≠ s.m.volPos ∧ (v.bcast = true ∨ v.target.val = s.m.volPos) ∧ ∃ qid : Word, s.m.isMember = true) ∧
    (∃ v : VMsg, ∃ s : State, s.awake ∧ v.port ≠ 0 ∧ s.m.portUp v.port.val = true ∧ s.m.joined v.port.val = true ∧
      v.origin.val ≠ s.m.volPos ∧ (v.bcast = true ∨ v.target.val = s.m.volPos) ∧
      ∃ qid : Word, ∃ left : BitVec 8, ∃ a : Word, s.m.vol.req = some qid) ∧
    (∃ v : VMsg, ∃ s : State, s.awake ∧ v.port ≠ 0 ∧ s.m.portUp v.port.val = true ∧ s.m.joined v.port.val = true ∧
      v.origin.val ≠ s.m.volPos ∧ (v.bcast = true ∨ v.target.val = s.m.volPos) ∧ ∃ left : BitVec 8, ∃ a : Word, s.m.vol.req = none) ∧
    (∃ v : VMsg, ∃ s : State, s.awake ∧ v.port ≠ 0 ∧ s.m.portUp v.port.val = true ∧ s.m.joined v.port.val = true ∧
      v.origin.val ≠ s.m.volPos ∧ (v.bcast = true ∨ v.target.val = s.m.volPos) ∧ ∃ qid : Word, s.m.vol.req ≠ some qid) ∧
    (∃ v : VMsg, ∃ s : State, s.awake ∧ v.port ≠ 0 ∧ s.m.portUp v.port.val = true ∧ s.m.joined v.port.val = true ∧
      v.origin.val ≠ s.m.volPos ∧ (v.bcast = true ∨ v.target.val = s.m.volPos) ∧ ∃ qid : Word, s.m.vol.req = some qid) ∧
    (∃ v : VMsg, ∃ s : State, s.awake ∧ v.port ≠ 0 ∧ s.m.portUp v.port.val = true ∧ s.m.joined v.port.val = true ∧
      v.origin.val ≠ s.m.volPos ∧ (v.bcast = true ∨ v.target.val = s.m.volPos) ∧ ∃ beat : Word, True) ∧
    (∃ v : VMsg, ∃ s : State, s.awake ∧ v.port ≠ 0 ∧ s.m.portUp v.port.val = true ∧ s.m.joined v.port.val = true ∧
      v.origin.val ≠ s.m.volPos ∧ (v.bcast = true ∨ v.target.val = s.m.volPos) ∧ ∃ beat : Word, s.m.running = true ∧ s.m.qre.cfg.volume = true) ∧
    (∃ v : VMsg, ∃ s : State, s.awake ∧ v.port ≠ 0 ∧ s.m.portUp v.port.val = true ∧ s.m.joined v.port.val = true ∧
      v.origin.val ≠ s.m.volPos ∧ (v.bcast = true ∨ v.target.val = s.m.volPos) ∧ ∃ beat : Word, s.m.running = true ∧
      s.m.qre.cfg.volume = true ∧ s.m.qre.cur = none) ∧
    (∃ v : VMsg, ∃ s : State, s.awake ∧ v.port ≠ 0 ∧ s.m.portUp v.port.val = true ∧ s.m.joined v.port.val = true ∧
      v.origin.val ≠ s.m.volPos ∧ (v.bcast = true ∨ v.target.val = s.m.volPos) ∧ ∃ idx : BitVec 16, ∃ x : Word, s.m.isMember = true ∧
      s.m.qre.st = .running ∧ s.m.qre.cfg.volume = true ∧ s.m.qre.cur = none) ∧
    (∃ v : VMsg, ∃ s : State, s.awake ∧ v.port ≠ 0 ∧ s.m.portUp v.port.val = true ∧ s.m.joined v.port.val = true) ∧
    (∃ v : VMsg, ∃ s : State, s.m.portUp v.port.val = false) ∧
    (∃ p : Fin 3, ∃ pos : Fin 8, ∃ size : BitVec 4, ∃ s : State, s.awake ∧ p ≠ 0 ∧ s.m.portUp p.val = true ∧ s.m.helloJoins p.val = true ∧
      s.m.volOn = true) :=
  ⟨⟨{ port := 2, origin := 1, target := 0 }, ⟨(pv [(0x2900, 1), (0x2901, 0)] { up with m.spn.port := vmod up.m.spn.port 2 fun x => { x with st := .up } , m.vol.west := true, m.vol.east := true }), ⟨by decide +kernel, ⟨by decide +kernel, ⟨by decide +kernel, ⟨by decide +kernel, ⟨by decide +kernel, ⟨by decide +kernel, ⟨0, by decide +kernel⟩⟩⟩⟩⟩⟩⟩⟩⟩,
   ⟨{ port := 2, origin := 1, target := 0 }, ⟨(pv [(0x2900, 1), (0x2901, 0)] { up with m.spn.port := vmod up.m.spn.port 2 fun x => { x with st := .up } , m.vol.west := true, m.vol.east := true }), ⟨by decide +kernel, ⟨by decide +kernel, ⟨by decide +kernel, ⟨by decide +kernel, ⟨by decide +kernel, ⟨by decide +kernel, ⟨0, ⟨0, by decide +kernel⟩⟩⟩⟩⟩⟩⟩⟩⟩⟩,
   ⟨{ port := 2, origin := 1, target := 7 }, ⟨(pv [(0x2900, 1), (0x2901, 7)] { up with m.spn.port := vmod up.m.spn.port 2 fun x => { x with st := .up } , m.vol.west := true, m.vol.east := true }), ⟨by decide +kernel, ⟨by decide +kernel, ⟨by decide +kernel, ⟨by decide +kernel, ⟨by decide +kernel, ⟨by decide +kernel, ⟨0, by decide +kernel⟩⟩⟩⟩⟩⟩⟩⟩⟩,
   ⟨{ port := 2, origin := 1, target := 7 }, ⟨(pv [(0x2900, 1), (0x2901, 7)] { up with m.spn.port := vmod up.m.spn.port 2 fun x => { x with st := .up } , m.vol.west := true, m.vol.east := true, m.vol.req := some 0 }), ⟨by decide +kernel, ⟨by decide +kernel, ⟨by decide +kernel, ⟨by decide +kernel, ⟨by decide +kernel, ⟨by decide +kernel, ⟨0, ⟨0, ⟨0, by decide +kernel⟩⟩⟩⟩⟩⟩⟩⟩⟩⟩⟩,
   ⟨{ port := 2, origin := 1, target := 7 }, ⟨(pv [(0x2900, 1), (0x2901, 7)] { up with m.spn.port := vmod up.m.spn.port 2 fun x => { x with st := .up } , m.vol.west := true, m.vol.east := true }), ⟨by decide +kernel, ⟨by decide +kernel, ⟨by decide +kernel, ⟨by decide +kernel, ⟨by decide +kernel, ⟨by decide +kernel, ⟨0, ⟨0, by decide +kernel⟩⟩⟩⟩⟩⟩⟩⟩⟩⟩,
   ⟨{ port := 2, origin := 1, target := 7 }, ⟨(pv [(0x2900, 1), (0x2901, 7)] { up with m.spn.port := vmod up.m.spn.port 2 fun x => { x with st := .up } , m.vol.west := true, m.vol.east := true }), ⟨by decide +kernel, ⟨by decide +kernel, ⟨by decide +kernel, ⟨by decide +kernel, ⟨by decide +kernel, ⟨by decide +kernel, ⟨0, by decide +kernel⟩⟩⟩⟩⟩⟩⟩⟩⟩,
   ⟨{ port := 2, origin := 1, target := 7 }, ⟨(pv [(0x2900, 1), (0x2901, 7)] { up with m.spn.port := vmod up.m.spn.port 2 fun x => { x with st := .up } , m.vol.west := true, m.vol.east := true, m.vol.req := some 0 }), ⟨by decide +kernel, ⟨by decide +kernel, ⟨by decide +kernel, ⟨by decide +kernel, ⟨by decide +kernel, ⟨by decide +kernel, ⟨0, by decide +kernel⟩⟩⟩⟩⟩⟩⟩⟩⟩,
   ⟨{ port := 2, origin := 1, target := 7 }, ⟨(pv [(0x2900, 1), (0x2901, 7)] { up with m.spn.port := vmod up.m.spn.port 2 fun x => { x with st := .up } , m.vol.west := true, m.vol.east := true }), ⟨by decide +kernel, ⟨by decide +kernel, ⟨by decide +kernel, ⟨by decide +kernel, ⟨by decide +kernel, ⟨by decide +kernel, ⟨0, trivial⟩⟩⟩⟩⟩⟩⟩⟩⟩,
   ⟨{ port := 2, origin := 1, target := 7 }, ⟨(pv [(0x2900, 1), (0x2901, 7)] { up with m.spn.port := vmod up.m.spn.port 2 fun x => { x with st := .up } , m.vol.west := true, m.vol.east := true, m.qre.st := .running, m.qre.cfg.volume := true }), ⟨by decide +kernel, ⟨by decide +kernel, ⟨by decide +kernel, ⟨by decide +kernel, ⟨by decide +kernel, ⟨by decide +kernel, ⟨0, by decide +kernel⟩⟩⟩⟩⟩⟩⟩⟩⟩,
   ⟨{ port := 2, origin := 1, target := 7 }, ⟨(pv [(0x2900, 1), (0x2901, 7)] { up with m.spn.port := vmod up.m.spn.port 2 fun x => { x with st := .up } , m.vol.west := true, m.vol.east := true, m.qre.st := .running, m.qre.cfg.volume := true }), ⟨by decide +kernel, ⟨by decide +kernel, ⟨by decide +kernel, ⟨by decide +kernel, ⟨by decide +kernel, ⟨by decide +kernel, ⟨0, by decide +kernel⟩⟩⟩⟩⟩⟩⟩⟩⟩,
   ⟨{ port := 2, origin := 1, target := 7 }, ⟨(pv [(0x2900, 1), (0x2901, 7)] { up with m.spn.port := vmod up.m.spn.port 2 fun x => { x with st := .up } , m.vol.west := true, m.vol.east := true, m.qre.st := .running, m.qre.cfg.volume := true }), ⟨by decide +kernel, ⟨by decide +kernel, ⟨by decide +kernel, ⟨by decide +kernel, ⟨by decide +kernel, ⟨by decide +kernel, ⟨0, ⟨0, by decide +kernel⟩⟩⟩⟩⟩⟩⟩⟩⟩⟩,
   ⟨{ port := 2, origin := 1, target := 7 }, ⟨(pv [(0x2900, 1), (0x2901, 7)] { up with m.spn.port := vmod up.m.spn.port 2 fun x => { x with st := .up } , m.vol.west := true, m.vol.east := true }), by decide +kernel⟩⟩,
   ⟨{ port := 0, origin := 1 }, ⟨up, by decide +kernel⟩⟩,
   ⟨2, ⟨0, ⟨0, ⟨(pv [(0x2900, 1)] { up with m.spn.port := vmod up.m.spn.port 2 fun x => { x with st := .up, part := 0x4810, build := 1, role := 1 } }), by decide +kernel⟩⟩⟩⟩⟩

/-- States and operands that meet the hypotheses of VolumesExchangeAndAlign, clause by clause. -/
theorem meets_VolumesExchangeAndAlign :
    (∃ count : BitVec 64, ∃ time : BitVec 96, ∃ sent : Int, ∃ seen : Int, ∃ s : State, s.awake ∧ s.m.portUp 2 = true ∧ s.m.joined 2 = true) ∧
    (∃ p : Fin 3, ∃ echo : Bool, ∃ count : BitVec 64, ∃ time : BitVec 96, ∃ sent : Int, ∃ seen : Int, ∃ s : State, (s.m.portUp p.val = false ∨ s.m.joined p.val = false)) ∧
    (∃ count : BitVec 64, ∃ time : BitVec 96, ∃ sent : Int, ∃ seen : Int, ∃ s : State, s.awake ∧ s.m.portUp 1 = true ∧ s.m.joined 1 = true ∧
      s.m.vol.turn = none) ∧
    (∃ p : Fin 3, ∃ echo : Bool, ∃ count : BitVec 64, ∃ time : BitVec 96, ∃ sent : Int, ∃ seen : Int, ∃ s : State, ¬ (p = 2 ∧ echo = false) ∧
      ¬ (p = 1 ∧ echo = true)) ∧
    (∃ count : BitVec 16, ∃ turn : Word, ∃ s : State, s.awake ∧ s.m.portUp 1 = true ∧ s.m.joined 1 = true ∧ s.m.vol.echo = none) ∧
    (∃ count : BitVec 16, ∃ turn : Word, ∃ n : Nat, ∃ t0 : Nat, ∃ n1 : Nat, ∃ t1 : Int, ∃ t4 : Int, ∃ s : State, s.awake ∧
      s.m.portUp 1 = true ∧ s.m.joined 1 = true ∧ s.m.vol.sentAt = some (n, t0) ∧ s.m.vol.echo = some (n1, t1, t4) ∧ n % 65536 = n1 % 65536 ∧
      n % 65536 = count.toNat) ∧
    (∃ p : Fin 3, ∃ count : BitVec 16, ∃ turn : Word, ∃ s : State, (s.m.portUp p.val = false ∨ p = 0)) ∧
    (∃ theta : BitVec 16, ∃ xd : Word, ∃ n : Nat, ∃ x : Int, ∃ t2 : Int, ∃ s : State, s.awake ∧ s.m.portUp 2 = true ∧ s.m.joined 2 = true ∧
      s.m.vol.got = some (n, x, t2) ∧ s.m.volPos ≠ 0) ∧
    (∃ p : Fin 3, ∃ theta : BitVec 16, ∃ xd : Word, ∃ s : State, (s.m.portUp p.val = false ∨ p = 0)) ∧
    (∃ diff : Int, ∃ a : Align, ∃ s : State, s.awake ∧ s.m.isMember = true ∧ s.m.vol.align = some a ∧ a.set = true ∧ a.ring = false) ∧
    (∃ diff : Int, ∃ s : State, s.awake ∧ s.m.isMember = true ∧ s.m.vol.align = none ∧ s.m.vol.everAligned = true) ∧
    (∃ diff : Int, ∃ s : State, (s.m.isMember = false ∨ (∃ a, s.m.vol.align = some a ∧ a.set = false))) ∧
    (∃ near : Bool, ∃ s : State, s.awake ∧ s.m.isMember = true ∧ s.m.vol.st = .formed ∧ s.m.vol.everAligned = false ∧ s.m.vol.align = none ∧
      256 ≤ s.m.vol.exch ∧ (s.m.volPos = 1 ∨ near = true) ∧ s.m.running = false ∧ s.m.tim.holding = false ∧ s.m.tim.clk = 0 ∧
      s.m.vol.hopUp.isSome = true) ∧
    (∃ near : Bool, ∃ s : State, (s.m.isMember = false ∨ s.m.vol.st ≠ .formed ∨ s.m.vol.exch < 256 ∨ s.m.running = true ∨ s.m.tim.holding = true ∨ s.m.tim.clk ≠ 0)) ∧
    (∃ s : State, s.awake ∧ s.m.isPrincipal = true ∧ s.m.vol.st = .formed ∧ s.m.running = false) ∧
    (∃ s : State, (s.m.isPrincipal = false ∨ s.m.vol.st ≠ .formed ∨ s.m.running = true)) ∧
    (∃ b : Nat, ∃ s : State, s.awake ∧ s.m.vol.rcal = some b ∧ (b : Int) + 4096 ≤ s.m.volBeat ∧ s.m.isPrincipal = true ∧ s.m.vol.ring ≠ []) ∧
    (∃ b : Nat, ∃ s : State, s.awake ∧ s.m.vol.rcal = some b ∧ (b : Int) + 4096 ≤ s.m.volBeat ∧ s.m.isMember = true ∧ s.m.vol.ring ≠ [] ∧
      s.m.vol.align = none ∧ s.m.running = false ∧ s.m.vol.hopUp.isSome = true) ∧
    (∃ s : State, (s.m.vol.rcal = none ∨ (∃ b, s.m.vol.rcal = some b ∧ s.m.volBeat < (b : Int) + 4096))) ∧
    (∃ r : VolArm, ∃ s : State, s.awake ∧ s.m.vol.arm = some r ∧ s.m.isPrincipal = true ∧
      (r.k : Int) + s.m.vol.beatOfs + fld (s.m.pval 0x2903) 0 16 ≤ s.m.volBeat) ∧
    (∃ s : State, (s.m.vol.arm = none ∨ s.m.isPrincipal = false)) ∧
    (∃ a : Word, ∃ qid : Word, ∃ left : BitVec 8, ∃ s : State, s.awake ∧ s.m.vol.goBeat = some (a, qid, left) ∧
      BitVec.ofInt 32 s.m.volBeat ≠ a) ∧
    (∃ a : Word, ∃ qid : Word, ∃ left : BitVec 8, ∃ s : State, s.awake ∧ s.m.vol.goBeat = some (a, qid, left) ∧
      BitVec.ofInt 32 s.m.volBeat = a ∧ left.getLsbD s.m.volPos = true) ∧
    (∃ a : Word, ∃ qid : Word, ∃ left : BitVec 8, ∃ s : State, s.awake ∧ s.m.vol.goBeat = some (a, qid, left) ∧
      BitVec.ofInt 32 s.m.volBeat = a ∧ left.getLsbD s.m.volPos = false ∧ s.m.running = false ∧ s.m.armShed s.m.quireCfg = false ∧
      s.m.armFault { s.m.quireCfg with volume := true } = 0) ∧
    (∃ a : Word, ∃ qid : Word, ∃ left : BitVec 8, ∃ s : State, s.awake ∧ s.m.vol.goBeat = some (a, qid, left) ∧
      BitVec.ofInt 32 s.m.volBeat = a ∧ left.getLsbD s.m.volPos = false ∧ (s.m.running = true ∨ s.m.armShed s.m.quireCfg = true)) ∧
    (∃ s : State, s.m.vol.goBeat = none) ∧
    (∃ b : Word, ∃ s : State, s.awake ∧ s.m.vol.stopBeat = some b ∧ BitVec.ofInt 32 s.m.volBeat ≠ b) ∧
    (∃ b : Word, ∃ s : State, s.awake ∧ s.m.vol.stopBeat = some b ∧ BitVec.ofInt 32 s.m.volBeat = b ∧ s.m.running = true ∧
      s.m.qre.cfg.volume = true ∧ s.m.qre.cur = none) ∧
    (∃ s : State, s.m.vol.stopBeat = none) ∧
    (∃ r : Fin 3, ∃ v : Word, ∃ s : State, s.awake ∧ s.m.running = false ∧ valueOk (0x2900 + r.val) v = true ∧ s.m.dec.waiting = false ∧
      swf resetOf s.m.par.landed = true) ∧
    (∃ r : Fin 3, ∃ v : Word, ∃ s : State, s.m.volRefused [(0x2900 + r.val, v)] = true) :=
  ⟨⟨0, ⟨0, ⟨0, ⟨0, ⟨{ up with m.spn.port := vmod up.m.spn.port 2 fun x => { x with st := .up } , m.vol.west := true, m.vol.east := true }, by decide +kernel⟩⟩⟩⟩⟩,
   ⟨0, ⟨false, ⟨0, ⟨0, ⟨0, ⟨0, ⟨up, by decide +kernel⟩⟩⟩⟩⟩⟩⟩,
   ⟨0, ⟨0, ⟨0, ⟨0, ⟨{ up with m.spn.port := vmod up.m.spn.port 1 fun x => { x with st := .up } , m.vol.west := true, m.vol.east := true }, by decide +kernel⟩⟩⟩⟩⟩,
   ⟨0, ⟨false, ⟨0, ⟨0, ⟨0, ⟨0, ⟨up, by decide +kernel⟩⟩⟩⟩⟩⟩⟩,
   ⟨0, ⟨0, ⟨{ up with m.spn.port := vmod up.m.spn.port 1 fun x => { x with st := .up } , m.vol.west := true, m.vol.east := true }, by decide +kernel⟩⟩⟩,
   ⟨0, ⟨0, ⟨65536, ⟨0, ⟨0, ⟨0, ⟨0, ⟨{ up with m.spn.port := vmod up.m.spn.port 1 fun x => { x with st := .up } , m.vol.west := true, m.vol.east := true, m.vol.sentAt := some (65536, 0), m.vol.echo := some (0, 0, 0) }, by decide +kernel⟩⟩⟩⟩⟩⟩⟩⟩,
   ⟨0, ⟨0, ⟨0, ⟨up, by decide +kernel⟩⟩⟩⟩,
   ⟨0, ⟨0, ⟨0, ⟨0, ⟨0, ⟨(pv [(0x2900, 1), (0x2901, 7)] { up with m.spn.port := vmod up.m.spn.port 2 fun x => { x with st := .up } , m.vol.west := true, m.vol.east := true, m.vol.got := some (0, 0, 0) }), by decide +kernel⟩⟩⟩⟩⟩⟩,
   ⟨0, ⟨0, ⟨0, ⟨up, by decide +kernel⟩⟩⟩⟩,
   ⟨0, ⟨{ k := 0, u := 0, c := 0, theta := 0, set := true }, ⟨(pv [(0x2900, 1), (0x2901, 7)] { up with m.vol.align := some { k := 0, u := 0, c := 0, theta := 0, set := true } }), by decide +kernel⟩⟩⟩,
   ⟨0, ⟨(pv [(0x2900, 1), (0x2901, 1)] { up with m.vol.align := none, m.vol.everAligned := true }), by decide +kernel⟩⟩,
   ⟨0, ⟨up, by decide +kernel⟩⟩,
   ⟨true, ⟨(pv [(0x2900, 1), (0x2901, 7)] { up with m.vol.st := .formed, m.vol.exch := 256, m.vol.hopUp := some default }), by decide +kernel⟩⟩,
   ⟨false, ⟨up, by decide +kernel⟩⟩,
   ⟨(pv [(0x2900, 1)] { up with m.vol.st := .formed }), by decide +kernel⟩,
   ⟨up, by decide +kernel⟩,
   ⟨0, ⟨(pv [(0x2900, 1)] { up with m.vol.rcal := some 0, m.vol.ring := [0], m.tim.beats := 4097 }), by decide +kernel⟩⟩,
   ⟨0, ⟨(pv [(0x2900, 1), (0x2901, 1)] { up with m.vol.rcal := some 0, m.vol.ring := [0], m.vol.hopUp := some default, m.tim.beats := 4097 }), by decide +kernel⟩⟩,
   ⟨up, Or.inl rfl⟩,
   ⟨{ k := 0, qid := 0 }, ⟨(pv [(0x2900, 1)] { up with m.vol.arm := some { k := 0, qid := 0 }, m.tim.beats := 65536 }), by decide +kernel⟩⟩,
   ⟨{ up with m.vol.arm := none }, by decide +kernel⟩,
   ⟨1, ⟨0, ⟨0, ⟨{ up with m.vol.goBeat := some (1, 0, 0) }, by decide +kernel⟩⟩⟩⟩,
   ⟨0, ⟨0, ⟨1, ⟨{ up with m.vol.goBeat := some (0, 0, 1) }, by decide +kernel⟩⟩⟩⟩,
   ⟨0, ⟨0, ⟨0xFE, ⟨{ up with m.vol.goBeat := some (0, 0, 0xFE) }, by decide +kernel⟩⟩⟩⟩,
   ⟨0, ⟨0, ⟨0, ⟨{ up with m.vol.goBeat := some (0, 0, 0), m.qre.st := .running }, by decide +kernel⟩⟩⟩⟩,
   ⟨{ up with m.vol.goBeat := none }, by decide +kernel⟩,
   ⟨1, ⟨{ up with m.vol.stopBeat := some 1 }, by decide +kernel⟩⟩,
   ⟨0, ⟨{ up with m.vol.stopBeat := some 0, m.qre.st := .running, m.qre.cfg.volume := true, m.qre.cur := none }, by decide +kernel⟩⟩,
   ⟨{ up with m.vol.stopBeat := none }, by decide +kernel⟩,
   ⟨0, ⟨0, ⟨{ up with m.dec.waiting := false }, by decide +kernel⟩⟩⟩,
   ⟨2, ⟨1, ⟨{ up with m.qre.st := .running }, by decide +kernel⟩⟩⟩⟩

/-- States and operands that meet the hypotheses of EventsAreRecordedAndRaised, clause by clause. -/
theorem meets_EventsAreRecordedAndRaised :
    (∃ m : Mach, ∃ plane : Plane, ∃ code : Nat, ∃ a : Nat, ∃ b : Nat, ∃ origin : Option Master, ∃ c : Fin 11, m.flt.sinceDrop = 0) ∧
    (∃ m : Mach, ∃ plane : Plane, ∃ code : Nat, ∃ a : Nat, ∃ b : Nat, ∃ origin : Option Master, ∃ c : Fin 11, m.flt.sinceDrop = 0 ∧
      m.logFree = true) ∧
    (∃ m : Mach, ∃ plane : Plane, ∃ code : Nat, ∃ a : Nat, ∃ b : Nat, ∃ origin : Option Master, ∃ c : Fin 11, m.flt.sinceDrop = 0 ∧
      m.logFree = false) ∧
    (∃ r : LogRec, ∃ rest : List LogRec, ∃ s : State, s.awake ∧ s.m.flt.found = true ∧ s.m.flt.queue = r :: rest) ∧
    (∃ s : State, (s.m.flt.found = false ∨ s.m.flt.queue = [])) ∧
    (∃ s : State, s.awake ∧ s.m.flt.sinceDrop = 0) ∧
    (∃ k : Master, ∃ v : BitVec 11, ∃ s : State, s.awake ∧ s.m.flt.sinceDrop = 0 ∧ s.m.logFree = true) ∧
    (∃ s : State, s.awake) ∧
    (∃ k : Master, ∃ v : BitVec 11, ∃ s : State, s.awake) ∧
    (∃ v : BitVec 11, ∃ raised : BitVec 11, ∃ s : State, s.awake) :=
  ⟨⟨{ up.m with flt.sinceDrop := 0 }, ⟨.data, ⟨0, ⟨0, ⟨0, ⟨none, ⟨0, by decide +kernel⟩⟩⟩⟩⟩⟩⟩,
   ⟨{ up.m with flt.sinceDrop := 0 }, ⟨.data, ⟨0, ⟨0, ⟨0, ⟨none, ⟨10, by decide +kernel⟩⟩⟩⟩⟩⟩⟩,
   ⟨{ up.m with flt.sinceDrop := 0, flt.tokens := 0 }, ⟨.data, ⟨0, ⟨0, ⟨0, ⟨none, ⟨10, by decide +kernel⟩⟩⟩⟩⟩⟩⟩,
   ⟨default, ⟨[], ⟨{ up with m.flt.found := true, m.flt.queue := default :: [] }, by decide +kernel⟩⟩⟩,
   ⟨{ up with m.flt.found := false }, by decide +kernel⟩,
   ⟨{ up with m.flt.sinceDrop := 0 }, by decide +kernel⟩,
   ⟨.spi, ⟨0, ⟨{ up with m.flt.sinceDrop := 0 }, by decide +kernel⟩⟩⟩,
   ⟨up, by decide +kernel⟩,
   ⟨.spi, ⟨0, ⟨up, by decide +kernel⟩⟩⟩,
   ⟨0, ⟨0, ⟨up, by decide +kernel⟩⟩⟩⟩

/-- States and operands that meet the hypotheses of VaultOperationsStartAndEnd, clause by clause. -/
theorem meets_VaultOperationsStartAndEnd :
    (∃ kind : Fin 16, ∃ slot : Fin 32, ∃ s : State, s.awake ∧ s.m.programFault ≠ 0 ∧ s.m.vlt.op = none) ∧
    (∃ kind : Fin 16, ∃ slot : Fin 32, ∃ s : State, s.awake ∧ s.m.programFault = 0) ∧
    (∃ kind : Fin 16, ∃ slot : Fin 32, ∃ s : State, s.awake ∧ s.m.vlt.op = none ∧ secOf kind.val slot.val = none) ∧
    (∃ kind : Fin 16, ∃ slot : Fin 32, ∃ s : State, s.awake ∧ s.m.vlt.op = none ∧ ∃ sec, secOf kind.val slot.val = some sec ∧
      s.m.slotBusy sec = true) ∧
    (∃ kind : Fin 16, ∃ slot : Fin 32, ∃ s : State, s.awake ∧ s.m.vlt.op = none ∧ ∃ sec, secOf kind.val slot.val = some sec ∧
      s.m.slotBusy sec = false) ∧
    (∃ s : State, s.awake ∧ s.m.vlt.op = none ∧ s.m.ddrUp = false) ∧
    (∃ s : State, s.awake ∧ s.m.vlt.op = none ∧ s.m.ddrUp = true ∧ s.m.inDdr s.m.vaultDst exportLen = false) ∧
    (∃ s : State, s.awake ∧ s.m.vlt.op = none ∧ s.m.ddrUp = true ∧ s.m.inDdr s.m.vaultDst exportLen = true) ∧
    (∃ s : State, s.awake ∧ s.m.vlt.op.isSome = true) ∧
    (∃ e : VaultEnd, ∃ bad : List Nat, ∃ s : State, s.m.vlt.op = none) ∧
    (∃ sec : Fin 34, ∃ bytes : List Byte, ∃ s : State, s.awake ∧ s.m.vlt.op = some (.program sec.val bytes) ∧ bytes.length ≤ bankSize sec.val) ∧
    (∃ sec : Fin 34, ∃ bytes : List Byte, ∃ bad : List Nat, ∃ s : State, s.awake ∧ s.m.vlt.op = some (.program sec.val bytes)) ∧
    (∃ sec : Fin 34, ∃ e : VaultEnd, ∃ bad : List Nat, ∃ s : State, s.awake ∧ s.m.vlt.op = some (.erase sec.val)) ∧
    (∃ dst : Nat, ∃ bytes : List Byte, ∃ s : State, s.awake ∧ s.m.vlt.op = some (.exporting dst bytes)) ∧
    (∃ s : State, s.awake ∧ s.m.vlt.scrubbing = false ∧ s.m.vlt.nv.scrubEnd + 2592000 ≤ s.m.vlt.powered) ∧
    (∃ s : State, s.awake ∧ s.m.vlt.scrubbing = false ∧ s.m.vlt.powered < s.m.vlt.nv.scrubEnd + 2592000) ∧
    (∃ s : State, s.awake ∧ s.m.vlt.scrubbing = false) ∧
    (∃ s : State, s.awake) ∧
    (∃ corrected : Nat, ∃ bad : List Nat, ∃ s : State, s.awake ∧ s.m.vlt.scrubbing = true) :=
  ⟨⟨0, ⟨0, ⟨{ up with m.vlt.op := none }, by decide +kernel⟩⟩⟩,
   ⟨0, ⟨0, ⟨withBytes 0 (crcEnded (crcEnded (leBytes 0x544C564A 4 ++ leBytes 1 2 ++ leBytes 0x4810 2 ++ leBytes 1 2 ++ [4, 0] ++ leBytes 1 4 ++ leBytes 0 8 ++ leBytes 76 4 ++ List.replicate 32 0) ++ leBytes 0xFFFF 4 ++ leBytes 0x2000 4)) up, by decide +kernel⟩⟩⟩,
   ⟨0, ⟨0, ⟨{ up with m.vlt.op := none }, by decide +kernel⟩⟩⟩,
   ⟨2, ⟨31, ⟨{ up with m.ins.active := 31 }, ⟨by decide +kernel, ⟨by decide +kernel, ⟨31, by decide +kernel⟩⟩⟩⟩⟩⟩,
   ⟨2, ⟨31, ⟨{ up with m.vlt.op := none }, ⟨by decide +kernel, ⟨by decide +kernel, ⟨31, by decide +kernel⟩⟩⟩⟩⟩⟩,
   ⟨{ up with m.vlt.op := none, m.store.st := .untrained }, by decide +kernel⟩,
   ⟨(pv [(0x705, 1)] { up with m.vlt.op := none }), by decide +kernel⟩,
   ⟨{ up with m.vlt.op := none }, by decide +kernel⟩,
   ⟨{ up with m.vlt.op := some default }, by decide +kernel⟩,
   ⟨default, ⟨[], ⟨{ up with m.vlt.op := none }, by decide +kernel⟩⟩⟩,
   ⟨33, ⟨[0], ⟨{ up with m.vlt.op := some (.program 33 [0]) }, by decide +kernel⟩⟩⟩,
   ⟨33, ⟨[0], ⟨[], ⟨{ up with m.vlt.op := some (.program 33 [0]) }, by decide +kernel⟩⟩⟩⟩,
   ⟨33, ⟨default, ⟨[], ⟨{ up with m.vlt.op := some (.erase 33) }, by decide +kernel⟩⟩⟩⟩,
   ⟨0, ⟨[], ⟨{ up with m.vlt.op := some (.exporting 0 []) }, by decide +kernel⟩⟩⟩,
   ⟨{ up with m.vlt.scrubbing := false, m.vlt.powered := 2592000 }, by decide +kernel⟩,
   ⟨{ up with m.vlt.scrubbing := false, m.vlt.powered := 2591999 }, by decide +kernel⟩,
   ⟨{ up with m.vlt.scrubbing := false }, by decide +kernel⟩,
   ⟨up, by decide +kernel⟩,
   ⟨0, ⟨[], ⟨{ up with m.vlt.scrubbing := true }, by decide +kernel⟩⟩⟩⟩

/-- States and operands that meet the hypotheses of WordsHoldTheirFields. -/
theorem meets_WordsHoldTheirFields :
    ∃ t : BitVec 96, ∃ i : Nat, ∃ j : Nat, i < 3 ∧ j < 32 :=
  ⟨0, ⟨0, ⟨0, by decide +kernel⟩⟩⟩

end Sys2Proof.Tests
end

section
/-! SUPPORT. The bits of fields and of the words of 96-bit values, and the statement about them (R4, R88). -/

namespace Sys2Proof.Machine

/-! ### Bits of fields and words -/

theorem bitOf_eq_testBit (w : Word) (i : Nat) : bitOf w i = w.toNat.testBit i := rfl

/-- The mask of n bits cuts the field off above its upper end bit; the shift brings its lower end bit to position 0. -/
theorem testBit_nfld (w lo n i : Nat) : (nfld w lo n).testBit i = (decide (i < n) && w.testBit (lo + i)) := by
  rw [nfld, Nat.testBit_mod_two_pow, Nat.testBit_shiftRight]

theorem testBit_fld (w : Word) (lo n i : Nat) : (fld w lo n).testBit i = (decide (i < n) && bitOf w (lo + i)) :=
  testBit_nfld w.toNat lo n i

theorem bitOf_zero (w : Word) : bitOf w 0 = decide (w.toNat % 2 = 1) := by
  rw [bitOf_eq_testBit, Nat.testBit_zero]

theorem bitOf_w32 (n i : Nat) : bitOf (w32 n) i = (decide (i < 32) && n.testBit i) :=
  BitVec.getLsbD_ofNat 32 n i

theorem bitOf_word96 (t : BitVec 96) (i j : Nat) :
    bitOf (word96 t i) j = (decide (j < 32) && t.getLsbD (32 * i + j)) := by
  rw [word96, bitOf_w32, Nat.testBit_shiftRight, BitVec.testBit_toNat]

end Sys2Proof.Machine

open Sys2Proof.Machine

/-- Settles O60: a field is a shift and a mask of n bits, a word of a 96-bit value a shift and a cut to 32 bits. -/
theorem wordsHoldTheirFields : Obligations.WordsHoldTheirFields := by
  refine ⟨testBit_fld, bitOf_zero, fun t i j _ hj => ?_⟩
  have hword := bitOf_word96 t i j
  rwa [decide_eq_true hj, Bool.true_and] at hword
end

section
/-! SUPPORT. What an event does to sealed commits when the log is full, and the statement on the reference PLL (R53, R55, R745, R746, R756). -/

namespace Sys2Proof.Machine

/-! ### Events of a full log -/

theorem Mach.flushDropped_of_noneDropped (m : Mach) (h : m.flt.sinceDrop = 0) : m.flushDropped = m := if_pos h

/-- A raise shows in the sealed commits of both masters (R746) and in nothing else of the control port. -/
theorem Mach.raise_ctl (m : Mach) (cls code seq : Nat) :
    (m.raise cls code seq).ctl = { m.ctl with spi := m.ctl.spi.noteRaise cls, host := m.ctl.host.noteRaise cls } := by
  unfold Mach.raise
  dsimp only
  split <;> simp

/-- The first record that a full log drops raises class LOG, even for an event without a class (R756). -/
theorem Mach.logEvent_ctl_of_full (m : Mach) (plane : Plane) (code a b : Nat) (origin : Option Master)
    (hdrop : m.flt.sinceDrop = 0) (hfull : m.logFree = false) :
    (m.logEvent plane code a b origin).ctl = { m.ctl with spi := m.ctl.spi.noteRaise 10, host := m.ctl.host.noteRaise 10 } := by
  simp [Mach.logEvent, Mach.flushDropped_of_noneDropped m hdrop, hfull, Mach.raiseOf, hdrop, Mach.raise_ctl]

/-- REF_LOCKED logs without a class, so with a full log it raises LOG. -/
theorem Mach.refLocked_ctl_of_full (m : Mach) (hlocking : m.tim.ref = .locking) (hdrop : m.flt.sinceDrop = 0)
    (hfull : m.logFree = false) :
    m.refLocked.ctl = { m.ctl with spi := m.ctl.spi.noteRaise 10, host := m.ctl.host.noteRaise 10 } := by
  have hflt : m.noteNow.flt = m.flt := by simp
  have hctl : m.noteNow.ctl = m.ctl := by unfold Mach.noteNow; split <;> simp
  rw [Mach.refLocked, if_pos (by simp [hlocking]), Mach.logEvent_ctl_of_full _ _ _ _ _ _ (by simpa [hflt] using hdrop)
    (by simpa [Mach.logFree, hflt] using hfull), hctl]

/-! ### The counterexample -/

/-- An engine out of reset whose reference PLL is LOCKING, with a sealed commit of the SPI master and no log token left. -/
def lockingFullLog : State :=
  { m.boot.inReset := false, m.tim.ref := .locking, m.flt.tokens := 0
    m.ctl.spi.commit := some { changes := [], landing := 1, num := 1 } }

/-- REF_LOCKED marks class LOG as raised in the sealed commit, which had none raised. -/
theorem refLocked_lockingFullLog_ctl_ne : lockingFullLog.m.refLocked.ctl ≠ lockingFullLog.m.ctl := by
  rw [Mach.refLocked_ctl_of_full _ rfl rfl rfl]
  intro h
  have hraised := congrArg (fun c : Ctl => c.spi.commit.map (·.raised)) h
  exact absurd hraised (by decide)

end Sys2Proof.Machine

open Sys2Proof.Machine

/-- Refutes O27: its clause on REF_LOCKED has the control port unchanged, but with a full log the dropped REF_LOCKED record raises
class LOG, which a sealed commit notes. -/
theorem not_referenceStatesChange : ¬ Obligations.ReferenceStatesChange := by
  intro h
  obtain ⟨hevents, _⟩ := h
  obtain ⟨_, _, _, hlocked, _⟩ := hevents lockingFullLog rfl
  obtain ⟨t, hexec, _, _, hctl, _⟩ := hlocked rfl
  have hrun : exec .refLocked lockingFullLog = .next (lockingFullLog.withEngine lockingFullLog.m.refLocked) :=
    run_awake lockingFullLog (·.refLocked) rfl
  rw [hrun] at hexec
  cases hexec
  exact refLocked_lockingFullLog_ctl_ne hctl
end

section
/-! SUPPORT. The count of beat boundaries: what each operation of the engine leaves of the timebase (R75).
For the operations that Laws/Frame.lean does not list, a lemma `_tim` says that an operation leaves the whole timebase as it was, and
`_beats` that one which moves the timebase leaves its count of boundaries. -/

namespace Sys2Proof.Machine

/-! ### Folds and choices -/

theorem foldl_beats {α : Type} (f : Mach → α → Mach) (h : ∀ m x, (f m x).tim.beats = m.tim.beats) (l : List α) (m : Mach) :
    (l.foldl f m).tim.beats = m.tim.beats := foldl_keeps (·.tim.beats) f h l m

/-- What every step of a fold over an engine and what goes with it leaves as it was, the fold leaves as it was. -/
theorem foldl_fst_keeps {α β γ : Type} (p : Mach → γ) (f : Mach × β → α → Mach × β) (h : ∀ x a, p (f x a).1 = p x.1)
    (l : List α) (x : Mach × β) : p (l.foldl f x).1 = p x.1 := by
  induction l generalizing x with
  | nil => rfl
  | cons a t ih => rw [List.foldl_cons, ih, h]

@[simp] theorem Tim.ite_beats (c : Prop) [Decidable c] (a b : Tim) : (if c then a else b).beats = if c then a.beats else b.beats :=
  apply_ite Tim.beats c a b

/-! ### Time on its own -/

@[simp] theorem Tim.source_beats (t : Tim) (holding stopped : Bool) : (t.source holding stopped).beats = t.beats := rfl

@[simp] theorem Tim.advance_beats (t : Tim) (n : Nat) : (t.advance n).beats = t.beats := rfl

@[simp] theorem Tim.hold_beats (t : Tim) (c : Nat) : (t.hold c).beats = t.beats := by
  unfold Tim.hold
  rfl

@[simp] theorem Tim.requalify_beats (t : Tim) : t.requalify.beats = t.beats := rfl

@[simp] theorem Tim.nextWindow_beats (t : Tim) : t.nextWindow.beats = t.beats := rfl

@[simp] theorem Tim.firstWindow_beats (t : Tim) : t.firstWindow.beats = t.beats := by
  unfold Tim.firstWindow
  split <;> rfl

/-- What is done on behalf of a master moves the timebase as the act does. -/
@[simp] theorem Mach.behalf_tim (m : Mach) (k : Option Master) (f : Mach → Mach) :
    (m.behalf k f).tim = (f { m with flt := { m.flt with origin := k } }).tim := rfl

/-! ### Hallmark flags -/

@[simp] theorem Mach.closeInterval_tim (m : Mach) : m.closeInterval.tim = m.tim := by simp [Mach.closeInterval]

@[simp] theorem Mach.latchFlags_tim (m : Mach) : m.latchFlags.tim = m.tim := by simp [Mach.latchFlags]

/-! ### Quires -/

@[simp] theorem Mach.armLand_tim (m : Mach) (v : Word) : (m.armLand v).tim = m.tim := by simp [Mach.armLand]

@[simp] theorem Mach.qreOverflow_tim (m : Mach) (held : Nat) : (m.qreOverflow held).tim = m.tim := by
  unfold Mach.qreOverflow
  dsimp only
  (repeat' split) <;> simp [foldl_keeps]

/-! ### The pilot -/

@[simp] theorem Mach.mintGo_tim (m : Mach) : m.mintGo.tim = m.tim := by simp [Mach.mintGo]

/-! ### The timebase -/

@[simp] theorem Mach.gateSlices_beats (m : Mach) : m.gateSlices.tim.beats = m.tim.beats := by simp [Mach.gateSlices]

@[simp] theorem Mach.restartSlices_beats (m : Mach) : m.restartSlices.tim.beats = m.tim.beats := by simp [Mach.restartSlices]

@[simp] theorem Mach.coreRelock_beats (m : Mach) (cause : Nat) : (m.coreRelock cause).tim.beats = m.tim.beats := by
  simp [Mach.coreRelock]

@[simp] theorem Mach.synthRelock_beats (m : Mach) : m.synthRelock.tim.beats = m.tim.beats := by simp [Mach.synthRelock]

@[simp] theorem Mach.refLoss_beats (m : Mach) (arg : Nat) : (m.refLoss arg).tim.beats = m.tim.beats := by simp [Mach.refLoss]

@[simp] theorem Mach.referenceChange_beats (m : Mach) (to100 qualified : Bool) :
    (m.referenceChange to100 qualified).tim.beats = m.tim.beats := by
  simp [Mach.referenceChange]

@[simp] theorem Mach.refFreqLanded_beats (m : Mach) : m.refFreqLanded.tim.beats = m.tim.beats := by
  unfold Mach.refFreqLanded
  split <;> simp

@[simp] theorem Mach.refLost_beats (m : Mach) (phase : Bool) : (m.refLost phase).tim.beats = m.tim.beats := by simp [Mach.refLost]

@[simp] theorem Mach.qualWindow_beats (m : Mach) (missing : Bool) (met : Option Bool) :
    (m.qualWindow missing met).tim.beats = m.tim.beats := by
  unfold Mach.qualWindow
  dsimp only
  (repeat' split) <;> simp

@[simp] theorem Mach.refLocked_beats (m : Mach) : m.refLocked.tim.beats = m.tim.beats := by simp [Mach.refLocked]

@[simp] theorem Mach.refAbsent_beats (m : Mach) : m.refAbsent.tim.beats = m.tim.beats := by simp [Mach.refAbsent]

@[simp] theorem Mach.corePllUnlock_beats (m : Mach) : m.corePllUnlock.tim.beats = m.tim.beats := by simp [Mach.corePllUnlock]

@[simp] theorem Mach.corePllLock_beats (m : Mach) : m.corePllLock.tim.beats = m.tim.beats := by simp [Mach.corePllLock]

@[simp] theorem Mach.coreSwitchback_beats (m : Mach) : m.coreSwitchback.tim.beats = m.tim.beats := by simp [Mach.coreSwitchback]

@[simp] theorem Mach.relockFail_beats (m : Mach) (core : Bool) : (m.relockFail core).tim.beats = m.tim.beats := by
  simp [Mach.relockFail]

@[simp] theorem Mach.relockAgain_beats (m : Mach) : m.relockAgain.tim.beats = m.tim.beats := by simp [Mach.relockAgain]

@[simp] theorem Mach.relockRetry_beats (m : Mach) (v : Word) : (m.relockRetry v).tim.beats = m.tim.beats := by simp [Mach.relockRetry]

@[simp] theorem Mach.synthUnlock_beats (m : Mach) : m.synthUnlock.tim.beats = m.tim.beats := by simp [Mach.synthUnlock]

@[simp] theorem Mach.synthLocked_beats (m : Mach) : m.synthLocked.tim.beats = m.tim.beats := by simp [Mach.synthLocked]

@[simp] theorem Mach.sliceRestart_beats (m : Mach) : m.sliceRestart.tim.beats = m.tim.beats := by simp [Mach.sliceRestart]

@[simp] theorem Mach.setArm_beats (m : Mach) (v : Word) : (m.setArm v).tim.beats = m.tim.beats := by simp [Mach.setArm]

@[simp] theorem Mach.adjRequest_beats (m : Mach) (v : Word) : (m.adjRequest v).tim.beats = m.tim.beats := by simp [Mach.adjRequest]

@[simp] theorem Mach.timeStep_beats (m : Mach) : m.timeStep.tim.beats = m.tim.beats := by
  unfold Mach.timeStep
  split <;> simp

@[simp] theorem Mach.ppsEdge_beats (m : Mach) : m.ppsEdge.tim.beats = m.tim.beats := by
  unfold Mach.ppsEdge
  split <;> simp

/-! ### Live trim -/

@[simp] theorem Mach.trimLand_tim (m : Mach) : m.trimLand.tim = m.tim := by
  unfold Mach.trimLand
  split <;> simp

@[simp] theorem Mach.trimCalibrated_tim (m : Mach) : m.trimCalibrated.tim = m.tim := by simp [Mach.trimCalibrated]

@[simp] theorem Mach.pilotReturn_tim (m : Mach) : m.pilotReturn.tim = m.tim := by simp [Mach.pilotReturn]

@[simp] theorem Mach.pilotRestart_tim (m : Mach) : m.pilotRestart.tim = m.tim := by simp [Mach.pilotRestart]

@[simp] theorem Mach.trimBlock_tim (m : Mach) (o : BlockObs) : (m.trimBlock o).tim = m.tim := by simp [Mach.trimBlock]

@[simp] theorem Mach.gapOpen_tim (m : Mach) : m.gapOpen.tim = m.tim := by simp [Mach.gapOpen]

/-! ### The Mint -/

@[simp] theorem Mach.mintApply_tim (m : Mach) : m.mintApply.tim = m.tim := by simp [Mach.mintApply]

@[simp] theorem Mach.mintRelease_tim (m : Mach) : m.mintRelease.tim = m.tim := by simp [Mach.mintRelease]

@[simp] theorem Mach.mintReload_tim (m : Mach) : m.mintReload.tim = m.tim := by simp [Mach.mintReload]

@[simp] theorem Mach.mintRate_tim (m : Mach) : m.mintRate.tim = m.tim := by simp [Mach.mintRate]

@[simp] theorem Mach.spanHoldEnd_tim (m : Mach) : m.spanHoldEnd.tim = m.tim := by simp [Mach.spanHoldEnd]

@[simp] theorem Mach.spanCode_tim (m : Mach) : m.spanCode.tim = m.tim := by simp [Mach.spanCode]

@[simp] theorem Mach.playLoadDone_tim (m : Mach) (bad : Bool) : (m.playLoadDone bad).tim = m.tim := by simp [Mach.playLoadDone]

@[simp] theorem Mach.playStart_tim (m : Mach) : m.playStart.tim = m.tim := by simp [Mach.playStart]

@[simp] theorem Mach.playAdvance_tim (m : Mach) : m.playAdvance.tim = m.tim := by simp [Mach.playAdvance]

@[simp] theorem Mach.mintComply_tim (m : Mach) (points : BitVec 3) : (m.mintComply points).tim = m.tim := by simp [Mach.mintComply]

@[simp] theorem Mach.mintDisconnect_tim (m : Mach) : m.mintDisconnect.tim = m.tim := by simp [Mach.mintDisconnect]

@[simp] theorem Mach.complyClear_tim (m : Mach) (v : Word) : (m.complyClear v).tim = m.tim := by simp [Mach.complyClear]

@[simp] theorem Mach.faultClear_tim (m : Mach) (v : Word) : (m.faultClear v).tim = m.tim := by simp [Mach.faultClear]

@[simp] theorem Mach.mintBias_tim (m : Mach) (bad : Bool) : (m.mintBias bad).tim = m.tim := by simp [Mach.mintBias]

@[simp] theorem Mach.mintUp_tim (m : Mach) : m.mintUp.tim = m.tim := by simp [Mach.mintUp]

/-! ### The Assay and the Isotherm -/

@[simp] theorem Mach.assayRequest_tim (m : Mach) (js : BitVec 32) : (m.assayRequest js).tim = m.tim := by simp [Mach.assayRequest]

@[simp] theorem Mach.kicks_tim (m : Mach) : m.kicks.tim = m.tim := by simp [Mach.kicks]

@[simp] theorem Mach.kickLanded_tim (m : Mach) (v : Word) : (m.kickLanded v).tim = m.tim := by simp [Mach.kickLanded]

@[simp] theorem Mach.cfgLanded_tim (m : Mach) (j : Nat) : (m.cfgLanded j).tim = m.tim := by simp [Mach.cfgLanded]

@[simp] theorem Mach.asyBoundary_tim (m : Mach) : m.asyBoundary.tim = m.tim := by simp [Mach.asyBoundary]

@[simp] theorem Mach.coefLanded_tim (m : Mach) (x : Nat) : (m.coefLanded x).tim = m.tim := by simp [Mach.coefLanded]

@[simp] theorem Mach.isoBand_tim (m : Mach) (ok : Bool) : (m.isoBand ok).tim = m.tim := by
  unfold Mach.isoBand
  dsimp only
  (repeat' split) <;> simp

@[simp] theorem Mach.isoUpdate_tim (m : Mach) (t : Int) : (m.isoUpdate t).tim = m.tim := by simp [Mach.isoUpdate]

@[simp] theorem Mach.isoCtl_tim (m : Mach) : m.isoCtl.tim = m.tim := by simp [Mach.isoCtl]

@[simp] theorem Mach.pwmPeriod_tim (m : Mach) : m.pwmPeriod.tim = m.tim := by simp [Mach.pwmPeriod]

@[simp] theorem Mach.pwmHighEnd_tim (m : Mach) : m.pwmHighEnd.tim = m.tim := by simp [Mach.pwmHighEnd]

@[simp] theorem Mach.pointEnd_tim (m : Mach) : m.pointEnd.tim = m.tim := by
  unfold Mach.pointEnd
  dsimp only
  (repeat' split) <;> simp

@[simp] theorem Mach.wireSettled_tim (m : Mach) : m.wireSettled.tim = m.tim := by
  unfold Mach.wireSettled
  split <;> simp

@[simp] theorem Mach.wireEnd_tim (m : Mach) (e : Nat) (r : Int) : (m.wireEnd e r).tim = m.tim := by simp [Mach.wireEnd]

@[simp] theorem Mach.addResult_tim (m : Mach) (j : Nat) (c : Conv) (r : Int) : (m.addResult j c r).tim = m.tim := by
  simp [Mach.addResult]

@[simp] theorem Mach.pointConv_tim (m : Mach) (u : Int) : (m.pointConv u).tim = m.tim := by
  unfold Mach.pointConv
  split <;> simp

@[simp] theorem Mach.chainConv_tim (m : Mach) (o : ConvObs) : (m.chainConv o).tim = m.tim := by simp [Mach.chainConv]

@[simp] theorem Mach.conversionEnd_tim (m coef : Mach) (v : Fin 3) (o : ConvObs) : (m.conversionEnd coef v o).tim = m.tim := by
  unfold Mach.conversionEnd
  dsimp only
  (repeat' split) <;> simp

@[simp] theorem Mach.limits_tim (m : Mach) (j : Nat) (mean : Int) : (m.limits j mean).tim = m.tim := by simp [Mach.limits, foldl_keeps]

@[simp] theorem Mach.latchAcc_tim (m : Mach) (j : Nat) : (m.latchAcc j).tim = m.tim := by
  unfold Mach.latchAcc
  split <;> simp

@[simp] theorem Mach.trackers_tim (m : Mach) : m.trackers.tim = m.tim := by simp [Mach.trackers]

@[simp] theorem Mach.asyStep7_tim (m : Mach) : m.asyStep7.tim = m.tim := by simp [Mach.asyStep7, foldl_keeps]

@[simp] theorem Mach.asyStop_tim (m : Mach) : m.asyStop.tim = m.tim := by simp [Mach.asyStop]

@[simp] theorem Mach.asyCtl_tim (m : Mach) : m.asyCtl.tim = m.tim := by simp [Mach.asyCtl]

@[simp] theorem Mach.owClear_tim (m : Mach) (v : Word) : (m.owClear v).tim = m.tim := by simp [Mach.owClear]

/-! ### Front end and slices -/

@[simp] theorem Mach.overloadFire_tim (m : Mach) (k : Nat) (p n : Int) : (m.overloadFire k p n).tim = m.tim := by
  simp [Mach.overloadFire]

@[simp] theorem Mach.overloadEnd_tim (m : Mach) (k : Nat) : (m.overloadEnd k).tim = m.tim := by simp [Mach.overloadEnd]

@[simp] theorem Mach.auxHoldStart_tim (m : Mach) : m.auxHoldStart.tim = m.tim := by simp [Mach.auxHoldStart]

@[simp] theorem Mach.auxOff_tim (m : Mach) : m.auxOff.tim = m.tim := by simp [Mach.auxOff]

@[simp] theorem Mach.frontUp_tim (m : Mach) : m.frontUp.tim = m.tim := by simp [Mach.frontUp]

@[simp] theorem Mach.modeChange_beats (m : Mach) (mode : Bool) : (m.modeChange mode).tim.beats = m.tim.beats := by
  simp [Mach.modeChange]

@[simp] theorem Mach.modeRestart_beats (m : Mach) : m.modeRestart.tim.beats = m.tim.beats := by simp [Mach.modeRestart]

@[simp] theorem Mach.calMeasure_tim (m : Mach) (o : List (Fin 256 × Int × Nat)) : (m.calMeasure o).tim = m.tim := by
  simp [Mach.calMeasure]

@[simp] theorem Mach.calEnd_tim (m : Mach) (obs : List SliceObs) : (m.calEnd obs).tim = m.tim := by simp [Mach.calEnd]

@[simp] theorem Mach.sliceUp_tim (m : Mach) : m.sliceUp.tim = m.tim := by simp [Mach.sliceUp]

/-! ### Detection -/

@[simp] theorem Mach.observe_tim (m : Mach) (r : Round) (o : Obs) : (m.observe r o).1.tim = m.tim := by
  cases o <;> simp [Mach.observe]

@[simp] theorem Mach.detectAll_tim (m : Mach) (obs : List Obs) : (m.detectAll obs).1.tim = m.tim :=
  foldl_fst_keeps (·.tim) _ (fun p o => Mach.observe_tim p.1 p.2 o) obs (m, {})

@[simp] theorem Mach.detectorChange_tim (m : Mach) (obs : List Obs) : (m.detectorChange obs).tim = m.tim := by
  simp [Mach.detectorChange]

/-! ### Rounds and the clearing table -/

@[simp] theorem Mach.exclude_tim (before m : Mach) (d : Detection) : (before.exclude m d).1.tim = m.tim := by
  unfold Mach.exclude
  dsimp only
  (repeat' split) <;> simp

@[simp] theorem Mach.candidates_tim (before : Mach) (ds : List Detection) (m : Mach) :
    (before.candidates ds m).1.tim = m.tim := by
  induction ds generalizing m with
  | nil => rfl
  | cons d ds ih => simp [Mach.candidates, ih]

@[simp] theorem Mach.attempt_tim (m : Mach) (d : Detection) (mask : BitVec 64) : (m.attempt d mask).1.tim = m.tim := by
  unfold Mach.attempt
  split
  · rfl
  split
  · rfl
  extract_lets c g trg m0 trg0 m1 trg1 cf m2 idx m3 m4
  split
  · rfl
  have h0 : m0.tim = m.tim := by simp only [m0]; split <;> simp
  split
  · exact h0
  split
  · exact h0
  split
  · exact h0
  simp only [m4]
  split <;> simp [m3, m2, m1, h0]

@[simp] theorem Mach.executeOne_tim (m : Mach) (d : Detection) : (m.executeOne d).tim = m.tim := by simp [Mach.executeOne]

@[simp] theorem Mach.executeWinner_tim (m : Mach) (w : Detection) (mask : BitVec 64) (others : Nat) :
    (m.executeWinner w mask others).tim = m.tim := by
  unfold Mach.executeWinner
  dsimp only
  (repeat' split) <;> simp

@[simp] theorem Mach.expireSeqs_tim (m : Mach) (dets : List Detection) : (m.expireSeqs dets).tim = m.tim := by
  unfold Mach.expireSeqs
  split <;> simp

@[simp] theorem Mach.countDets_tim (m : Mach) (dets : List Detection) : (m.countDets dets).tim = m.tim := by
  simp [Mach.countDets, foldl_keeps]

@[simp] theorem Mach.round_tim (m : Mach) (dets : List Detection) : (m.round dets).tim = m.tim := by
  unfold Mach.round
  dsimp only
  rw [foldl_keeps (·.tim) _ (fun m d => Mach.executeOne_tim m d)]
  split <;> simp

@[simp] theorem Mach.clearingRound_tim (m : Mach) (obs : List Obs) : (m.clearingRound obs).tim = m.tim := by simp [Mach.clearingRound]

@[simp] theorem Mach.rateCredit_tim (m : Mach) : m.rateCredit.tim = m.tim := by simp [Mach.rateCredit]

@[simp] theorem Mach.entryLanded_tim (m before : Mach) (e : Nat) : (m.entryLanded before e).tim = m.tim := by simp [Mach.entryLanded]

/-! ### DDR5 -/

@[simp] theorem Mach.landTap_tim (m : Mach) (a : Nat) (v : Word) : (m.landTap a v).tim = m.tim := by simp [Mach.landTap]

@[simp] theorem Mach.firdef_tim (m : Mach) (v : Word) : (m.firdef v).tim = m.tim := by simp [Mach.firdef]

@[simp] theorem Mach.trainingEnd_tim (m : Mach) (o : TrainObs) : (m.trainingEnd o).tim = m.tim := by
  unfold Mach.trainingEnd
  dsimp only
  (repeat' split) <;> simp

@[simp] theorem Mach.refresh_tim (m : Mach) (fast : Bool) : (m.refresh fast).tim = m.tim := by simp [Mach.refresh]

@[simp] theorem Mach.powerDown_tim (m : Mach) (s : Nat) : (m.powerDown s).tim = m.tim := by simp [Mach.powerDown]

@[simp] theorem Mach.selfRefresh_tim (m : Mach) : m.selfRefresh.tim = m.tim := by simp [Mach.selfRefresh]

@[simp] theorem Mach.selfRefreshExit_tim (m : Mach) : m.selfRefreshExit.tim = m.tim := by simp [Mach.selfRefreshExit]

/-! ### Values taken into use -/

@[simp] theorem Mach.takeUse_beats (m : Mach) (chg : List (Nat × Word)) : (m.takeUse chg).tim.beats = m.tim.beats := by
  unfold Mach.takeUse
  split
  · rfl
  extract_lets differs oldFreq ctl qre m1 m2 m3 m4 m5 m6 m7 m8 m9 ctl9
  have h2 : m2.tim = m.tim := foldl_keeps (·.tim) _ (fun m k => by simp) _ m1
  have h3 : m3.tim.beats = m.tim.beats := by simp only [m3]; split <;> simp [h2]
  have h4 : m4.tim.beats = m.tim.beats := by simp only [m4]; split <;> simp [h3]
  have h5 : m5.tim.beats = m.tim.beats := by simp only [m5]; split <;> simp [h4]
  have h6 : m6.tim.beats = m.tim.beats := by simp only [m6]; split <;> simp [h5]
  have h7 : m7.tim.beats = m.tim.beats := by simp only [m7]; split <;> simp [h6]
  have h8 : m8.tim.beats = m.tim.beats := by simp only [m8]; split <;> simp [h7]
  have h9 : m9.tim.beats = m.tim.beats := by simp only [m9]; split <;> simp [h8]
  split <;> exact h9

@[simp] theorem Mach.takeWaiting_beats (m : Mach) : m.takeWaiting.tim.beats = m.tim.beats := by simp [Mach.takeWaiting]

/-! ### The calibration chain -/

@[simp] theorem Mach.calSettled_tim (m : Mach) : m.calSettled.tim = m.tim := by simp [Mach.calSettled]

@[simp] theorem Mach.calNext_tim (m : Mach) : m.calNext.tim = m.tim := by simp [Mach.calNext]

@[simp] theorem Mach.chainLeave_beats (m : Mach) (st : ChainSt) (cause : Nat) : (m.chainLeave st cause).tim.beats = m.tim.beats := by
  simp [Mach.chainLeave, foldl_keeps]

@[simp] theorem Mach.chainFailed_beats (m : Mach) : m.chainFailed.tim.beats = m.tim.beats := by
  unfold Mach.chainFailed
  split <;> simp

@[simp] theorem Mach.draftClear_tim (m : Mach) (v : Word) : (m.draftClear v).tim = m.tim := by simp [Mach.draftClear]

@[simp] theorem Mach.calCompute_beats (m : Mach) : m.calCompute.tim.beats = m.tim.beats := by
  unfold Mach.calCompute
  dsimp only
  (repeat' split) <;> simp

@[simp] theorem Mach.chainBeat_beats (m : Mach) : m.chainBeat.tim.beats = m.tim.beats := by simp [Mach.chainBeat]

@[simp] theorem Mach.certSealed_tim (m : Mach) (bad : Bool) : (m.certSealed bad).tim = m.tim := by
  unfold Mach.certSealed
  split <;> simp

@[simp] theorem Mach.certCheck_tim (m : Mach) : m.certCheck.tim = m.tim := by simp [Mach.certCheck]

/-! ### The Ledger -/

@[simp] theorem Mach.openPage_tim (m : Mach) (r : LdgRef) (slot : List Byte) : (m.openPage r slot).tim = m.tim := by
  unfold Mach.openPage
  split <;> simp

@[simp] theorem Mach.bindPage_tim (m : Mach) (r : LdgRef) (slot : List Byte) : (m.bindPage r slot).tim = m.tim := by
  unfold Mach.bindPage
  split <;> simp

@[simp] theorem Mach.ledgerTake_tim (m : Mach) (bad : Bool) (ecc : Option Nat) : (m.ledgerTake bad ecc).tim = m.tim := by
  unfold Mach.ledgerTake
  split <;> simp

@[simp] theorem Mach.histFolio_tim (m : Mach) (b : LdgBusy) : (m.histFolio b).tim = m.tim := by
  unfold Mach.histFolio
  split <;> simp

@[simp] theorem Mach.ledgerDone_tim (m : Mach) (ecc : Option Nat) : (m.ledgerDone ecc).tim = m.tim := by
  unfold Mach.ledgerDone
  dsimp only
  (repeat' split) <;> simp

@[simp] theorem Mach.pageCleared_tim (m : Mach) (p : Nat) : (m.pageCleared p).tim = m.tim := by simp [Mach.pageCleared]

@[simp] theorem Mach.decayBeat_tim (m : Mach) : m.decayBeat.tim = m.tim := by simp [Mach.decayBeat]

@[simp] theorem Mach.decayEnd_tim (m : Mach) : m.decayEnd.tim = m.tim := by simp [Mach.decayEnd]

@[simp] theorem Mach.histClear_tim (m : Mach) (v : Word) : (m.histClear v).tim = m.tim := by simp [Mach.histClear]

@[simp] theorem Mach.histCleared_tim (m : Mach) : m.histCleared.tim = m.tim := by simp [Mach.histCleared]

@[simp] theorem Mach.ldgStop_tim (m : Mach) : m.ldgStop.tim = m.tim := by
  unfold Mach.ldgStop
  dsimp only
  (repeat' split) <;> simp

@[simp] theorem Mach.ldgCoreOn_tim (m : Mach) : m.ldgCoreOn.tim = m.tim := by simp [Mach.ldgCoreOn]

/-! ### The event log -/

@[simp] theorem Mach.logWrite_tim (m : Mach) : m.logWrite.tim = m.tim := by
  unfold Mach.logWrite
  split <;> simp

@[simp] theorem Mach.logToken_tim (m : Mach) : m.logToken.tim = m.tim := by simp [Mach.logToken]

@[simp] theorem Mach.logFind_tim (m : Mach) (bad : List Nat) : (m.logFind bad).tim = m.tim := by simp [Mach.logFind]

/-! ### Vault banks -/

@[simp] theorem Mach.readEcc_tim (m : Mach) (a : Nat) : (m.readEcc a).tim = m.tim := by simp [Mach.readEcc]

/-! ### Transfer records -/

@[simp] theorem Mach.recordSent_tim (m : Mach) (p idx cond : Nat) : (m.recordSent p idx cond).tim = m.tim := by simp [Mach.recordSent]

@[simp] theorem Mach.askKey_tim (m : Mach) (i : Nat) (qid : Word) : (m.askKey i qid).tim = m.tim := by simp [Mach.askKey]

@[simp] theorem Mach.keyMissed_tim (m : Mach) (i : Nat) (qid : Word) (idx : Nat) : (m.keyMissed i qid idx).tim = m.tim := by
  simp [Mach.keyMissed]

@[simp] theorem Mach.checkRecord_tim (m : Mach) (i : Nat) (r : RxRec) : (m.checkRecord i r).1.tim = m.tim := by
  unfold Mach.checkRecord
  dsimp only
  (repeat' split) <;> simp

@[simp] theorem Mach.takePayload_tim (m : Mach) (fuel : Nat) (r : RxRec) : (m.takePayload fuel r).1.tim = m.tim := by
  induction fuel generalizing m r with
  | zero => rfl
  | succ fuel ih =>
    unfold Mach.takePayload
    dsimp only
    (repeat' split) <;> simp [ih]

@[simp] theorem Mach.endRecord_tim (m : Mach) (i : Nat) (r : RxRec) : (m.endRecord i r).tim = m.tim := by simp [Mach.endRecord]

@[simp] theorem Mach.folioPacket_tim (m : Mach) (i : Nat) (tag : BitVec 16) (data : List Byte) (first last : Bool) :
    (m.folioPacket i tag data first last).tim = m.tim := by
  unfold Mach.folioPacket
  split
  · rfl
  extract_lets m0 m1 m2
  split
  · simp [m0]
  split
  · simp [m0]
  have h2 : m2.tim = m.tim := by simp only [m2]; split <;> simp [m1, m0]
  split
  · exact h2
  · dsimp only
    (repeat' split) <;> simp [h2]

/-! ### Tellers -/

@[simp] theorem Mach.telShort_tim (m : Mach) (c : Nat) : (m.telShort c).tim = m.tim := by simp [Mach.telShort]

@[simp] theorem Mach.telShorts_tim (m : Mach) : m.telShorts.tim = m.tim := by simp [Mach.telShorts, foldl_keeps]

@[simp] theorem Mach.slipFetch_tim (m : Mach) (c : Nat) (bad : Bool) : (m.slipFetch c bad).tim = m.tim := by simp [Mach.slipFetch]

@[simp] theorem Mach.holdRereads_tim (m : Mach) (bad : List (Fin 16)) : (m.holdRereads bad).tim = m.tim := by
  simp [Mach.holdRereads, foldl_keeps]

@[simp] theorem Mach.folioClaim_tim (m : Mach) (c : Nat) : (m.folioClaim c).tim = m.tim := by simp [Mach.folioClaim]

@[simp] theorem Mach.telCharge_tim (m : Mach) (c n : Nat) : (m.telCharge c n).tim = m.tim := by simp [Mach.telCharge]

@[simp] theorem Mach.telIssued_tim (m : Mach) (c : Nat) : (m.telIssued c).tim = m.tim := by simp [Mach.telIssued]

@[simp] theorem Mach.sourceEcc_tim (m : Mach) (t : Tel) : (m.sourceEcc t).tim = m.tim := by simp [Mach.sourceEcc]

@[simp] theorem Mach.tellerWrite_tim (m : Mach) (bad : Bool) : (m.tellerWrite bad).tim = m.tim := by
  unfold Mach.tellerWrite
  dsimp only
  (repeat' split) <;> simp

@[simp] theorem Mach.telAge_tim (m : Mach) : m.telAge.tim = m.tim := by simp [Mach.telAge]

@[simp] theorem Mach.telTimeout_tim (m : Mach) (c : Nat) : (m.telTimeout c).tim = m.tim := by simp [Mach.telTimeout]

@[simp] theorem Mach.telTimeouts_tim (m : Mach) : m.telTimeouts.tim = m.tim := by simp [Mach.telTimeouts, foldl_keeps]

@[simp] theorem Mach.telRelease_tim (m : Mach) (t : Tel) : (m.telRelease t).tim = m.tim := by simp [Mach.telRelease]

@[simp] theorem Mach.slipPosted_tim (m : Mach) (c : Nat) : (m.slipPosted c).tim = m.tim := by simp [Mach.slipPosted]

@[simp] theorem Mach.telAbandon_tim (m : Mach) : m.telAbandon.tim = m.tim := by simp [Mach.telAbandon]

/-! ### The Volume -/

@[simp] theorem Mach.volJoin_tim (m : Mach) (i : Nat) : (m.volJoin i).tim = m.tim := by simp [Mach.volJoin]

@[simp] theorem Mach.joinMsg_tim (m : Mach) (i pos size : Nat) : (m.joinMsg i pos size).tim = m.tim := by simp [Mach.joinMsg]

/-- A Volume message whose act keeps the timebase keeps it. -/
theorem Mach.volMsg_tim (m : Mach) (v : VMsg) (op f2 f4 : Nat) (act : Mach → Mach) (h : ∀ x, (act x).tim = x.tim) :
    (m.volMsg v op f2 f4 act).tim = m.tim := by
  unfold Mach.volMsg
  dsimp only
  (repeat' split) <;> simp [h]

@[simp] theorem Mach.unknownMsg_tim (m : Mach) (v : VMsg) : (m.unknownMsg v).tim = m.tim := by simp [Mach.unknownMsg]

@[simp] theorem Mach.syncSend_tim (m : Mach) : m.syncSend.tim = m.tim := by simp [Mach.syncSend]

@[simp] theorem Mach.syncFlit_tim (m : Mach) (i : Nat) (echo : Bool) (count time : Nat) (sent seen : Int) :
    (m.syncFlit i echo count time sent seen).tim = m.tim := by
  simp [Mach.syncFlit]

@[simp] theorem Mach.volumeAlign_tim (m : Mach) (neighbour : Bool) : (m.volumeAlign neighbour).tim = m.tim := by
  simp [Mach.volumeAlign]

@[simp] theorem Mach.alignBeat_beats (m : Mach) : m.alignBeat.tim.beats = m.tim.beats := by
  unfold Mach.alignBeat
  split <;> simp

@[simp] theorem Mach.vsyncMark_tim (m : Mach) (diff : Int) : (m.vsyncMark diff).tim = m.tim := by
  unfold Mach.vsyncMark
  dsimp only
  (repeat' split) <;> simp

@[simp] theorem Mach.ringCal_tim (m : Mach) (v : Word) : (m.ringCal v).tim = m.tim := by simp [Mach.ringCal]

@[simp] theorem Mach.rcalMsg_tim (m : Mach) (v : VMsg) (s : Word) : (m.rcalMsg v s).tim = m.tim :=
  Mach.volMsg_tim _ _ _ _ _ _ fun x => by simp

@[simp] theorem Mach.digestCheck_tim (m : Mach) : m.digestCheck.tim = m.tim := by simp [Mach.digestCheck]

@[simp] theorem Mach.digestStep_tim (m : Mach) (due : Bool) : (m.digestStep due).tim = m.tim := by simp [Mach.digestStep]

@[simp] theorem Mach.digestMsg_tim (m : Mach) (v : VMsg) (d : Word) : (m.digestMsg v d).tim = m.tim :=
  Mach.volMsg_tim _ _ _ _ _ _ fun x => by split <;> simp

@[simp] theorem Mach.armReq_tim (m : Mach) (v : VMsg) (qid : Word) : (m.armReq v qid).tim = m.tim :=
  Mach.volMsg_tim _ _ _ _ _ _ fun x => by split <;> simp

@[simp] theorem Mach.readyAgain_tim (m : Mach) : m.readyAgain.tim = m.tim := by simp [Mach.readyAgain]

@[simp] theorem Mach.readyMsg_tim (m : Mach) (v : VMsg) (bits : BitVec 16) (d : Word) : (m.readyMsg v bits d).tim = m.tim :=
  Mach.volMsg_tim _ _ _ _ _ _ fun x => by dsimp only; (repeat' split) <;> simp

@[simp] theorem Mach.armGoMsg_tim (m : Mach) (v : VMsg) (left : BitVec 8) (a : Word) : (m.armGoMsg v left a).tim = m.tim :=
  Mach.volMsg_tim _ _ _ _ _ _ fun x => by split <;> simp

@[simp] theorem Mach.armCancel_tim (m : Mach) (v : VMsg) (qid : Word) : (m.armCancel v qid).tim = m.tim :=
  Mach.volMsg_tim _ _ _ _ _ _ fun x => by split <;> simp

@[simp] theorem Mach.armExpiry_tim (m : Mach) : m.armExpiry.tim = m.tim := by
  unfold Mach.armExpiry
  split <;> simp

@[simp] theorem Mach.vtrig_tim (m : Mach) (v : VMsg) (idx : BitVec 16) (t : Word) : (m.vtrig v idx t).tim = m.tim :=
  Mach.volMsg_tim _ _ _ _ _ _ fun x => by dsimp only; (repeat' split) <;> simp

@[simp] theorem Mach.vstop_tim (m : Mach) (v : VMsg) (atOnce : Bool) (beat : Word) : (m.vstop v atOnce beat).tim = m.tim :=
  Mach.volMsg_tim _ _ _ _ _ _ fun x => by (repeat' split) <;> simp

@[simp] theorem Mach.volumeStopBeat_tim (m : Mach) : m.volumeStopBeat.tim = m.tim := by
  unfold Mach.volumeStopBeat
  split <;> simp

/-! ### The Spine -/

@[simp] theorem Mach.trainPort_tim (m : Mach) (i : Nat) : (m.trainPort i).tim = m.tim := by simp [Mach.trainPort]

@[simp] theorem Mach.trainFrame_tim (m : Mach) (i : Nat) (f : FrameObs) : (m.trainFrame i f).tim = m.tim := by simp [Mach.trainFrame]

@[simp] theorem Mach.trainRestart_tim (m : Mach) (i : Nat) : (m.trainRestart i).tim = m.tim := by simp [Mach.trainRestart]

@[simp] theorem Mach.noPartner_tim (m : Mach) (i : Nat) : (m.noPartner i).tim = m.tim := by simp [Mach.noPartner]

@[simp] theorem Mach.rxAdapted_tim (m : Mach) (i : Nat) : (m.rxAdapted i).tim = m.tim := by simp [Mach.rxAdapted]

@[simp] theorem Mach.alignFlit_tim (m : Mach) (i : Nat) (skews : Vector Byte 4) : (m.alignFlit i skews).tim = m.tim := by
  simp [Mach.alignFlit]

@[simp] theorem Mach.alignMissing_tim (m : Mach) (i : Nat) : (m.alignMissing i).tim = m.tim := by simp [Mach.alignMissing]

@[simp] theorem Mach.retrainDown_tim (m : Mach) (i : Nat) : (m.retrainDown i).tim = m.tim := by simp [Mach.retrainDown]

@[simp] theorem Mach.spnCtl_tim (m : Mach) (v : Word) : (m.spnCtl v).tim = m.tim := by simp [Mach.spnCtl]

@[simp] theorem Mach.lossOfSignal_tim (m : Mach) (i : Option (Fin 3)) : (m.lossOfSignal i).tim = m.tim := by
  unfold Mach.lossOfSignal
  dsimp only
  (repeat' split) <;> simp [foldl_keeps]

@[simp] theorem Mach.idleFlit_tim (m : Mach) : m.idleFlit.tim = m.tim := by simp [Mach.idleFlit]

@[simp] theorem Mach.creditFlit_tim (m : Mach) (i : Nat) (fp fn fc : BitVec 16) : (m.creditFlit i fp fn fc).tim = m.tim := by
  simp [Mach.creditFlit]

@[simp] theorem Mach.replay_tim (m : Mach) (i : Nat) : (m.replay i).tim = m.tim := by simp [Mach.replay]

@[simp] theorem Mach.linkAck_tim (m : Mach) (i : Nat) (nak : Bool) (next : BitVec 12) : (m.linkAck i nak next).tim = m.tim := by
  simp [Mach.linkAck]

@[simp] theorem Mach.replayTimeout_tim (m : Mach) (i : Nat) : (m.replayTimeout i).tim = m.tim := by simp [Mach.replayTimeout]

@[simp] theorem Mach.downFlit_tim (m : Mach) (i : Nat) : (m.downFlit i).tim = m.tim := by simp [Mach.downFlit]

@[simp] theorem Mach.discardPkt_tim (m : Mach) (i : Nat) : (m.discardPkt i).tim = m.tim := by simp [Mach.discardPkt]

@[simp] theorem Mach.nakRepeat_tim (m : Mach) (i : Nat) : (m.nakRepeat i).tim = m.tim := by simp [Mach.nakRepeat]

@[simp] theorem Mach.badFlit_tim (m : Mach) (i : Nat) : (m.badFlit i).tim = m.tim := by simp [Mach.badFlit]

@[simp] theorem Mach.malformed_tim (m : Mach) (i : Nat) (type : Byte) : (m.malformed i type).tim = m.tim := by simp [Mach.malformed]

@[simp] theorem Mach.writePacket_tim (m : Mach) (i : Nat) (tag : BitVec 16) (addr : BitVec 64) (data : List Byte) :
    (m.writePacket i tag addr data).tim = m.tim := by
  simp [Mach.writePacket]

@[simp] theorem Mach.readRequest_tim (m : Mach) (i : Nat) (tag : BitVec 16) (addr : BitVec 64) (n : Nat) (ecc : Option Nat) :
    (m.readRequest i tag addr n ecc).tim = m.tim := by
  unfold Mach.readRequest
  dsimp only
  (repeat' split) <;> simp [foldl_keeps]

@[simp] theorem Mach.folioIn_tim (m : Mach) (i : Nat) (tag : BitVec 16) (data : List Byte) (first last : Bool) :
    (m.folioIn i tag data first last).tim = m.tim := by
  simp [Mach.folioIn]

@[simp] theorem Mach.keyIn_tim (m : Mach) (i : Nat) (qid : Word) : (m.keyIn i qid).tim = m.tim := by simp [Mach.keyIn]

@[simp] theorem Mach.volConfig_tim (m : Mach) (r : Nat) (v : Word) : (m.volConfig r v).tim = m.tim := by simp [Mach.volConfig]

/-! ### Scan-out -/

@[simp] theorem Mach.flipRequest_tim (m : Mach) : m.flipRequest.tim = m.tim := by simp [Mach.flipRequest]

@[simp] theorem Mach.dspLanded_tim (m : Mach) (as : List Nat) : (m.dspLanded as).tim = m.tim := by
  unfold Mach.dspLanded
  split <;> simp

@[simp] theorem Mach.levelStep_tim (m : Mach) : m.levelStep.tim = m.tim := by
  unfold Mach.levelStep
  dsimp only
  (repeat' split) <;> simp

@[simp] theorem Mach.modeStep_tim (m : Mach) : m.modeStep.tim = m.tim := by simp [Mach.modeStep]

@[simp] theorem Mach.modeStep2_tim (m : Mach) : m.modeStep2.tim = m.tim := by simp [Mach.modeStep2]

@[simp] theorem Mach.frameEnd_tim (m : Mach) : m.frameEnd.tim = m.tim := by
  unfold Mach.frameEnd
  split <;> simp

@[simp] theorem Mach.vblank_tim (m : Mach) (bad : Bool) : (m.vblank bad).tim = m.tim := by simp [Mach.vblank]

@[simp] theorem Mach.n0Start_tim (m : Mach) (bad : Bool) : (m.n0Start bad).tim = m.tim := by simp [Mach.n0Start]

@[simp] theorem Mach.scanOff_tim (m : Mach) : m.scanOff.tim = m.tim := by simp [Mach.scanOff]

@[simp] theorem Mach.dsiStart_tim (m : Mach) : m.dsiStart.tim = m.tim := by simp [Mach.dsiStart]

@[simp] theorem Mach.dsiDone_tim (m : Mach) : m.dsiDone.tim = m.tim := by simp [Mach.dsiDone]

@[simp] theorem Mach.teEdge_tim (m : Mach) (locked : Bool) : (m.teEdge locked).tim = m.tim := by simp [Mach.teEdge]

@[simp] theorem Mach.dpConnect_tim (m : Mach) (o : SinkObs) : (m.dpConnect o).tim = m.tim := by simp [Mach.dpConnect]

@[simp] theorem Mach.dpIrq_tim (m : Mach) (lost : Bool) : (m.dpIrq lost).tim = m.tim := by simp [Mach.dpIrq]

@[simp] theorem Mach.dpDisconnect_tim (m : Mach) : m.dpDisconnect.tim = m.tim := by simp [Mach.dpDisconnect]

@[simp] theorem Mach.dpDone_tim (m : Mach) (cause : Option Byte) : (m.dpDone cause).tim = m.tim := by
  unfold Mach.dpDone
  dsimp only
  (repeat' split) <;> simp

@[simp] theorem Mach.dpRetrain_tim (m : Mach) (v : Word) : (m.dpRetrain v).tim = m.tim := by simp [Mach.dpRetrain]

/-! ### Power -/

@[simp] theorem Mach.railSample_tim (m : Mach) (r mv low : Nat) : (m.railSample r mv low).tim = m.tim := by simp [Mach.railSample]

@[simp] theorem Mach.railInterval_tim (m : Mach) (r : Nat) : (m.railInterval r).tim = m.tim := by simp [Mach.railInterval]

@[simp] theorem Mach.railsBeat_tim (m : Mach) (obs : List RailObs) : (m.railsBeat obs).tim = m.tim :=
  foldl_keeps (·.tim) _ (fun m r => by split <;> simp) _ m

@[simp] theorem Mach.domOff_beats (m : Mach) (d cause : Nat) : (m.domOff d cause).tim.beats = m.tim.beats := by
  unfold Mach.domOff
  dsimp only
  (repeat' split) <;> simp

@[simp] theorem Mach.domUsable_beats (m : Mach) (d : Nat) : (m.domUsable d).tim.beats = m.tim.beats := by
  unfold Mach.domUsable
  dsimp only
  (repeat' split) <;> simp

@[simp] theorem Mach.domEnable_beats (m : Mach) (v : Word) : (m.domEnable v).tim.beats = m.tim.beats := by
  simp [Mach.domEnable, foldl_keeps]

@[simp] theorem Mach.shedWritten_tim (m : Mach) (n : Nat) : (m.shedWritten n).tim = m.tim := by
  unfold Mach.shedWritten
  split <;> simp

@[simp] theorem Mach.stageSix_beats (m : Mach) (rail : Nat) : (m.stageSix rail).tim.beats = m.tim.beats := by simp [Mach.stageSix]

@[simp] theorem Mach.stageAction_beats (m : Mach) (k rail : Nat) : (m.stageAction k rail).tim.beats = m.tim.beats := by
  unfold Mach.stageAction
  split <;> simp

@[simp] theorem Mach.noteEntry_tim (m : Mach) (k rail : Nat) (first : Bool) : (m.noteEntry k rail first).tim = m.tim := by
  simp [Mach.noteEntry]

@[simp] theorem Mach.shedEnter_beats (m : Mach) (r : Nat) (samples : List Nat) : (m.shedEnter r samples).tim.beats = m.tim.beats := by
  simp [Mach.shedEnter, foldl_keeps, foldl_beats]

@[simp] theorem Mach.slicesBack_beats (m : Mach) : m.slicesBack.tim.beats = m.tim.beats := by simp [Mach.slicesBack]

@[simp] theorem Mach.stagesSettle_beats (m : Mach) (old : Word) : (m.stagesSettle old).tim.beats = m.tim.beats := by
  simp [Mach.stagesSettle, foldl_beats]

@[simp] theorem Mach.leaveStages_beats (m : Mach) (low : Nat) : (m.leaveStages low).tim.beats = m.tim.beats := by
  unfold Mach.leaveStages
  extract_lets was gone now pwr m1 m2
  split
  · rfl
  have h2 : m2.tim = m1.tim := foldl_keeps (·.tim) _ (fun m k => by simp) gone m1
  simp [h2, m1, now]

@[simp] theorem Mach.shedExit_beats (m : Mach) : m.shedExit.tim.beats = m.tim.beats := by simp [Mach.shedExit]

@[simp] theorem Mach.pwrRecover_beats (m : Mach) (v : Word) : (m.pwrRecover v).tim.beats = m.tim.beats := by simp [Mach.pwrRecover]

/-! ### The Vault -/

@[simp] theorem Mach.writeBank_tim (m : Mach) (sec : Nat) (b : Bool) (bytes : List Byte) : (m.writeBank sec b bytes).tim = m.tim := by
  simp [Mach.writeBank]

@[simp] theorem Mach.activateBank_tim (m : Mach) (sec : Nat) (b : Bool) (bytes : List Byte) :
    (m.activateBank sec b bytes).tim = m.tim := by
  simp [Mach.activateBank]

@[simp] theorem Mach.vaultDone_tim (m : Mach) (e : VaultEnd) (bad : List Nat) : (m.vaultDone e bad).tim = m.tim := by
  unfold Mach.vaultDone
  split <;> simp

@[simp] theorem Mach.scrubStart_tim (m : Mach) : m.scrubStart.tim = m.tim := by simp [Mach.scrubStart]

@[simp] theorem Mach.scrubNow_tim (m : Mach) (v : Word) : (m.scrubNow v).tim = m.tim := by simp [Mach.scrubNow]

@[simp] theorem Mach.scrubbed_tim (m : Mach) (corrected : Nat) (bad : List Nat) : (m.scrubbed corrected bad).tim = m.tim := by
  simp [Mach.scrubbed]

@[simp] theorem Mach.poweredSecond_tim (m : Mach) : m.poweredSecond.tim = m.tim := by simp [Mach.poweredSecond]

/-! ### Landing changes -/

@[simp] theorem Mach.landOne_beats (m : Mach) (k : Option Master) (a : Nat) (v : Word) :
    (m.landOne k a v).tim.beats = m.tim.beats := by
  simp [Mach.landOne]

@[simp] theorem Mach.landValues_beats (m : Mach) (k : Option Master) (pin : Bool) (vs : PMap) :
    (m.landValues k pin vs).tim.beats = m.tim.beats := by
  simp [Mach.landValues, foldl_keeps, foldl_beats]

@[simp] theorem Mach.winDone_tim (m : Mach) (ecc : Option Nat) : (m.winDone ecc).tim = m.tim := by simp [Mach.winDone, foldl_keeps]

@[simp] theorem Mach.landCommand_beats (m : Mach) (k : Option Master) (raised : BitVec 11) (a : Nat) (v : Word) :
    (m.landCommand k raised a v).tim.beats = m.tim.beats := by
  unfold Mach.landCommand
  dsimp only
  (repeat' split) <;> simp

@[simp] theorem Mach.landLast_tim (m : Mach) (k : Option Master) (bad : Bool) (a : Nat) (v : Word) :
    (m.landLast k bad a v).tim = m.tim := by
  unfold Mach.landLast
  split <;> simp

@[simp] theorem Mach.unpinWrite_tim (m : Mach) (k : Option Master) (locks : Vector Lock 8) (val : Nat → Word) (v : Word) :
    (m.unpinWrite k locks val v).tim = m.tim := by
  simp [Mach.unpinWrite, foldl_keeps]

@[simp] theorem Mach.landChanges_beats (m : Mach) (k : Option Master) (locks : Vector Lock 8) (val : Nat → Word)
    (raised : BitVec 11) (bad : Bool) (ch : PMap) : (m.landChanges k locks val raised bad ch).tim.beats = m.tim.beats := by
  unfold Mach.landChanges
  dsimp only
  (repeat' split) <;> simp [foldl_keeps, foldl_beats]

@[simp] theorem Mach.landWrite_beats (m : Mach) (k : Master) (a : Nat) (v : Word) : (m.landWrite k a v).tim.beats = m.tim.beats := by
  simp [Mach.landWrite]

@[simp] theorem Mach.landReg_beats (m : Mach) (a : Nat) (v : Word) : (m.landReg a v).tim.beats = m.tim.beats := by simp [Mach.landReg]

@[simp] theorem Mach.assayStart_beats (m : Mach) (v : Option Word) : (m.assayStart v).tim.beats = m.tim.beats := by
  unfold Mach.assayStart
  split <;> simp

/-! ### Recomputation -/

theorem RowRun.one_tim (r : Recomp) (x : RowRun) (a : Nat) : (RowRun.one r x a).real.tim = x.real.tim := by
  unfold RowRun.one
  dsimp only
  (repeat' split) <;> simp

theorem RowRun.foldl_one_tim (r : Recomp) (as : List Nat) (x : RowRun) : (as.foldl (RowRun.one r) x).real.tim = x.real.tim := by
  induction as generalizing x with
  | nil => rfl
  | cons a as ih => rw [List.foldl_cons, ih, RowRun.one_tim]

@[simp] theorem Mach.recomputeRows_beats (m : Mach) (r : Recomp) (as : List Nat) : (m.recomputeRows r as).tim.beats = m.tim.beats := by
  simp [Mach.recomputeRows, RowRun.foldl_one_tim]

@[simp] theorem Mach.recompDone_tim (m : Mach) : m.recompDone.tim = m.tim := by simp [Mach.recompDone]

@[simp] theorem Mach.recompute_beats (m : Mach) (before : Mach) (bad : List Nat) :
    (m.recompute before bad).tim.beats = m.tim.beats := by
  simp [Mach.recompute]

/-! ### Inserts -/

@[simp] theorem Mach.insertDone_tim (m : Mach) (slot written skipped : Nat) : (m.insertDone slot written skipped).tim = m.tim := by
  simp [Mach.insertDone]

@[simp] theorem Mach.insertApply_beats (m : Mach) (r : InsReq) (locked : Nat → Bool) :
    (m.insertApply r locked).tim.beats = m.tim.beats := by
  simp [Mach.insertApply, foldl_beats]

@[simp] theorem Mach.insertRemove_beats (m : Mach) (r : InsReq) (locked : Nat → Bool) :
    (m.insertRemove r locked).tim.beats = m.tim.beats := by
  simp [Mach.insertRemove, foldl_keeps]

@[simp] theorem Mach.insertStep_beats (m : Mach) (ready : Bool) (bad : List Nat) (locked : Option Master → Nat → Bool) :
    (m.insertStep ready bad locked).tim.beats = m.tim.beats := by
  unfold Mach.insertStep
  split <;> simp

/-! ### Reset and the first second -/

@[simp] theorem Mach.resetRelease_tim (m : Mach) (rails : List (Fin 9 × Nat)) (test : Bool) :
    (m.resetRelease rails test).tim = m.tim := by
  simp [Mach.resetRelease]

@[simp] theorem Mach.baseLand_beats (m : Mach) (a : Nat) (v : Word) : (m.baseLand a v).tim.beats = m.tim.beats := by
  unfold Mach.baseLand
  dsimp only
  (repeat' split) <;> simp

@[simp] theorem Mach.baseRecompute_tim (m : Mach) (basics : List Nat) : (m.baseRecompute basics).tim = m.tim := by
  simp [Mach.baseRecompute, foldl_keeps]

@[simp] theorem Mach.applyBase_tim (m : Mach) (recs : List BaseRec) : (m.applyBase recs).tim = m.tim := by
  simp [Mach.applyBase, foldl_keeps]

@[simp] theorem Mach.readShed_tim (m : Mach) (bad : List Nat) : (m.readShed bad).tim = m.tim := by simp [Mach.readShed, foldl_keeps]

@[simp] theorem Mach.readPolicy_beats (m : Mach) (bad : List Nat) : (m.readPolicy bad).tim.beats = m.tim.beats := by
  unfold Mach.readPolicy
  dsimp only
  (repeat' split) <;> simp [foldl_keeps]

@[simp] theorem Mach.readBase_tim (m : Mach) (bad : List Nat) : (m.readBase bad).tim = m.tim := by
  unfold Mach.readBase
  dsimp only
  (repeat' split) <;> simp

@[simp] theorem Mach.readRest_tim (m : Mach) (bad : List Nat) : (m.readRest bad).tim = m.tim := by
  unfold Mach.readRest
  extract_lets m1 cal m2 m3 slot
  have h1 : m1.tim = m.tim := foldl_keeps (·.tim) _ (fun m n => by (repeat' split) <;> simp) _ m
  split <;> simp [m3, m2, h1]

@[simp] theorem Mach.vaultReadIn_beats (m : Mach) (bad : List Nat) : (m.vaultReadIn bad).tim.beats = m.tim.beats := by
  simp [Mach.vaultReadIn, foldl_keeps]

@[simp] theorem Mach.baseTake_beats (m : Mach) : m.baseTake.tim.beats = m.tim.beats := by simp [Mach.baseTake, foldl_beats]

@[simp] theorem Mach.readyRise_tim (m : Mach) : m.readyRise.tim = m.tim := by simp [Mach.readyRise]

/-! ### Commits -/

@[simp] theorem Mach.leaseStep_tim (m : Mach) (n : Nat) : (m.leaseStep n).tim = m.tim := by
  unfold Mach.leaseStep
  dsimp only
  (repeat' split) <;> simp

@[simp] theorem Mach.leases_tim (m : Mach) : m.leases.tim = m.tim := by simp [Mach.leases, foldl_keeps]

@[simp] theorem Mach.landCommit_beats (m : Mach) (before : Mach) (k : Master) (other : List Nat) (annexBad : Bool) (c : Commit) :
    (m.landCommit before k other annexBad c).tim.beats = m.tim.beats := by
  simp [Mach.landCommit]

@[simp] theorem Mach.deferCommit_tim (m : Mach) (k : Master) (c : Commit) : (m.deferCommit k c).tim = m.tim := by
  simp [Mach.deferCommit]

@[simp] theorem Mach.stageBad_tim (m : Mach) (k : Master) : (m.stageBad k).tim = m.tim := by simp [Mach.stageBad]

@[simp] theorem Mach.commitStep_beats (m : Mach) (before : Mach) (k : Master) (o : BeatObs) :
    (m.commitStep before k o).tim.beats = m.tim.beats := by
  unfold Mach.commitStep
  dsimp only
  (repeat' split) <;> simp

/-! ### The boundary and its steps -/

@[simp] theorem Mach.ctrlLanded_tim (m : Mach) : m.ctrlLanded.tim = m.tim := by simp [Mach.ctrlLanded]

@[simp] theorem Mach.runTo_beats (m : Mach) (n : Nat) : (m.runTo n).tim.beats = m.tim.beats := by simp [Mach.runTo]

@[simp] theorem Mach.alignHold_beats (m : Mach) : m.alignHold.tim.beats = m.tim.beats := by
  unfold Mach.alignHold
  split <;> simp

@[simp] theorem Mach.passTo_beats (m : Mach) (n : Nat) : (m.passTo n).tim.beats = m.tim.beats := by simp [Mach.passTo]

@[simp] theorem Mach.corrections_tim (m : Mach) (o : BeatObs) : (m.corrections o).tim = m.tim := by
  simp [Mach.corrections, foldl_keeps]

@[simp] theorem Mach.openBeat_beats (m : Mach) (o : BeatObs) : (m.openBeat o).tim.beats = m.tim.beats + 1 := by
  simp [Mach.openBeat]

@[simp] theorem Mach.boundaryWork_beats (m : Mach) (o : BeatObs) : (m.boundaryWork o).tim.beats = m.tim.beats := by
  simp [Mach.boundaryWork]

@[simp] theorem Mach.trimStep_tim (m : Mach) : m.trimStep.tim = m.tim := by simp [Mach.trimStep]

@[simp] theorem Mach.workStep_beats (m : Mach) (before : Mach) (o : BeatObs) (i : Nat) :
    (m.workStep before o i).tim.beats = m.tim.beats := by
  unfold Mach.workStep
  split <;> simp

@[simp] theorem Mach.headersDue_tim (m : Mach) : m.headersDue.tim = m.tim := by simp [Mach.headersDue, foldl_keeps]

@[simp] theorem Mach.closeWork_tim (m : Mach) : m.closeWork.tim = m.tim := by simp [Mach.closeWork]

@[simp] theorem Mach.clock_beats (m : Mach) : m.clock.tim.beats = m.tim.beats := by simp [Mach.clock]

/-! ### Reads -/

@[simp] theorem Mach.readEffect_tim (m before : Mach) (k : Master) (a : Nat) : (m.readEffect before k a).tim = m.tim := by
  unfold Mach.readEffect
  split <;> simp

/-! ### The control port -/

@[simp] theorem Mach.shiftOut_tim (m : Mach) (early : Nat) : (m.shiftOut early).tim = m.tim := by simp [Mach.shiftOut]

@[simp] theorem Mach.countBad_tim (m : Mach) (v : Via) : (m.countBad v).tim = m.tim := by
  unfold Mach.countBad
  split <;> simp

theorem Mach.serveFrame_tim (m : Mach) (q : Req) (act : Mach → Mach × Reply) (h : ∀ x, (act x).1.tim = x.tim) :
    (m.serveFrame q act).tim = m.tim := by
  simp [Mach.serveFrame, h]

/-- A request that is answered without touching the timebase, or turned away. -/
theorem Mach.frame_tim (m : Mach) (op : Byte) (q : Req) (act : Mach → Mach × Reply) (h : ∀ x, (act x).1.tim = x.tim) :
    (m.frame op q act).tim = m.tim := by
  unfold Mach.frame
  dsimp only
  (repeat' split) <;> simp [Mach.serveFrame_tim, h]

@[simp] theorem Mach.stage_tim (m before : Mach) (k : Master) (q : Req) : (m.stage before k q).1.tim = m.tim := by simp [Mach.stage]

@[simp] theorem Mach.abort_tim (m : Mach) (k : Master) (q : Req) : (m.abort k q).1.tim = m.tim := by simp [Mach.abort]

@[simp] theorem Mach.sealCommit_tim (m : Mach) (k : Master) : (m.sealCommit k).tim = m.tim := by simp [Mach.sealCommit]

@[simp] theorem Mach.commit_tim (m : Mach) (k : Master) (bad : Bool) (q : Req) : (m.commit k bad q).1.tim = m.tim := by
  unfold Mach.commit
  dsimp only
  (repeat' split) <;> simp

@[simp] theorem Mach.escTake_tim (m : Mach) (k : Master) (spi : Bool) (q : Req) : (m.escTake k spi q).1.tim = m.tim := by
  unfold Mach.escTake
  dsimp only
  (repeat' split) <;> simp

@[simp] theorem Mach.escRenew_tim (m : Mach) (k : Master) (q : Req) : (m.escRenew k q).1.tim = m.tim := by
  unfold Mach.escRenew
  dsimp only
  (repeat' split) <;> simp

@[simp] theorem Mach.escGive_tim (m : Mach) (k : Master) (q : Req) : (m.escGive k q).1.tim = m.tim := by
  unfold Mach.escGive
  dsimp only
  (repeat' split) <;> simp

@[simp] theorem Mach.readParam_tim (m before : Mach) (k : Master) (q : Req) : (m.readParam before k q).1.tim = m.tim := by
  unfold Mach.readParam
  dsimp only
  (repeat' split) <;> simp

@[simp] theorem Mach.queueFrame_tim (m : Mach) (k : Master) (apply : Bool) (slot : Nat) : (m.queueFrame k apply slot).tim = m.tim := by
  simp [Mach.queueFrame]

@[simp] theorem Mach.insertReq_tim (m : Mach) (k : Master) (spi : Nat) (q : Req) : (m.insertReq k spi q).1.tim = m.tim := by
  unfold Mach.insertReq
  generalize (if k == .host then spi else 0) = n
  split <;> simp

end Sys2Proof.Machine
end

section
/-! SUPPORT. Which steps advance the beat counter, and the statement about it (R7, R15, R75). -/

namespace Sys2Proof.Machine

/-! ### The boundary opened and its work -/

/-- Either the beat counter stays, or a boundary opened while none was in progress, and it advances by one. -/
def State.BeatsFollow (s t : State) : Prop :=
  t.m.tim.beats = s.m.tim.beats ∨ (s.awake ∧ 9 ≤ s.work ∧ t.m.tim.beats = s.m.tim.beats + 1)

theorem State.beatsFollow_refl (s : State) : s.BeatsFollow s := .inl rfl

theorem State.opened_beats (s : State) (o : BeatObs) :
    (s.opened o).m.tim.beats = if s.work < 9 then s.m.tim.beats else s.m.tim.beats + 1 := by
  unfold State.opened
  split <;> simp

theorem State.workTo_beats (s : State) (o : BeatObs) (n : Nat) : (s.workTo o n).m.tim.beats = s.m.tim.beats :=
  foldl_beats _ (fun m i => by simp) _ s.m

/-- A boundary's work opened and taken to step n, out of reset. -/
theorem State.beatsFollow_of_work (s t : State) (o : BeatObs) (n : Nat) (hawake : s.awake)
    (ht : t.m.tim.beats = ((s.opened o).workTo o n).m.tim.beats) : s.BeatsFollow t := by
  rw [State.workTo_beats, State.opened_beats] at ht
  by_cases hwork : s.work < 9
  · exact .inl (by rw [ht, if_pos hwork])
  · exact .inr ⟨hawake, by omega, by rw [ht, if_neg hwork]⟩

theorem State.beatsFollow_beat (s : State) (o : BeatObs) : s.BeatsFollow (s.beat o) := by
  unfold State.beat
  split
  · exact s.beatsFollow_refl
  next hawake => exact s.beatsFollow_of_work _ o 9 (by simpa using hawake) (by simp)

theorem State.beatsFollow_beatTo (s : State) (o : BeatObs) (n : Nat) : s.BeatsFollow (s.beatTo o n) := by
  unfold State.beatTo
  split
  · exact s.beatsFollow_refl
  next hawake => exact s.beatsFollow_of_work _ o n (by simpa using hawake) rfl

/-- An event of a step of the boundary's work, where it comes. -/
theorem State.beatsFollow_ite_beatTo (s : State) (due : Bool) (o : BeatObs) (n : Nat) :
    s.BeatsFollow (if due then s.beatTo o n else s) := by
  split
  · exact s.beatsFollow_beatTo o n
  · exact s.beatsFollow_refl

theorem State.beatsFollow_insertNow (s : State) (apply : Bool) (o : BeatObs) : s.BeatsFollow (s.insertNow apply o) := by
  unfold State.insertNow
  split
  · exact s.beatsFollow_ite_beatTo _ o 2
  · exact s.beatsFollow_refl

/-! ### Commands -/

/-- Every command but a reset: BEAT and the commands that name one step of a boundary may open it; requests, and every command that
only changes the engine out of reset, leave the count. -/
theorem exec_beatsFollow (c : Instr) (s t : State) (hc : entersReset c = false) (h : exec c s = .next t) : s.BeatsFollow t := by
  cases c with
  | brownoutReset | resetNAssert => simp [entersReset] at hc
  | beat o => cases h; exact s.beatsFollow_beat o
  | commitLand k o => cases h; exact s.beatsFollow_ite_beatTo _ o (stepOf k)
  | deferredRelease k o => cases h; exact s.beatsFollow_ite_beatTo _ o (stepOf k)
  | leaseExpiry n o => cases h; exact s.beatsFollow_ite_beatTo _ o 1
  | trimEpochLand o => cases h; exact s.beatsFollow_ite_beatTo _ o 6
  | insertApply o => cases h; exact s.beatsFollow_insertNow true o
  | insertRemove o => cases h; exact s.beatsFollow_insertNow false o
  | nop q | read q | stage q | commit q | abort q | insert q | escTake q | escRenew q | escGive q | status q =>
    cases h
    exact .inl (congrArg Tim.beats (s.m.frame_tim _ q _ fun x => by simp))
  | undefinedOpcode q op =>
    change (if op.toNat < 10 then _ else _) = _ at h
    split at h
    · cases h; exact s.beatsFollow_refl
    · cases h; exact .inl (congrArg Tim.beats (s.m.frame_tim _ q _ fun x => rfl))
  | _ => cases h; exact .inl (by simp)

theorem tick_beats (s : State) : s.tick.m.tim.beats = s.m.tim.beats := s.m.clock_beats

theorem openBeat_beat_first (o : BeatObs) : (State.reset.m.openBeat o).beat = 0 := by
  rw [Mach.beat, Mach.openBeat_beats]
  rfl

theorem openBeat_beat (m : Mach) (o : BeatObs) (h : 1 ≤ m.tim.beats) : (m.openBeat o).beat = (m.beat + 1) % 2 ^ 64 := by
  simp only [Mach.beat, Mach.openBeat_beats]
  omega

end Sys2Proof.Machine

open Sys2Proof.Machine

/-- Settles O8: only a boundary's opening advances the count, and it opens only with no work in progress. -/
theorem beatCountAdvancesByOne : Obligations.BeatCountAdvancesByOne := by
  refine ⟨fun s t hreset hstep => ?_, fun o => ⟨rfl, openBeat_beat_first o⟩, openBeat_beat⟩
  unfold step at hstep
  split at hstep
  · cases hstep
    exact .inl (tick_beats s)
  next c rest hpending => exact exec_beatsFollow c { s with pending := rest } t (hreset c rest hpending) hstep
end

section
/-! SUPPORT. Requests that the engine admits, escrow requests, step 1 for one lock, and the statement about them (R151, R152, R192 to R196,
R204). -/

namespace Sys2Proof.Machine

/-! ### Vectors -/

/-- An element replaced by itself, or one beyond the end, changes nothing. -/
theorem vset_vget {α : Type} [Inhabited α] {n : Nat} (v : Vector α n) (i : Nat) : vset v i (vget v i) = v := by
  ext j hj
  rw [vset, Vector.getElem_setIfInBounds hj]
  split
  next h => rw [h, vget_lt v j hj]
  next => rfl

/-! ### Admitted requests -/

/-- After READY, checks 1 to 3 of R147 pass a whole request that is handled where only KEEP is left. -/
theorem Mach.frameFault_eq_none {m : Mach} {op : Byte} {q : Req} (hready : m.boot.ready = true)
    (hwhole : ∀ sck crc early, q.via = .spi sck crc early → sck = 64 ∧ crc8 (requestBytes q op) = crc)
    (hkeep : m.keepMode = false ∨ keepHandles op.toNat q.addr.toNat = true) : m.frameFault op q = none := by
  have hhandled : (m.keepMode && !keepHandles op.toNat q.addr.toNat) = false := by rcases hkeep with h | h <;> simp [h]
  unfold Mach.frameFault
  rw [hready, hhandled]
  cases hvia : q.via with
  | spi sck crc early =>
    obtain ⟨rfl, rfl⟩ := hwhole sck crc early hvia
    simp
  | ctrl tag => rfl

theorem Mach.received_of_spi (m : Mach) {q : Req} {sck : Nat} {crc : Byte} {early : Nat} (hvia : q.via = .spi sck crc early) :
    m.received q = { m.shiftOut early with flt := { (m.shiftOut early).flt with origin := some (Via.master q.via) } } := by
  rw [Mach.received, hvia]

theorem Mach.received_of_ctrl (m : Mach) {q : Req} {tag : Byte} (hvia : q.via = .ctrl tag) :
    m.received q = { m.acceptPkt 0 1 8 with flt := { (m.acceptPkt 0 1 8).flt with origin := some (Via.master q.via) } } := by
  rw [Mach.received, hvia]

theorem Mach.serveFrame_eq {m r : Mach} {q : Req} {act : Mach → Mach × Reply} {a : Reply}
    (hact : act { m with flt := { m.flt with origin := some (Via.master q.via) } } = (r, a)) : m.serveFrame q act = r.answered q a := by
  rw [Mach.serveFrame, hact]
  rfl

/-- An admitted request is handed to its act, whose answer goes back to the request's master. -/
theorem Mach.frame_of_admits {m r : Mach} {op : Byte} {q : Req} {act : Mach → Mach × Reply} {a : Reply} (hawake : m.boot.inReset = false)
    (hadmits : m.admits op q = true) (hact : act (m.received q) = (r, a)) : m.frame op q act = r.answered q a := by
  simp only [Mach.admits, Bool.and_eq_true, Bool.or_eq_true, Bool.not_eq_true'] at hadmits
  obtain ⟨⟨hport, hready⟩, hkeep⟩ := hadmits
  unfold Mach.frame
  rw [hawake]
  cases hvia : q.via with
  | spi sck crc early =>
    simp only [hvia, Bool.and_eq_true, beq_iff_eq] at hport
    have hpass : (m.shiftOut early).frameFault op q = none :=
      Mach.frameFault_eq_none hready (fun _ _ _ h => by cases hvia.symm.trans h; exact hport) hkeep
    have hserve : (m.shiftOut early).serveFrame q act = r.answered q a := Mach.serveFrame_eq (by rwa [m.received_of_spi hvia] at hact)
    simp [hpass, hserve]
  | ctrl tag =>
    simp only [hvia, Bool.and_eq_true, decide_eq_true_eq] at hport
    obtain ⟨hup, hroom⟩ := hport
    have hpass : (m.acceptPkt 0 1 8).frameFault op q = none :=
      Mach.frameFault_eq_none hready (fun _ _ _ h => by cases hvia.symm.trans h) hkeep
    have hserve : (m.acceptPkt 0 1 8).serveFrame q act = r.answered q a := Mach.serveFrame_eq (by rwa [m.received_of_ctrl hvia] at hact)
    simp [hup, Nat.not_le.mpr hroom, hpass, hserve]

section
variable {q : Req} {s : State} {r : Mach} {a : Reply}

theorem exec_escTake (hawake : s.awake) (hadmits : s.m.admits 0x06 q = true)
    (hact : (s.m.received q).escTake (Via.master q.via) (s.spiTakes (escLock q)) q = (r, a)) :
    exec (.escTake q) s = .next (s.withEngine (r.answered q a)) := by
  rw [← Mach.frame_of_admits (act := fun m => m.escTake (Via.master q.via) (s.spiTakes (escLock q)) q) hawake hadmits hact]
  rfl

theorem exec_escRenew (hawake : s.awake) (hadmits : s.m.admits 0x07 q = true)
    (hact : (s.m.received q).escRenew (Via.master q.via) q = (r, a)) : exec (.escRenew q) s = .next (s.withEngine (r.answered q a)) := by
  rw [← Mach.frame_of_admits (act := fun m => m.escRenew (Via.master q.via) q) hawake hadmits hact]
  rfl

theorem exec_escGive (hawake : s.awake) (hadmits : s.m.admits 0x08 q = true)
    (hact : (s.m.received q).escGive (Via.master q.via) q = (r, a)) : exec (.escGive q) s = .next (s.withEngine (r.answered q a)) := by
  rw [← Mach.frame_of_admits (act := fun m => m.escGive (Via.master q.via) q) hawake hadmits hact]
  rfl

end

/-! ### The fields of an escrow request -/

theorem escFault_eq_true_iff (q : Req) (lease : Bool) :
    escFault q lease = true ↔ 8 ≤ q.addr.toNat ∨ lease = true ∧ (fld q.data 0 21 = 0 ∨ 1048576 < fld q.data 0 21) := by
  simp [escFault]

theorem escFault_eq_false_iff (q : Req) (lease : Bool) :
    escFault q lease = false ↔ q.addr.toNat < 8 ∧ (lease = true → 1 ≤ fld q.data 0 21 ∧ fld q.data 0 21 ≤ 1048576) := by
  rw [← Bool.not_eq_true, escFault_eq_true_iff]
  cases lease
  · simp
  · simp only [true_and, true_imp_iff]
    omega

theorem escLock_of_fields {q : Req} {lease : Bool} (h : escFault q lease = false) : escLock q = q.addr.toNat :=
  Nat.mod_eq_of_lt ((escFault_eq_false_iff q lease).mp h).1

/-! ### Who holds a lock -/

theorem Mach.heldBy_eq_true_iff (m : Mach) (n : Nat) (k : Master) :
    m.heldBy n k = true ↔ (vget m.ctl.locks n).st = .held ∧ (vget m.ctl.locks n).owner = some k := by
  simp [Mach.heldBy]

theorem Mach.heldBy_of_held {m : Mach} {n : Nat} {k : Master} (hst : (vget m.ctl.locks n).st = .held)
    (howner : (vget m.ctl.locks n).owner = some k) : m.heldBy n k = true := (m.heldBy_eq_true_iff n k).mpr ⟨hst, howner⟩

theorem Mach.heldBy_of_free {m : Mach} {n : Nat} (k : Master) (h : (vget m.ctl.locks n).st = .free) : m.heldBy n k = false := by
  simp [Mach.heldBy, h]

theorem Mach.heldBy_other_of_heldBy {m : Mach} {n : Nat} {k : Master} (h : m.heldBy n k = true) : m.heldBy n (Master.other k) = false := by
  obtain ⟨-, howner⟩ := (m.heldBy_eq_true_iff n k).mp h
  cases k <;> simp [Mach.heldBy, howner, Master.other]

/-! ### What an escrow request answers -/

section
variable {m : Mach} {k : Master} {q : Req}

theorem Mach.escTake_of_fault (spi : Bool) (hfault : escFault q true = true) : m.escTake k spi q = (m, { code := 4, addr := q.addr }) :=
  if_pos hfault

theorem Mach.escTake_of_free {spi : Bool} (hfields : escFault q true = false) (hfree : (vget m.ctl.locks q.addr.toNat).st = .free)
    (hspi : k = .spi ∨ spi = false) : m.escTake k spi q =
      (m.modLock q.addr.toNat fun l => { l with st := .held, owner := some k, lease := fld q.data 0 21 }, { code := 0, addr := q.addr }) := by
  have hfirst : (spi && k == .host) = false := by rcases hspi with rfl | rfl <;> simp
  simp [Mach.escTake, hfields, escLock_of_fields hfields, Mach.heldBy_of_free _ hfree, hfree, hfirst]

/-- The host port finds a free lock taken that the SPI port takes in the same core clock (R152). -/
theorem Mach.escTake_of_spiFirst (hfields : escFault q true = false) (hfree : (vget m.ctl.locks q.addr.toNat).st = .free) :
    m.escTake .host true q = (m, { code := 8, addr := q.addr }) := by
  simp [Mach.escTake, hfields, escLock_of_fields hfields, Mach.heldBy_of_free _ hfree, hfree]

theorem Mach.escTake_of_forfeit (spi : Bool) (hfields : escFault q true = false)
    (hforfeit : (vget m.ctl.locks q.addr.toNat).st = .forfeit) : m.escTake k spi q = (m, { code := 8, addr := q.addr }) := by
  simp [Mach.escTake, hfields, escLock_of_fields hfields, hforfeit]

theorem Mach.escTake_of_heldByOther (spi : Bool) (hfields : escFault q true = false)
    (hheld : m.heldBy q.addr.toNat (Master.other k) = true) : m.escTake k spi q = (m, { code := 8, addr := q.addr }) := by
  simp [Mach.escTake, hfields, escLock_of_fields hfields, hheld]

theorem Mach.escTake_of_heldBy (spi : Bool) (hfields : escFault q true = false) (hheld : m.heldBy q.addr.toNat k = true) :
    m.escTake k spi q = (m, { code := 4, addr := q.addr }) := by
  have hst : (vget m.ctl.locks q.addr.toNat).st = .held := ((m.heldBy_eq_true_iff _ k).mp hheld).1
  simp [Mach.escTake, hfields, escLock_of_fields hfields, hheld, Mach.heldBy_other_of_heldBy hheld, hst]

theorem Mach.escRenew_of_fault (hfault : escFault q true = true) : m.escRenew k q = (m, { code := 4, addr := q.addr }) := by
  simp [Mach.escRenew, hfault]

theorem Mach.escRenew_of_not_heldBy (hfields : escFault q true = false) (hheld : m.heldBy q.addr.toNat k = false) :
    m.escRenew k q = (m, { code := 4, addr := q.addr }) := by
  simp [Mach.escRenew, escLock_of_fields hfields, hheld]

theorem Mach.escRenew_of_heldBy (hfields : escFault q true = false) (hheld : m.heldBy q.addr.toNat k = true) : m.escRenew k q =
    (m.modLock q.addr.toNat fun l => { l with lease := fld q.data 0 21 },
      { code := 0, addr := q.addr, data := w32 (vget m.ctl.locks q.addr.toNat).lease }) := by
  simp [Mach.escRenew, hfields, escLock_of_fields hfields, hheld]

theorem Mach.escGive_of_fault (hfault : escFault q false = true) : m.escGive k q = (m, { code := 4, addr := q.addr }) := by
  simp [Mach.escGive, hfault]

theorem Mach.escGive_of_not_heldBy (hfields : escFault q false = false) (hheld : m.heldBy q.addr.toNat k = false) :
    m.escGive k q = (m, { code := 4, addr := q.addr }) := by
  simp [Mach.escGive, escLock_of_fields hfields, hheld]

theorem Mach.escGive_of_heldBy (hfields : escFault q false = false) (hheld : m.heldBy q.addr.toNat k = true) : m.escGive k q =
    (m.modLock q.addr.toNat fun l => { l with st := .free, lease := 0 }, { code := 0, addr := q.addr }) := by
  simp [Mach.escGive, hfields, escLock_of_fields hfields, hheld]

end

/-! ### Step 1 for one lock -/

@[simp] theorem Mach.raiseOf_locks (m : Mach) (cls : Option Nat) (code seq : Nat) : (m.raiseOf cls code seq).ctl.locks = m.ctl.locks := by
  cases cls with
  | none => rfl
  | some c => simp [Mach.raiseOf, Mach.raise_ctl]

@[simp] theorem Mach.logEvent_locks (m : Mach) (plane : Plane) (code a b : Nat) (origin : Option Master) (cls : Option Nat) :
    (m.logEvent plane code a b origin cls).ctl.locks = m.ctl.locks := by
  unfold Mach.logEvent
  dsimp only
  split
  · simp
  · split <;> simp [Mach.raise_ctl]

@[simp] theorem Mach.discard_locks (m : Mach) (k : Master) (staged deferred : Bool) :
    (m.discard k staged deferred).ctl.locks = m.ctl.locks := by
  cases k <;> rfl

@[simp] theorem Mach.forfeit_locks (m : Mach) (n cause : Nat) : (m.forfeit n cause).ctl.locks =
    vset m.ctl.locks n { vget m.ctl.locks n with st := .forfeit, cause := BitVec.ofNat 4 cause, lease := 0 } := by
  simp [Mach.forfeit]

/-- A lock once step 1 of a boundary's work has seen to it (R196, R204). -/
def Lock.afterStep1 (l : Lock) : Lock :=
  match l.st with
  | .free => l
  | .forfeit => { l with st := .free }
  | .held => if l.lease = 0 then { l with st := .forfeit, cause := 1, lease := 0 } else { l with lease := l.lease - 1 }

section
variable {l : Lock}

theorem Lock.afterStep1_of_free (hst : l.st = .free) : l.afterStep1 = l := by
  rw [Lock.afterStep1, hst]

theorem Lock.afterStep1_of_forfeit (hst : l.st = .forfeit) : l.afterStep1 = { l with st := .free } := by
  rw [Lock.afterStep1, hst]

theorem Lock.afterStep1_of_runOut (hst : l.st = .held) (hlease : l.lease = 0) :
    l.afterStep1 = { l with st := .forfeit, cause := 1, lease := 0 } := by
  simp [Lock.afterStep1, hst, hlease]

theorem Lock.afterStep1_of_lease (hst : l.st = .held) (hlease : l.lease ≠ 0) : l.afterStep1 = { l with lease := l.lease - 1 } := by
  simp [Lock.afterStep1, hst, hlease]

end

theorem Mach.leaseStep_of_free {m : Mach} {n : Nat} (hst : (vget m.ctl.locks n).st = .free) : m.leaseStep n = m := by
  simp [Mach.leaseStep, hst]

/-- Step 1 for lock n replaces that lock as its own state says, and no other. -/
theorem Mach.leaseStep_locks (m : Mach) (n : Nat) :
    (m.leaseStep n).ctl.locks = vset m.ctl.locks n (vget m.ctl.locks n).afterStep1 := by
  cases hst : (vget m.ctl.locks n).st with
  | free => rw [Mach.leaseStep_of_free hst, Lock.afterStep1_of_free hst, vset_vget]
  | forfeit => simp [Mach.leaseStep, Lock.afterStep1_of_forfeit hst, hst]
  | held =>
    by_cases hlease : (vget m.ctl.locks n).lease = 0
    · cases howner : (vget m.ctl.locks n).owner <;>
        simp [Mach.leaseStep, Lock.afterStep1_of_runOut hst hlease, hst, hlease, howner]
    · simp [Mach.leaseStep, Lock.afterStep1_of_lease hst hlease, hst, hlease]

end Sys2Proof.Machine

open Sys2Proof.Machine

/-- Settles O15: an admitted escrow request meets the case of its own that the named lock's state picks, and step 1 moves a lock by that
lock's state alone. -/
theorem escrowLocksMove : Obligations.EscrowLocksMove := by
  refine ⟨fun q s hawake => ?_, fun m n j => ?_⟩
  · intro m k n l lease setLock
    refine ⟨fun hn hlo hhi hadmits => ?_, fun hn hlo hhi hadmits => ?_, fun hn hadmits => ?_, fun hbad => ?_⟩
    · have hfields : escFault q true = false := (escFault_eq_false_iff q true).mpr ⟨hn, fun _ => ⟨hlo, hhi⟩⟩
      have hlock : escLock q = n := escLock_of_fields hfields
      refine ⟨fun hfree hspi => ?_, ?_, fun hst howner => ?_⟩
      · exact exec_escTake hawake hadmits (Mach.escTake_of_free hfields hfree (by rwa [hlock]))
      · rintro (hforfeit | ⟨hst, howner⟩ | ⟨hfree, hhost, hspi⟩)
        · exact exec_escTake hawake hadmits (Mach.escTake_of_forfeit _ hfields hforfeit)
        · exact exec_escTake hawake hadmits (Mach.escTake_of_heldByOther _ hfields (Mach.heldBy_of_held hst howner))
        · refine exec_escTake hawake hadmits ?_
          rw [hlock, hspi, show Via.master q.via = .host from hhost]
          exact Mach.escTake_of_spiFirst hfields hfree
      · exact exec_escTake hawake hadmits (Mach.escTake_of_heldBy _ hfields (Mach.heldBy_of_held hst howner))
    · have hfields : escFault q true = false := (escFault_eq_false_iff q true).mpr ⟨hn, fun _ => ⟨hlo, hhi⟩⟩
      exact ⟨fun hst howner => exec_escRenew hawake hadmits (Mach.escRenew_of_heldBy hfields (Mach.heldBy_of_held hst howner)),
        fun hnot => exec_escRenew hawake hadmits (Mach.escRenew_of_not_heldBy hfields hnot)⟩
    · have hfields : escFault q false = false := (escFault_eq_false_iff q false).mpr ⟨hn, fun h => nomatch h⟩
      exact ⟨fun hst howner => exec_escGive hawake hadmits (Mach.escGive_of_heldBy hfields (Mach.heldBy_of_held hst howner)),
        fun hnot => exec_escGive hawake hadmits (Mach.escGive_of_not_heldBy hfields hnot)⟩
    · have hfault : escFault q true = true := (escFault_eq_true_iff q true).mpr (hbad.imp_right fun h => ⟨rfl, h⟩)
      exact ⟨fun hadmits => exec_escTake hawake hadmits (Mach.escTake_of_fault _ hfault),
        fun hadmits => exec_escRenew hawake hadmits (Mach.escRenew_of_fault hfault),
        fun hn hadmits => exec_escGive hawake hadmits (Mach.escGive_of_fault ((escFault_eq_true_iff q false).mpr (.inl hn)))⟩
  · simp only [Mach.leaseStep_locks, vset_get, if_true, vget_eq]
    exact ⟨Lock.afterStep1_of_runOut, Lock.afterStep1_of_lease, Lock.afterStep1_of_forfeit,
      fun hst => Mach.leaseStep_of_free (by rwa [vget_eq]), fun hne => if_neg fun h => hne (Fin.ext h)⟩
end

section
/-! SUPPORT. Where insert requests are queued, when they are turned away, and the statement about them (R152, R236, R237). -/

namespace Sys2Proof.Machine

/-! ### The end of a list that a predicate holds of -/

/-- Cutting off the last elements that satisfy p cuts a list where they begin. -/
theorem dropWhile_reverse_append {α : Type} {p : α → Bool} {front back : List α} (hback : back.all p = true)
    (hfront : (front.getLast?.all fun x => !p x) = true) : ((front ++ back).reverse.dropWhile p).reverse = front := by
  have hpast : (front ++ back).reverse.dropWhile p = front.reverse.dropWhile p := by
    rw [List.reverse_append, List.dropWhile_append_of_pos fun x hx => List.all_eq_true.mp hback x (List.mem_reverse.mp hx)]
  have hstop : front.reverse.dropWhile p = front.reverse := by
    rw [← List.head?_reverse] at hfront
    cases hrev : front.reverse with
    | nil => rfl
    | cons x xs =>
      rw [hrev, List.head?_cons, Option.all_some, Bool.not_eq_true'] at hfront
      rw [List.dropWhile_cons_of_neg (Bool.eq_false_iff.mp hfront)]
  rw [hpast, hstop, List.reverse_reverse]

/-! ### Where a request is queued -/

/-- The request that an INSERT of master k queues at this core clock. -/
def Mach.frameReq (m : Mach) (k : Master) (apply : Bool) (slot : Nat) : InsReq :=
  { apply, slot, master := some k, after := m.tim.beats, clk := some m.tim.clk }

/-- Whether the host port queued a request at this core clock, so that one of the SPI port goes ahead of it (R152). -/
def Mach.hostNow (m : Mach) (r : InsReq) : Bool := r.master == some .host && r.after == m.tim.beats && r.clk == some m.tim.clk

section
variable {m : Mach} {k : Master} {apply : Bool} {slot : Nat}

theorem Mach.queueFrame_of_host (hk : k = .host) :
    m.queueFrame k apply slot = { m with ins := { m.ins with queue := m.ins.queue ++ [m.frameReq k apply slot] } } := by
  subst hk
  simp [Mach.queueFrame, Mach.frameReq]

/-- The SPI port's request goes between the requests of earlier core clocks and those that the host port queued in this one. -/
theorem Mach.queueFrame_of_spi {front back : List InsReq} (hk : k = .spi) (hqueue : m.ins.queue = front ++ back)
    (hback : back.all m.hostNow = true) (hfront : (front.getLast?.all fun x => !m.hostNow x) = true) :
    m.queueFrame k apply slot = { m with ins := { m.ins with queue := front ++ m.frameReq k apply slot :: back } } := by
  subst hk
  have hcut : (m.ins.queue.reverse.dropWhile m.hostNow).reverse = front := hqueue ▸ dropWhile_reverse_append hback hfront
  have hrest : m.ins.queue.drop front.length = back := by rw [hqueue, List.drop_left]
  change ({ m with ins := { m.ins with queue := (m.ins.queue.reverse.dropWhile m.hostNow).reverse ++
    (m.frameReq .spi apply slot :: (m.ins.queue.drop (m.ins.queue.reverse.dropWhile m.hostNow).reverse.length)) } } : Mach) = _
  rw [hcut, hrest]

theorem Mach.queueInsert_of_room (k : Option Master) (h : m.ins.queue.length < 8) : m.queueInsert k apply slot =
    { m with ins := { m.ins with queue := m.ins.queue ++ [{ apply, slot, master := k, after := m.tim.beats }] } } := if_pos h

theorem Mach.queueInsert_of_full (k : Option Master) (h : 8 ≤ m.ins.queue.length) :
    m.queueInsert k apply slot = { m with ins := { m.ins with result := 4 } } := if_neg (Nat.not_lt.mpr h)

end

/-! ### What a request to queue answers -/

section
variable {m : Mach} {k : Master} {q : Req} {spi : Nat}

theorem Mach.insertReq_of_room (hvalue : valueOk 0x780 q.data = true)
    (hroom : m.ins.queue.length + (if k = .host then spi else 0) < 8) : m.insertReq k spi q =
      (m.queueFrame k (fld q.data 8 2 == 1) (fld q.data 0 5), { code := 0, addr := q.addr }) := by
  simp [Mach.insertReq, hvalue, hroom]

/-- An INSERT is DENIED for its data, or for a queue that is full once the SPI port's of the same core clock are counted ahead of the
host port's. -/
theorem Mach.insertReq_of_denied
    (h : valueOk 0x780 q.data = false ∨ 8 ≤ m.ins.queue.length + (if k = .host then spi else 0)) :
    m.insertReq k spi q = (m, { code := 4, addr := q.addr }) := by
  rcases h with hvalue | hfull
  · simp [Mach.insertReq, hvalue]
  · simp [Mach.insertReq, hfull]

end

theorem exec_insert {q : Req} {s : State} {r : Mach} {a : Reply} (hawake : s.awake) (hadmits : s.m.admits 0x05 q = true)
    (hact : (s.m.received q).insertReq (Via.master q.via) s.spiInserts q = (r, a)) :
    exec (.insert q) s = .next (s.withEngine (r.answered q a)) := by
  rw [← Mach.frame_of_admits (act := fun m => m.insertReq (Via.master q.via) s.spiInserts q) hawake hadmits hact]
  rfl

section
variable {s : State} {slot : Fin 32} (k : Master)

/-- Out of reset, an operation written to `INS.APPLY` for a slot other than 0 queues its request. -/
theorem run_queueInsert (apply : Bool) (hawake : s.awake) (hslot : slot ≠ 0) :
    (s.run fun m => if slot.val = 0 then m else m.queueInsert (some k) apply slot.val) =
      .next (s.withEngine (s.m.queueInsert (some k) apply slot.val)) := by
  rw [run_awake s _ hawake, if_neg (Fin.val_ne_zero_iff.mpr hslot)]

theorem exec_insApplyRequest (hawake : s.awake) (hslot : slot ≠ 0) :
    exec (.insApplyRequest k slot) s = .next (s.withEngine (s.m.queueInsert (some k) true slot.val)) :=
  run_queueInsert k true hawake hslot

theorem exec_insRemoveRequest (hawake : s.awake) (hslot : slot ≠ 0) :
    exec (.insRemoveRequest k slot) s = .next (s.withEngine (s.m.queueInsert (some k) false slot.val)) :=
  run_queueInsert k false hawake hslot

end

end Sys2Proof.Machine

open Sys2Proof.Machine

/-- Settles O21: an admitted INSERT queues where its port's requests go or is turned away, and a request by register goes last or gets
result 4. -/
theorem insertRequestsQueue : Obligations.InsertRequestsQueue := by
  refine ⟨fun q s hawake hadmits => ?_, fun k slot s hawake hslot => ?_⟩
  · intro m k r same
    refine ⟨fun hvalue hk hroom => ?_, fun front back hvalue hk hroom hqueue hback hfront => ?_, fun hdenied => ?_⟩
    · refine exec_insert hawake hadmits ((Mach.insertReq_of_room hvalue ?_).trans ?_)
      · rwa [if_pos hk]
      · rw [Mach.queueFrame_of_host hk]
        rfl
    · refine exec_insert hawake hadmits ((Mach.insertReq_of_room hvalue ?_).trans ?_)
      · rwa [if_neg (by rw [show Via.master q.via = .spi from hk]; decide)]
      · rw [Mach.queueFrame_of_spi hk hqueue hback hfront]
        rfl
    · exact exec_insert hawake hadmits (Mach.insertReq_of_denied hdenied)
  · rw [exec_insApplyRequest k hawake hslot, exec_insRemoveRequest k hawake hslot]
    refine ⟨fun hroom => ?_, fun hfull => ?_⟩
    · simp only [Mach.queueInsert_of_room _ hroom, and_self]
    · simp only [Mach.queueInsert_of_full _ hfull, and_self]
end

section
/-! SUPPORT. Memory, parameters and start-up: which operations of the engine leave all three as they were, and what the others
uphold of them; from it the statements on memory, the parameter store, READY and the work of a boundary (R5, R15, R157, R252, R255). -/

namespace Sys2Proof.Machine

/-! ### Memory, parameters and start-up left as they were

For the operations that Laws/Frame.lean does not list, `_stores` says that an operation leaves all three. -/

/-- What the statements below are about: memory, parameters and start-up. -/
def Mach.stores (m : Mach) : List Host.Cell × Params × Boot := (m.mem, m.par, m.boot)

theorem Mach.sameStores_iff {a b : Mach} : a.stores = b.stores ↔ a.mem = b.mem ∧ a.par = b.par ∧ a.boot = b.boot := by
  simp [Mach.stores]

@[simp] theorem Params.ite_landed (c : Prop) [Decidable c] (x y : Params) :
    (if c then x else y).landed = if c then x.landed else y.landed := apply_ite Params.landed c x y

/-! ### Hallmark flags -/

@[simp] theorem Mach.closeInterval_stores (m : Mach) :
    m.closeInterval.mem = m.mem ∧ m.closeInterval.par = m.par ∧ m.closeInterval.boot = m.boot := by simp [Mach.closeInterval]

@[simp] theorem Mach.latchFlags_stores (m : Mach) :
    m.latchFlags.mem = m.mem ∧ m.latchFlags.par = m.par ∧ m.latchFlags.boot = m.boot := by simp [Mach.latchFlags]

/-! ### Quires -/

@[simp] theorem Mach.armLand_stores (m : Mach) (v : Word) :
    (m.armLand v).mem = m.mem ∧ (m.armLand v).par = m.par ∧ (m.armLand v).boot = m.boot := by simp [Mach.armLand]

/-! ### The pilot -/

@[simp] theorem Mach.mintGo_stores (m : Mach) :
    m.mintGo.mem = m.mem ∧ m.mintGo.par = m.par ∧ m.mintGo.boot = m.boot := by simp [Mach.mintGo]

/-! ### The timebase -/

@[simp] theorem Mach.refLost_stores (m : Mach) (phase : Bool) :
    (m.refLost phase).mem = m.mem ∧ (m.refLost phase).par = m.par ∧ (m.refLost phase).boot = m.boot := by simp [Mach.refLost]

@[simp] theorem Mach.refLocked_stores (m : Mach) :
    m.refLocked.mem = m.mem ∧ m.refLocked.par = m.par ∧ m.refLocked.boot = m.boot := by simp [Mach.refLocked]

@[simp] theorem Mach.refAbsent_stores (m : Mach) :
    m.refAbsent.mem = m.mem ∧ m.refAbsent.par = m.par ∧ m.refAbsent.boot = m.boot := by simp [Mach.refAbsent]

@[simp] theorem Mach.corePllLock_stores (m : Mach) :
    m.corePllLock.mem = m.mem ∧ m.corePllLock.par = m.par ∧ m.corePllLock.boot = m.boot := by simp [Mach.corePllLock]

@[simp] theorem Mach.relockFail_stores (m : Mach) (core : Bool) :
    (m.relockFail core).mem = m.mem ∧ (m.relockFail core).par = m.par ∧ (m.relockFail core).boot = m.boot := by
  simp [Mach.relockFail]

@[simp] theorem Mach.relockAgain_stores (m : Mach) :
    m.relockAgain.mem = m.mem ∧ m.relockAgain.par = m.par ∧ m.relockAgain.boot = m.boot := by simp [Mach.relockAgain]

@[simp] theorem Mach.synthLocked_stores (m : Mach) :
    m.synthLocked.mem = m.mem ∧ m.synthLocked.par = m.par ∧ m.synthLocked.boot = m.boot := by simp [Mach.synthLocked]

@[simp] theorem Mach.sliceRestart_stores (m : Mach) :
    m.sliceRestart.mem = m.mem ∧ m.sliceRestart.par = m.par ∧ m.sliceRestart.boot = m.boot := by simp [Mach.sliceRestart]

@[simp] theorem Mach.adjRequest_stores (m : Mach) (v : Word) :
    (m.adjRequest v).mem = m.mem ∧ (m.adjRequest v).par = m.par ∧ (m.adjRequest v).boot = m.boot := by simp [Mach.adjRequest]

@[simp] theorem Mach.ppsEdge_stores (m : Mach) : m.ppsEdge.mem = m.mem ∧ m.ppsEdge.par = m.par ∧ m.ppsEdge.boot = m.boot := by
  unfold Mach.ppsEdge
  split <;> simp

/-! ### Live trim -/

@[simp] theorem Mach.trimLand_stores (m : Mach) : m.trimLand.mem = m.mem ∧ m.trimLand.par = m.par ∧ m.trimLand.boot = m.boot := by
  unfold Mach.trimLand
  split <;> simp

@[simp] theorem Mach.trimCalibrated_stores (m : Mach) :
    m.trimCalibrated.mem = m.mem ∧ m.trimCalibrated.par = m.par ∧ m.trimCalibrated.boot = m.boot := by simp [Mach.trimCalibrated]

@[simp] theorem Mach.pilotReturn_stores (m : Mach) :
    m.pilotReturn.mem = m.mem ∧ m.pilotReturn.par = m.par ∧ m.pilotReturn.boot = m.boot := by simp [Mach.pilotReturn]

@[simp] theorem Mach.pilotRestart_stores (m : Mach) :
    m.pilotRestart.mem = m.mem ∧ m.pilotRestart.par = m.par ∧ m.pilotRestart.boot = m.boot := by simp [Mach.pilotRestart]

@[simp] theorem Mach.trimBlock_stores (m : Mach) (o : BlockObs) :
    (m.trimBlock o).mem = m.mem ∧ (m.trimBlock o).par = m.par ∧ (m.trimBlock o).boot = m.boot := by simp [Mach.trimBlock]

@[simp] theorem Mach.gapOpen_stores (m : Mach) :
    m.gapOpen.mem = m.mem ∧ m.gapOpen.par = m.par ∧ m.gapOpen.boot = m.boot := by simp [Mach.gapOpen]

/-! ### The Mint -/

@[simp] theorem Mach.mintApply_stores (m : Mach) :
    m.mintApply.mem = m.mem ∧ m.mintApply.par = m.par ∧ m.mintApply.boot = m.boot := by simp [Mach.mintApply]

@[simp] theorem Mach.mintRelease_stores (m : Mach) :
    m.mintRelease.mem = m.mem ∧ m.mintRelease.par = m.par ∧ m.mintRelease.boot = m.boot := by simp [Mach.mintRelease]

@[simp] theorem Mach.mintReload_stores (m : Mach) :
    m.mintReload.mem = m.mem ∧ m.mintReload.par = m.par ∧ m.mintReload.boot = m.boot := by simp [Mach.mintReload]

@[simp] theorem Mach.mintRate_stores (m : Mach) :
    m.mintRate.mem = m.mem ∧ m.mintRate.par = m.par ∧ m.mintRate.boot = m.boot := by simp [Mach.mintRate]

@[simp] theorem Mach.spanHoldEnd_stores (m : Mach) :
    m.spanHoldEnd.mem = m.mem ∧ m.spanHoldEnd.par = m.par ∧ m.spanHoldEnd.boot = m.boot := by simp [Mach.spanHoldEnd]

@[simp] theorem Mach.spanCode_stores (m : Mach) :
    m.spanCode.mem = m.mem ∧ m.spanCode.par = m.par ∧ m.spanCode.boot = m.boot := by simp [Mach.spanCode]

@[simp] theorem Mach.playLoadDone_stores (m : Mach) (bad : Bool) :
    (m.playLoadDone bad).mem = m.mem ∧ (m.playLoadDone bad).par = m.par ∧ (m.playLoadDone bad).boot = m.boot := by
  simp [Mach.playLoadDone]

@[simp] theorem Mach.playStart_stores (m : Mach) :
    m.playStart.mem = m.mem ∧ m.playStart.par = m.par ∧ m.playStart.boot = m.boot := by simp [Mach.playStart]

@[simp] theorem Mach.playAdvance_stores (m : Mach) :
    m.playAdvance.mem = m.mem ∧ m.playAdvance.par = m.par ∧ m.playAdvance.boot = m.boot := by simp [Mach.playAdvance]

@[simp] theorem Mach.mintComply_stores (m : Mach) (points : BitVec 3) :
    (m.mintComply points).mem = m.mem ∧ (m.mintComply points).par = m.par ∧ (m.mintComply points).boot = m.boot := by
  simp [Mach.mintComply]

@[simp] theorem Mach.mintDisconnect_stores (m : Mach) :
    m.mintDisconnect.mem = m.mem ∧ m.mintDisconnect.par = m.par ∧ m.mintDisconnect.boot = m.boot := by simp [Mach.mintDisconnect]

@[simp] theorem Mach.complyClear_stores (m : Mach) (v : Word) :
    (m.complyClear v).mem = m.mem ∧ (m.complyClear v).par = m.par ∧ (m.complyClear v).boot = m.boot := by simp [Mach.complyClear]

@[simp] theorem Mach.faultClear_stores (m : Mach) (v : Word) :
    (m.faultClear v).mem = m.mem ∧ (m.faultClear v).par = m.par ∧ (m.faultClear v).boot = m.boot := by simp [Mach.faultClear]

@[simp] theorem Mach.mintBias_stores (m : Mach) (bad : Bool) :
    (m.mintBias bad).mem = m.mem ∧ (m.mintBias bad).par = m.par ∧ (m.mintBias bad).boot = m.boot := by simp [Mach.mintBias]

@[simp] theorem Mach.mintUp_stores (m : Mach) :
    m.mintUp.mem = m.mem ∧ m.mintUp.par = m.par ∧ m.mintUp.boot = m.boot := by simp [Mach.mintUp]

/-! ### The Assay and the Isotherm -/

@[simp] theorem Mach.assayRequest_stores (m : Mach) (js : BitVec 32) :
    (m.assayRequest js).mem = m.mem ∧ (m.assayRequest js).par = m.par ∧ (m.assayRequest js).boot = m.boot := by
  simp [Mach.assayRequest]

@[simp] theorem Mach.kicks_stores (m : Mach) :
    m.kicks.mem = m.mem ∧ m.kicks.par = m.par ∧ m.kicks.boot = m.boot := by simp [Mach.kicks]

@[simp] theorem Mach.kickLanded_stores (m : Mach) (v : Word) :
    (m.kickLanded v).mem = m.mem ∧ (m.kickLanded v).par = m.par ∧ (m.kickLanded v).boot = m.boot := by simp [Mach.kickLanded]

@[simp] theorem Mach.cfgLanded_stores (m : Mach) (j : Nat) :
    (m.cfgLanded j).mem = m.mem ∧ (m.cfgLanded j).par = m.par ∧ (m.cfgLanded j).boot = m.boot := by simp [Mach.cfgLanded]

@[simp] theorem Mach.asyBoundary_stores (m : Mach) :
    m.asyBoundary.mem = m.mem ∧ m.asyBoundary.par = m.par ∧ m.asyBoundary.boot = m.boot := by simp [Mach.asyBoundary]

@[simp] theorem Mach.coefLanded_stores (m : Mach) (x : Nat) :
    (m.coefLanded x).mem = m.mem ∧ (m.coefLanded x).par = m.par ∧ (m.coefLanded x).boot = m.boot := by simp [Mach.coefLanded]

@[simp] theorem Mach.isoBand_stores (m : Mach) (ok : Bool) :
    (m.isoBand ok).mem = m.mem ∧ (m.isoBand ok).par = m.par ∧ (m.isoBand ok).boot = m.boot := by
  unfold Mach.isoBand
  dsimp only
  (repeat' split) <;> simp

@[simp] theorem Mach.isoUpdate_stores (m : Mach) (t : Int) :
    (m.isoUpdate t).mem = m.mem ∧ (m.isoUpdate t).par = m.par ∧ (m.isoUpdate t).boot = m.boot := by simp [Mach.isoUpdate]

@[simp] theorem Mach.isoCtl_stores (m : Mach) :
    m.isoCtl.mem = m.mem ∧ m.isoCtl.par = m.par ∧ m.isoCtl.boot = m.boot := by simp [Mach.isoCtl]

@[simp] theorem Mach.pwmPeriod_stores (m : Mach) :
    m.pwmPeriod.mem = m.mem ∧ m.pwmPeriod.par = m.par ∧ m.pwmPeriod.boot = m.boot := by simp [Mach.pwmPeriod]

@[simp] theorem Mach.pwmHighEnd_stores (m : Mach) :
    m.pwmHighEnd.mem = m.mem ∧ m.pwmHighEnd.par = m.par ∧ m.pwmHighEnd.boot = m.boot := by simp [Mach.pwmHighEnd]

@[simp] theorem Mach.wireSettled_stores (m : Mach) :
    m.wireSettled.mem = m.mem ∧ m.wireSettled.par = m.par ∧ m.wireSettled.boot = m.boot := by
  unfold Mach.wireSettled
  split <;> simp

@[simp] theorem Mach.wireEnd_stores (m : Mach) (e : Nat) (r : Int) :
    (m.wireEnd e r).mem = m.mem ∧ (m.wireEnd e r).par = m.par ∧ (m.wireEnd e r).boot = m.boot := by simp [Mach.wireEnd]

@[simp] theorem Mach.addResult_stores (m : Mach) (j : Nat) (c : Conv) (r : Int) :
    (m.addResult j c r).mem = m.mem ∧ (m.addResult j c r).par = m.par ∧ (m.addResult j c r).boot = m.boot := by
  simp [Mach.addResult]

@[simp] theorem Mach.pointConv_stores (m : Mach) (u : Int) :
    (m.pointConv u).mem = m.mem ∧ (m.pointConv u).par = m.par ∧ (m.pointConv u).boot = m.boot := by
  unfold Mach.pointConv
  split <;> simp

@[simp] theorem Mach.chainConv_stores (m : Mach) (o : ConvObs) :
    (m.chainConv o).mem = m.mem ∧ (m.chainConv o).par = m.par ∧ (m.chainConv o).boot = m.boot := by simp [Mach.chainConv]

@[simp] theorem Mach.conversionEnd_stores (m coef : Mach) (v : Fin 3) (o : ConvObs) :
    (m.conversionEnd coef v o).mem = m.mem ∧ (m.conversionEnd coef v o).par = m.par ∧ (m.conversionEnd coef v o).boot = m.boot := by
  unfold Mach.conversionEnd
  dsimp only
  (repeat' split) <;> simp

@[simp] theorem Mach.limits_stores (m : Mach) (j : Nat) (mean : Int) :
    (m.limits j mean).mem = m.mem ∧ (m.limits j mean).par = m.par ∧ (m.limits j mean).boot = m.boot := by
  simp [Mach.limits, foldl_keeps]

@[simp] theorem Mach.latchAcc_stores (m : Mach) (j : Nat) :
    (m.latchAcc j).mem = m.mem ∧ (m.latchAcc j).par = m.par ∧ (m.latchAcc j).boot = m.boot := by
  unfold Mach.latchAcc
  split <;> simp

@[simp] theorem Mach.trackers_stores (m : Mach) :
    m.trackers.mem = m.mem ∧ m.trackers.par = m.par ∧ m.trackers.boot = m.boot := by simp [Mach.trackers]

@[simp] theorem Mach.asyStop_stores (m : Mach) :
    m.asyStop.mem = m.mem ∧ m.asyStop.par = m.par ∧ m.asyStop.boot = m.boot := by simp [Mach.asyStop]

@[simp] theorem Mach.asyCtl_stores (m : Mach) :
    m.asyCtl.mem = m.mem ∧ m.asyCtl.par = m.par ∧ m.asyCtl.boot = m.boot := by simp [Mach.asyCtl]

@[simp] theorem Mach.owClear_stores (m : Mach) (v : Word) :
    (m.owClear v).mem = m.mem ∧ (m.owClear v).par = m.par ∧ (m.owClear v).boot = m.boot := by simp [Mach.owClear]

/-! ### Front end and slices -/

@[simp] theorem Mach.overloadFire_stores (m : Mach) (k : Nat) (p n : Int) :
    (m.overloadFire k p n).mem = m.mem ∧ (m.overloadFire k p n).par = m.par ∧ (m.overloadFire k p n).boot = m.boot := by
  simp [Mach.overloadFire]

@[simp] theorem Mach.overloadEnd_stores (m : Mach) (k : Nat) :
    (m.overloadEnd k).mem = m.mem ∧ (m.overloadEnd k).par = m.par ∧ (m.overloadEnd k).boot = m.boot := by simp [Mach.overloadEnd]

@[simp] theorem Mach.auxHoldStart_stores (m : Mach) :
    m.auxHoldStart.mem = m.mem ∧ m.auxHoldStart.par = m.par ∧ m.auxHoldStart.boot = m.boot := by simp [Mach.auxHoldStart]

@[simp] theorem Mach.auxOff_stores (m : Mach) :
    m.auxOff.mem = m.mem ∧ m.auxOff.par = m.par ∧ m.auxOff.boot = m.boot := by simp [Mach.auxOff]

@[simp] theorem Mach.frontUp_stores (m : Mach) :
    m.frontUp.mem = m.mem ∧ m.frontUp.par = m.par ∧ m.frontUp.boot = m.boot := by simp [Mach.frontUp]

@[simp] theorem Mach.modeRestart_stores (m : Mach) :
    m.modeRestart.mem = m.mem ∧ m.modeRestart.par = m.par ∧ m.modeRestart.boot = m.boot := by simp [Mach.modeRestart]

@[simp] theorem Mach.calMeasure_stores (m : Mach) (o : List (Fin 256 × Int × Nat)) :
    (m.calMeasure o).mem = m.mem ∧ (m.calMeasure o).par = m.par ∧ (m.calMeasure o).boot = m.boot := by simp [Mach.calMeasure]

@[simp] theorem Mach.calEnd_stores (m : Mach) (obs : List SliceObs) :
    (m.calEnd obs).mem = m.mem ∧ (m.calEnd obs).par = m.par ∧ (m.calEnd obs).boot = m.boot := by simp [Mach.calEnd]

/-! ### Detection -/

@[simp] theorem Mach.observe_stores (m : Mach) (r : Round) (o : Obs) :
    (m.observe r o).1.mem = m.mem ∧ (m.observe r o).1.par = m.par ∧ (m.observe r o).1.boot = m.boot := by
  unfold Mach.observe
  split <;> simp

@[simp] theorem Mach.detectAll_stores (m : Mach) (obs : List Obs) :
    (m.detectAll obs).1.mem = m.mem ∧ (m.detectAll obs).1.par = m.par ∧ (m.detectAll obs).1.boot = m.boot := by
  rw [← Mach.sameStores_iff]
  exact foldl_fst_keeps Mach.stores _ (fun p o => Mach.sameStores_iff.mpr (Mach.observe_stores p.1 p.2 o)) obs (m, {})

@[simp] theorem Mach.detectorChange_stores (m : Mach) (obs : List Obs) :
    (m.detectorChange obs).mem = m.mem ∧ (m.detectorChange obs).par = m.par ∧ (m.detectorChange obs).boot = m.boot := by
  simp [Mach.detectorChange]

/-! ### Rounds and the clearing table -/

@[simp] theorem Mach.exclude_stores (before m : Mach) (d : Detection) :
    (before.exclude m d).1.mem = m.mem ∧ (before.exclude m d).1.par = m.par ∧ (before.exclude m d).1.boot = m.boot := by
  unfold Mach.exclude
  dsimp only
  (repeat' split) <;> simp

@[simp] theorem Mach.candidates_stores (before : Mach) (ds : List Detection) (m : Mach) :
    (before.candidates ds m).1.mem = m.mem ∧ (before.candidates ds m).1.par = m.par ∧ (before.candidates ds m).1.boot = m.boot := by
  induction ds generalizing m with
  | nil => exact ⟨rfl, rfl, rfl⟩
  | cons d ds ih => simp [Mach.candidates, ih]

@[simp] theorem Mach.expireSeqs_stores (m : Mach) (dets : List Detection) :
    (m.expireSeqs dets).mem = m.mem ∧ (m.expireSeqs dets).par = m.par ∧ (m.expireSeqs dets).boot = m.boot := by
  unfold Mach.expireSeqs
  split <;> simp

@[simp] theorem Mach.countDets_stores (m : Mach) (dets : List Detection) :
    (m.countDets dets).mem = m.mem ∧ (m.countDets dets).par = m.par ∧ (m.countDets dets).boot = m.boot := by
  simp [Mach.countDets, foldl_keeps]

@[simp] theorem Mach.rateCredit_stores (m : Mach) :
    m.rateCredit.mem = m.mem ∧ m.rateCredit.par = m.par ∧ m.rateCredit.boot = m.boot := by simp [Mach.rateCredit]

@[simp] theorem Mach.entryLanded_stores (m before : Mach) (e : Nat) :
    (m.entryLanded before e).mem = m.mem ∧ (m.entryLanded before e).par = m.par ∧ (m.entryLanded before e).boot = m.boot := by
  simp [Mach.entryLanded]

/-! ### DDR5 -/

@[simp] theorem Mach.landTap_stores (m : Mach) (a : Nat) (v : Word) :
    (m.landTap a v).mem = m.mem ∧ (m.landTap a v).par = m.par ∧ (m.landTap a v).boot = m.boot := by simp [Mach.landTap]

@[simp] theorem Mach.firdef_stores (m : Mach) (v : Word) :
    (m.firdef v).mem = m.mem ∧ (m.firdef v).par = m.par ∧ (m.firdef v).boot = m.boot := by simp [Mach.firdef]

@[simp] theorem Mach.trainingEnd_stores (m : Mach) (o : TrainObs) :
    (m.trainingEnd o).mem = m.mem ∧ (m.trainingEnd o).par = m.par ∧ (m.trainingEnd o).boot = m.boot := by
  unfold Mach.trainingEnd
  dsimp only
  (repeat' split) <;> simp

@[simp] theorem Mach.refresh_stores (m : Mach) (fast : Bool) :
    (m.refresh fast).mem = m.mem ∧ (m.refresh fast).par = m.par ∧ (m.refresh fast).boot = m.boot := by simp [Mach.refresh]

@[simp] theorem Mach.powerDown_stores (m : Mach) (s : Nat) :
    (m.powerDown s).mem = m.mem ∧ (m.powerDown s).par = m.par ∧ (m.powerDown s).boot = m.boot := by simp [Mach.powerDown]

@[simp] theorem Mach.selfRefresh_stores (m : Mach) :
    m.selfRefresh.mem = m.mem ∧ m.selfRefresh.par = m.par ∧ m.selfRefresh.boot = m.boot := by simp [Mach.selfRefresh]

@[simp] theorem Mach.selfRefreshExit_stores (m : Mach) :
    m.selfRefreshExit.mem = m.mem ∧ m.selfRefreshExit.par = m.par ∧ m.selfRefreshExit.boot = m.boot := by
  simp [Mach.selfRefreshExit]

/-! ### The calibration chain -/

@[simp] theorem Mach.calSettled_stores (m : Mach) :
    m.calSettled.mem = m.mem ∧ m.calSettled.par = m.par ∧ m.calSettled.boot = m.boot := by simp [Mach.calSettled]

@[simp] theorem Mach.calNext_stores (m : Mach) :
    m.calNext.mem = m.mem ∧ m.calNext.par = m.par ∧ m.calNext.boot = m.boot := by simp [Mach.calNext]

@[simp] theorem Mach.draftClear_stores (m : Mach) (v : Word) :
    (m.draftClear v).mem = m.mem ∧ (m.draftClear v).par = m.par ∧ (m.draftClear v).boot = m.boot := by simp [Mach.draftClear]

@[simp] theorem Mach.certCheck_stores (m : Mach) :
    m.certCheck.mem = m.mem ∧ m.certCheck.par = m.par ∧ m.certCheck.boot = m.boot := by simp [Mach.certCheck]

/-! ### The Ledger -/

@[simp] theorem Mach.openPage_stores (m : Mach) (r : LdgRef) (slot : List Byte) :
    (m.openPage r slot).mem = m.mem ∧ (m.openPage r slot).par = m.par ∧ (m.openPage r slot).boot = m.boot := by
  unfold Mach.openPage
  split <;> simp

@[simp] theorem Mach.bindPage_stores (m : Mach) (r : LdgRef) (slot : List Byte) :
    (m.bindPage r slot).mem = m.mem ∧ (m.bindPage r slot).par = m.par ∧ (m.bindPage r slot).boot = m.boot := by
  unfold Mach.bindPage
  split <;> simp

@[simp] theorem Mach.ledgerTake_stores (m : Mach) (bad : Bool) (ecc : Option Nat) :
    (m.ledgerTake bad ecc).mem = m.mem ∧ (m.ledgerTake bad ecc).par = m.par ∧ (m.ledgerTake bad ecc).boot = m.boot := by
  unfold Mach.ledgerTake
  split <;> simp

@[simp] theorem Mach.decayBeat_stores (m : Mach) :
    m.decayBeat.mem = m.mem ∧ m.decayBeat.par = m.par ∧ m.decayBeat.boot = m.boot := by simp [Mach.decayBeat]

@[simp] theorem Mach.histClear_stores (m : Mach) (v : Word) :
    (m.histClear v).mem = m.mem ∧ (m.histClear v).par = m.par ∧ (m.histClear v).boot = m.boot := by simp [Mach.histClear]

@[simp] theorem Mach.ldgCoreOn_stores (m : Mach) :
    m.ldgCoreOn.mem = m.mem ∧ m.ldgCoreOn.par = m.par ∧ m.ldgCoreOn.boot = m.boot := by simp [Mach.ldgCoreOn]

/-! ### The event log -/

@[simp] theorem Mach.logToken_stores (m : Mach) :
    m.logToken.mem = m.mem ∧ m.logToken.par = m.par ∧ m.logToken.boot = m.boot := by simp [Mach.logToken]

@[simp] theorem Mach.logFind_stores (m : Mach) (bad : List Nat) :
    (m.logFind bad).mem = m.mem ∧ (m.logFind bad).par = m.par ∧ (m.logFind bad).boot = m.boot := by simp [Mach.logFind]

/-! ### Vault banks -/

@[simp] theorem Mach.readEcc_stores (m : Mach) (a : Nat) :
    (m.readEcc a).mem = m.mem ∧ (m.readEcc a).par = m.par ∧ (m.readEcc a).boot = m.boot := by simp [Mach.readEcc]

/-! ### Transfer records -/

@[simp] theorem Mach.recordSent_stores (m : Mach) (p idx cond : Nat) :
    (m.recordSent p idx cond).mem = m.mem ∧ (m.recordSent p idx cond).par = m.par ∧ (m.recordSent p idx cond).boot = m.boot := by
  simp [Mach.recordSent]

@[simp] theorem Mach.askKey_stores (m : Mach) (i : Nat) (qid : Word) :
    (m.askKey i qid).mem = m.mem ∧ (m.askKey i qid).par = m.par ∧ (m.askKey i qid).boot = m.boot := by simp [Mach.askKey]

@[simp] theorem Mach.keyMissed_stores (m : Mach) (i : Nat) (qid : Word) (idx : Nat) :
    (m.keyMissed i qid idx).mem = m.mem ∧ (m.keyMissed i qid idx).par = m.par ∧ (m.keyMissed i qid idx).boot = m.boot := by
  simp [Mach.keyMissed]

/-! ### Tellers -/

@[simp] theorem Mach.telShort_stores (m : Mach) (c : Nat) :
    (m.telShort c).mem = m.mem ∧ (m.telShort c).par = m.par ∧ (m.telShort c).boot = m.boot := by simp [Mach.telShort]

@[simp] theorem Mach.telShorts_stores (m : Mach) :
    m.telShorts.mem = m.mem ∧ m.telShorts.par = m.par ∧ m.telShorts.boot = m.boot := by simp [Mach.telShorts, foldl_keeps]

@[simp] theorem Mach.slipFetch_stores (m : Mach) (c : Nat) (bad : Bool) :
    (m.slipFetch c bad).mem = m.mem ∧ (m.slipFetch c bad).par = m.par ∧ (m.slipFetch c bad).boot = m.boot := by
  simp [Mach.slipFetch]

@[simp] theorem Mach.holdRereads_stores (m : Mach) (bad : List (Fin 16)) :
    (m.holdRereads bad).mem = m.mem ∧ (m.holdRereads bad).par = m.par ∧ (m.holdRereads bad).boot = m.boot := by
  simp [Mach.holdRereads, foldl_keeps]

@[simp] theorem Mach.folioClaim_stores (m : Mach) (c : Nat) :
    (m.folioClaim c).mem = m.mem ∧ (m.folioClaim c).par = m.par ∧ (m.folioClaim c).boot = m.boot := by simp [Mach.folioClaim]

@[simp] theorem Mach.telCharge_stores (m : Mach) (c n : Nat) :
    (m.telCharge c n).mem = m.mem ∧ (m.telCharge c n).par = m.par ∧ (m.telCharge c n).boot = m.boot := by simp [Mach.telCharge]

@[simp] theorem Mach.telIssued_stores (m : Mach) (c : Nat) :
    (m.telIssued c).mem = m.mem ∧ (m.telIssued c).par = m.par ∧ (m.telIssued c).boot = m.boot := by simp [Mach.telIssued]

@[simp] theorem Mach.sourceEcc_stores (m : Mach) (t : Tel) :
    (m.sourceEcc t).mem = m.mem ∧ (m.sourceEcc t).par = m.par ∧ (m.sourceEcc t).boot = m.boot := by simp [Mach.sourceEcc]

@[simp] theorem Mach.tellerWrite_stores (m : Mach) (bad : Bool) :
    (m.tellerWrite bad).mem = m.mem ∧ (m.tellerWrite bad).par = m.par ∧ (m.tellerWrite bad).boot = m.boot := by
  unfold Mach.tellerWrite
  dsimp only
  (repeat' split) <;> simp

@[simp] theorem Mach.telAge_stores (m : Mach) :
    m.telAge.mem = m.mem ∧ m.telAge.par = m.par ∧ m.telAge.boot = m.boot := by simp [Mach.telAge]

@[simp] theorem Mach.telTimeout_stores (m : Mach) (c : Nat) :
    (m.telTimeout c).mem = m.mem ∧ (m.telTimeout c).par = m.par ∧ (m.telTimeout c).boot = m.boot := by simp [Mach.telTimeout]

@[simp] theorem Mach.telTimeouts_stores (m : Mach) :
    m.telTimeouts.mem = m.mem ∧ m.telTimeouts.par = m.par ∧ m.telTimeouts.boot = m.boot := by simp [Mach.telTimeouts, foldl_keeps]

@[simp] theorem Mach.telRelease_stores (m : Mach) (t : Tel) :
    (m.telRelease t).mem = m.mem ∧ (m.telRelease t).par = m.par ∧ (m.telRelease t).boot = m.boot := by simp [Mach.telRelease]

@[simp] theorem Mach.telAbandon_stores (m : Mach) :
    m.telAbandon.mem = m.mem ∧ m.telAbandon.par = m.par ∧ m.telAbandon.boot = m.boot := by simp [Mach.telAbandon]

/-! ### The Volume -/

@[simp] theorem Mach.volJoin_stores (m : Mach) (i : Nat) :
    (m.volJoin i).mem = m.mem ∧ (m.volJoin i).par = m.par ∧ (m.volJoin i).boot = m.boot := by simp [Mach.volJoin]

@[simp] theorem Mach.joinMsg_stores (m : Mach) (i pos size : Nat) :
    (m.joinMsg i pos size).mem = m.mem ∧ (m.joinMsg i pos size).par = m.par ∧ (m.joinMsg i pos size).boot = m.boot := by
  simp [Mach.joinMsg]

@[simp] theorem Mach.unknownMsg_stores (m : Mach) (v : VMsg) :
    (m.unknownMsg v).mem = m.mem ∧ (m.unknownMsg v).par = m.par ∧ (m.unknownMsg v).boot = m.boot := by simp [Mach.unknownMsg]

@[simp] theorem Mach.syncSend_stores (m : Mach) :
    m.syncSend.mem = m.mem ∧ m.syncSend.par = m.par ∧ m.syncSend.boot = m.boot := by simp [Mach.syncSend]

@[simp] theorem Mach.syncFlit_stores (m : Mach) (i : Nat) (echo : Bool) (count time : Nat) (sent seen : Int) :
    (m.syncFlit i echo count time sent seen).mem = m.mem ∧ (m.syncFlit i echo count time sent seen).par = m.par ∧
    (m.syncFlit i echo count time sent seen).boot = m.boot := by simp [Mach.syncFlit]

@[simp] theorem Mach.volumeAlign_stores (m : Mach) (neighbour : Bool) :
    (m.volumeAlign neighbour).mem = m.mem ∧ (m.volumeAlign neighbour).par = m.par ∧ (m.volumeAlign neighbour).boot = m.boot := by
  simp [Mach.volumeAlign]

@[simp] theorem Mach.alignBeat_stores (m : Mach) :
    m.alignBeat.mem = m.mem ∧ m.alignBeat.par = m.par ∧ m.alignBeat.boot = m.boot := by
  unfold Mach.alignBeat
  split <;> simp

@[simp] theorem Mach.ringCal_stores (m : Mach) (v : Word) :
    (m.ringCal v).mem = m.mem ∧ (m.ringCal v).par = m.par ∧ (m.ringCal v).boot = m.boot := by simp [Mach.ringCal]

/-- A Volume message whose act leaves memory, parameters and start-up leaves them. -/
theorem Mach.volMsg_stores (m : Mach) (v : VMsg) (op f2 f4 : Nat) (act : Mach → Mach)
    (h : ∀ x, (act x).mem = x.mem ∧ (act x).par = x.par ∧ (act x).boot = x.boot) :
    (m.volMsg v op f2 f4 act).mem = m.mem ∧ (m.volMsg v op f2 f4 act).par = m.par ∧ (m.volMsg v op f2 f4 act).boot = m.boot := by
  unfold Mach.volMsg
  dsimp only
  (repeat' split) <;> simp [h]

@[simp] theorem Mach.rcalMsg_stores (m : Mach) (v : VMsg) (s : Word) :
    (m.rcalMsg v s).mem = m.mem ∧ (m.rcalMsg v s).par = m.par ∧ (m.rcalMsg v s).boot = m.boot :=
  Mach.volMsg_stores _ _ _ _ _ _ fun x => by simp

@[simp] theorem Mach.digestCheck_stores (m : Mach) :
    m.digestCheck.mem = m.mem ∧ m.digestCheck.par = m.par ∧ m.digestCheck.boot = m.boot := by simp [Mach.digestCheck]

@[simp] theorem Mach.digestStep_stores (m : Mach) (due : Bool) :
    (m.digestStep due).mem = m.mem ∧ (m.digestStep due).par = m.par ∧ (m.digestStep due).boot = m.boot := by simp [Mach.digestStep]

@[simp] theorem Mach.digestMsg_stores (m : Mach) (v : VMsg) (d : Word) :
    (m.digestMsg v d).mem = m.mem ∧ (m.digestMsg v d).par = m.par ∧ (m.digestMsg v d).boot = m.boot :=
  Mach.volMsg_stores _ _ _ _ _ _ fun x => by split <;> simp

@[simp] theorem Mach.armReq_stores (m : Mach) (v : VMsg) (qid : Word) :
    (m.armReq v qid).mem = m.mem ∧ (m.armReq v qid).par = m.par ∧ (m.armReq v qid).boot = m.boot :=
  Mach.volMsg_stores _ _ _ _ _ _ fun x => by split <;> simp

@[simp] theorem Mach.readyAgain_stores (m : Mach) :
    m.readyAgain.mem = m.mem ∧ m.readyAgain.par = m.par ∧ m.readyAgain.boot = m.boot := by simp [Mach.readyAgain]

@[simp] theorem Mach.readyMsg_stores (m : Mach) (v : VMsg) (bits : BitVec 16) (d : Word) :
    (m.readyMsg v bits d).mem = m.mem ∧ (m.readyMsg v bits d).par = m.par ∧ (m.readyMsg v bits d).boot = m.boot :=
  Mach.volMsg_stores _ _ _ _ _ _ fun x => by dsimp only; (repeat' split) <;> simp

@[simp] theorem Mach.armGoMsg_stores (m : Mach) (v : VMsg) (left : BitVec 8) (a : Word) :
    (m.armGoMsg v left a).mem = m.mem ∧ (m.armGoMsg v left a).par = m.par ∧ (m.armGoMsg v left a).boot = m.boot :=
  Mach.volMsg_stores _ _ _ _ _ _ fun x => by split <;> simp

@[simp] theorem Mach.armCancel_stores (m : Mach) (v : VMsg) (qid : Word) :
    (m.armCancel v qid).mem = m.mem ∧ (m.armCancel v qid).par = m.par ∧ (m.armCancel v qid).boot = m.boot :=
  Mach.volMsg_stores _ _ _ _ _ _ fun x => by split <;> simp

@[simp] theorem Mach.armExpiry_stores (m : Mach) :
    m.armExpiry.mem = m.mem ∧ m.armExpiry.par = m.par ∧ m.armExpiry.boot = m.boot := by
  unfold Mach.armExpiry
  split <;> simp

@[simp] theorem Mach.volumeStopBeat_stores (m : Mach) :
    m.volumeStopBeat.mem = m.mem ∧ m.volumeStopBeat.par = m.par ∧ m.volumeStopBeat.boot = m.boot := by
  unfold Mach.volumeStopBeat
  split <;> simp

/-! ### The Spine -/

@[simp] theorem Mach.trainPort_stores (m : Mach) (i : Nat) :
    (m.trainPort i).mem = m.mem ∧ (m.trainPort i).par = m.par ∧ (m.trainPort i).boot = m.boot := by simp [Mach.trainPort]

@[simp] theorem Mach.trainFrame_stores (m : Mach) (i : Nat) (f : FrameObs) :
    (m.trainFrame i f).mem = m.mem ∧ (m.trainFrame i f).par = m.par ∧ (m.trainFrame i f).boot = m.boot := by simp [Mach.trainFrame]

@[simp] theorem Mach.trainRestart_stores (m : Mach) (i : Nat) :
    (m.trainRestart i).mem = m.mem ∧ (m.trainRestart i).par = m.par ∧ (m.trainRestart i).boot = m.boot := by
  simp [Mach.trainRestart]

@[simp] theorem Mach.noPartner_stores (m : Mach) (i : Nat) :
    (m.noPartner i).mem = m.mem ∧ (m.noPartner i).par = m.par ∧ (m.noPartner i).boot = m.boot := by simp [Mach.noPartner]

@[simp] theorem Mach.rxAdapted_stores (m : Mach) (i : Nat) :
    (m.rxAdapted i).mem = m.mem ∧ (m.rxAdapted i).par = m.par ∧ (m.rxAdapted i).boot = m.boot := by simp [Mach.rxAdapted]

@[simp] theorem Mach.alignFlit_stores (m : Mach) (i : Nat) (skews : Vector Byte 4) :
    (m.alignFlit i skews).mem = m.mem ∧ (m.alignFlit i skews).par = m.par ∧ (m.alignFlit i skews).boot = m.boot := by
  simp [Mach.alignFlit]

@[simp] theorem Mach.alignMissing_stores (m : Mach) (i : Nat) :
    (m.alignMissing i).mem = m.mem ∧ (m.alignMissing i).par = m.par ∧ (m.alignMissing i).boot = m.boot := by
  simp [Mach.alignMissing]

@[simp] theorem Mach.retrainDown_stores (m : Mach) (i : Nat) :
    (m.retrainDown i).mem = m.mem ∧ (m.retrainDown i).par = m.par ∧ (m.retrainDown i).boot = m.boot := by simp [Mach.retrainDown]

@[simp] theorem Mach.lossOfSignal_stores (m : Mach) (i : Option (Fin 3)) :
    (m.lossOfSignal i).mem = m.mem ∧ (m.lossOfSignal i).par = m.par ∧ (m.lossOfSignal i).boot = m.boot := by
  unfold Mach.lossOfSignal
  dsimp only
  (repeat' split) <;> simp [foldl_keeps]

@[simp] theorem Mach.idleFlit_stores (m : Mach) :
    m.idleFlit.mem = m.mem ∧ m.idleFlit.par = m.par ∧ m.idleFlit.boot = m.boot := by simp [Mach.idleFlit]

@[simp] theorem Mach.creditFlit_stores (m : Mach) (i : Nat) (fp fn fc : BitVec 16) :
    (m.creditFlit i fp fn fc).mem = m.mem ∧ (m.creditFlit i fp fn fc).par = m.par ∧ (m.creditFlit i fp fn fc).boot = m.boot := by
  simp [Mach.creditFlit]

@[simp] theorem Mach.replay_stores (m : Mach) (i : Nat) :
    (m.replay i).mem = m.mem ∧ (m.replay i).par = m.par ∧ (m.replay i).boot = m.boot := by simp [Mach.replay]

@[simp] theorem Mach.linkAck_stores (m : Mach) (i : Nat) (nak : Bool) (next : BitVec 12) :
    (m.linkAck i nak next).mem = m.mem ∧ (m.linkAck i nak next).par = m.par ∧ (m.linkAck i nak next).boot = m.boot := by
  simp [Mach.linkAck]

@[simp] theorem Mach.replayTimeout_stores (m : Mach) (i : Nat) :
    (m.replayTimeout i).mem = m.mem ∧ (m.replayTimeout i).par = m.par ∧ (m.replayTimeout i).boot = m.boot := by
  simp [Mach.replayTimeout]

@[simp] theorem Mach.downFlit_stores (m : Mach) (i : Nat) :
    (m.downFlit i).mem = m.mem ∧ (m.downFlit i).par = m.par ∧ (m.downFlit i).boot = m.boot := by simp [Mach.downFlit]

@[simp] theorem Mach.discardPkt_stores (m : Mach) (i : Nat) :
    (m.discardPkt i).mem = m.mem ∧ (m.discardPkt i).par = m.par ∧ (m.discardPkt i).boot = m.boot := by simp [Mach.discardPkt]

@[simp] theorem Mach.nakRepeat_stores (m : Mach) (i : Nat) :
    (m.nakRepeat i).mem = m.mem ∧ (m.nakRepeat i).par = m.par ∧ (m.nakRepeat i).boot = m.boot := by simp [Mach.nakRepeat]

@[simp] theorem Mach.badFlit_stores (m : Mach) (i : Nat) :
    (m.badFlit i).mem = m.mem ∧ (m.badFlit i).par = m.par ∧ (m.badFlit i).boot = m.boot := by simp [Mach.badFlit]

@[simp] theorem Mach.malformed_stores (m : Mach) (i : Nat) (type : Byte) :
    (m.malformed i type).mem = m.mem ∧ (m.malformed i type).par = m.par ∧ (m.malformed i type).boot = m.boot := by
  simp [Mach.malformed]

@[simp] theorem Mach.readRequest_stores (m : Mach) (i : Nat) (tag : BitVec 16) (addr : BitVec 64) (n : Nat) (ecc : Option Nat) :
    (m.readRequest i tag addr n ecc).mem = m.mem ∧ (m.readRequest i tag addr n ecc).par = m.par ∧
    (m.readRequest i tag addr n ecc).boot = m.boot := by
  unfold Mach.readRequest
  dsimp only
  (repeat' split) <;> simp [foldl_keeps]

@[simp] theorem Mach.keyIn_stores (m : Mach) (i : Nat) (qid : Word) :
    (m.keyIn i qid).mem = m.mem ∧ (m.keyIn i qid).par = m.par ∧ (m.keyIn i qid).boot = m.boot := by simp [Mach.keyIn]

/-! ### Scan-out -/

@[simp] theorem Mach.flipRequest_stores (m : Mach) :
    m.flipRequest.mem = m.mem ∧ m.flipRequest.par = m.par ∧ m.flipRequest.boot = m.boot := by simp [Mach.flipRequest]

@[simp] theorem Mach.levelStep_stores (m : Mach) :
    m.levelStep.mem = m.mem ∧ m.levelStep.par = m.par ∧ m.levelStep.boot = m.boot := by
  unfold Mach.levelStep
  dsimp only
  (repeat' split) <;> simp

@[simp] theorem Mach.modeStep2_stores (m : Mach) :
    m.modeStep2.mem = m.mem ∧ m.modeStep2.par = m.par ∧ m.modeStep2.boot = m.boot := by simp [Mach.modeStep2]

@[simp] theorem Mach.dsiStart_stores (m : Mach) :
    m.dsiStart.mem = m.mem ∧ m.dsiStart.par = m.par ∧ m.dsiStart.boot = m.boot := by simp [Mach.dsiStart]

@[simp] theorem Mach.dsiDone_stores (m : Mach) :
    m.dsiDone.mem = m.mem ∧ m.dsiDone.par = m.par ∧ m.dsiDone.boot = m.boot := by simp [Mach.dsiDone]

@[simp] theorem Mach.teEdge_stores (m : Mach) (locked : Bool) :
    (m.teEdge locked).mem = m.mem ∧ (m.teEdge locked).par = m.par ∧ (m.teEdge locked).boot = m.boot := by simp [Mach.teEdge]

@[simp] theorem Mach.dpConnect_stores (m : Mach) (o : SinkObs) :
    (m.dpConnect o).mem = m.mem ∧ (m.dpConnect o).par = m.par ∧ (m.dpConnect o).boot = m.boot := by simp [Mach.dpConnect]

@[simp] theorem Mach.dpIrq_stores (m : Mach) (lost : Bool) :
    (m.dpIrq lost).mem = m.mem ∧ (m.dpIrq lost).par = m.par ∧ (m.dpIrq lost).boot = m.boot := by simp [Mach.dpIrq]

@[simp] theorem Mach.dpDisconnect_stores (m : Mach) :
    m.dpDisconnect.mem = m.mem ∧ m.dpDisconnect.par = m.par ∧ m.dpDisconnect.boot = m.boot := by simp [Mach.dpDisconnect]

@[simp] theorem Mach.dpDone_stores (m : Mach) (cause : Option Byte) :
    (m.dpDone cause).mem = m.mem ∧ (m.dpDone cause).par = m.par ∧ (m.dpDone cause).boot = m.boot := by
  unfold Mach.dpDone
  dsimp only
  (repeat' split) <;> simp

@[simp] theorem Mach.dpRetrain_stores (m : Mach) (v : Word) :
    (m.dpRetrain v).mem = m.mem ∧ (m.dpRetrain v).par = m.par ∧ (m.dpRetrain v).boot = m.boot := by simp [Mach.dpRetrain]

/-! ### Power -/

@[simp] theorem Mach.railSample_stores (m : Mach) (r mv low : Nat) :
    (m.railSample r mv low).mem = m.mem ∧ (m.railSample r mv low).par = m.par ∧ (m.railSample r mv low).boot = m.boot := by
  simp [Mach.railSample]

@[simp] theorem Mach.railInterval_stores (m : Mach) (r : Nat) :
    (m.railInterval r).mem = m.mem ∧ (m.railInterval r).par = m.par ∧ (m.railInterval r).boot = m.boot := by
  simp [Mach.railInterval]

@[simp] theorem Mach.railsBeat_stores (m : Mach) (obs : List RailObs) :
    (m.railsBeat obs).mem = m.mem ∧ (m.railsBeat obs).par = m.par ∧ (m.railsBeat obs).boot = m.boot := by
  rw [← Mach.sameStores_iff]
  exact foldl_keeps Mach.stores _ (fun m r => Mach.sameStores_iff.mpr (by split <;> simp)) _ m

@[simp] theorem Mach.noteEntry_stores (m : Mach) (k rail : Nat) (first : Bool) :
    (m.noteEntry k rail first).mem = m.mem ∧ (m.noteEntry k rail first).par = m.par ∧ (m.noteEntry k rail first).boot = m.boot := by
  simp [Mach.noteEntry]

/-! ### The Vault -/

@[simp] theorem Mach.activateBank_stores (m : Mach) (sec : Nat) (b : Bool) (bytes : List Byte) :
    (m.activateBank sec b bytes).mem = m.mem ∧ (m.activateBank sec b bytes).par = m.par ∧
    (m.activateBank sec b bytes).boot = m.boot := by simp [Mach.activateBank]

@[simp] theorem Mach.scrubStart_stores (m : Mach) :
    m.scrubStart.mem = m.mem ∧ m.scrubStart.par = m.par ∧ m.scrubStart.boot = m.boot := by simp [Mach.scrubStart]

@[simp] theorem Mach.scrubNow_stores (m : Mach) (v : Word) :
    (m.scrubNow v).mem = m.mem ∧ (m.scrubNow v).par = m.par ∧ (m.scrubNow v).boot = m.boot := by simp [Mach.scrubNow]

@[simp] theorem Mach.scrubbed_stores (m : Mach) (corrected : Nat) (bad : List Nat) :
    (m.scrubbed corrected bad).mem = m.mem ∧ (m.scrubbed corrected bad).par = m.par ∧ (m.scrubbed corrected bad).boot = m.boot := by
  simp [Mach.scrubbed]

@[simp] theorem Mach.poweredSecond_stores (m : Mach) :
    m.poweredSecond.mem = m.mem ∧ m.poweredSecond.par = m.par ∧ m.poweredSecond.boot = m.boot := by simp [Mach.poweredSecond]

/-! ### Landing changes -/

@[simp] theorem Mach.landLast_stores (m : Mach) (k : Option Master) (bad : Bool) (a : Nat) (v : Word) :
    (m.landLast k bad a v).mem = m.mem ∧ (m.landLast k bad a v).par = m.par ∧ (m.landLast k bad a v).boot = m.boot := by
  unfold Mach.landLast
  split <;> simp

/-! ### Recomputation -/

@[simp] theorem Mach.recompDone_stores (m : Mach) :
    m.recompDone.mem = m.mem ∧ m.recompDone.par = m.par ∧ m.recompDone.boot = m.boot := by simp [Mach.recompDone]

/-! ### Inserts -/

@[simp] theorem Mach.insertDone_stores (m : Mach) (slot written skipped : Nat) :
    (m.insertDone slot written skipped).mem = m.mem ∧ (m.insertDone slot written skipped).par = m.par ∧
    (m.insertDone slot written skipped).boot = m.boot := by simp [Mach.insertDone]

/-! ### Reset and the first second -/

@[simp] theorem Mach.readShed_stores (m : Mach) (bad : List Nat) :
    (m.readShed bad).mem = m.mem ∧ (m.readShed bad).par = m.par ∧ (m.readShed bad).boot = m.boot := by
  simp [Mach.readShed, foldl_keeps]

@[simp] theorem Mach.readRest_stores (m : Mach) (bad : List Nat) :
    (m.readRest bad).mem = m.mem ∧ (m.readRest bad).par = m.par ∧ (m.readRest bad).boot = m.boot := by
  unfold Mach.readRest
  extract_lets m1 cal m2 m3 slot
  have h1 : m1.stores = m.stores :=
    foldl_keeps Mach.stores _ (fun m n => Mach.sameStores_iff.mpr (by (repeat' split) <;> simp)) _ m
  obtain ⟨hmem, hpar, hboot⟩ := Mach.sameStores_iff.mp h1
  split <;> simp [m3, m2, hmem, hpar, hboot]

/-! ### Commits -/

@[simp] theorem Mach.leaseStep_stores (m : Mach) (n : Nat) :
    (m.leaseStep n).mem = m.mem ∧ (m.leaseStep n).par = m.par ∧ (m.leaseStep n).boot = m.boot := by
  unfold Mach.leaseStep
  dsimp only
  (repeat' split) <;> simp

@[simp] theorem Mach.leases_stores (m : Mach) :
    m.leases.mem = m.mem ∧ m.leases.par = m.par ∧ m.leases.boot = m.boot := by simp [Mach.leases, foldl_keeps]

@[simp] theorem Mach.deferCommit_stores (m : Mach) (k : Master) (c : Commit) :
    (m.deferCommit k c).mem = m.mem ∧ (m.deferCommit k c).par = m.par ∧ (m.deferCommit k c).boot = m.boot := by
  simp [Mach.deferCommit]

@[simp] theorem Mach.stageBad_stores (m : Mach) (k : Master) :
    (m.stageBad k).mem = m.mem ∧ (m.stageBad k).par = m.par ∧ (m.stageBad k).boot = m.boot := by simp [Mach.stageBad]

/-! ### The boundary and its steps -/

@[simp] theorem Mach.ctrlLanded_stores (m : Mach) :
    m.ctrlLanded.mem = m.mem ∧ m.ctrlLanded.par = m.par ∧ m.ctrlLanded.boot = m.boot := by simp [Mach.ctrlLanded]

@[simp] theorem Mach.corrections_stores (m : Mach) (o : BeatObs) :
    (m.corrections o).mem = m.mem ∧ (m.corrections o).par = m.par ∧ (m.corrections o).boot = m.boot := by
  simp [Mach.corrections, foldl_keeps]

@[simp] theorem Mach.trimStep_stores (m : Mach) :
    m.trimStep.mem = m.mem ∧ m.trimStep.par = m.par ∧ m.trimStep.boot = m.boot := by simp [Mach.trimStep]

/-! ### Reads -/

@[simp] theorem Mach.readEffect_stores (m before : Mach) (k : Master) (a : Nat) :
    (m.readEffect before k a).mem = m.mem ∧ (m.readEffect before k a).par = m.par ∧ (m.readEffect before k a).boot = m.boot := by
  unfold Mach.readEffect
  split <;> simp

/-! ### The control port -/

@[simp] theorem Mach.shiftOut_stores (m : Mach) (early : Nat) :
    (m.shiftOut early).mem = m.mem ∧ (m.shiftOut early).par = m.par ∧ (m.shiftOut early).boot = m.boot := by simp [Mach.shiftOut]

@[simp] theorem Mach.countBad_stores (m : Mach) (v : Via) :
    (m.countBad v).mem = m.mem ∧ (m.countBad v).par = m.par ∧ (m.countBad v).boot = m.boot := by
  unfold Mach.countBad
  split <;> simp

@[simp] theorem Mach.stage_stores (m before : Mach) (k : Master) (q : Req) :
    (m.stage before k q).1.mem = m.mem ∧ (m.stage before k q).1.par = m.par ∧ (m.stage before k q).1.boot = m.boot := by
  simp [Mach.stage]

@[simp] theorem Mach.abort_stores (m : Mach) (k : Master) (q : Req) :
    (m.abort k q).1.mem = m.mem ∧ (m.abort k q).1.par = m.par ∧ (m.abort k q).1.boot = m.boot := by simp [Mach.abort]

@[simp] theorem Mach.sealCommit_stores (m : Mach) (k : Master) :
    (m.sealCommit k).mem = m.mem ∧ (m.sealCommit k).par = m.par ∧ (m.sealCommit k).boot = m.boot := by simp [Mach.sealCommit]

@[simp] theorem Mach.commit_stores (m : Mach) (k : Master) (bad : Bool) (q : Req) :
    (m.commit k bad q).1.mem = m.mem ∧ (m.commit k bad q).1.par = m.par ∧ (m.commit k bad q).1.boot = m.boot := by
  unfold Mach.commit
  dsimp only
  (repeat' split) <;> simp

@[simp] theorem Mach.escTake_stores (m : Mach) (k : Master) (spi : Bool) (q : Req) :
    (m.escTake k spi q).1.mem = m.mem ∧ (m.escTake k spi q).1.par = m.par ∧ (m.escTake k spi q).1.boot = m.boot := by
  unfold Mach.escTake
  dsimp only
  (repeat' split) <;> simp

@[simp] theorem Mach.escRenew_stores (m : Mach) (k : Master) (q : Req) :
    (m.escRenew k q).1.mem = m.mem ∧ (m.escRenew k q).1.par = m.par ∧ (m.escRenew k q).1.boot = m.boot := by
  unfold Mach.escRenew
  dsimp only
  (repeat' split) <;> simp

@[simp] theorem Mach.escGive_stores (m : Mach) (k : Master) (q : Req) :
    (m.escGive k q).1.mem = m.mem ∧ (m.escGive k q).1.par = m.par ∧ (m.escGive k q).1.boot = m.boot := by
  unfold Mach.escGive
  dsimp only
  (repeat' split) <;> simp

@[simp] theorem Mach.readParam_stores (m before : Mach) (k : Master) (q : Req) :
    (m.readParam before k q).1.mem = m.mem ∧ (m.readParam before k q).1.par = m.par ∧ (m.readParam before k q).1.boot = m.boot := by
  unfold Mach.readParam
  dsimp only
  (repeat' split) <;> simp

@[simp] theorem Mach.queueFrame_stores (m : Mach) (k : Master) (apply : Bool) (slot : Nat) :
    (m.queueFrame k apply slot).mem = m.mem ∧ (m.queueFrame k apply slot).par = m.par ∧ (m.queueFrame k apply slot).boot = m.boot := by
  simp [Mach.queueFrame]

@[simp] theorem Mach.insertReq_stores (m : Mach) (k : Master) (spi : Nat) (q : Req) :
    (m.insertReq k spi q).1.mem = m.mem ∧ (m.insertReq k spi q).1.par = m.par ∧ (m.insertReq k spi q).1.boot = m.boot := by
  unfold Mach.insertReq
  generalize (if k == .host then spi else 0) = n
  split <;> simp

/-! ### What is upheld

Every operation of the engine keeps memory and the parameter store in their canonical form where they were in it, never lowers READY
and neither enters nor leaves reset. The lemmas below are in the order of the model's operations; each extends what is upheld up to an
engine by one more operation, so that a proof follows the definition of the operation. -/

/-- What every operation upholds on the way from engine a to engine m. -/
structure Mach.Upholds (a m : Mach) : Prop where
  mem : Memory.wf a.mem = true → Memory.wf m.mem = true
  par : swf resetOf a.par.landed = true → swf resetOf m.par.landed = true
  inReset : m.boot.inReset = a.boot.inReset
  ready : a.boot.ready = true → m.boot.ready = true

namespace Mach.Upholds

variable {a m m' : Mach}

theorem refl (m : Mach) : m.Upholds m := ⟨id, id, rfl, id⟩

theorem trans (h : a.Upholds m) (h' : m.Upholds m') : a.Upholds m' :=
  ⟨h'.mem ∘ h.mem, h'.par ∘ h.par, h'.inReset.trans h.inReset, h'.ready ∘ h.ready⟩

/-- What leaves memory, stored parameters, reset and READY as they were upholds them. -/
theorem same (h : a.Upholds m) (hs : m'.mem = m.mem ∧ m'.par.landed = m.par.landed ∧ m'.boot.inReset = m.boot.inReset ∧
    m'.boot.ready = m.boot.ready) : a.Upholds m' := by
  obtain ⟨hmem, hpar, hreset, hready⟩ := hs
  exact ⟨fun w => hmem ▸ h.mem w, fun w => hpar ▸ h.par w, hreset.trans h.inReset, fun w => hready.trans (h.ready w)⟩

/-- What changes memory alone, and keeps its canonical form, upholds it. -/
theorem memory (h : a.Upholds m) (hmem : Memory.wf m.mem = true → Memory.wf m'.mem = true)
    (hs : m'.par.landed = m.par.landed ∧ m'.boot.inReset = m.boot.inReset ∧ m'.boot.ready = m.boot.ready) : a.Upholds m' := by
  obtain ⟨hpar, hreset, hready⟩ := hs
  exact ⟨hmem ∘ h.mem, fun w => hpar ▸ h.par w, hreset.trans h.inReset, fun w => hready.trans (h.ready w)⟩

theorem ite {c : Prop} [Decidable c] (ht : a.Upholds m) (hf : a.Upholds m') : a.Upholds (if c then m else m') := by
  split
  · exact ht
  · exact hf

/-- What every step of a fold upholds, the fold upholds. -/
theorem foldl {α : Type} {f : Mach → α → Mach} (hf : ∀ m x, a.Upholds m → a.Upholds (f m x)) (l : List α) (h : a.Upholds m) :
    a.Upholds (l.foldl f m) := by
  induction l generalizing m with
  | nil => exact h
  | cons x t ih => exact ih (hf m x h)

theorem behalf (h : a.Upholds m) (k : Option Master) {f : Mach → Mach} (hf : ∀ m, a.Upholds m → a.Upholds (f m)) :
    a.Upholds (m.behalf k f) :=
  (hf { m with flt := { m.flt with origin := k } } (h.same ⟨rfl, rfl, rfl, rfl⟩)).same ⟨rfl, rfl, rfl, rfl⟩

/-! ### Memory and parameters -/

theorem poke (h : a.Upholds m) (addr : Nat) (bs : List Byte) : a.Upholds (m.poke addr bs) :=
  h.memory (writeBytes_wf _ _ _) ⟨rfl, rfl, rfl⟩

theorem clear (h : a.Upholds m) (addr n : Nat) : a.Upholds { m with mem := clearBytes m.mem addr n } :=
  h.memory (clearBytes_wf _ _ _) ⟨rfl, rfl, rfl⟩

theorem pset (h : a.Upholds m) (addr : Nat) (v : Word) : a.Upholds (m.pset addr v) :=
  ⟨h.mem, fun w => sput_wf _ _ _ _ (h.par w), h.inReset, h.ready⟩

theorem pin (h : a.Upholds m) (addr : Nat) : a.Upholds (m.pin addr) := by
  unfold Mach.pin
  split
  · exact h.same ⟨rfl, rfl, rfl, rfl⟩
  · exact h

theorem land (h : a.Upholds m) (addr : Nat) (v : Word) : a.Upholds (m.land addr v) := by
  unfold Mach.land
  dsimp only
  (repeat' split) <;> exact (h.pset addr v).same ⟨rfl, rfl, rfl, rfl⟩

/-! ### Quires -/

theorem storeFolio (h : a.Upholds m) (f : Folio) : a.Upholds (m.storeFolio f) :=
  ((foldl (fun _ _ hm => hm.poke _ _) _ h).poke _ _).same ⟨rfl, rfl, rfl, rfl⟩

theorem writeHeader (h : a.Upholds m) (f : Folio) : a.Upholds (m.writeHeader f) := by
  unfold Mach.writeHeader
  exact (h.poke f.addr (m.header f)).same (by simp)

theorem shedHeaders (h : a.Upholds m) : a.Upholds m.shedHeaders := foldl (fun _ _ hm => hm.writeHeader _) _ h

theorem endFolio (h : a.Upholds m) (f : Folio) : a.Upholds (m.endFolio f) := (h.storeFolio _).same ⟨rfl, rfl, rfl, rfl⟩

theorem truncate (h : a.Upholds m) (x : Nat) : a.Upholds (m.truncate x) := by
  unfold Mach.truncate
  split
  · exact h
  · exact h.endFolio _

theorem stopQuire (h : a.Upholds m) (cause x : Nat) : a.Upholds (m.stopQuire cause x) := by
  unfold Mach.stopQuire
  split
  · exact (h.truncate x).same (by simp)
  · exact h

theorem shedQuire (h : a.Upholds m) : a.Upholds m.shedQuire := (h.stopQuire 6 m.tim.mono).shedHeaders

theorem armQuire (h : a.Upholds m) (vol : Option Word) : a.Upholds (m.armQuire vol) := by
  unfold Mach.armQuire
  dsimp only
  split
  · exact h.same (by simp)
  · refine Upholds.same (m := ({ m with cal := m.armCert { m.quireCfg with volume := vol.isSome } } : Mach).pset 0xC02
      (vol.getD (m.pval 0xC02) + 1)) (pset (h.same (by simp)) _ _) ?_
    simp

theorem armNow (h : a.Upholds m) : a.Upholds m.armNow := by
  unfold Mach.armNow
  split
  · exact h.same ⟨rfl, rfl, rfl, rfl⟩
  split
  · exact h.same (by simp)
  · exact h.armQuire none

theorem qreArm (h : a.Upholds m) (v : Word) : a.Upholds (m.qreArm v) := by
  unfold Mach.qreArm
  (repeat' split)
  · exact h.same ⟨rfl, rfl, rfl, rfl⟩
  · exact h.armNow
  · exact h

theorem armLanded (h : a.Upholds m) : a.Upholds m.armLanded := by
  unfold Mach.armLanded
  split
  · exact behalf (h.same (by simp)) _ fun _ hm => hm.qreArm 1
  · exact h

theorem qreStop (h : a.Upholds m) (v : Word) : a.Upholds (m.qreStop v) := by
  unfold Mach.qreStop
  split
  · dsimp only
    split <;> exact (h.stopQuire 2 m.tim.boundary).same (by simp)
  · (repeat' split) <;> exact h.same (by simp)

theorem folioEnd (h : a.Upholds m) : a.Upholds m.folioEnd := by
  unfold Mach.folioEnd
  split
  · exact h
  next f _ =>
    have hend := h.endFolio { f with held := 64 * f.cfg.gran }
    exact hend.same (by simp)

theorem qreOverflow (h : a.Upholds m) (held : Nat) : a.Upholds (m.qreOverflow held) := by
  unfold Mach.qreOverflow
  split
  · refine foldl (fun _ _ hm => hm.writeHeader _) _ ?_
    split
    · exact h.same (by simp)
    next f _ => exact (h.endFolio { f with held := min held (64 * f.cfg.gran), trunc := true }).same (by simp)
  · exact h

/-! ### The timebase -/

theorem gateSlices (h : a.Upholds m) : a.Upholds m.gateSlices := by
  unfold Mach.gateSlices
  have hfail : a.Upholds (if m.cal.pointOf.1 != 0 then m.chainFail 13 else m) := ite (h.same (by simp)) h
  exact (hfail.stopQuire 5 m.tim.mono).same (by simp)

theorem mintStop_gateSlices (h : a.Upholds m) : a.Upholds m.mintStop.gateSlices := (h.same (m' := m.mintStop) (by simp)).gateSlices

theorem coreRelock (h : a.Upholds m) (cause : Nat) : a.Upholds (m.coreRelock cause) := by
  unfold Mach.coreRelock
  dsimp only
  split <;> exact h.mintStop_gateSlices.same (by simp)

theorem synthRelock (h : a.Upholds m) : a.Upholds m.synthRelock := by
  unfold Mach.synthRelock
  split
  · exact h
  split <;> exact h.mintStop_gateSlices.same ⟨rfl, rfl, rfl, rfl⟩

theorem referenceChange (h : a.Upholds m) (to100 qualified : Bool) : a.Upholds (m.referenceChange to100 qualified) :=
  coreRelock (h.same (by simp)) 1

theorem refFreqLanded (h : a.Upholds m) : a.Upholds m.refFreqLanded := by
  unfold Mach.refFreqLanded
  (repeat' split)
  · exact h.referenceChange false false
  · exact h
  · exact h
  · exact h.referenceChange true false
  · exact h

theorem qualWindow (h : a.Upholds m) (missing : Bool) (met : Option Bool) : a.Upholds (m.qualWindow missing met) := by
  unfold Mach.qualWindow
  dsimp only
  (repeat' split) <;> first | exact h.referenceChange _ true | exact h.same (by simp)

theorem corePllUnlock (h : a.Upholds m) : a.Upholds m.corePllUnlock := ite h (h.coreRelock 2)

theorem coreSwitchback (h : a.Upholds m) : a.Upholds m.coreSwitchback := by
  unfold Mach.coreSwitchback
  split
  · dsimp only
    split
    · exact synthRelock (h.same (by simp))
    · split <;> exact h.same (by simp)
  · exact h

theorem relockRetry (h : a.Upholds m) (v : Word) : a.Upholds (m.relockRetry v) := by
  unfold Mach.relockRetry
  split
  · exact h
  extract_lets started tim t m1
  have h1 : a.Upholds m1 := h.same ⟨rfl, rfl, rfl, rfl⟩
  exact ite h1 (ite (h1.coreRelock _) (ite (synthRelock (h1.same (by simp))) h1))

theorem synthUnlock (h : a.Upholds m) : a.Upholds m.synthUnlock := by
  unfold Mach.synthUnlock
  split
  · exact (synthRelock (h.same (m' := { m with tim := { m.tim with synthLock := false } }) ⟨rfl, rfl, rfl, rfl⟩)).same (by simp)
  · exact h

/-! ### The Assay, front end and slices -/

theorem pointEnd (h : a.Upholds m) : a.Upholds m.pointEnd := by
  unfold Mach.pointEnd
  split
  · exact h
  split
  · exact h
  split
  · split <;> exact h.same (by simp)
  split
  · exact h.same (by simp)
  split
  · exact h.same (by simp)
  split
  · exact h.same (by simp)
  split
  · exact h.same (by simp)
  · extract_lets m1
    have h1 : a.Upholds m1 := (h.pset _ _).pset _ _
    exact h1.same (by simp)

theorem asyStep7 (h : a.Upholds m) : a.Upholds m.asyStep7 :=
  pointEnd (h.same (m' := ((List.range 32).foldl Mach.latchAcc m).trackers) (by simp [foldl_keeps]))

theorem sliceUp (h : a.Upholds m) : a.Upholds m.sliceUp := h.same (by simp [Mach.sliceUp])

theorem modeChange (h : a.Upholds m) (mode : Bool) : a.Upholds (m.modeChange mode) := by
  unfold Mach.modeChange
  split
  · exact h.gateSlices.same (by simp)
  · exact h.same (by simp)

/-! ### Rounds and the clearing table -/

theorem attempt (h : a.Upholds m) (d : Detection) (mask : BitVec 64) : a.Upholds (m.attempt d mask).1 := by
  unfold Mach.attempt
  have hend : a.Upholds (if m.qre.cur.isSome then m.folioEnd else m) := ite h.folioEnd h
  split
  · exact h.same ⟨rfl, rfl, rfl, rfl⟩
  split
  · exact h
  extract_lets c g trg m0 trg0 m1 trg1 cf m2 idx m3 m4
  have h1 : a.Upholds m1 := hend.same ⟨rfl, rfl, rfl, rfl⟩
  split
  · exact h.same ⟨rfl, rfl, rfl, rfl⟩
  split
  · exact hend
  split
  · exact h1.same ⟨rfl, rfl, rfl, rfl⟩
  split
  · exact h1.same ⟨rfl, rfl, rfl, rfl⟩
  · exact h1.same (by simp [m4, m3, m2])

theorem executeOne (h : a.Upholds m) (d : Detection) : a.Upholds (m.executeOne d) := by
  unfold Mach.executeOne
  (repeat' split)
  · exact h.pset _ _
  · exact h.same ⟨rfl, rfl, rfl, rfl⟩
  · exact h

theorem executeWinner (h : a.Upholds m) (w : Detection) (mask : BitVec 64) (others : Nat) :
    a.Upholds (m.executeWinner w mask others) := by
  unfold Mach.executeWinner
  dsimp only
  split
  · exact (h.attempt w mask).same ⟨rfl, rfl, rfl, rfl⟩
  · exact h.same ⟨rfl, rfl, rfl, rfl⟩
  · exact h.same ⟨rfl, rfl, rfl, rfl⟩

theorem round (h : a.Upholds m) (dets : List Detection) : a.Upholds (m.round dets) := by
  unfold Mach.round
  dsimp only
  have hcand : a.Upholds ((m.countDets dets).candidates dets ((m.countDets dets).expireSeqs dets)).1 := h.same (by simp)
  refine foldl (fun _ _ hm => hm.executeOne _) _ ?_
  split
  · exact hcand.executeWinner _ _ _
  · exact hcand

theorem clearingRound (h : a.Upholds m) (obs : List Obs) : a.Upholds (m.clearingRound obs) := by
  have hdet : a.Upholds (m.detectAll obs).1 := h.same (by simp)
  unfold Mach.clearingRound
  dsimp only
  split
  · exact hdet.same ⟨rfl, rfl, rfl, rfl⟩
  · exact round (hdet.same (by simp)) _

/-! ### DDR5 and values taken into use -/

theorem trainDdr (h : a.Upholds m) (full : Bool) : a.Upholds (m.trainDdr full) :=
  h.memory (fun w => by unfold Mach.trainDdr; dsimp only; split; exact filter_wf _ _ w; exact w) ⟨rfl, rfl, rfl⟩

theorem trainingStart (h : a.Upholds m) : a.Upholds m.trainingStart := ite (h.trainDdr _) h

theorem memRetrain (h : a.Upholds m) (v : Word) : a.Upholds (m.memRetrain v) := ite (h.trainDdr true) h

theorem takeUse (h : a.Upholds m) (chg : List (Nat × Word)) : a.Upholds (m.takeUse chg) := by
  unfold Mach.takeUse
  split
  · exact h
  extract_lets differs oldFreq ctl qre m1 m2 m3 m4 m5 m6 m7 m8 m9
  have h2 : a.Upholds m2 := h.same (by simp [m2, m1, foldl_keeps])
  have h3 : a.Upholds m3 := ite (h2.modeChange _) h2
  have h4 : a.Upholds m4 := ite (h3.synthRelock.same (by simp)) h3
  have h7 : a.Upholds m7 := h4.same (by simp [m7, m6, m5])
  have h8 : a.Upholds m8 := by
    simp only [m8]
    split
    · exact (h7.memRetrain _).pset _ _
    · exact h7
  have h9 : a.Upholds m9 := ite (h8.same (by simp)) h8
  exact ite (h9.same ⟨rfl, rfl, rfl, rfl⟩) h9

theorem takeWaiting (h : a.Upholds m) : a.Upholds m.takeWaiting := by
  unfold Mach.takeWaiting
  exact ite h (takeUse (h.same (by simp)) _)

/-! ### The calibration chain -/

theorem chainLeave (h : a.Upholds m) (st : ChainSt) (cause : Nat) : a.Upholds (m.chainLeave st cause) := by
  unfold Mach.chainLeave
  extract_lets dropped cal m1 m2 ints
  have h1 : a.Upholds (m1.frontsMoved m) := h.same (by simp [m1])
  exact h1.takeWaiting.same (by simp [m2, foldl_keeps])

theorem chainFailed (h : a.Upholds m) : a.Upholds m.chainFailed := by
  unfold Mach.chainFailed
  split
  · exact ite (chainLeave (h.same (by simp)) _ _) h
  · exact h

theorem calCompute (h : a.Upholds m) : a.Upholds m.calCompute := by
  unfold Mach.calCompute
  split
  · split
    · exact chainLeave (h.same (by simp)) _ _
    · extract_lets c m1
      have h1 : a.Upholds m1 := h.same ⟨rfl, rfl, rfl, rfl⟩
      exact chainLeave (h1.same (by simp)) _ _
  · exact h

theorem chainBeat (h : a.Upholds m) : a.Upholds m.chainBeat :=
  (calCompute (m := m.chainFailed.calNext) (h.chainFailed.same (by simp))).same (by simp [Mach.chainBeat])

theorem sealFails (h : a.Upholds m) (cause : Nat) : a.Upholds (m.sealFails cause) := by
  unfold Mach.sealFails
  split
  · exact h
  next s _ bytes _ => exact (h.poke (certBase s) (bytes.take 16380)).same (by simp)

theorem certSealed (h : a.Upholds m) (bad : Bool) : a.Upholds (m.certSealed bad) := by
  unfold Mach.certSealed
  split
  · exact h
  next s _ bytes _ => exact ite (h.sealFails 8) ((h.poke (certBase s) bytes).same (by simp))

/-! ### The Ledger -/

theorem histFolio (h : a.Upholds m) (b : LdgBusy) : a.Upholds (m.histFolio b) := by
  unfold Mach.histFolio
  split
  · exact h
  · refine h.memory (fun w => ?_) (by simp)
    dsimp only
    split
    · exact w
    · exact histAdd_wf _ _ _ w

theorem ledgerDone (h : a.Upholds m) (ecc : Option Nat) : a.Upholds (m.ledgerDone ecc) := by
  unfold Mach.ledgerDone
  split
  · exact h
  next b _ =>
  split
  · exact h
  extract_lets ldg m1 trim m2
  have h1 : a.Upholds m1 := (histFolio (m := { m with ldg := { ldg with busy := none, closeReq := false } })
    (h.same ⟨rfl, rfl, rfl, rfl⟩) b).same (by simp [m1])
  have h2 : a.Upholds m2 := by
    simp only [m2]
    split
    · exact h1
    next p _ =>
      have hbins : a.Upholds ({ m1 with mem := (binSteps p (vget m1.ldg.pages p) b.slot
          (windowOf (vget m1.ldg.pages p) b.slot).length m1.mem) } : Mach) := h1.memory (binSteps_wf _ _ _ _ _) ⟨rfl, rfl, rfl⟩
      (repeat' split) <;> exact hbins.same (by simp)
  have h3 : a.Upholds (if m.ldg.closeReq then m2.closePage 1 else m2) := ite (h2.same (by simp)) h2
  exact h3.same (by simp)

theorem pageCleared (h : a.Upholds m) (p : Nat) : a.Upholds (m.pageCleared p) := ite ((h.clear _ _).same ⟨rfl, rfl, rfl, rfl⟩) h

theorem decayEnd (h : a.Upholds m) : a.Upholds m.decayEnd :=
  ite (h.memory (foldl_wf _ (fun _ _ w => writeBytes_wf _ _ _ w) _ _) (by simp)) h

theorem histCleared (h : a.Upholds m) : a.Upholds m.histCleared := ite (h.memory (clearBytes_wf _ _ _) (by simp)) h

theorem ldgStop (h : a.Upholds m) : a.Upholds m.ldgStop := by
  unfold Mach.ldgStop
  extract_lets _ m1 _ m2 m3
  have h2 : a.Upholds m2 := h.same ⟨rfl, rfl, rfl, rfl⟩
  have h3 : a.Upholds m3 := by
    simp only [m3]
    split
    · exact h.same ⟨rfl, rfl, rfl, rfl⟩
    split
    · exact h2
    · exact h2.memory (binSteps_wf _ _ _ _ _) (by simp)
  exact h3.same (by simp)

/-! ### The event log -/

theorem logWrite (h : a.Upholds m) : a.Upholds m.logWrite := by
  unfold Mach.logWrite
  split
  next r q _ _ => exact (h.poke (logAddr (logEntry r.num)) r.bytes).same (by simp)
  · exact h

theorem recordCut (h : a.Upholds m) (words : Nat) : a.Upholds (m.recordCut words) := by
  unfold Mach.recordCut
  split
  · exact h.poke _ _
  · exact h

/-! ### Vault banks and transfer records -/

theorem checkRecord (h : a.Upholds m) (i : Nat) (r : RxRec) : a.Upholds (m.checkRecord i r).1 := by
  unfold Mach.checkRecord
  extract_lets hdr kind size len qid idx keyIdx addr m1 zeros go
  have hgo (keyAt : Nat) : a.Upholds (go keyAt).1 :=
    h.memory (fun w => by simpa [go, m1] using writeBytes_wf _ _ _ w) (by simp [go, m1])
  split
  · exact h.same (by simp)
  split
  · exact h.same (by simp)
  split
  · exact hgo 0
  split
  · exact h.same (by simp [m1])
  · (repeat' split) <;> first | exact hgo _ | exact h.same (by simp [m1])

theorem takePayload (h : a.Upholds m) (fuel : Nat) (r : RxRec) : a.Upholds (m.takePayload fuel r).1 := by
  induction fuel generalizing m r with
  | zero => exact h
  | succ fuel ih =>
    unfold Mach.takePayload
    dsimp only
    (repeat' split) <;> first | exact h | exact h.poke _ _ | exact ih h _ | exact ih (h.poke _ _) _

theorem endRecord (h : a.Upholds m) (i : Nat) (r : RxRec) : a.Upholds (m.endRecord i r) := by
  unfold Mach.endRecord
  extract_lets m0 left m1 whole data m2
  have h0 : a.Upholds m0 := h.same (by simp [m0])
  have h1 : a.Upholds m1 := ite (h0.poke _ _) h0
  split
  · exact h0
  split
  · exact h0.same (by simp)
  split
  · exact ite (h1.same (by simp [m2])) (h1.same (by simp [m2]))
  · exact (h1.poke r.addr r.hdr).same (by simp)

theorem folioPacket (h : a.Upholds m) (i : Nat) (tag : BitVec 16) (data : List Byte) (first last : Bool) :
    a.Upholds (m.folioPacket i tag data first last) := by
  unfold Mach.folioPacket
  split
  · exact h
  extract_lets m0 m1 m2
  split
  · exact h.same (by simp [m0])
  split
  · exact h.same (by simp [m0])
  have h2 : a.Upholds m2 := h.same (by simp only [m2]; split <;> simp [m1, m0])
  split
  · exact h2
  next r _ =>
    extract_lets r1
    have h3 : a.Upholds (if !r1.checked && decide (40 ≤ r1.buf.length) then m2.checkRecord i r1 else (m2, r1)).1 := by
      split
      · exact h2.checkRecord i r1
      · exact h2
    generalize (if !r1.checked && decide (40 ≤ r1.buf.length) then m2.checkRecord i r1 else (m2, r1)) = x at h3 ⊢
    obtain ⟨m3, r2⟩ := x
    dsimp only at h3 ⊢
    have h4 : a.Upholds (if r2.checked then m3.takePayload (data.length + 44) r2 else (m3, r2)).1 := by
      split
      · exact h3.takePayload _ _
      · exact h3
    generalize (if r2.checked then m3.takePayload (data.length + 44) r2 else (m3, r2)) = y at h4 ⊢
    split
    · exact h4.endRecord _ _
    · exact h4.same (by simp)

theorem folioIn (h : a.Upholds m) (i : Nat) (tag : BitVec 16) (data : List Byte) (first last : Bool) :
    a.Upholds (m.folioIn i tag data first last) := by
  unfold Mach.folioIn
  exact ite (h.same (by simp)) (ite (h.same (by simp)) (h.folioPacket i tag data first last))

/-! ### Tellers -/

theorem ackStore (h : a.Upholds m) (c : Nat) : a.Upholds (m.ackStore c) := by
  unfold Mach.ackStore
  dsimp only
  split
  · exact h
  split
  · exact h
  next w _ => exact (h.poke w.addr w.bytes).same (by simp)

theorem writeAck (h : a.Upholds m) (x : AckObs) : a.Upholds (m.writeAck x) := by
  unfold Mach.writeAck
  split
  · exact h.same (by simp)
  · exact h.ackStore _

theorem slipPosted (h : a.Upholds m) (c : Nat) : a.Upholds (m.slipPosted c) := by
  unfold Mach.slipPosted
  dsimp only
  split
  · exact h
  have hpost := h.poke ((m.tel c).cur + 48) ((m.tel c).status c)
  (repeat' split) <;> exact hpost.same (by simp)

/-! ### The Volume -/

/-- A Volume message upholds what its act upholds. -/
theorem volMsg (h : a.Upholds m) (v : VMsg) (op f2 f4 : Nat) {act : Mach → Mach} (hact : ∀ x, a.Upholds x → a.Upholds (act x)) :
    a.Upholds (m.volMsg v op f2 f4 act) := by
  unfold Mach.volMsg
  split
  · exact h
  extract_lets m0 mine m1
  have h0 : a.Upholds m0 := h.same (by simp [m0])
  have h1 : a.Upholds m1 := ite (hact m0 h0) h0
  exact ite h0 (ite (h1.same (by simp)) h1)

theorem vtrig (h : a.Upholds m) (v : VMsg) (idx : BitVec 16) (t : Word) : a.Upholds (m.vtrig v idx t) := by
  refine h.volMsg _ _ _ _ fun x hx => ?_
  split
  · exact hx
  have hend : a.Upholds (if x.qre.cur.isSome then x.folioEnd else x) := ite hx.folioEnd hx
  generalize (if x.qre.cur.isSome then x.folioEnd else x) = m0 at hend ⊢
  dsimp only
  (repeat' split) <;> exact hend.same (by simp)

theorem vstop (h : a.Upholds m) (v : VMsg) (atOnce : Bool) (beat : Word) : a.Upholds (m.vstop v atOnce beat) := by
  refine h.volMsg _ _ _ _ fun x hx => ?_
  (repeat' split) <;> exact hx.same (by simp)

theorem vsyncMark (h : a.Upholds m) (diff : Int) : a.Upholds (m.vsyncMark diff) := by
  unfold Mach.vsyncMark
  split
  · exact h
  split
  next al _ =>
    split
    · exact h
    have hset : a.Upholds (if al.ring then (m.pset 0x2904 (BitVec.ofNat 32 (ofInt diff 16))).modVol fun v => { v with ringDone := true }
        else m) := ite ((h.pset 0x2904 (BitVec.ofNat 32 (ofInt diff 16))).same (by simp)) h
    exact hset.same (by simp)
  · exact ite (h.same (by simp)) h

theorem volumeArm (h : a.Upholds m) : a.Upholds m.volumeArm := by
  unfold Mach.volumeArm
  split
  · exact h
  split
  · exact h
  extract_lets m1 m2
  have h1 : a.Upholds m1 := h.same (by simp [m1])
  have h2 : a.Upholds m2 := ite (h1.same (by simp)) (h1.armQuire _)
  exact ite h1 (ite (h2.same (by simp)) h2)

theorem pendingArm (h : a.Upholds m) : a.Upholds m.pendingArm := ite (h.behalf _ fun _ hx => hx.armNow) h

/-! ### The Spine and scan-out -/

theorem spnCtl (h : a.Upholds m) (v : Word) : a.Upholds (m.spnCtl v) := (h.pset 0xF00 v).same (by simp [Mach.spnCtl])

theorem writePacket (h : a.Upholds m) (i : Nat) (tag : BitVec 16) (addr : BitVec 64) (data : List Byte) :
    a.Upholds (m.writePacket i tag addr data) := by
  unfold Mach.writePacket
  split
  · exact h
  split
  · exact h.same (by simp)
  extract_lets m0 st m1
  have h0 : a.Upholds m0 := h.same (by simp [m0])
  have h1 : a.Upholds m1 := ite ((h0.poke addr.toNat data).same (by simp)) h0
  exact ite h0 (h1.same (by simp))

theorem volConfig (h : a.Upholds m) (r : Nat) (v : Word) : a.Upholds (m.volConfig r v) := by
  unfold Mach.volConfig
  extract_lets addr old changed m1 m2 m3 start
  have h1 : a.Upholds m1 := h.pset _ _
  have hstart (x : Mach) (i : Nat) (hx : a.Upholds x) : a.Upholds (start x i) := ite (hx.same (by simp)) (hx.same (by simp))
  exact ite h1 ((hstart _ 2 (hstart m3 1 (h1.same (by simp [m3, m2])))).same (by simp))

theorem dspTake (h : a.Upholds m) (p : Nat → Bool) (bad : Bool) : a.Upholds (m.dspTake p bad) := by
  unfold Mach.dspTake
  dsimp only
  (repeat' split) <;> exact h.same (by simp)

theorem dspTakeAll (h : a.Upholds m) (bad : Bool) : a.Upholds (m.dspTakeAll bad) := h.dspTake _ bad

theorem dspLanded (h : a.Upholds m) (as : List Nat) : a.Upholds (m.dspLanded as) := by
  unfold Mach.dspLanded
  dsimp only
  have htaken := h.dspTakeAll false
  split
  · exact ite (htaken.same (by simp)) htaken
  · exact ite (htaken.same (by simp)) htaken
  · exact ite (h.same (by simp)) (h.same (by simp))

theorem modeStep (h : a.Upholds m) : a.Upholds m.modeStep := by
  unfold Mach.modeStep
  split
  · exact h.same (by simp)
  extract_lets k par m1 m2
  have h1 : a.Upholds m1 := h.same ⟨rfl, rfl, rfl, rfl⟩
  refine ite (h1.same (by simp)) (ite ((h1.pset 0x2601 (w32 m.dsp.mode)).same (by simp)) (h1.same (by simp [m2])))

theorem frameEnd (h : a.Upholds m) : a.Upholds m.frameEnd := by
  unfold Mach.frameEnd
  split
  · exact modeStep (h.same (by simp))
  · exact ite (h.same (by simp)) (h.same (by simp))
  · exact h

theorem vblank (h : a.Upholds m) (bad : Bool) : a.Upholds (m.vblank bad) := by
  unfold Mach.vblank
  split
  · exact h
  extract_lets m1
  have h1 : a.Upholds m1 := ite h (h.dspTake _ bad)
  exact ite (h1.same (by simp)) h1

theorem n0Start (h : a.Upholds m) (bad : Bool) : a.Upholds (m.n0Start bad) := by
  unfold Mach.n0Start
  split
  · exact h
  extract_lets m1 m2
  have h1 : a.Upholds m1 := h.same (by simp [m1])
  exact (h1.dspTakeAll bad).same (by simp [m2])

theorem scanOff (h : a.Upholds m) : a.Upholds m.scanOff := by
  unfold Mach.scanOff
  split
  · exact h
  · exact dspTakeAll (h.same (by simp)) false

theorem scanStart (h : a.Upholds m) : a.Upholds m.scanStart := by
  unfold Mach.scanStart
  split
  · exact h
  extract_lets par m0 m1
  have h1 : a.Upholds m1 := h.same (by simp [m1, m0, par])
  exact ite h1 (h1.same (by simp))

/-! ### Power -/

theorem domOff (h : a.Upholds m) (d cause : Nat) : a.Upholds (m.domOff d cause) := by
  unfold Mach.domOff
  have h1 : a.Upholds (m.setDom d .off) := h.same (by simp)
  generalize m.setDom d .off = m1 at h1 ⊢
  split
  · exact h
  dsimp only
  split
  · exact h1.same ⟨rfl, rfl, rfl, rfl⟩
  · exact h1.same (by simp)
  · exact h1.mintStop_gateSlices.same (by simp)
  · exact h1.same ⟨rfl, rfl, rfl, rfl⟩
  · exact h1.same (by simp)
  · exact h1.scanOff
  · exact h1.same (by simp)
  · exact h1

theorem domUsable (h : a.Upholds m) (d : Nat) : a.Upholds (m.domUsable d) := by
  unfold Mach.domUsable
  split
  · exact h
  extract_lets m1 ctl pwr mcore m2
  have h1 : a.Upholds m1 := h.same (by simp [m1])
  have h2 : a.Upholds m2 := by
    simp only [m2]
    split
    · exact (coreRelock (m := mcore) (h1.same ⟨rfl, rfl, rfl, rfl⟩) (if m.pwr.fromStage6 then 3 else 0)).same (by simp)
    · exact h1.same (by simp)
    · exact h1.sliceUp.synthRelock
    · exact h1.trainingStart
    · exact h1.same (by simp)
    · exact h1.scanStart
    · exact h1.same (by simp)
    · exact h1
  exact h2.same (by simp)

theorem domEnable (h : a.Upholds m) (v : Word) : a.Upholds (m.domEnable v) := by
  unfold Mach.domEnable
  extract_lets was m1 go
  have h1 : a.Upholds m1 := foldl (fun _ _ hx => ite hx (hx.domOff _ 8)) _ (h.pset _ _)
  exact h1.same (by simp [foldl_keeps])

theorem shedWritten (h : a.Upholds m) (n : Nat) : a.Upholds (m.shedWritten n) := by
  unfold Mach.shedWritten
  split
  · exact h
  · exact (h.poke _ _).same ⟨rfl, rfl, rfl, rfl⟩

theorem stageSix (h : a.Upholds m) (rail : Nat) : a.Upholds (m.stageSix rail) := by
  unfold Mach.stageSix
  extract_lets m1 ctl pwr m2 vlt m3 m4 m5
  have h3 : a.Upholds m3 := ite (h.same (by simp [m2, m1])) (h.same (by simp [m2, m1]))
  have h4 : a.Upholds m4 := (h3.sealFails 9).same (by simp [m4])
  have h5 : a.Upholds m5 := (((h4.domOff 4 7).domOff 5 7).domOff 7 7).domOff 1 7
  exact h5.same (by simp)

theorem stageAction (h : a.Upholds m) (k rail : Nat) : a.Upholds (m.stageAction k rail) := by
  unfold Mach.stageAction
  split
  · exact h.domOff 6 7
  · exact h.same (by simp)
  · exact ldgStop (ite h.shedQuire h)
  · exact h.shedQuire.same (by simp)
  · exact ((h.shedQuire.domOff 3 7).domOff 2 7).same (by simp)
  · exact h.stageSix rail

theorem shedEnter (h : a.Upholds m) (r : Nat) (samples : List Nat) : a.Upholds (m.shedEnter r samples) := by
  unfold Mach.shedEnter
  extract_lets m0 run on crossed top was news pwr m1 m2
  have h0 : a.Upholds m0 := h.same (by simp [m0])
  have h2 : a.Upholds m2 := h0.same (by simp [m2, m1, foldl_keeps])
  have hacted : a.Upholds (news.foldl (fun m k => m.stageAction k r) (m2.chainFail 14)) :=
    foldl (fun _ k hx => hx.stageAction k r) news (h2.same (by simp))
  exact ite h0 (hacted.same (by simp))

theorem slicesBack (h : a.Upholds m) : a.Upholds m.slicesBack := by
  unfold Mach.slicesBack
  split
  · extract_lets _ m1
    have h1 : a.Upholds m1 := h.same ⟨rfl, rfl, rfl, rfl⟩
    exact ite h1.sliceUp.synthRelock h1
  · exact h

theorem stagesSettle (h : a.Upholds m) (old : Word) : a.Upholds (m.stagesSettle old) := by
  unfold Mach.stagesSettle
  extract_lets begins m1
  have h1 : a.Upholds m1 := foldl (fun _ _ hx => hx.stageAction _ _) _ h
  exact h1.slicesBack.same (by simp)

theorem leaveStages (h : a.Upholds m) (low : Nat) : a.Upholds (m.leaveStages low) := by
  unfold Mach.leaveStages
  extract_lets was gone noted pwr m1 m2
  have h2 : a.Upholds m2 := h.same (by simp [m2, m1, noted, foldl_keeps])
  exact ite h (h2.slicesBack.same (by simp))

theorem shedExit (h : a.Upholds m) : a.Upholds m.shedExit := ite h (h.leaveStages _)

/-! ### The Vault -/

theorem writeBank (h : a.Upholds m) (sec : Nat) (b : Bool) (bytes : List Byte) : a.Upholds (m.writeBank sec b bytes) :=
  (h.clear _ _).poke _ _

theorem vaultDone (h : a.Upholds m) (e : VaultEnd) (bad : List Nat) : a.Upholds (m.vaultDone e bad) := by
  unfold Mach.vaultDone
  split
  · exact h
  · split
    · exact h.same (by simp)
    · extract_lets b m1
      have h1 : a.Upholds m1 := h.writeBank _ b _
      exact ite (h1.same (by simp)) (h1.same (by simp))
  next sec _ =>
    extract_lets nv vlt m1
    have h1 : a.Upholds m1 := h.same ⟨rfl, rfl, rfl, rfl⟩
    have hvalid : a.Upholds (if 1 ≤ sec ∧ sec ≤ 31 then m1.slotValid sec false else m1) := ite (h1.same (by simp)) h1
    exact hvalid.same (by simp)
  next dst bytes _ => exact ite (h.same (by simp)) ((h.poke dst bytes).same (by simp))

theorem vaultCut (h : a.Upholds m) (words : Nat) : a.Upholds (m.vaultCut words) := by
  unfold Mach.vaultCut
  split
  next sec bytes _ =>
    extract_lets b all m1
    have h1 : a.Upholds m1 := h.poke _ _
    exact ite h1 (ite (h1.same (by simp)) (ite (h1.same ⟨rfl, rfl, rfl, rfl⟩) (h1.same ⟨rfl, rfl, rfl, rfl⟩)))
  · exact h

/-! ### Landing changes -/

theorem landOne (h : a.Upholds m) (k : Option Master) (addr : Nat) (v : Word) : a.Upholds (m.landOne k addr v) := by
  unfold Mach.landOne
  refine ite (h.same (by simp)) (ite (h.volConfig _ v) (ite (h.domEnable v) (ite (h.pset _ _)
    (ite ((h.pset _ _).stagesSettle _) (ite (h.spnCtl v) ?_)))))
  have hland := h.land addr v
  extract_lets m1 ctl trg
  refine ite (hland.same ⟨rfl, rfl, rfl, rfl⟩) (ite hland.refFreqLanded ?_)
  exact hland.same (by simp [m1])

theorem landValues (h : a.Upholds m) (k : Option Master) (p : Bool) (vs : PMap) : a.Upholds (m.landValues k p vs) := by
  unfold Mach.landValues
  extract_lets olds dsp m0 m1 m2 m3 m4
  have h0 : a.Upholds m0 := ite (h.same (by simp)) h
  have h1 : a.Upholds m1 := foldl (fun _ _ hx => hx.landOne k _ _) vs h0
  have h2 : a.Upholds m2 := ite (foldl (fun _ _ hx => hx.pin _) vs h1) h1
  have h3 : a.Upholds m3 := ite h2 (h2.dspLanded dsp)
  have h4 : a.Upholds m4 := h3.takeUse _
  exact h4.same (by simp)

theorem winDone (h : a.Upholds m) (ecc : Option Nat) : a.Upholds (m.winDone ecc) := by
  unfold Mach.winDone
  have h0 : a.Upholds (if m.inDdr m.ctl.win.addr (4 * m.ctl.win.len) then m.touchDdr m.ctl.win.addr (4 * m.ctl.win.len) else m) :=
    ite (h.same (by simp)) h
  dsimp only
  generalize (if m.inDdr m.ctl.win.addr (4 * m.ctl.win.len) then m.touchDdr m.ctl.win.addr (4 * m.ctl.win.len) else m) = m0 at h0 ⊢
  split
  · exact h
  split
  · exact h.same ⟨rfl, rfl, rfl, rfl⟩
  split
  · exact (foldl (fun _ _ hx => hx.poke _ _) (List.range m.ctl.win.len) h0).same ⟨rfl, rfl, rfl, rfl⟩
  · have hread (n : Nat) : a.Upholds ((List.range n).foldl (fun x i => x.pset (0x50 + i) (x.word (m.ctl.win.addr + 4 * i))) m0) :=
      foldl (fun _ _ hx => hx.pset _ _) _ h0
    cases ecc with
    | none => exact (hread m.ctl.win.len).same (by simp)
    | some i => exact (hread (min i m.ctl.win.len)).same (by simp)

theorem pwrRecover (h : a.Upholds m) (v : Word) : a.Upholds (m.pwrRecover v) := by
  unfold Mach.pwrRecover
  refine ite (shedExit (h.same ?_)) h
  exact ⟨rfl, rfl, rfl, rfl⟩

theorem landCommand (h : a.Upholds m) (k : Option Master) (raised : BitVec 11) (addr : Nat) (v : Word) :
    a.Upholds (m.landCommand k raised addr v) := by
  unfold Mach.landCommand
  split
  · exact ite (h.same (by simp)) (h.same (by simp))
  split
  case h_4 => exact h.relockRetry v
  case h_5 => exact h.pwrRecover v
  case h_11 => exact h.qreStop v
  all_goals exact h.same (by simp)

theorem unpinWrite (h : a.Upholds m) (k : Option Master) (locks : Vector Lock 8) (val : Nat → Word) (v : Word) :
    a.Upholds (m.unpinWrite k locks val v) := by
  unfold Mach.unpinWrite
  extract_lets others release
  have hrelease (as : List Nat) : a.Upholds (release as) :=
    (foldl (f := fun m x => m.unpin x) (fun _ _ hx => hx.same ⟨rfl, rfl, rfl, rfl⟩) as h).same ⟨rfl, rfl, rfl, rfl⟩
  exact ite (hrelease _) (ite (hrelease _) h)

theorem landChanges (h : a.Upholds m) (k : Option Master) (locks : Vector Lock 8) (val : Nat → Word) (raised : BitVec 11)
    (bad : Bool) (ch : PMap) : a.Upholds (m.landChanges k locks val raised bad ch) := by
  unfold Mach.landChanges
  extract_lets m1 m2 m3 m4
  have h1 : a.Upholds m1 := by
    simp only [m1]
    split
    · exact h.unpinWrite k locks val _
    · exact h
  have h2 : a.Upholds m2 := h1.landValues k true _
  have h3 : a.Upholds m3 := foldl (fun _ _ hx => hx.landCommand k raised _ _) _ h2
  have h4 : a.Upholds m4 := foldl (fun _ _ hx => hx.same (by simp)) _ (h3.same (by simp))
  split
  · exact h4.same (by simp)
  · exact h4

theorem landWrite (h : a.Upholds m) (k : Master) (addr : Nat) (v : Word) : a.Upholds (m.landWrite k addr v) := by
  unfold Mach.landWrite
  have h1 : a.Upholds (m.noteNow.landChanges (some k) m.ctl.locks m.pval 0 false [(addr, v)]) :=
    (h.same (m' := m.noteNow) (by simp)).landChanges _ _ _ _ _ _
  exact ite (h1.same ⟨rfl, rfl, rfl, rfl⟩) h

theorem landReg (h : a.Upholds m) (addr : Nat) (v : Word) : a.Upholds (m.landReg addr v) :=
  ite ((h.same (m' := m.noteNow) (by simp)).landValues none true _) h

theorem assayStart (h : a.Upholds m) (v : Option Word) : a.Upholds (m.assayStart v) := by
  unfold Mach.assayStart
  split
  · exact ite (h.landReg _ _) h
  · exact h.same (by simp)

/-! ### Recomputation and inserts -/

theorem recomputeRow (r : Recomp) (x : RowRun) (addr : Nat) (h : a.Upholds x.real) : a.Upholds (RowRun.one r x addr).real := by
  unfold RowRun.one
  dsimp only
  (repeat' split) <;> first | exact h | exact h.same (by simp)

theorem recomputeRows (h : a.Upholds m) (r : Recomp) (as : List Nat) : a.Upholds (m.recomputeRows r as) := by
  have hrows (l : List Nat) (x : RowRun) (hx : a.Upholds x.real) : a.Upholds (l.foldl (RowRun.one r) x).real := by
    induction l generalizing x with
    | nil => exact hx
    | cons _ t ih => exact ih _ (recomputeRow r x _ hx)
  exact (hrows as _ h).landValues none false _

theorem recompute (h : a.Upholds m) (before : Mach) (bad : List Nat) : a.Upholds (m.recompute before bad) := by
  unfold Mach.recompute
  extract_lets r
  exact ite h (((h.recomputeRows r rows1to8).recomputeRows r (rows9to17 ++ rows18to22 ++ rows23to28)).same (by simp))

theorem insertApply (h : a.Upholds m) (r : InsReq) (locked : Nat → Bool) : a.Upholds (m.insertApply r locked) := by
  unfold Mach.insertApply
  extract_lets recs vs ins m1 m2 m3
  have h1 : a.Upholds m1 := h.same ⟨rfl, rfl, rfl, rfl⟩
  have h3 : a.Upholds m3 := foldl (fun _ _ hx => hx.landCommand _ 0 _ _) _ (h1.landValues r.master true _)
  exact h3.same (by simp)

theorem insertRemove (h : a.Upholds m) (r : InsReq) (locked : Nat → Bool) : a.Upholds (m.insertRemove r locked) := by
  unfold Mach.insertRemove
  extract_lets as ins m1 m2 m3 based named ctl m4
  have h1 : a.Upholds m1 := h.same ⟨rfl, rfl, rfl, rfl⟩
  have h3 : a.Upholds m3 := foldl (fun _ _ hx => ite (hx.pin _) (hx.same (by simp))) as (h1.landValues r.master false _)
  exact h3.same (by simp [m4])

theorem insertStep (h : a.Upholds m) (ready : Bool) (bad : List Nat) (locked : Option Master → Nat → Bool) :
    a.Upholds (m.insertStep ready bad locked) := by
  unfold Mach.insertStep
  split
  · exact h
  next r rest _ =>
    split
    · exact h
    extract_lets m0 ins m1 fault
    have h0 : a.Upholds m0 := ite (h.same (by simp)) h
    have h1 : a.Upholds m1 := h0.same ⟨rfl, rfl, rfl, rfl⟩
    exact ite (h0.same (by simp)) (ite (h1.same (by simp))
      (h1.behalf _ fun _ hx => ite (hx.insertApply r _) (hx.insertRemove r _)))

/-! ### The first second -/

theorem baseSet (h : a.Upholds m) (addr : Nat) (v : Word) : a.Upholds (m.baseSet addr v) := by
  unfold Mach.baseSet
  extract_lets boot m1
  have h1 : a.Upholds m1 := h.same ⟨rfl, rfl, rfl, rfl⟩
  exact ite h1 (h1.pset addr v)

theorem baseLand (h : a.Upholds m) (addr : Nat) (v : Word) : a.Upholds (m.baseLand addr v) := by
  unfold Mach.baseLand
  have hput := h.pset addr v
  split
  · exact h.same ⟨rfl, rfl, rfl, rfl⟩
  split
  · exact h.domEnable v
  split
  · exact (h.pset _ _).stagesSettle _
  dsimp only
  (repeat' split) <;> exact hput.same ⟨rfl, rfl, rfl, rfl⟩

theorem baseRecompute (h : a.Upholds m) (basics : List Nat) : a.Upholds (m.baseRecompute basics) := by
  refine foldl (fun x addr hx => ?_) _ h
  split
  · dsimp only
    have hclamp : a.Upholds (if (packDerived (x.derive addr)).2 then
      { x with par := { x.par with clampAddr := BitVec.ofNat 16 addr, clamps := x.par.clamps + 1 } } else x) :=
      ite (hx.same ⟨rfl, rfl, rfl, rfl⟩) hx
    exact ite hclamp (hclamp.baseSet _ _)
  · exact hx

theorem applyBase (h : a.Upholds m) (recs : List BaseRec) : a.Upholds (m.applyBase recs) :=
  foldl (fun _ _ hx => ite ((hx.baseSet _ _).pin _) (hx.baseSet _ _)) _
    (baseRecompute (foldl (fun _ _ hx => hx.baseSet _ _) _ h) _)

theorem readPolicy (h : a.Upholds m) (bad : List Nat) : a.Upholds (m.readPolicy bad) := by
  unfold Mach.readPolicy
  extract_lets hitA hitB n dirA dirB nv vlt m1 m1' m2
  have h2 : a.Upholds (m2.chooseBank 32 bad).1 := h.same (by simp [m2, m1', m1])
  generalize m2.chooseBank 32 bad = x at h2 ⊢
  obtain ⟨m3, pol⟩ := x
  dsimp -zeta only at h2 ⊢
  extract_lets m4
  have h4 : a.Upholds (m4.chooseBank 33 bad).1 := by
    refine Upholds.same (m := m4) ?_ (by simp)
    simp only [m4]
    split
    next b bs _ =>
      generalize hread : List.foldl _ m3 (imgRecords bs) = x
      have h5 : a.Upholds x := hread ▸ foldl (fun _ _ hx => hx.pset _ _) _ h2
      have h6 : a.Upholds (if x.pval 0x503 = m3.pval 0x503 then x else x.stagesSettle (m3.pval 0x503)) := ite h5 (h5.stagesSettle _)
      exact h6.same (by simp)
    · exact h2
  generalize m4.chooseBank 33 bad = y at h4 ⊢
  obtain ⟨m7, mint⟩ := y
  dsimp only at h4 ⊢
  split
  · exact h4.same ⟨rfl, rfl, rfl, rfl⟩
  · exact h4

theorem readBase (h : a.Upholds m) (bad : List Nat) : a.Upholds (m.readBase bad) := by
  unfold Mach.readBase
  have h1 : a.Upholds (m.chooseBank 0 bad).1 := h.same (by simp)
  generalize m.chooseBank 0 bad = x at h1 ⊢
  obtain ⟨m1, base⟩ := x
  dsimp only at h1 ⊢
  split
  · next b bs =>
    have hbase := fun vlt recs => applyBase (h1.same (m' := { m1 with vlt }) ⟨rfl, rfl, rfl, rfl⟩) recs
    exact ⟨(hbase _ _).mem, h1.par, (hbase _ _).inReset, (hbase _ _).ready⟩
  · exact h1.same ⟨rfl, rfl, rfl, rfl⟩

theorem vaultReadIn (h : a.Upholds m) (bad : List Nat) : a.Upholds (m.vaultReadIn bad) := by
  unfold Mach.vaultReadIn
  split
  · exact h
  extract_lets m0 m1 boot
  have h0 : a.Upholds m0 := ((h.readPolicy bad).readBase bad).same (by simp [m0])
  have h1 : a.Upholds m1 := h0.same (by simp [m1, foldl_keeps])
  clear_value m1
  exact (trainingStart (m := { m1 with boot := { m1.boot with readIn := true } }) (h1.same ⟨rfl, rfl, rfl, rfl⟩)).same (by simp [boot])

theorem baseTake (h : a.Upholds m) : a.Upholds m.baseTake := by
  unfold Mach.baseTake
  split
  · exact h
  extract_lets boot m0 boot0 m1 m2
  have h0 : a.Upholds m0 := foldl (fun _ _ hx => hx.baseLand _ _) _ (h.same (by simp [boot]))
  have h1 : a.Upholds m1 := takeWaiting (h0.same (by simp [boot0]))
  have h2 : a.Upholds m2 := h1.dspLanded _
  exact (h2.refFreqLanded.recompute m []).same (by simp)

theorem readyRise (h : a.Upholds m) : a.Upholds m.readyRise := by
  unfold Mach.readyRise
  split
  · exact h
  extract_lets boot m1
  have h1 : a.Upholds m1 := ⟨fun w => by simpa [m1] using h.mem w, fun w => by simpa [m1] using h.par w,
    by simpa [m1, boot] using h.inReset, fun _ => by simp [m1]⟩
  exact scanStart (h1.same (by simp))

theorem acqReadyRise (h : a.Upholds m) : a.Upholds m.acqReadyRise := ite h (h.same (by simp))

/-! ### Commits and the work of a boundary -/

theorem landCommit (h : a.Upholds m) (before : Mach) (k : Master) (other : List Nat) (annexBad : Bool) (c : Commit) :
    a.Upholds (m.landCommit before k other annexBad c) := by
  unfold Mach.landCommit
  refine ite (h.same (by simp)) ?_
  extract_lets kept lost m1 s m2 m3
  have h1 : a.Upholds m1 := h.landChanges _ _ _ _ _ _
  exact h1.same (by simp [m3, m2])

theorem commitStep (h : a.Upholds m) (before : Mach) (k : Master) (o : BeatObs) : a.Upholds (m.commitStep before k o) := by
  unfold Mach.commitStep
  extract_lets m0 other ctl m1 s m2
  have h0 : a.Upholds m0 := ite (h.same (by simp)) h
  have h1 : a.Upholds m1 := ite (h0.same ⟨rfl, rfl, rfl, rfl⟩) h0
  have h2 : a.Upholds m2 := by
    simp only [m2]
    split
    · exact landCommit (h1.same (by simp)) _ _ _ _ _
    · exact h1
  split
  · exact h2.same (by simp)
  · exact h2

theorem alignHold (h : a.Upholds m) : a.Upholds m.alignHold := by
  unfold Mach.alignHold
  split
  · exact h.gateSlices.same ⟨rfl, rfl, rfl, rfl⟩
  · exact h

theorem passTo (h : a.Upholds m) (n : Nat) : a.Upholds (m.passTo n) := by
  have hrun (x : Mach) (i : Nat) (hx : a.Upholds x) : a.Upholds (x.runTo i) := hx.same (by simp)
  exact ite (hrun _ n (hrun m 1000 h).alignHold) (hrun m n h)

theorem openBeat (h : a.Upholds m) (o : BeatObs) : a.Upholds (m.openBeat o) := by
  unfold Mach.openBeat
  extract_lets m0 t tim ctl flt dsp m1
  have h1 : a.Upholds m1 := (h.passTo 1024).same ⟨rfl, rfl, rfl, rfl⟩
  have hwritten := shedWritten (m := m1.closeInterval.railsBeat o.rails) (h1.same (by simp)) 64
  exact acqReadyRise (hwritten.same (by simp))

theorem boundaryWork (h : a.Upholds m) (o : BeatObs) : a.Upholds (m.boundaryWork o) := by
  unfold Mach.boundaryWork
  extract_lets m1 m2 m3 m4 m5 m6 m7 m8
  have h1 : a.Upholds m1 := ((h.same (m' := m.relockAgain.pilotReturn) (by simp)).baseTake).same (by simp [m1])
  have h2 : a.Upholds m2 := h1.shedExit.same (by simp [m2])
  have htaken : a.Upholds (if m2.boot.baseInUse then m2.takeWaiting else m2) := ite h2.takeWaiting h2
  have h3 : a.Upholds m3 := htaken.same (by simp [m3])
  have h4 : a.Upholds m4 := (volumeArm (m := m3.timeStep.pendingArm.armExpiry)
    ((pendingArm (m := m3.timeStep) (h3.same (by simp))).same (by simp))).same (by simp [m4])
  have h5 : a.Upholds m5 := h4.chainBeat.same (by simp [m5])
  have h8 : a.Upholds m8 := h5.same (by simp [m8, m7, m6])
  exact h8.same ⟨rfl, rfl, rfl, rfl⟩

theorem workStep (h : a.Upholds m) (before : Mach) (o : BeatObs) (i : Nat) : a.Upholds (m.workStep before o i) := by
  unfold Mach.workStep
  split
  · exact h.same (by simp)
  · exact h.insertStep _ _ _
  · exact h.behalf _ fun _ hx => hx.commitStep _ _ _
  · exact h.behalf _ fun _ hx => hx.commitStep _ _ _
  · exact armLanded ((h.recompute before o.recompBad).same (by simp))
  · exact h.same (by simp)
  · exact h.asyStep7
  · exact h.same (by simp)
  · exact h.same (by simp)
  · exact h

theorem headersDue (h : a.Upholds m) : a.Upholds m.headersDue := foldl (fun _ _ hx => hx.writeHeader _) _ h

theorem closeWork (h : a.Upholds m) : a.Upholds m.closeWork := by
  unfold Mach.closeWork
  extract_lets flt m1 m2
  have h1 : a.Upholds m1 := headersDue (h.same ⟨rfl, rfl, rfl, rfl⟩)
  exact h1.same (by simp [m2])

theorem clock (h : a.Upholds m) : a.Upholds m.clock := ite h (h.passTo _)

/-! ### The control port -/

theorem serveFrame (h : a.Upholds m) (q : Req) {act : Mach → Mach × Reply} (hact : ∀ x, a.Upholds x → a.Upholds (act x).1) :
    a.Upholds (m.serveFrame q act) := by
  unfold Mach.serveFrame
  exact (hact { m with flt := { m.flt with origin := some (Via.master q.via) } } (h.same ⟨rfl, rfl, rfl, rfl⟩)).same (by simp)

/-- A request that is answered upholds what its act upholds; one that is turned away touches nothing of it. -/
theorem frame (h : a.Upholds m) (op : Byte) (q : Req) {act : Mach → Mach × Reply}
    (hact : ∀ x, a.Upholds x → a.Upholds (act x).1) : a.Upholds (m.frame op q act) := by
  unfold Mach.frame
  split
  · exact h
  split
  · extract_lets m1
    have h1 : a.Upholds m1 := h.same (by simp [m1])
    split
    · exact h1.same (by simp)
    · exact h1.serveFrame q hact
  split
  · exact h
  extract_lets m1
  have h1 : a.Upholds m1 := h.same (by simp [m1])
  split
  · exact h1.same (by simp)
  split
  · exact h1.same (by simp)
  · exact h1.serveFrame q hact

end Mach.Upholds

/-! ### What a step upholds -/

/-- What every command but a reset leaves: the commands waiting, the discipline of a boundary's work, and what every operation of the
engine upholds. -/
structure State.Follows (s t : State) : Prop where
  pending : t.pending = s.pending
  orderly : s.orderly = true → t.orderly = true
  engine : s.m.Upholds t.m

theorem State.follows_refl (s : State) : s.Follows s := ⟨rfl, id, .refl s.m⟩

theorem State.orderly_iff (s : State) : s.orderly = true ↔ s.work ≤ 9 ∧ (s.before.isSome = true ↔ s.work < 9) := by
  rw [State.orderly, Bool.and_eq_true, decide_eq_true_eq, beq_iff_eq, Bool.eq_iff_iff, decide_eq_true_eq]

/-- A command that only changes the engine, by what upholds. -/
theorem State.follows_withEngine (s : State) {m : Mach} (h : s.m.Upholds m) : s.Follows (s.withEngine m) := ⟨rfl, id, h⟩

/-- A command that acts out of reset alone. -/
theorem State.follows_run (s : State) {m : Mach} (h : s.m.Upholds m) :
    s.Follows { s with m := if s.m.boot.inReset then s.m else m } := s.follows_withEngine (.ite (.refl _) h)

/-- A boundary opened: nothing of its work is done yet, and the engine as the work found it is kept. -/
theorem State.opened_engine (s : State) (o : BeatObs) : s.m.Upholds (s.opened o).m := by
  unfold State.opened
  split
  · exact .refl _
  · exact ((Mach.Upholds.refl _).openBeat o).boundaryWork o

theorem State.workTo_engine (s : State) (o : BeatObs) (n : Nat) : s.m.Upholds (s.workTo o n).m := by
  unfold State.workTo
  exact Mach.Upholds.foldl (fun x i hx => Mach.Upholds.workStep (hx.same (by simp)) _ o i) _ (.refl _)

theorem State.opened_orderly (s : State) (o : BeatObs) (h : s.orderly = true) :
    (s.opened o).work < 9 ∧ (s.opened o).before.isSome = true := by
  rw [State.orderly_iff] at h
  unfold State.opened
  split
  next hwork => exact ⟨hwork, h.2.mpr hwork⟩
  next => exact ⟨Nat.zero_lt_succ 8, rfl⟩

theorem State.opened_pending (s : State) (o : BeatObs) : (s.opened o).pending = s.pending := by
  unfold State.opened
  split <;> rfl

theorem State.follows_beat (s : State) (o : BeatObs) : s.Follows (s.beat o) := by
  have hengine := ((s.opened_engine o).trans (State.workTo_engine _ o 9)).closeWork
  unfold State.beat
  split
  · exact s.follows_refl
  · exact ⟨s.opened_pending o, fun _ => (State.orderly_iff _).mpr ⟨Nat.le_refl 9, by simp⟩, hengine⟩

/-- A boundary's work run to a step before its last keeps the engine as the work found it. -/
theorem State.follows_beatTo (s : State) (o : BeatObs) {n : Nat} (hn : n < 9) : s.Follows (s.beatTo o n) := by
  unfold State.beatTo
  split
  · exact s.follows_refl
  · refine ⟨s.opened_pending o, fun h => ?_, (s.opened_engine o).trans (State.workTo_engine _ o n)⟩
    obtain ⟨hwork, hbefore⟩ := s.opened_orderly o h
    exact (State.orderly_iff _).mpr ⟨by simp only [State.workTo]; omega, fun _ => by simp only [State.workTo]; omega, fun _ => hbefore⟩

theorem State.follows_ite_beatTo (s : State) (due : Bool) (o : BeatObs) {n : Nat} (hn : n < 9) :
    s.Follows (if due then s.beatTo o n else s) := by
  split
  · exact s.follows_beatTo o hn
  · exact s.follows_refl

theorem stepOf_lt (k : Master) : stepOf k < 9 := by cases k <;> decide

theorem State.follows_insertNow (s : State) (apply : Bool) (o : BeatObs) : s.Follows (s.insertNow apply o) := by
  unfold State.insertNow
  split
  · exact s.follows_ite_beatTo _ o (by decide)
  · exact s.follows_refl

/-- A request whose act upholds. -/
theorem State.follows_frame {s t : State} {op : Byte} {q : Req} {act : Mach → Mach × Reply}
    (hact : ∀ x, s.m.Upholds x → s.m.Upholds (act x).1) 
    (h : (.next { s with m := s.m.frame op q act } : Host.Outcome State Fault Refusal) = .next t) : s.Follows t := by
  cases h
  exact s.follows_withEngine ((Mach.Upholds.refl _).frame op q hact)

/-- PARAM_WRITE: the landing, and what step 5 does where no work is to reach it. -/
theorem State.follows_paramWrite {s t : State} (k : Master) (addr : Nat) (v : Word) (h : s.paramWrite k addr v = .next t) :
    s.Follows t := by
  cases h
  have hland : s.m.Upholds (if s.m.stageRefused k addr v then s.m else s.m.behalf (some k) (·.landWrite k addr v)) :=
    .ite (.refl _) (.behalf (.refl _) _ fun _ hx => hx.landWrite k addr v)
  exact s.follows_run (.ite hland (.ite hland.armLanded (hland.recompute s.m []).armLanded))

theorem State.follows_unpinNow {s t : State} (k : Master) (v : Word) (h : s.unpinNow k v = .next t) : s.Follows t := by
  cases h
  have hunpin : s.m.Upholds (if valueOk 5 v then s.m.unpinWrite (some k) s.m.ctl.locks s.m.pval v else s.m) :=
    .ite (.unpinWrite (.refl _) (some k) s.m.ctl.locks s.m.pval v) (.refl _)
  exact s.follows_run (.ite hunpin (hunpin.recompute s.m []))

/-- Every command but those that move reset: a request by what its act upholds, a boundary's command by the boundary, any other by
its operation. The operations that write neither memory nor a parameter, nor move reset or READY, are the last case. -/
theorem exec_follows (c : Instr) (s t : State) (hc : movesReset c = false) (h : exec c s = .next t) : s.Follows t := by
  have hm : s.m.Upholds s.m := .refl _
  cases c with
  | resetRelease | brownoutReset | resetNAssert => simp [movesReset] at hc
  | beat o => cases h; exact s.follows_beat o
  | commitLand k o => cases h; exact s.follows_ite_beatTo _ o (stepOf_lt k)
  | deferredRelease k o => cases h; exact s.follows_ite_beatTo _ o (stepOf_lt k)
  | leaseExpiry n o => cases h; exact s.follows_ite_beatTo _ o (by decide)
  | trimEpochLand o => cases h; exact s.follows_ite_beatTo _ o (by decide)
  | insertApply o => cases h; exact s.follows_insertNow true o
  | insertRemove o => cases h; exact s.follows_insertNow false o
  | nop q | read q | stage q | commit q | abort q | insert q | escTake q | escRenew q | escGive q | status q =>
    exact State.follows_frame (fun x hx => hx.same (by simp)) h
  | undefinedOpcode q op =>
    change (if op.toNat < 10 then _ else _) = _ at h
    split at h
    · cases h; exact s.follows_refl
    · exact State.follows_frame (fun x hx => hx) h
  | paramWrite k a v => exact State.follows_paramWrite k a.toNat v h
  | unpin k v => exact State.follows_unpinNow k v h
  | vaultReadIn bad => cases h; exact s.follows_run (hm.vaultReadIn bad)
  | readyRise => cases h; exact s.follows_run (hm.readyRise)
  | baseConfigTakeIntoUse => cases h; exact s.follows_run (hm.baseTake)
  | acqReadyRise => cases h; exact s.follows_run (hm.acqReadyRise)
  | windowDone ecc => cases h; exact s.follows_run (hm.winDone ecc)
  | quireBoundTakeIntoUse => cases h; exact s.follows_run (hm.takeWaiting)
  | relockRetry => cases h; exact s.follows_run (hm.relockRetry 1)
  | qualificationWindowEnd missing met => cases h; exact s.follows_run (hm.qualWindow missing met)
  | corePllUnlock => cases h; exact s.follows_run (hm.corePllUnlock)
  | coreRelockSwitchback => cases h; exact s.follows_run (.ite (hm.coreSwitchback.trainingStart.same (by simp)) hm)
  | synthUnlock => cases h; exact s.follows_run (hm.synthUnlock)
  | shedEnter r samples => cases h; exact s.follows_run (hm.shedEnter r.val samples)
  | shedExit => cases h; exact s.follows_run (hm.shedExit)
  | pwrRecover => cases h; exact s.follows_run (hm.pwrRecover 1)
  | pwrDomenWrite k v => cases h; exact s.follows_run (.ite hm (hm.landReg 0x501 v))
  | domainUsable d => cases h; exact s.follows_run (hm.domUsable d.val)
  | ddr5TrainingStart => cases h; exact s.follows_run (hm.trainingStart)
  | qreMemretrain => cases h; exact s.follows_run (hm.landReg 0xC43 1)
  | clearingRound obs => cases h; exact s.follows_run (hm.clearingRound obs)
  | qreArm => cases h; exact s.follows_run (.ite hm (.ite (hm.same (by simp)) (hm.qreArm 1)))
  | pendingArm => cases h; exact s.follows_run (hm.pendingArm)
  | qreStop => cases h; exact s.follows_run (.ite hm (hm.qreStop 1))
  | qreFinish => cases h; exact s.follows_run (.ite hm (hm.qreStop 2))
  | folioEnd => cases h; exact s.follows_run (hm.folioEnd)
  | folioHeaderWrite => cases h; exact s.follows_run (hm.headersDue.same (by simp))
  | qreOverflow held => cases h; exact s.follows_run (hm.qreOverflow held)
  | ledgerFolioDone ecc => cases h; exact s.follows_run (hm.ledgerDone ecc)
  | pageClearDone p => cases h; exact s.follows_run (hm.pageCleared p.val)
  | decayPassEnd => cases h; exact s.follows_run (hm.decayEnd)
  | histogramClearDone => cases h; exact s.follows_run (hm.histCleared)
  | writeAck a => cases h; exact s.follows_run (hm.writeAck a)
  | slipPosted c => cases h; exact s.follows_run (hm.slipPosted c.val)
  | write p tag addr data => cases h; exact s.follows_run (hm.writePacket p.val tag addr data)
  | folio p tag data first last => cases h; exact s.follows_run (hm.folioIn p.val tag data first last)
  | spnCtlWrite v => cases h; exact s.follows_run (hm.landReg 0xF00 (v.setWidth 32))
  | scanoutStart => cases h; exact s.follows_run (hm.scanStart)
  | vblank bad => cases h; exact s.follows_run (hm.vblank bad)
  | frameEnd => cases h; exact s.follows_run (hm.frameEnd)
  | n0Start bad => cases h; exact s.follows_run (hm.n0Start bad)
  | flipRequest hi v => cases h; exact s.follows_run (hm.landReg _ v)
  | assayStart v => cases h; exact s.follows_run (hm.assayStart v)
  | assayStop v => cases h; exact s.follows_run (.ite hm (hm.landReg 0x27D0 v))
  | asyCfgWrite j time v => cases h; exact s.follows_run (hm.landReg _ v)
  | isoCtlWrite v => cases h; exact s.follows_run (hm.landReg 0x27F0 v)
  | calCompute => cases h; exact s.follows_run (hm.calCompute)
  | certSeal bad => cases h; exact s.follows_run (hm.certSealed bad)
  | vtrig v idx t => cases h; exact s.follows_run (hm.vtrig v idx t)
  | vstop v atOnce beat => cases h; exact s.follows_run (hm.vstop v atOnce beat)
  | vsyncMark diff => cases h; exact s.follows_run (hm.vsyncMark diff)
  | volumeArm => cases h; exact s.follows_run (hm.volumeArm)
  | volConfigWrite r v => cases h; exact s.follows_run (.ite hm (hm.landReg _ v))
  | logRecordWrite => cases h; exact s.follows_run (hm.logWrite)
  | vaultOpDone o => cases h; exact s.follows_run (hm.vaultDone o.how o.bad)
  | _ => cases h; exact s.follows_run (hm.same (by simp))

/-! ### The resets -/

/-- Entering reset keeps of the memory what the Vault holds, with what the cut records and the failed seal have left there. -/
theorem Mach.enterReset_mem_wf (m : Mach) (cause : BitVec 2) (words : Nat) (w : Memory.wf m.mem = true) :
    Memory.wf (m.enterReset cause words).mem = true := by
  have hm : m.Upholds m := .refl _
  have hcut := ((Mach.Upholds.ite (c := (m.vlt.op.isNone && m.pwr.record.isNone) = true) (hm.recordCut words) hm).sealFails 0).vaultCut words
  exact filter_wf _ _ ((hcut.shedWritten _).mem w)

/-- Leaving reset writes no byte and lands no value. -/
theorem Mach.resetRelease_mem_par (m : Mach) (rails : List (Fin 9 × Nat)) (test : Bool) :
    (m.resetRelease rails test).mem = m.mem ∧ (m.resetRelease rails test).par = m.par := by
  unfold Mach.resetRelease
  dsimp only
  (repeat' split) <;> simp

theorem Mach.resetRelease_awake (m : Mach) (rails : List (Fin 9 × Nat)) (test : Bool) (h : m.boot.inReset = false) :
    m.resetRelease rails test = m := by simp [Mach.resetRelease, h]

/-! ### What a step can do -/

/-- What a step can do: what every command but a reset leaves, reset entered by a command that enters it, or reset left. -/
theorem step_cases {s t : State} (h : step s = .next t) :
    ({ s with pending := s.pending.tail } : State).Follows t ∨
    (∃ c rest, s.pending = c :: rest ∧ entersReset c = true ∧ (∃ cause words, t.m = s.m.enterReset cause words) ∧
      t.work = 9 ∧ t.before = none) ∨
    (∃ rails test, t.m = s.m.resetRelease rails test ∧ t.work = s.work ∧ t.before = s.before) := by
  obtain ⟨pending, m, work, before⟩ := s
  cases pending with
  | nil => cases h; exact .inl (State.follows_withEngine _ (Mach.Upholds.refl m).clock)
  | cons c rest =>
    change exec c ⟨rest, m, work, before⟩ = .next t at h
    cases hc : movesReset c with
    | false => exact .inl (exec_follows c _ t hc h)
    | true =>
      cases c with
      | resetRelease o => cases h; exact .inr (.inr ⟨o.rails, o.test, rfl, rfl, rfl⟩)
      | brownoutReset words => cases h; exact .inr (.inl ⟨_, rest, rfl, rfl, ⟨3, words, rfl⟩, rfl, rfl⟩)
      | resetNAssert words => cases h; exact .inr (.inl ⟨_, rest, rfl, rfl, ⟨2, words, rfl⟩, rfl, rfl⟩)
      | _ => cases hc

theorem State.orderly_congr {s t : State} (hwork : t.work = s.work) (hbefore : t.before = s.before) : t.orderly = s.orderly := by
  rw [State.orderly, State.orderly, hwork, hbefore]

end Sys2Proof.Machine

open Sys2Proof.Machine

/-- Settles O3: a boundary opened has its work to do and the engine kept; the step that ends the work drops it. -/
theorem beatWorkStaysOrderly : Obligations.BeatWorkStaysOrderly := by
  intro s t horderly hstep
  obtain hfollows | ⟨_, _, _, _, _, hwork, hbefore⟩ | ⟨_, _, _, hwork, hbefore⟩ := step_cases hstep
  · exact hfollows.orderly horderly
  · exact (State.orderly_iff t).mpr (by simp [hwork, hbefore])
  · rw [State.orderly_congr hwork hbefore, horderly]

/-- Settles O4: bytes are written and cleared by the operations of the memory alone, each of which keeps its form. -/
theorem memoryStaysCanonical : Obligations.MemoryStaysCanonical := by
  intro s t hwf hstep
  obtain hfollows | ⟨_, _, _, _, ⟨cause, words, hm⟩, _⟩ | ⟨rails, test, hm, _⟩ := step_cases hstep
  · exact hfollows.engine.mem hwf
  · rw [hm]; exact s.m.enterReset_mem_wf cause words hwf
  · rw [hm, (s.m.resetRelease_mem_par rails test).1]; exact hwf

/-- Settles O5: values land through the parameter store's own write, and a reset empties it. -/
theorem parametersStayCanonical : Obligations.ParametersStayCanonical := by
  intro s t hwf hstep
  obtain hfollows | ⟨_, _, _, _, ⟨cause, words, hm⟩, _⟩ | ⟨rails, test, hm, _⟩ := step_cases hstep
  · exact hfollows.engine.par hwf
  · rw [hm]; rfl
  · rw [hm, (s.m.resetRelease_mem_par rails test).2]; exact hwf

/-- Settles O7: no operation lowers READY or enters reset, and leaving reset does nothing to an engine that is out of it. -/
theorem onlyResetEndsReady : Obligations.OnlyResetEndsReady := by
  intro s t hawake hready hnoReset hstep
  obtain hfollows | ⟨c, rest, hc, henters, _⟩ | ⟨rails, test, hm, _⟩ := step_cases hstep
  · exact ⟨hfollows.engine.inReset.trans hawake, hfollows.engine.ready hready⟩
  · rw [hnoReset c rest hc] at henters; cases henters
  · rw [State.awake, hm, s.m.resetRelease_awake rails test hawake]; exact ⟨hawake, hready⟩
end

section
/-! SUPPORT. The queue, the state after reset and the engine in reset; the response frame; the pending time action, and the
statements about them (R82 to R84, R100, R135, R139, R140, R143, R253). -/

namespace Sys2Proof.Machine

/-! ### Every command completes -/

theorem exec_undefinedOpcode (q : Req) (op : Byte) (s : State) :
    exec (.undefinedOpcode q op) s = .next (if op.toNat < 10 then s else { s with m := s.m.frame op q fun m => (m, { code := 4, addr := q.addr }) }) := by
  change (if op.toNat < 10 then _ else _) = _
  split <;> rfl

theorem exec_completes (c : Instr) (s : State) : ∃ t, exec c s = .next t := by
  cases c with
  | undefinedOpcode q op => exact ⟨_, exec_undefinedOpcode q op s⟩
  | _ => exact ⟨_, rfl⟩

theorem exec_pending {c : Instr} {s t : State} (h : exec c s = .next t) : t.pending = s.pending := by
  cases hc : movesReset c with
  | false => exact (exec_follows c s t hc h).pending
  | true =>
    cases c with
    | resetRelease | brownoutReset | resetNAssert => cases h; rfl
    | _ => cases hc

/-! ### In reset -/

theorem State.beatTo_inReset (s : State) (o : BeatObs) (n : Nat) (h : s.m.boot.inReset = true) : s.beatTo o n = s := if_pos h

theorem State.insertNow_inReset (s : State) (apply : Bool) (o : BeatObs) (h : s.m.boot.inReset = true) : s.insertNow apply o = s := by
  unfold State.insertNow
  rw [s.beatTo_inReset o 2 h]
  split
  · exact ite_self s
  · rfl

theorem State.frame_inReset (s : State) (op : Byte) (q : Req) (act : Mach → Mach × Reply) (h : s.m.boot.inReset = true) :
    ({ s with m := s.m.frame op q act } : State) = s := by rw [Mach.frame, if_pos h]

theorem State.run_eq_self (s : State) {m : Mach} (h : s.m.boot.inReset = true) :
    ({ s with m := if s.m.boot.inReset then s.m else m } : State) = s := congrArg s.withEngine (if_pos h)

/-- A command acts on an engine out of reset: a request, a boundary's command and any other alike. -/
theorem exec_inReset {c : Instr} {s t : State} (h : s.m.boot.inReset = true) (hc : movesReset c = false)
    (hexec : exec c s = .next t) : t = s := by
  have hwork (due : Bool) (o : BeatObs) (n : Nat) : (if due then s.beatTo o n else s) = s := by
    rw [s.beatTo_inReset o n h, ite_self]
  cases c with
  | resetRelease | brownoutReset | resetNAssert => cases hc
  | beat o => cases hexec; exact if_pos h
  | commitLand k o | deferredRelease k o | leaseExpiry n o | trimEpochLand o => cases hexec; exact hwork _ o _
  | insertApply o => cases hexec; exact s.insertNow_inReset true o h
  | insertRemove o => cases hexec; exact s.insertNow_inReset false o h
  | nop q | read q | stage q | commit q | abort q | insert q | escTake q | escRenew q | escGive q | status q =>
    cases hexec; exact s.frame_inReset _ q _ h
  | undefinedOpcode q op =>
    rw [exec_undefinedOpcode, s.frame_inReset op q _ h, ite_self] at hexec
    cases hexec; rfl
  | _ => cases hexec; exact s.run_eq_self h

/-! ### The response frame -/

theorem responseFrame_toNat (stat : Byte) (a : BitVec 16) (v : Word) :
    (responseFrame stat a v).toNat = (crc8 [stat, a.extractLsb' 8 8, a.extractLsb' 0 8, v.extractLsb' 24 8, v.extractLsb' 16 8,
      v.extractLsb' 8 8, v.extractLsb' 0 8]).toNat + 2 ^ 8 * v.toNat + 2 ^ 40 * a.toNat + 2 ^ 56 * stat.toNat := by
  have hbytes : stat :: (leBytes a.toNat 2).reverse ++ (leBytes v.toNat 4).reverse = [stat, a.extractLsb' 8 8, a.extractLsb' 0 8,
      v.extractLsb' 24 8, v.extractLsb' 16 8, v.extractLsb' 8 8, v.extractLsb' 0 8] := by
    simp [leBytes, BitVec.extractLsb', Nat.shiftRight_eq_div_pow, Nat.div_div_eq_div_mul]
  rw [responseFrame, hbytes]
  generalize crc8 _ = crc
  simp [leNat, Nat.shiftRight_eq_div_pow]
  omega

theorem responseFrame_fields (stat : Byte) (a : BitVec 16) (v : Word) :
    (responseFrame stat a v).extractLsb' 56 8 = stat ∧ (responseFrame stat a v).extractLsb' 40 16 = a ∧
    (responseFrame stat a v).extractLsb' 8 32 = v ∧
    (responseFrame stat a v).extractLsb' 0 8 = crc8 [stat, a.extractLsb' 8 8, a.extractLsb' 0 8, v.extractLsb' 24 8, v.extractLsb' 16 8,
      v.extractLsb' 8 8, v.extractLsb' 0 8] := by
  have hframe := responseFrame_toNat stat a v
  generalize crc8 _ = crc at hframe ⊢
  generalize responseFrame stat a v = f at hframe ⊢
  refine ⟨?_, ?_, ?_, ?_⟩ <;> apply BitVec.eq_of_toNat_eq <;> rw [BitVec.extractLsb'_toNat, hframe, Nat.shiftRight_eq_div_pow] <;> omega

theorem Mach.answered_spi (m : Mach) {q : Req} (r : Reply) {sck early : Nat} {crc : Byte} (h : q.via = .spi sck crc early) :
    m.answered q r = { m with flt := { m.flt with origin := none }, ctl := { m.ctl with port := { m.ctl.port with
      code := BitVec.ofNat 4 r.code, addr := r.addr, data := r.data } } } := by
  rw [Mach.answered, h]
  rfl

end Sys2Proof.Machine

open Sys2Proof.Machine

/-- Settles O1: by the two forms of the queue. -/
theorem stepTakesTheFrontCommand : Obligations.StepTakesTheFrontCommand := by
  refine ⟨fun c rest s h => ?_, fun s h => ?_⟩
  · rw [step, h]
  · rw [step, h]

/-- Settles O2: an empty parameter store and an empty memory read as the reset values. -/
theorem resetLeavesTheResetValues : Obligations.ResetLeavesTheResetValues :=
  ⟨rfl, rfl, fun _ => ⟨rfl, rfl⟩, rfl, rfl, rfl, rfl, by decide, by decide, fun _ => rfl, rfl⟩

/-- Settles O9: each kind of command tests reset before it acts. -/
theorem nothingActsInReset : Obligations.NothingActsInReset := fun c s h hc =>
  let ⟨t, ht⟩ := exec_completes c s
  ht.trans (congrArg _ (exec_inReset h hc ht))

/-- Settles O10: each command answers a next state, by what commands leave. -/
theorem everyCommandCompletes : Obligations.EveryCommandCompletes := fun c s =>
  let ⟨t, ht⟩ := exec_completes c s
  ⟨t, ht, exec_pending ht⟩

/-- Settles O23: the frame is the bytes of its fields with their CRC-8 last. -/
theorem responseFollowsInTheNextFrame : Obligations.ResponseFollowsInTheNextFrame :=
  ⟨fun _ _ => rfl, responseFrame_fields, fun m _ r _ _ _ h => m.answered_spi r h⟩

/-- Settles O26: a request sets or drops the action on an engine that is no member, and TIME_STEP takes it with no quire running. -/
theorem timeActionsAreSetAndTaken : Obligations.TimeActionsAreSetAndTaken := by
  refine ⟨fun s hawake hmember => ?_, fun s hmember => ?_, fun ns s hawake haction => ?_⟩
  · have hrun (f : Mach → Mach) : s.run (fun m => if m.isMember then m else f m) = .next (s.withEngine (f s.m)) := by
      rw [run_awake s _ hawake, hmember]; rfl
    exact ⟨hrun (·.setArm 1), hrun (·.setArm 2), fun v => hrun (·.adjRequest v)⟩
  · have hrun (f : Mach → Mach) : s.run (fun m => if m.isMember then m else f m) = .next s := by
      simp [State.run, hmember]
    exact ⟨hrun (·.setArm 1), hrun (·.setArm 2), fun v => hrun (·.adjRequest v)⟩
  · have hrun : exec .timeStep s = .next (s.withEngine s.m.timeStep) := run_awake s _ hawake
    rw [hrun, Mach.timeStep, haction]
    exact ⟨fun hidle => by simp [hidle, uNs], fun hrunning => by simp [hrunning]⟩
end

section
/-! SUPPORT. Entering reset and opening a boundary, and the statements about them (R7, R15, R75, R101, R124, R253, R255). -/

namespace Sys2Proof.Machine

/-! ### Entering reset -/

/-- With nothing of the Vault in progress a reset cuts nothing. -/
theorem Mach.enterReset_of_idle (m : Mach) (cause : BitVec 2) (words : Nat) (hop : m.vlt.op = none) (hseal : m.cal.sealing = none)
    (hrecord : m.pwr.record = none) (hqueue : m.flt.found = false ∨ m.flt.queue = []) :
    m.enterReset cause words =
      { vlt := { nv := m.vlt.nv }, boot := { cause }, mem := m.mem.filter fun c => decide (vaultBase ≤ c.1) } := by
  have hcut : m.recordCut words = m := by
    obtain h | h := hqueue <;> simp [Mach.recordCut, h]
  simp [Mach.enterReset, hop, hrecord, hcut, Mach.sealFails, hseal, Mach.vaultCut, Mach.shedWritten]

/-- What a reset leaves, on every engine. -/
theorem Mach.enterReset_eq (m : Mach) (cause : BitVec 2) (words : Nat) :
    m.enterReset cause words = { vlt := { nv := (m.enterReset cause words).vlt.nv }, boot := { cause }, mem := (m.enterReset cause words).mem } := rfl

theorem Mach.readByte_enterReset_below (m : Mach) (cause : BitVec 2) (words : Nat) {a : Nat} (ha : a < vaultBase) :
    readByte (m.enterReset cause words).mem a = memDefault a := by
  unfold Mach.enterReset
  rw [readByte, sget_filter memDefault (fun k => decide (vaultBase ≤ k)), if_neg (by simpa using ha)]

theorem Mach.readByte_enterReset_vault {m : Mach} (cause : BitVec 2) (words : Nat) (hop : m.vlt.op = none)
    (hseal : m.cal.sealing = none) (hrecord : m.pwr.record = none) (hqueue : m.flt.found = false ∨ m.flt.queue = []) {a : Nat}
    (ha : vaultBase ≤ a) : readByte (m.enterReset cause words).mem a = readByte m.mem a := by
  rw [m.enterReset_of_idle cause words hop hseal hrecord hqueue, readByte, sget_filter memDefault (fun k => decide (vaultBase ≤ k)),
    if_pos (by simpa using ha), readByte]

/-- What the statement asks of the state that a reset with a cause leaves. -/
theorem State.entersReset_keeps_vault (s : State) (cause : BitVec 2) (words : Nat) :
    ∃ t, (.next { s with m := s.m.enterReset cause words, work := 9, before := none } : Host.Outcome State Fault Refusal) = .next t ∧
      t.pending = s.pending ∧ t.work = 9 ∧ t.before = none ∧
      t.m = { vlt := { nv := t.m.vlt.nv }, boot := { inReset := true, cause }, mem := t.m.mem } ∧
      (∀ a, a < vaultBase → readByte t.m.mem a = memDefault a) ∧
      (s.m.vlt.op = none → s.m.cal.sealing = none → s.m.pwr.record = none → (s.m.flt.found = false ∨ s.m.flt.queue = []) →
        t.m.vlt.nv = s.m.vlt.nv ∧ ∀ a, vaultBase ≤ a → readByte t.m.mem a = readByte s.m.mem a) := by
  refine ⟨_, rfl, rfl, rfl, rfl, s.m.enterReset_eq cause words, fun a => s.m.readByte_enterReset_below cause words, ?_⟩
  intro hop hseal hrecord hqueue
  exact ⟨congrArg (·.vlt.nv) (s.m.enterReset_of_idle cause words hop hseal hrecord hqueue),
    fun a => Mach.readByte_enterReset_vault cause words hop hseal hrecord hqueue⟩

/-! ### The counterexample to O13's clause on memory -/

/-- An engine whose shed record waits for the beat boundary that ends its write (log 20). -/
def shedRecordPending : Mach := { pwr.record := some ([1], []) }

/-- The boundary ends the write of the record, in the Vault's ring of shed records. -/
theorem openBeat_shedRecordPending_mem_ne : (shedRecordPending.openBeat {}).mem ≠ shedRecordPending.mem := by decide

end Sys2Proof.Machine

open Sys2Proof.Machine

/-- Settles O11: both resets enter it the same way, each with its cause. -/
theorem resetKeepsOnlyTheVault : Obligations.ResetKeepsOnlyTheVault :=
  ⟨fun w s => s.entersReset_keeps_vault 3 w, fun w s => s.entersReset_keeps_vault 2 w⟩

/-- Refutes O13: its clause on opening a boundary has the memory unchanged, but the boundary writes the shed record in progress into
the Vault. -/
theorem not_beatRunsItsStepsInOrder : ¬ Obligations.BeatRunsItsStepsInOrder := by
  intro h
  obtain ⟨_, hopen, _⟩ := h
  obtain ⟨_, _, hmem⟩ := hopen shedRecordPending {}
  exact openBeat_shedRecordPending_mem_ne hmem
end

section
/-! SUPPORT. Which commit a master's step takes, a written word landing alone and an unpin, and the statements about them (R9, R39, R42,
R176, R178, R179, R181). -/

namespace Sys2Proof.Machine

/-! ### Sessions -/

@[simp] theorem Mach.session_setSession (m : Mach) (k : Master) (x : Session) : (m.setSession k x).session k = x := by
  cases k <;> rfl

@[simp] theorem Mach.session_setSession_other (m : Mach) (k : Master) (x : Session) :
    (m.setSession k x).session (Master.other k) = m.session (Master.other k) := by cases k <;> rfl

/-- The result of the latest commit sealed shows in the session (R154). -/
theorem Mach.session_noteResult {m : Mach} {k : Master} {c : Commit} (r : CRes) (h : (m.session k).count = c.num) :
    (m.noteResult k c r).session k = { m.session k with cres := r } := by
  rw [Mach.noteResult, if_pos h]
  cases k <;> rfl

@[simp] theorem Mach.noteResult_qre (m : Mach) (k : Master) (c : Commit) (r : CRes) : (m.noteResult k c r).qre = m.qre := by
  unfold Mach.noteResult
  dsimp only
  split <;> split <;> simp

/-! ### A master's step -/

/-- The engine with what the SPI master's step writes noted for the host's check 4 (R183). -/
def Mach.noteWrites (m before : Mach) (k : Master) : Mach :=
  if k == .spi then { m with ctl := { m.ctl with spiWrote := (m.passing before .spi).map (·.1) } } else m

@[simp] theorem Mach.session_noteWrites (m before : Mach) (k : Master) : (m.noteWrites before k).session k = m.session k := by
  cases k <;> rfl

theorem Mach.noteWrites_keeps (m before : Mach) (k : Master) :
    (m.noteWrites before k).par = m.par ∧ (m.noteWrites before k).mem = m.mem ∧ (m.noteWrites before k).qre = m.qre ∧
    (m.noteWrites before k).pwr = m.pwr := by
  cases k <;> exact ⟨rfl, rfl, rfl, rfl⟩

/-- The commit that a step takes goes through its checks; one still due then is deferred or refused. -/
def Mach.stepTaken (m before : Mach) (k : Master) (other : List Nat) (annexBad : Bool) : Mach :=
  let s := m.session k
  let m2 := match m.taken before k with
    | some c =>
      let left := if s.deferred.head? == some c then { s with deferred := s.deferred.drop 1 } else { s with due := none }
      (m.setSession k left).landCommit before k other annexBad c
    | none => m
  match (m2.session k).due with
  | some c => m2.deferCommit k c
  | none => m2

/-- A master's step whose staging area holds no uncorrectable error. -/
theorem Mach.commitStep_of_intact (m before : Mach) {k : Master} {o : BeatObs} (hgood : o.badStage.contains k = false) :
    m.commitStep before k o =
      (m.noteWrites before k).stepTaken before k (if k == .host then m.ctl.spiWrote else []) o.annexBad := by
  unfold Mach.commitStep
  rw [hgood]
  rfl

/-- A whole-commit check that fails (R176 check 3). -/
theorem Mach.landCommit_of_refused {m before : Mach} {k : Master} {c : Commit} (other : List Nat) (annexBad : Bool)
    (h : before.commitRefused k c.changes = true) : m.landCommit before k other annexBad c = m.noteResult k c { code := 4 } := if_pos h

/-- A commit due is taken where nothing of its master is deferred and ACQ_READY is high as the work starts. -/
theorem Mach.taken_of_due {m before : Mach} {k : Master} {c : Commit} (hdue : (m.session k).due = some c)
    (hdef : (m.session k).deferred = []) (hbefore : (before.session k).deferred = []) (hready : before.boot.acqReady = true) :
    m.taken before k = some c := by
  simp [Mach.taken, hdue, hdef, hbefore, hready]

/-- A commit due that touches an acquisition block is not taken before ACQ_READY. -/
theorem Mach.taken_of_notReady {m before : Mach} {k : Master} {c : Commit} (hdue : (m.session k).due = some c)
    (hready : before.boot.acqReady = false) (hstage : m.pwr.stage < 6) (hacq : c.changes.any (fun e => touchesAcq e.1) = true) :
    m.taken before k = none := by
  simp only [Mach.taken, hready, Bool.false_and, Bool.false_eq_true, if_false, hdue, Bool.not_false, Bool.true_and, hacq, Bool.or_true,
    decide_eq_true hstage, Bool.and_self, if_true]

/-- A commit that the step takes and a check refuses leaves its session with its result alone. -/
theorem Mach.stepTaken_of_refused {m before : Mach} {k : Master} {c : Commit} (other : List Nat) (annexBad : Bool)
    (htaken : m.taken before k = some c) (hdef : (m.session k).deferred = []) (hrefused : before.commitRefused k c.changes = true)
    (hcount : (m.session k).count = c.num) :
    m.stepTaken before k other annexBad = (m.setSession k { m.session k with due := none }).noteResult k c { code := 4 } := by
  have hleft : (((m.setSession k { m.session k with due := none }).noteResult k c { code := 4 }).session k).due = none := by
    rw [Mach.session_noteResult _ (by simpa using hcount)]; simp
  have hhead : ((m.session k).deferred.head? == some c) = false := by rw [hdef]; rfl
  simp only [Mach.stepTaken, htaken, hhead, Bool.false_eq_true, if_false, Mach.landCommit_of_refused _ _ hrefused, hleft]

theorem Mach.stepTaken_of_due {m before : Mach} {k : Master} {c : Commit} (other : List Nat) (annexBad : Bool)
    (htaken : m.taken before k = none) (hdue : (m.session k).due = some c) :
    m.stepTaken before k other annexBad = m.deferCommit k c := by
  simp [Mach.stepTaken, htaken, hdue]

theorem Mach.session_deferCommit_of_room {m : Mach} {k : Master} {c : Commit} (hroom : (m.session k).deferred.length < 16)
    (hcount : (m.session k).count = c.num) : (m.deferCommit k c).session k =
      { m.session k with due := none, deferred := (m.session k).deferred ++ [c], cres := { code := 7, busy := true } } := by
  rw [Mach.deferCommit, if_neg (by omega), Mach.session_noteResult _ (by simpa using hcount), Mach.session_setSession]

theorem Mach.session_deferCommit_of_full {m : Mach} {k : Master} {c : Commit} (hfull : 16 ≤ (m.session k).deferred.length)
    (hcount : (m.session k).count = c.num) : (m.deferCommit k c).session k =
      { m.session k with due := none, refused := (m.session k).refused + 1, cres := { code := 4 } } := by
  rw [Mach.deferCommit, if_pos hfull, Mach.session_noteResult _ (by simpa using hcount), Mach.session_setSession]

@[simp] theorem Mach.deferCommit_par (m : Mach) (k : Master) (c : Commit) : (m.deferCommit k c).par = m.par := by
  unfold Mach.deferCommit
  dsimp only
  split <;> simp

/-! ### A plain word landing alone -/

/-- A row of plain RW words, taken into use at once. -/
structure PRow.Plain (r : PRow) : Prop where
  acc : r.acc = .rw
  cls : r.cls = .beat

/-- `TRG.DESKEW_1` to `TRG.DESKEW_4` and `TRG.DESKEW_A` are plain. -/
theorem rowOf_deskew_plain {a : Nat} (hlo : 0xA10 ≤ a) (hhi : a ≤ 0xA14) : ∃ r, rowOf a = some r ∧ r.Plain := by
  have ha : a = 0xA10 ∨ a = 0xA11 ∨ a = 0xA12 ∨ a = 0xA13 ∨ a = 0xA14 := by omega
  obtain rfl | rfl | rfl | rfl | rfl := ha <;> exact ⟨_, rfl, rfl, rfl⟩

/-- No whole-commit check is about them. -/
theorem Mach.commitRefused_deskew (m : Mach) (k : Master) {a : Nat} (v : Word) (hlo : 0xA10 ≤ a) (hhi : a ≤ 0xA14) :
    m.commitRefused k [(a, v)] = false := by
  have hne (b : Nat) (h : b < 0xA10 ∨ 0xA14 < b) : List.lookup b [(a, v)] = none := by
    rw [List.lookup_cons, beq_false_of_ne (by omega)]; rfl
  simp [Mach.commitRefused, Mach.armRefused, arms, writesAny, Mach.volRefused, Mach.withChanges, hne, Mach.volOn, bitOf]
  omega

theorem Mach.stageRefused_deskew (m : Mach) (k : Master) {a : Nat} (v : Word) (hlo : 0xA10 ≤ a) (hhi : a ≤ 0xA14) :
    m.stageRefused k a v = false := by
  simp [Mach.stageRefused]
  omega

theorem Mach.landOne_deskew (m : Mach) (k : Option Master) {a : Nat} (v : Word) (hlo : 0xA10 ≤ a) (hhi : a ≤ 0xA14) :
    m.landOne k a v = m.pset a v := by
  obtain ⟨r, hrow, hplain⟩ := rowOf_deskew_plain hlo hhi
  have hland : m.land a v = m.pset a v := by rw [Mach.land, hrow]; simp only [hplain.cls]
  unfold Mach.landOne
  simp only [hland]
  repeat rw [if_neg (by omega)]

theorem Mach.pin_of_not_rwp {m : Mach} {a : Nat} (h : isRwp a = false) : m.pin a = m := if_neg (by simp [h])

theorem Mach.takeUse_nil {m : Mach} (h : m.dec.waiting = false) : m.takeUse [] = m := if_pos (by simp [h])

theorem Mach.landValues_deskew (m : Mach) (k : Option Master) {a : Nat} (v : Word) (hlo : 0xA10 ≤ a) (hhi : a ≤ 0xA14)
    (hwaiting : m.dec.waiting = false) : m.landValues k true [(a, v)] = (m.pset a v).serve := by
  obtain ⟨r, hrow, hplain⟩ := rowOf_deskew_plain hlo hhi
  have hpin : isRwp a = false := by simp [isRwp, hrow, hplain.acc]
  have hbound : quireBound a = false := by simp [quireBound, hrow, hplain.cls]
  have hdsp : ¬ (0x2600 ≤ a) := by omega
  simp only [Mach.landValues, List.map_cons, List.map_nil, List.filter_cons, List.filter_nil, hbound, hdsp, decide_false, Bool.false_and,
    Bool.false_eq_true, if_false, List.any_nil, List.foldl_cons, List.foldl_nil, m.landOne_deskew k v hlo hhi, if_true,
    Mach.pin_of_not_rwp hpin, List.isEmpty_nil]
  rw [Mach.takeUse_nil (m := m.pset a v) hwaiting]

/-- One written: it becomes current. -/
theorem Mach.landWrite_deskew (m : Mach) (k : Master) {a : Nat} {v : Word} (hlo : 0xA10 ≤ a) (hhi : a ≤ 0xA14)
    (hok : valueOk a v = true) (hwaiting : m.dec.waiting = false) :
    (m.landWrite k a v).par = (m.pset a v).par ∧ (m.landWrite k a v).mem = m.mem := by
  obtain ⟨r, hrow, hplain⟩ := rowOf_deskew_plain hlo hhi
  have hvalue : holdsValue a = true := by simp [holdsValue, hrow, hplain.acc]
  have hne (b : Nat) (h : b < 0xA10) : List.lookup b [(a, v)] = none := by
    rw [List.lookup_cons, beq_false_of_ne (by omega)]; rfl
  have hlast : landsLast a = false := by simp [landsLast]; omega
  have hnow : m.noteNow.dec.waiting = false := by simpa using hwaiting
  simp [Mach.landWrite, hok, m.commitRefused_deskew k v hlo hhi, Mach.landChanges, hne, hvalue, hlast,
    m.noteNow.landValues_deskew (some k) v hlo hhi hnow, Mach.pset]

/-! ### Unpinning -/

theorem Mach.pinned_unpin (m : Mach) (a b : Nat) : (m.unpin a).pinned b = (m.pinned b && decide (b ≠ a)) := by
  simp [Mach.pinned, Mach.unpin, List.contains_eq_mem, Bool.decide_and]

/-- An unpin of one address that no lock of the other master covers. -/
theorem Mach.unpinWrite_one (m : Mach) (k : Master) (locks : Vector Lock 8) (val : Nat → Word) {v : Word} (hrwp : isRwp v.toNat = true)
    (hfree : coverOwner locks val v.toNat ≠ some (Master.other k)) : m.unpinWrite (some k) locks val v =
      { m.unpin v.toNat with ctl := { m.ctl with unpinned := addAddr m.ctl.unpinned v.toNat } } := by
  have hrow : v.toNat ≠ 0xFFFF := fun h => by rw [h] at hrwp; exact absurd hrwp (by decide)
  unfold Mach.unpinWrite
  dsimp only
  rw [if_neg hrow, if_pos]
  · rfl
  · rw [hrwp, Bool.true_and]
    generalize coverOwner locks val v.toNat = owner at hfree
    cases owner with
    | none => rfl
    | some h =>
      cases h <;> cases k
      · rfl
      · exact absurd rfl hfree
      · exact absurd rfl hfree
      · rfl

end Sys2Proof.Machine

open Sys2Proof.Machine

/-- Settles O16: by what a step does with the commit it takes, and with one still due. -/
theorem commitsAreRefusedOrDeferred : Obligations.CommitsAreRefusedOrDeferred := by
  refine ⟨fun m b k o c hdue hdef hbdef hready hgood hcount hrefused => ?_, fun m b k o c hdue hready hstage hacq hgood hcount => ?_⟩
  · obtain ⟨hpar, hmem, hqre, _⟩ := m.noteWrites_keeps b k
    have htaken : (m.noteWrites b k).taken b k = some c := Mach.taken_of_due (by simpa using hdue) (by simpa using hdef) hbdef hready
    rw [m.commitStep_of_intact b hgood, Mach.stepTaken_of_refused _ _ htaken (by simpa using hdef) hrefused (by simpa using hcount),
      Mach.session_noteResult _ (by simpa using hcount)]
    simp [hpar, hmem, hqre]
  · obtain ⟨hpar, _, _, hpwr⟩ := m.noteWrites_keeps b k
    have htaken : (m.noteWrites b k).taken b k = none :=
      Mach.taken_of_notReady (by simpa using hdue) hready (by simpa [hpwr] using hstage) hacq
    have hx : (m.noteWrites b k).session k = m.session k := m.session_noteWrites b k
    rw [m.commitStep_of_intact b hgood, Mach.stepTaken_of_due _ _ htaken (by simpa using hdue)]
    refine ⟨fun hroom => ?_, fun hfull => ?_, by simp [hpar]⟩
    · rw [Mach.session_deferCommit_of_room (by rwa [hx]) (by rwa [hx]), hx]
    · rw [Mach.session_deferCommit_of_full (by rwa [hx]) (by rwa [hx]), hx]

/-- Settles O17: a plain word lands as its stored value alone; an unpin takes one address from the pins. -/
theorem writesLandAndPinsRelease : Obligations.WritesLandAndPinsRelease := by
  refine ⟨fun k a v s hawake hwork hlo hhi hok hwaiting hwf => ?_, fun k v s hawake hwork hok hrwp hfree => ?_⟩
  · have hrun : exec (.paramWrite k a v) s = .next { s with m := s.m.behalf (some k) (·.landWrite k a.toNat v) } := by
      change s.paramWrite k a.toNat v = _
      rw [State.paramWrite, run_awake s _ hawake]
      simp [s.m.stageRefused_deskew k v hlo hhi, hwork]
    obtain ⟨hpar, hmem⟩ := Mach.landWrite_deskew { s.m with flt := { s.m.flt with origin := some k } } k hlo hhi hok hwaiting
    have hval (b : Nat) : (s.m.behalf (some k) (·.landWrite k a.toNat v)).pval b = (s.m.pset a.toNat v).pval b :=
      congrArg (fun p : Params => sget resetOf p.landed b) hpar
    refine ⟨_, hrun, rfl, ?_, fun b hb => ?_, congrArg (·.pins) hpar, hmem⟩
    · rw [hval, pval_pset s.m _ _ v hwf, if_pos rfl]
    · rw [hval, pval_pset s.m _ _ v hwf, if_neg hb]
  · have hrun : exec (.unpin k v) s = .next { s with m := s.m.unpinWrite (some k) s.m.ctl.locks s.m.pval v } := by
      change s.unpinNow k v = _
      rw [State.unpinNow, run_awake s _ hawake]
      simp [hok, hwork]
    rw [s.m.unpinWrite_one k _ _ hrwp hfree] at hrun
    refine ⟨_, hrun, rfl, fun b hb => ?_, ?_, rfl⟩
    · exact (s.m.pinned_unpin v.toNat b).trans (by simp [hb])
    · exact (s.m.pinned_unpin v.toNat v.toNat).trans (by simp)
end

section
/-! SUPPORT. What an event shows in the control port; admitted READ, STATUS, ABORT, STAGE and COMMIT requests, and the statements about
them (R18, R20, R144 to R159, R745, R746, R762). -/

namespace Sys2Proof.Machine

/-! ### Events in the control port -/

/-- The sealed commits with the raises of these classes noted. -/
def Session.noteRaises (x : Session) (classes : List Nat) : Session := classes.foldl Session.noteRaise x

/-- Both masters' sealed commits with the raises of these classes noted. -/
def Ctl.noteRaises (c : Ctl) (classes : List Nat) : Ctl := { c with spi := c.spi.noteRaises classes, host := c.host.noteRaises classes }

/-- Of a session a raise leaves all but its sealed commits. -/
theorem Session.noteRaises_keeps (x : Session) (classes : List Nat) :
    (x.noteRaises classes).staging = x.staging ∧ (x.noteRaises classes).count = x.count ∧
    (x.noteRaises classes).refused = x.refused ∧ (x.noteRaises classes).cres = x.cres ∧ (x.noteRaises classes).disc = x.disc ∧
    (x.noteRaises classes).commit.isSome = x.commit.isSome ∧ (x.noteRaises classes).due.isSome = x.due.isSome := by
  unfold Session.noteRaises
  induction classes generalizing x with
  | nil => simp
  | cons c cs ih => simpa [Session.noteRaise] using ih (x.noteRaise c)

/-- Without a sealed commit no raise shows. -/
theorem Session.noteRaises_of_none {x : Session} (classes : List Nat) (hcommit : x.commit = none) (hdue : x.due = none)
    (hdef : x.deferred = []) : x.noteRaises classes = x := by
  unfold Session.noteRaises
  induction classes with
  | nil => rfl
  | cons c cs ih =>
    have hx : x.noteRaise c = x := by
      obtain ⟨_, _, _, _, _⟩ := x
      cases hcommit; cases hdue; cases hdef; rfl
    rw [List.foldl_cons, hx, ih]

theorem Mach.raiseOf_ctl (m : Mach) (cls : Option Nat) (code seq : Nat) : (m.raiseOf cls code seq).ctl = m.ctl.noteRaises cls.toList := by
  cases cls with
  | none => rfl
  | some c => exact m.raise_ctl c code seq

theorem Ctl.noteRaises_append (c : Ctl) (as bs : List Nat) : (c.noteRaises as).noteRaises bs = c.noteRaises (as ++ bs) := by
  simp [Ctl.noteRaises, Session.noteRaises]

theorem Mach.flushDropped_ctl (m : Mach) : m.flushDropped.ctl = m.ctl := by
  unfold Mach.flushDropped
  (repeat' split) <;> simp [Mach.queueRec]

/-- An event shows in the control port as raises of its class and, where it is dropped, of class LOG (R745, R756). -/
theorem Mach.logEvent_ctl (m : Mach) (plane : Plane) (code a b : Nat) (origin : Option Master) (cls : Option Nat) :
    ∃ classes, (m.logEvent plane code a b origin cls).ctl = m.ctl.noteRaises classes := by
  unfold Mach.logEvent
  extract_lets m0 m1 m2
  have h0 : m0.ctl = m.ctl := m.flushDropped_ctl
  split
  · refine ⟨cls.toList, ?_⟩
    rw [Mach.raiseOf_ctl]
    simp [Mach.queueRec, h0]
  · have h1 : m1.ctl = m.ctl.noteRaises cls.toList := by rw [← h0]; exact m0.raiseOf_ctl cls code 0
    dsimp only [m2]
    split
    · refine ⟨cls.toList ++ [10], ?_⟩
      rw [← Ctl.noteRaises_append, ← h1]
      exact m1.raise_ctl 10 0x0002 0
    · exact ⟨cls.toList, h1⟩

theorem Mach.logEvent_session (m : Mach) (plane : Plane) (code a b : Nat) (origin : Option Master) (cls : Option Nat) :
    ∃ classes, (m.logEvent plane code a b origin cls).ctl.keep = m.ctl.keep ∧
      ∀ k, (m.logEvent plane code a b origin cls).session k = (m.session k).noteRaises classes := by
  obtain ⟨classes, h⟩ := m.logEvent_ctl plane code a b origin cls
  refine ⟨classes, by rw [h]; rfl, fun k => ?_⟩
  cases k <;> simp only [Mach.session, h] <;> rfl

/-! ### Admitted requests -/

section
variable {q : Req} {s : State} {r : Mach} {a : Reply}

/-- A request that is admitted is its act on the engine that took it, answered. -/
theorem State.frame_of_admits {op : Byte} {act : Mach → Mach × Reply} (hawake : s.awake) (hadmits : s.m.admits op q = true)
    (hact : act (s.m.received q) = (r, a)) :
    (.next { s with m := s.m.frame op q act } : Host.Outcome State Fault Refusal) = .next (s.withEngine (r.answered q a)) :=
  congrArg (fun m => Host.Outcome.next (s.withEngine m)) (Mach.frame_of_admits hawake hadmits hact)

theorem exec_nop (hawake : s.awake) (hadmits : s.m.admits 0x00 q = true) :
    exec (.nop q) s = .next (s.withEngine ((s.m.received q).answered q { code := 0, addr := q.addr })) :=
  State.frame_of_admits hawake hadmits rfl

theorem exec_read (hawake : s.awake) (hadmits : s.m.admits 0x01 q = true)
    (hact : (s.m.received q).readParam s.view (Via.master q.via) q = (r, a)) : exec (.read q) s = .next (s.withEngine (r.answered q a)) :=
  State.frame_of_admits hawake hadmits hact

theorem exec_stage (hawake : s.awake) (hadmits : s.m.admits 0x02 q = true)
    (hact : (s.m.received q).stage s.view (Via.master q.via) q = (r, a)) : exec (.stage q) s = .next (s.withEngine (r.answered q a)) :=
  State.frame_of_admits hawake hadmits hact

theorem exec_commit {bad : Bool} (hawake : s.awake) (hadmits : s.m.admits 0x03 q = true)
    (hact : (s.m.received q).commit (Via.master q.via) bad q = (r, a)) :
    exec (.commit q bad) s = .next (s.withEngine (r.answered q a)) :=
  State.frame_of_admits hawake hadmits hact

theorem exec_abort (hawake : s.awake) (hadmits : s.m.admits 0x04 q = true) :
    exec (.abort q) s = .next (s.withEngine (((s.m.received q).setStaging (Via.master q.via) []).answered q
      { code := 0, addr := q.addr, data := w32 ((s.m.received q).staging (Via.master q.via)).length })) :=
  State.frame_of_admits hawake hadmits rfl

theorem exec_status (hawake : s.awake) (hadmits : s.m.admits 0x09 q = true) :
    exec (.status q) s = .next (s.withEngine ((s.m.received q).answered q
      { code := 0, addr := q.addr, data := (s.m.received q).statusWord (Via.master q.via) })) :=
  State.frame_of_admits hawake hadmits rfl

end

/-! ### STAGE -/

/-- A STAGE by its status code: a code of 0 stages the value, any other nothing. -/
theorem Mach.stage_of_code {m before : Mach} {k : Master} {q : Req} {code : Nat}
    (h : m.stageCode before k q.addr.toNat q.data = code) : m.stage before k q =
      (if code = 0 then m.setStaging k (mput (m.staging k) q.addr.toNat q.data) else m, { code, addr := q.addr }) := by
  rw [Mach.stage, h]

/-- The first check of STAGE's own that fails gives its code. -/
theorem Mach.stageCode_cases (m before : Mach) (k : Master) (a : Nat) (v : Word) :
    (defined a = false → m.stageCode before k a v = 3) ∧
    (defined a = true → 0x400 ≤ a → bitOf (before.pval 4) 0 = false → m.stageCode before k a v = 9) ∧
    (defined a = true → (a < 0x400 ∨ bitOf (before.pval 4) 0 = true) → (valueOk a v = false ∨ m.stageRefused k a v = true) →
      m.stageCode before k a v = 4) ∧
    (defined a = true → (a < 0x400 ∨ bitOf (before.pval 4) 0 = true) → valueOk a v = true → m.stageRefused k a v = false →
      (coverOwner m.ctl.locks m.pval a = some (Master.other k) → m.stageCode before k a v = 8) ∧
      (coverOwner m.ctl.locks m.pval a ≠ some (Master.other k) →
        ((if m.usesKeep k then 64 else 512) ≤ (m.staging k).length → (m.staging k).lookup a = none → m.stageCode before k a v = 6) ∧
        (((m.staging k).length < (if m.usesKeep k then 64 else 512) ∨ ((m.staging k).lookup a).isSome = true) →
          m.stageCode before k a v = 0))) := by
  have hexpert (h : a < 0x400 ∨ bitOf (before.pval 4) 0 = true) : (decide (0x400 ≤ a) && !bitOf (before.pval 4) 0) = false := by
    obtain h | h := h
    · rw [decide_eq_false (by omega), Bool.false_and]
    · rw [h, Bool.not_true, Bool.and_false]
  refine ⟨fun hdef => ?_, fun hdef ha hbit => ?_, fun hdef hx hv => ?_, fun hdef hx hv hr => ⟨fun hc => ?_, fun hc => ⟨fun hfull hnew => ?_, fun hroom => ?_⟩⟩⟩
  · simp [Mach.stageCode, hdef]
  · simp [Mach.stageCode, hdef, ha, hbit]
  · have hbad : (!valueOk a v || m.stageRefused k a v) = true := by rcases hv with h | h <;> simp [h]
    simp only [Mach.stageCode, hdef, hexpert hx, hbad, Bool.not_true, Bool.false_eq_true, if_false, if_true]
  · simp only [Mach.stageCode, hdef, hexpert hx, hv, hr, hc, Bool.not_true, Bool.or_self, Bool.false_eq_true, if_false, beq_self_eq_true, if_true]
  · have hc' : (coverOwner m.ctl.locks m.pval a == some (Master.other k)) = false := beq_false_of_ne hc
    simp only [Mach.stageCode, hdef, hexpert hx, hv, hr, hc', Bool.not_true, Bool.or_self, Bool.false_eq_true, if_false, hnew,
      decide_eq_true hfull, Option.isNone_none, Bool.and_self, if_true]
  · have hc' : (coverOwner m.ctl.locks m.pval a == some (Master.other k)) = false := beq_false_of_ne hc
    have hfits : (decide ((if m.usesKeep k then 64 else 512) ≤ (m.staging k).length) && ((m.staging k).lookup a).isNone) = false := by
      rcases hroom with h | h
      · rw [decide_eq_false (by omega), Bool.false_and]
      · rw [← Option.not_isSome, h, Bool.not_true, Bool.and_false]
    simp only [Mach.stageCode, hdef, hexpert hx, hv, hr, hc', hfits, Bool.not_true, Bool.or_self, Bool.false_eq_true, if_false]

/-! ### COMMIT -/

@[simp] theorem Mach.staging_setStaging (m : Mach) (k : Master) (p : PMap) : (m.setStaging k p).staging k = p := by
  unfold Mach.setStaging
  cases hkeep : m.usesKeep k with
  | true =>
    have h : ({ m with ctl := { m.ctl with keep := p } } : Mach).usesKeep k = true := hkeep
    rw [if_pos rfl, Mach.staging, if_pos h]
  | false =>
    have h : (m.setSession k { m.session k with staging := p }).usesKeep k = false := by
      rw [← hkeep]; cases k <;> rfl
    rw [if_neg (by simp), Mach.staging, if_neg (by simp [h]), Mach.session_setSession]

theorem Mach.session_setStaging (m : Mach) (k : Master) (p : PMap) :
    ∃ staging, (m.setStaging k p).session k = { m.session k with staging } := by
  unfold Mach.setStaging
  split
  · exact ⟨(m.session k).staging, by cases k <;> rfl⟩
  · exact ⟨p, m.session_setSession k _⟩

theorem Mach.staging_setSession (m : Mach) (k : Master) (x : Session) :
    (m.setSession k x).staging k = if m.usesKeep k then m.ctl.keep else x.staging := by cases k <;> rfl

theorem Mach.session_sealCommit (m : Mach) (k : Master) : ∃ staging, (m.sealCommit k).session k = { m.session k with
    staging, commit := some { changes := m.staging k, landing := m.tim.beats + 1, num := (m.session k).count + 1 }
    count := (m.session k).count + 1, cres := { busy := true } } := by
  obtain ⟨staging, h⟩ := m.session_setStaging k []
  refine ⟨staging, ?_⟩
  rw [Mach.sealCommit, Mach.session_setSession, h]

@[simp] theorem Mach.staging_sealCommit (m : Mach) (k : Master) : (m.sealCommit k).staging k = [] := by
  rw [Mach.sealCommit, Mach.staging_setSession]
  exact m.staging_setStaging k []

theorem Mach.sealCommit_par (m : Mach) (k : Master) : (m.sealCommit k).par = m.par := by simp [Mach.sealCommit]

/-- A commit by its code (R148, R149). -/
theorem Mach.commit_of_code {m : Mach} {k : Master} {q : Req} {bad : Bool} {code : Nat} (h : m.commitCode k (fld q.data 0 10) = code)
    (hcode : code ≠ 0) : m.commit k bad q = (if code = 6 then m.setStaging k [] else m, { code, addr := q.addr }) := by
  simp only [Mach.commit, h, if_neg hcode]

theorem Mach.commitCode_of_sealable {m : Mach} {k : Master} {count : Nat} (hstaged : (m.staging k).length ≠ 0)
    (hcount : count = 0 ∨ count = (m.staging k).length) (hnone : (m.session k).commit = none) :
    m.commitCode k count = if 256 < (m.staging k).length then 6 else 0 := by
  have hmatch : (count != 0 && count != (m.staging k).length) = false := by rcases hcount with h | h <;> simp [h]
  simp [Mach.commitCode, hmatch, hstaged, hnone]

theorem Mach.commitCode_of_denied {m : Mach} {k : Master} {count : Nat}
    (h : (m.staging k).length = 0 ∨ (count ≠ 0 ∧ count ≠ (m.staging k).length) ∨ (m.session k).commit.isSome = true) :
    m.commitCode k count = 4 := by
  rw [Mach.commitCode, if_pos]
  simpa [or_assoc] using h

/-- The bad area's commit discarded (R762): the session's commit is gone, counted and denied. -/
theorem Mach.stageBad_of_commit {m : Mach} {k : Master} {c : Commit} (hcommit : (m.session k).commit = some c) (hdue : (m.session k).due = none)
    (hsome : c.changes.length ≠ 0) : ((m.stageBad k).session k).commit = none ∧ (m.stageBad k).staging k = [] ∧
      (m.stageBad k).par = m.par ∧ ((m.stageBad k).session k).disc = (m.session k).disc + 1 ∧
      ((m.stageBad k).session k).cres = { code := 4 } := by
  have hn : (m.staging k).length + (((m.session k).commit.toList ++ (m.session k).due.toList).map (·.changes.length)).sum ≠ 0 := by
    simp [hcommit, hdue, hsome]
  have hlogged (arg n : Nat) : (((m.discard k true false).logEvent .control 0x0005 arg n none (some 9)).session k).commit = none ∧
      ((m.discard k true false).logEvent .control 0x0005 arg n none (some 9)).staging k = [] ∧
      ((m.discard k true false).logEvent .control 0x0005 arg n none (some 9)).par = m.par ∧
      (((m.discard k true false).logEvent .control 0x0005 arg n none (some 9)).session k).disc = (m.session k).disc + 1 ∧
      (((m.discard k true false).logEvent .control 0x0005 arg n none (some 9)).session k).cres = { code := 4 } := by
    obtain ⟨classes, hkeep, hsession⟩ := (m.discard k true false).logEvent_session .control 0x0005 arg n none (some 9)
    have hdiscard : (m.discard k true false).session k = (m.session k).discard true false := by cases k <;> rfl
    obtain ⟨hstaging, _, _, hcres, hdisc, hsome, _⟩ := ((m.session k).discard true false).noteRaises_keeps classes
    rw [hsession, hdiscard]
    refine ⟨?_, ?_, by simp, ?_, ?_⟩
    · rw [← Option.not_isSome_iff_eq_none, hsome]; simp [Session.discard]
    · rw [Mach.staging, hsession, hdiscard, hstaging, hkeep]
      cases k <;> simp [Session.discard, Mach.discard, Mach.setSession, Mach.usesKeep]
    · rw [hdisc]; simp [Session.discard, hcommit, hdue]
    · rw [hcres]; simp [Session.discard, hcommit, CRes.denied]
  unfold Mach.stageBad
  dsimp only
  rw [if_neg hn]
  exact hlogged _ _

/-- The answer to a request is kept for the next frame or sent: no session is part of it. -/
theorem Mach.answered_session (m : Mach) (q : Req) (r : Reply) (k : Master) :
    (m.answered q r).session k = m.session k ∧ (m.answered q r).staging k = m.staging k := by
  have hctl : (m.answered q r).ctl.spi = m.ctl.spi ∧ (m.answered q r).ctl.host = m.ctl.host ∧ (m.answered q r).ctl.keep = m.ctl.keep ∧
      (m.answered q r).ctl.inKeep = m.ctl.inKeep ∧ (m.answered q r).pwr = m.pwr := by
    unfold Mach.answered Mach.reply
    split <;> simp [Mach.flushCtrl, foldl_keeps]
  obtain ⟨hspi, hhost, hkeep, hin, hpwr⟩ := hctl
  have hsession : (m.answered q r).session k = m.session k := by cases k <;> assumption
  refine ⟨hsession, ?_⟩
  simp only [Mach.staging, Mach.usesKeep, Mach.keepMode, hsession, hkeep, hin, hpwr]
  rfl

theorem Mach.answered_par (m : Mach) (q : Req) (r : Reply) : (m.answered q r).par = m.par := by simp [Mach.answered]

/-- Taking a request lands nothing. -/
theorem Mach.received_par (m : Mach) (q : Req) : (m.received q).par = m.par := by
  unfold Mach.received
  split <;> simp

end Sys2Proof.Machine

open Sys2Proof.Machine

/-- Settles O18: each request's act and answer. -/
theorem readsStatusAndAbortAnswer : Obligations.ReadsStatusAndAbortAnswer := by
  refine fun q s hawake => ⟨exec_nop hawake, fun hadmits hdef => ?_, fun hadmits hdef => ?_, exec_status hawake, exec_abort hawake⟩
  · exact exec_read hawake hadmits (by rw [Mach.readParam]; simp only [hdef, if_true])
  · exact exec_read hawake hadmits (by rw [Mach.readParam]; simp only [hdef, Bool.false_eq_true, if_false])

/-- Settles O19: by the code of the first check that fails. -/
theorem stageChecksInOrder : Obligations.StageChecksInOrder := by
  intro q s hawake hadmits
  have hends {code : Nat} (hcode : (s.m.received q).stageCode s.view (Via.master q.via) q.addr.toNat q.data = code) :
      exec (.stage q) s = .next (s.withEngine ((if code = 0 then (s.m.received q).setStaging (Via.master q.via)
        (mput ((s.m.received q).staging (Via.master q.via)) q.addr.toNat q.data) else s.m.received q).answered q { code, addr := q.addr })) :=
    exec_stage hawake hadmits (Mach.stage_of_code hcode)
  obtain ⟨hbadaddr, hexpert, hdenied, hlocks⟩ := (s.m.received q).stageCode_cases s.view (Via.master q.via) q.addr.toNat q.data
  refine ⟨fun hdef => hends (hbadaddr hdef), fun hdef ha hbit => hends (hexpert hdef ha hbit), fun hdef hx hv => hends (hdenied hdef hx hv),
    fun hdef hx hv hr => ?_⟩
  obtain ⟨hlocked, hfree⟩ := hlocks hdef hx hv hr
  refine ⟨fun hc => hends (hlocked hc), fun hc => ?_⟩
  obtain ⟨hfull, hroom⟩ := hfree hc
  exact ⟨fun h hnew => hends (hfull h hnew), fun h => hends (hroom h)⟩

/-- Settles O20: by what sealing puts in the session, and what the discard of a bad area leaves there. -/
theorem commitSealsTheStagingArea : Obligations.CommitSealsTheStagingArea := by
  intro q s hawake hadmits
  refine ⟨fun hstaged hcount hnone hfits => ?_, fun hstaged hcount hnone hdue hfits => ?_, fun bad hdenied => ?_, fun bad hcount hnone hlong => ?_⟩
  · have hcode := Mach.commitCode_of_sealable hstaged hcount hnone
    rw [if_neg (Nat.not_lt.mpr hfits)] at hcode
    obtain ⟨staging, hsession⟩ := (s.m.received q).session_sealCommit (Via.master q.via)
    refine ⟨exec_commit hawake hadmits ?_, by rw [hsession], by simp, by rw [hsession], Mach.sealCommit_par _ _⟩
    simp [Mach.commit, hcode, hsession]
  · have hcode := Mach.commitCode_of_sealable hstaged hcount hnone
    rw [if_neg (Nat.not_lt.mpr hfits)] at hcode
    obtain ⟨staging, hsession⟩ := (s.m.received q).session_sealCommit (Via.master q.via)
    have hact : (s.m.received q).commit (Via.master q.via) true q =
        (((s.m.received q).sealCommit (Via.master q.via)).stageBad (Via.master q.via),
          { code := 0, addr := q.addr, data := w32 (s.m.received q).tim.beats
            wait := if Via.master q.via == .host then some ((s.m.received q).tim.beats + 1,
              ((((s.m.received q).sealCommit (Via.master q.via)).stageBad (Via.master q.via)).session (Via.master q.via)).count) else none }) := by
      simp only [Mach.commit, hcode, if_true]
    obtain ⟨hcommit, hstaging, hpar, hdisc, hcres⟩ := Mach.stageBad_of_commit (congrArg Session.commit hsession)
      ((congrArg Session.due hsession).trans hdue) hstaged
    refine ⟨_, exec_commit hawake hadmits hact, ?_⟩
    simp only [Mach.answered_session, Mach.answered_par]
    exact ⟨hcommit, hstaging, hpar.trans ((Mach.sealCommit_par _ _).trans (s.m.received_par q)),
      hdisc.trans (congrArg (·.disc + 1) hsession), hcres⟩
  · exact exec_commit hawake hadmits (Mach.commit_of_code (Mach.commitCode_of_denied hdenied) (by decide))
  · have hcode := Mach.commitCode_of_sealable (by omega) hcount hnone
    rw [if_pos hlong] at hcode
    exact exec_commit hawake hadmits (Mach.commit_of_code hcode (by decide))
end

section
/-! SUPPORT. Words copied between engine memory and the window buffers, and the statement on window operations (R5, R165 to R168). -/

namespace Sys2Proof.Machine

/-! ### Little-endian bytes -/

theorem leBytes_length (x n : Nat) : (leBytes x n).length = n := by
  induction n generalizing x with
  | zero => rfl
  | succ n ih => rw [leBytes, List.length_cons, ih]

theorem leBytes_getElem (x n j : Nat) (h : j < (leBytes x n).length) : (leBytes x n)[j] = BitVec.ofNat 8 (x / 256 ^ j) := by
  induction n generalizing x j with
  | zero => exact absurd h (Nat.not_lt_zero j)
  | succ n ih =>
    cases j with
    | zero => simp [leBytes]
    | succ j =>
      simp only [leBytes, List.getElem_cons_succ]
      rw [ih, Nat.div_div_eq_div_mul, Nat.pow_succ']

/-! ### Words written to memory -/

/-- A choice between two values follows its condition. -/
theorem ite_of_iff {α : Type} {c d : Prop} [Decidable c] [Decidable d] (h : c ↔ d) (x y : α) :
    (if c then x else y) = if d then x else y := by
  by_cases hd : d
  · rw [if_pos hd, if_pos (h.mpr hd)]
  · rw [if_neg hd, if_neg fun hc => hd (h.mp hc)]

/-- Memory with n words w written from address a on, least significant byte first (R5). -/
def writeWords (mem : List Host.Cell) (a : Nat) (w : Nat → Nat) (n : Nat) : List Host.Cell :=
  (List.range n).foldl (fun mem i => writeBytes mem (a + 4 * i) (leBytes (w i) 4)) mem

theorem writeWords_succ (mem : List Host.Cell) (a : Nat) (w : Nat → Nat) (n : Nat) :
    writeWords mem a w (n + 1) = writeBytes (writeWords mem a w n) (a + 4 * n) (leBytes (w n) 4) := by
  simp [writeWords, List.range_succ]

theorem writeWords_wf {mem : List Host.Cell} (a : Nat) (w : Nat → Nat) (n : Nat) (h : Memory.wf mem = true) :
    Memory.wf (writeWords mem a w n) = true := foldl_wf _ (fun _ _ hmem => writeBytes_wf _ _ _ hmem) _ _ h

/-- No byte outside the words changes. -/
theorem readByte_writeWords_outside (mem : List Host.Cell) (a : Nat) (w : Nat → Nat) (n : Nat) {i : Nat} (h : i < a ∨ a + 4 * n ≤ i) :
    readByte (writeWords mem a w n) i = readByte mem i := by
  induction n with
  | zero => rfl
  | succ n ih =>
    rw [writeWords_succ, readByte_writeBytes_other _ _ _ _ (by rw [leBytes_length]; omega), ih (by omega)]

theorem readByte_writeWords_inside {mem : List Host.Cell} (a : Nat) (w : Nat → Nat) (n : Nat) {i j : Nat} (hwf : Memory.wf mem = true)
    (hi : i < n) (hj : j < 4) : readByte (writeWords mem a w n) (a + 4 * i + j) = BitVec.ofNat 8 (w i / 256 ^ j) := by
  induction n with
  | zero => exact absurd hi (Nat.not_lt_zero i)
  | succ n ih =>
    rw [writeWords_succ]
    rcases Nat.lt_succ_iff_lt_or_eq.mp hi with hlt | rfl
    · rw [readByte_writeBytes_other _ _ _ _ (by omega), ih hlt]
    · rw [readByte_writeBytes_inside _ _ _ _ (writeWords_wf a w i hwf) (by rwa [leBytes_length]), leBytes_getElem]

/-! ### Words put into parameters -/

/-- The parameter store with n words w put from address a on. -/
def putWords (landed : PMap) (a : Nat) (w : Nat → Word) (n : Nat) : PMap :=
  (List.range n).foldl (fun landed i => sput resetOf landed (a + i) (w i)) landed

theorem putWords_succ (landed : PMap) (a : Nat) (w : Nat → Word) (n : Nat) :
    putWords landed a w (n + 1) = sput resetOf (putWords landed a w n) (a + n) (w n) := by simp [putWords, List.range_succ]

theorem putWords_wf {landed : PMap} (a : Nat) (w : Nat → Word) (n : Nat) (h : swf resetOf landed = true) :
    swf resetOf (putWords landed a w n) = true := by
  induction n with
  | zero => exact h
  | succ n ih => rw [putWords_succ]; exact sput_wf _ _ _ _ ih

theorem sget_putWords {landed : PMap} (a : Nat) (w : Nat → Word) (n b : Nat) (h : swf resetOf landed = true) :
    sget resetOf (putWords landed a w n) b = if a ≤ b ∧ b < a + n then w (b - a) else sget resetOf landed b := by
  induction n with
  | zero => rw [if_neg (by omega)]; rfl
  | succ n ih =>
    rw [putWords_succ, sget_sput _ _ _ _ _ (putWords_wf a w n h), ih]
    by_cases hb : b = a + n
    · subst hb; rw [if_pos rfl, if_pos (by omega), Nat.add_sub_cancel_left]
    · rw [if_neg hb]; exact ite_of_iff (by omega) _ _

/-! ### Commands that change nothing -/

/-- A command whose operation leaves the engine as it was changes nothing, in reset or out of it. -/
theorem State.run_of_eq {s : State} {f : Mach → Mach} (h : f s.m = s.m) : s.run f = .next s := by
  rw [State.run, h, ite_self]

/-! ### A window operation's words -/

/-- The control word of a window operation: read or write in bits [1:0], the length less 1 in bits [7:4] (R165). -/
theorem fld_windowWord (len : Fin 16) : fld (w32 (1 + 16 * len.val)) 0 2 = 1 ∧ fld (w32 (1 + 16 * len.val)) 4 4 = len.val ∧
    fld (w32 (2 + 16 * len.val)) 0 2 = 2 ∧ fld (w32 (2 + 16 * len.val)) 4 4 = len.val := by
  revert len
  decide

theorem Mach.winStart_of_idle {m : Mach} {v : Word} (h : m.ctl.win.st ≠ 1) : m.winStart v = { m with ctl := { m.ctl with win :=
    { st := 1, write := fld v 0 2 == 2, addr := m.pnat 0x41 * 2 ^ 32 + m.pnat 0x40, len := fld v 4 4 + 1 } } } :=
  if_neg (by simpa using h)

theorem Mach.winStart_of_running {m : Mach} {v : Word} (h : m.ctl.win.st = 1) : m.winStart v = m := if_pos (by simpa using h)

theorem Mach.winDone_of_idle {m : Mach} (ecc : Option Nat) (h : m.ctl.win.st ≠ 1) : m.winDone ecc = m := if_pos (by simpa using h)

/-- The words of a window write. -/
theorem Mach.foldl_poke_buffers (m : Mach) (a n : Nat) :
    (List.range n).foldl (fun m i => m.poke (a + 4 * i) (leBytes (m.pnat (0x50 + i)) 4)) m =
      { m with mem := writeWords m.mem a (fun i => m.pnat (0x50 + i)) n } := by
  induction n with
  | zero => rfl
  | succ n ih => rw [List.range_succ, List.foldl_append, ih, writeWords_succ]; rfl

/-- The words of a window read. -/
theorem Mach.foldl_pset_words (m : Mach) (a n : Nat) :
    (List.range n).foldl (fun m i => m.pset (0x50 + i) (m.word (a + 4 * i))) m =
      { m with par := { m.par with landed := putWords m.par.landed 0x50 (fun i => m.word (a + 4 * i)) n } } := by
  induction n with
  | zero => rfl
  | succ n ih => rw [List.range_succ, List.foldl_append, ih, putWords_succ]; rfl

/-- The first access of a window operation within DDR5 wakes it. -/
theorem Mach.windowTouch_eq (m : Mach) (c : Bool) (a n : Nat) :
    (if c then m.touchDdr a n else m) = { m with store := (if c then m.touchDdr a n else m).store } := by
  cases c <;> rfl

theorem Mach.winDone_of_fault {m : Mach} (ecc : Option Nat) (hst : m.ctl.win.st = 1) (hfault : m.winFault ≠ 0) :
    m.winDone ecc = { m with ctl := { m.ctl with win := { m.ctl.win with st := 3, cause := BitVec.ofNat 4 m.winFault, words := 0 } } } := by
  simp [Mach.winDone, hst, hfault]

theorem Mach.winDone_of_write {m : Mach} (ecc : Option Nat) (hst : m.ctl.win.st = 1) (hfault : m.winFault = 0)
    (hwrite : m.ctl.win.write = true) : ∃ store, m.winDone ecc = { m with
      mem := writeWords m.mem m.ctl.win.addr (fun i => m.pnat (0x50 + i)) m.ctl.win.len, store
      ctl := { m.ctl with win := { m.ctl.win with st := 2, cause := 0, words := BitVec.ofNat 4 (m.ctl.win.len - 1) } } } := by
  refine ⟨(if m.inDdr m.ctl.win.addr (4 * m.ctl.win.len) then m.touchDdr m.ctl.win.addr (4 * m.ctl.win.len) else m).store, ?_⟩
  simp only [Mach.winDone, hst, hfault, hwrite, bne_self_eq_false, Bool.false_eq_true, if_false, if_true]
  rw [m.windowTouch_eq, Mach.foldl_poke_buffers]
  rfl

theorem Mach.winDone_of_read {m : Mach} (hst : m.ctl.win.st = 1) (hfault : m.winFault = 0)
    (hwrite : m.ctl.win.write = false) : ∃ store, m.winDone none = { m with
      par := { m.par with landed := putWords m.par.landed 0x50 (fun i => m.word (m.ctl.win.addr + 4 * i)) m.ctl.win.len }, store
      ctl := { m.ctl with win := { m.ctl.win with st := 2, cause := 0, words := BitVec.ofNat 4 (m.ctl.win.len - 1) } } } := by
  refine ⟨(if m.inDdr m.ctl.win.addr (4 * m.ctl.win.len) then m.touchDdr m.ctl.win.addr (4 * m.ctl.win.len) else m).store, ?_⟩
  simp only [Mach.winDone, hst, hfault, hwrite, bne_self_eq_false, Bool.false_eq_true, if_false]
  rw [m.windowTouch_eq, Mach.foldl_pset_words]
  rfl

/-- A window read whose word n cannot be corrected: the words before it, and the error's own report. -/
theorem Mach.winDone_of_ecc {m : Mach} {n : Nat} (hst : m.ctl.win.st = 1) (hfault : m.winFault = 0) (hwrite : m.ctl.win.write = false)
    (hn : n < m.ctl.win.len) : (m.winDone (some n)).ctl.win = { m.ctl.win with st := 3, cause := 4, words := BitVec.ofNat 4 (n - 1) } ∧
      (m.winDone (some n)).mem = m.mem ∧
      (m.winDone (some n)).par.landed = putWords m.par.landed 0x50 (fun i => m.word (m.ctl.win.addr + 4 * i)) n := by
  simp only [Mach.winDone, hst, hfault, hwrite, bne_self_eq_false, Bool.false_eq_true, if_false, hn, decide_true, if_true, Nat.min_eq_left (Nat.le_of_lt hn)]
  rw [m.windowTouch_eq, Mach.foldl_pset_words]
  simp [Mach.word]

end Sys2Proof.Machine

open Sys2Proof.Machine

/-- Settles O25: a window write is the buffers written as words, a read the words put into the buffers. -/
theorem windowCopiesWords : Obligations.WindowCopiesWords := by
  refine ⟨fun len s hawake hst => ?_, fun len s hst => ?_, fun ecc s hst => ?_, fun ecc s hawake hst hfault => ?_,
    fun ecc s hawake hst hfault hwrite _ hwf => ?_, fun n s hawake hst hfault hwrite hn _ hwf => ?_, fun s hawake hst hfault hwrite _ hwf => ?_⟩
  · obtain ⟨hread, hreadLen, hwrite, hwriteLen⟩ := fld_windowWord len
    refine ⟨(run_awake s (·.winStart _) hawake).trans ?_, (run_awake s (·.winStart _) hawake).trans ?_⟩
    · simp only [Mach.winStart_of_idle hst, hread, hreadLen]; rfl
    · simp only [Mach.winStart_of_idle hst, hwrite, hwriteLen]; rfl
  · have hrun (v : BitVec 32) : s.run (·.winStart v) = .next s := State.run_of_eq (Mach.winStart_of_running hst)
    exact ⟨hrun _, hrun _⟩
  · exact State.run_of_eq (f := (·.winDone ecc)) (Mach.winDone_of_idle ecc hst)
  · exact (run_awake s (·.winDone ecc) hawake).trans (congrArg (fun m => Host.Outcome.next (s.withEngine m)) (Mach.winDone_of_fault ecc hst hfault))
  · obtain ⟨store, hdone⟩ := Mach.winDone_of_write ecc hst hfault hwrite
    refine ⟨_, (run_awake s (·.winDone ecc) hawake).trans (by rw [hdone]), rfl, rfl,
      fun a ha => readByte_writeWords_outside _ _ _ _ ha, fun i hi j hj => readByte_writeWords_inside _ _ _ hwf hi hj⟩
  · obtain ⟨hwin, hmem, hlanded⟩ := Mach.winDone_of_ecc hst hfault hwrite hn
    refine ⟨_, run_awake s (·.winDone (some n)) hawake, hwin, hmem, fun i hi => ?_, fun a ha => ?_⟩
    · rw [Mach.pval, hlanded, sget_putWords _ _ _ _ hwf, if_pos (by omega), Nat.add_sub_cancel_left]
    · rw [Mach.pval, hlanded, sget_putWords _ _ _ _ hwf, if_neg (by omega)]; rfl
  · obtain ⟨store, hdone⟩ := Mach.winDone_of_read hst hfault hwrite
    refine ⟨_, (run_awake s (·.winDone none) hawake).trans (by rw [hdone]), rfl, rfl, fun i hi => ?_, fun a ha => ?_⟩
    · refine (sget_putWords _ _ _ _ hwf).trans ?_
      rw [if_pos (by omega), Nat.add_sub_cancel_left]
    · refine (sget_putWords _ _ _ _ hwf).trans ?_
      rw [if_neg (by omega)]; rfl
end

section
/-! SUPPORT. Closing a quire, gating and restarting the slice clocks, relocks of the core and of the synthesizer, and the statements
about them (R57 to R73, R451). -/

namespace Sys2Proof.Machine

/-! ### A quire stopped -/

/-- What closing leaves in the quire (R451). -/
theorem Mach.closeQuire_qre (m : Mach) (cause : Nat) : (m.closeQuire cause).qre = { m.qre with
    st := if m.qre.pend.isEmpty then .idle else .closed, closeCause := BitVec.ofNat 4 cause, cur := none
    closes := ((m.qre.qid, m.qre.gen) :: m.qre.closes).take 66 } := by
  unfold Mach.closeQuire
  dsimp only
  split <;> simp

theorem Mach.closeQuire_running (m : Mach) (cause : Nat) : (m.closeQuire cause).running = false := by
  rw [Mach.running, m.closeQuire_qre]
  cases m.qre.pend <;> rfl

theorem Mach.stopQuire_of_idle {m : Mach} (cause x : Nat) (h : m.running = false) : m.stopQuire cause x = m := if_neg (by simp [h])

theorem Mach.stopQuire_running (m : Mach) (cause x : Nat) : (m.stopQuire cause x).running = false := by
  unfold Mach.stopQuire
  split
  next => exact Mach.closeQuire_running _ _
  next h => simpa using h

/-! ### The slice clocks -/

@[simp] theorem Mach.gateSlices_tim (m : Mach) : m.gateSlices.tim = { m.tim with slices := false } := by
  unfold Mach.gateSlices
  dsimp only
  split <;> simp

@[simp] theorem Mach.gateSlices_running (m : Mach) : m.gateSlices.running = false := by
  have h := Mach.stopQuire_running (if m.cal.pointOf.1 != 0 then m.chainFail 13 else m) 5 m.tim.mono
  simpa [Mach.gateSlices, Mach.running] using h

theorem Mach.gateSlices_mem_of_idle {m : Mach} (h : m.running = false) : m.gateSlices.mem = m.mem := by
  have hidle : (if m.cal.pointOf.1 != 0 then m.chainFail 13 else m).running = false := by
    rw [← h, Mach.running, Mach.running]; split <;> simp
  unfold Mach.gateSlices
  dsimp only
  rw [Mach.stopQuire_of_idle _ _ hidle]
  split <;> simp

/-- With no quire running, slice clocks that restart begin a run of samples at the next REFCLEAN edge (R67, R289). -/
theorem Mach.restartSlices_of_idle {m : Mach} (h : m.running = false) : ∃ trm, m.restartSlices = { m with
    tim := { m.tim with slices := true, ckoParked := false }
    fe := { m.fe with run := m.fe.run + 1, t0 := m.tim.mono + (refPeriod m.tim - m.tim.refPhase) % refPeriod m.tim
                      clkGroups := groupsOf m.fe.mode, clkFreq := m.useN 0x404 }, trm } := by
  unfold Mach.restartSlices
  dsimp only
  rw [Mach.regrid, if_neg (by simpa [Mach.running] using h), Mach.blockStart]
  split
  · exact ⟨_, rfl⟩
  · exact ⟨m.trm, rfl⟩

/-! ### Relocks -/

@[simp] theorem Mach.note_running (m : Mach) (mask : BitVec 16) : (m.note mask).running = m.running := rfl

@[simp] theorem Mach.logEvent_running (m : Mach) (plane : Plane) (code a b : Nat) (origin : Option Master) (cls : Option Nat) :
    (m.logEvent plane code a b origin cls).running = m.running := by simp [Mach.running]

theorem Mach.coreRelock_tim (m : Mach) (cause : Nat) : (m.coreRelock cause).tim =
    if m.tim.exhausted then { ({ m.tim with slices := false } : Tim).source true m.tim.refStopped with coreCause := BitVec.ofNat 2 cause, ckoParked := true }
    else { ({ m.tim with slices := false } : Tim).source true m.tim.refStopped with
      coreCause := BitVec.ofNat 2 cause, ckoParked := true
      core := { m.tim.core with active := true, lock := false, again := false }, relocks := m.tim.relocks + 1 } := by
  unfold Mach.coreRelock
  dsimp only
  split <;> simp [Tim.source]

theorem Mach.coreRelock_running (m : Mach) (cause : Nat) : (m.coreRelock cause).running = false := by
  have h := m.mintStop.gateSlices_running
  unfold Mach.coreRelock
  dsimp only
  split <;> simpa [Mach.running] using h

theorem Mach.coreRelock_mem_of_idle {m : Mach} (cause : Nat) (h : m.running = false) : (m.coreRelock cause).mem = m.mem := by
  have hmem : m.mintStop.gateSlices.mem = m.mem := Mach.gateSlices_mem_of_idle (m := m.mintStop) h
  unfold Mach.coreRelock
  dsimp only
  split <;> simpa using hmem

/-- A synthesizer relock that starts (R66). -/
theorem Mach.synthRelock_of_start {m : Mach} (hslice : m.domUp 3 = true) (hexhausted : m.tim.exhausted = false)
    (hcore : m.tim.core.active = false) : m.synthRelock = { m.mintStop.gateSlices with tim := { m.mintStop.gateSlices.tim with
      synth := { m.mintStop.gateSlices.tim.synth with active := true, lock := false, again := false }, synthLock := false
      relocks := m.mintStop.gateSlices.tim.relocks + 1
      ckoParked := m.mintStop.gateSlices.tim.ckoParked || fld (m.mintStop.gateSlices.pval 0x405) 0 2 != 2 } } := by
  simp only [Mach.synthRelock, hslice, hexhausted, hcore, Bool.not_true, Bool.false_and, Bool.or_self, Bool.false_eq_true, if_false]

/-- Once relocks are exhausted a synthesizer relock is due after the core's (R69). -/
theorem Mach.synthRelock_of_exhausted {m : Mach} (hslice : m.domUp 3 = true) (hexhausted : m.tim.exhausted = true) :
    m.synthRelock = { m.mintStop.gateSlices with tim := { m.mintStop.gateSlices.tim with
      synth := { m.mintStop.gateSlices.tim.synth with active := false, again := false }, synthLock := false, synthAfter := true } } := by
  simp only [Mach.synthRelock, hslice, hexhausted, Bool.not_true, Bool.true_or, Bool.false_eq_true, if_false, if_true]

/-! ### The Mint's output -/

theorem Mach.driveCode_mnt (m : Mach) (c : BitVec 14) : ∃ mnt, m.driveCode c = { m with mnt } ∧ mnt.stopped = m.mnt.stopped := by
  unfold Mach.driveCode
  dsimp only
  split
  · exact ⟨m.mnt, rfl, rfl⟩
  · exact ⟨_, rfl, rfl⟩

/-- The drive of the output changes the Mint alone, and starts or stops no clock. -/
theorem Mach.mintDrive_mnt (m : Mach) : ∃ mnt, m.mintDrive = { m with mnt } ∧ mnt.stopped = m.mnt.stopped := by
  unfold Mach.mintDrive
  generalize m.mintWant = want
  obtain ⟨code, span, route⟩ := want
  dsimp only
  (repeat' split)
  · exact ⟨_, rfl, rfl⟩
  · exact Mach.driveCode_mnt _ _
  · exact ⟨m.mnt, rfl, rfl⟩
  · exact Mach.driveCode_mnt _ _
  · exact m.driveCode_mnt _

theorem Mach.noteNow_hall_eq (m : Mach) : ∃ hall, m.noteNow = { m with hall } := by
  unfold Mach.noteNow
  split
  · exact ⟨m.hall, rfl⟩
  · exact ⟨_, rfl⟩

theorem Mach.mintGo_of_locked {m : Mach} (hcore : m.tim.core.active = false) (hsynth : m.tim.synth.active = false)
    (hlock : m.tim.synthLock = true) : m.mintGo = { m with mnt := { m.mnt with stopped := false } } := if_neg (by simp [hcore, hsynth, hlock])

/-! ### The relocks' commands -/

/-- The switchback to a locked synthesizer, with no quire running, restarts the slice clocks (R59, R62). -/
theorem Mach.coreSwitchback_of_locked {m : Mach} (hactive : m.tim.core.active = true) (hlock : m.tim.core.lock = true)
    (hafter : m.tim.synthAfter = false) (hcause : m.tim.coreCause ≠ 0) (hsynth : m.tim.synth.active = false)
    (hsynthLock : m.tim.synthLock = true) (hslice : m.domUp 3 = true) (hgating : m.fe.gating = false) (hidle : m.running = false) :
    ∃ hall trm, m.coreSwitchback = { m with
      boot := { m.boot with onPll := true }, hall, trm, mnt := { m.mnt with stopped := false }
      tim := { m.tim.source false m.tim.refStopped with core := {}, synthAfter := false, slices := true, ckoParked := false }
      fe := { m.fe with
        run := m.fe.run + 1, clkGroups := groupsOf m.fe.mode, clkFreq := m.useN 0x404
        t0 := (m.tim.source false m.tim.refStopped).mono + (refPeriod m.tim - m.tim.refPhase) % refPeriod m.tim } } := by
  obtain ⟨hall, hnote⟩ := m.noteNow_hall_eq
  obtain ⟨trm, hrestart⟩ := Mach.restartSlices_of_idle (m := { m with
    hall, boot := { m.boot with onPll := true }, mnt := { m.mnt with stopped := false }
    tim := { m.tim.source false m.tim.refStopped with core := {}, synthAfter := false } }) hidle
  refine ⟨hall, trm, ?_⟩
  have hgo := Mach.mintGo_of_locked (m := { m with
    hall, boot := { m.boot with onPll := true }
    tim := { m.tim.source false m.tim.refStopped with core := {}, synthAfter := false } }) rfl hsynth hsynthLock
  have hfirst : (m.tim.synthAfter || m.tim.coreCause == 0 || (!m.tim.synthLock && !m.tim.synth.active)) = false := by
    simpa [hafter, hsynthLock] using hcause
  have hphase : (m.tim.source false m.tim.refStopped).refPhase = m.tim.refPhase := by simp [Tim.source]
  unfold Mach.coreSwitchback
  rw [if_pos (by simp [hactive, hlock])]
  dsimp only
  rw [hfirst, if_neg (by decide), hnote, hgo, if_neg (by simp [Tim.source, hsynth, hgating, Mach.domUp] at hslice ⊢; exact hslice), hrestart]
  simp only [hphase]
  rfl

/-- A switchback that a synthesizer relock follows (R62, R256). -/
theorem Mach.coreSwitchback_of_synthAfter {m : Mach} (hactive : m.tim.core.active = true) (hlock : m.tim.core.lock = true)
    (hafter : m.tim.synthAfter = true) : m.coreSwitchback = ({ m.noteNow with
      tim := { m.tim.source false m.tim.refStopped with core := {}, synthAfter := false }
      boot := { m.boot with onPll := true } } : Mach).synthRelock := by
  simp [Mach.coreSwitchback, hactive, hlock, hafter]

end Sys2Proof.Machine

open Sys2Proof.Machine

/-- Settles O28: a core relock is gated slice clocks and the holding oscillator; its end, restarted clocks or the synthesizer relock due. -/
theorem coreRelockRunsItsCourse : Obligations.CoreRelockRunsItsCourse := by
  refine ⟨fun s hawake hpll hmore => ?_, fun s hawake hpll hexhausted => ?_, fun s hawake hholding => ?_, fun s hawake hactive hlock hagain => ?_,
    fun s hidle => ?_, fun s hawake hactive hlock hafter hcause hsynth hsynthLock hslice hgating hidle hst => ?_,
    fun s hawake hactive hlock hafter hslice hmore => ?_, fun s hidle => ?_, fun t stop hclean => ?_⟩
  · have hrun : s.m.corePllUnlock = s.m.coreRelock 2 := if_neg (by simp [hpll])
    refine ⟨_, (run_awake s (·.corePllUnlock) hawake).trans (by rw [hrun]), rfl, ?_⟩
    have htim := s.m.coreRelock_tim 2
    rw [hmore] at htim
    simp [htim, Tim.source, hpll, s.m.coreRelock_running 2]
    exact ⟨fun hclean hstopped => absurd (hclean.symm.trans hstopped) (by decide), fun hidle => Mach.coreRelock_mem_of_idle 2 hidle⟩
  · have hrun : s.m.corePllUnlock = s.m.coreRelock 2 := if_neg (by simp [hpll])
    refine ⟨_, (run_awake s (·.corePllUnlock) hawake).trans (by rw [hrun]), rfl, ?_⟩
    have htim := s.m.coreRelock_tim 2
    rw [hexhausted] at htim
    simp [htim, Tim.source, s.m.coreRelock_running 2]
  · exact State.run_of_eq (f := (·.corePllUnlock)) (if_pos hholding)
  · refine (run_awake s (·.corePllLock) hawake).trans ?_
    simp [Mach.corePllLock, hactive, hlock, hagain]
  · exact State.run_of_eq (f := (·.corePllLock)) (if_neg (by rcases hidle with h | h | h <;> simp [h]))
  · obtain ⟨hall, trm, hback⟩ := Mach.coreSwitchback_of_locked hactive hlock hafter hcause hsynth hsynthLock hslice hgating hidle
    have htrain : s.m.coreSwitchback.trainingStart = s.m.coreSwitchback := if_neg (by rw [hback]; simp [hst])
    obtain ⟨mnt, hdrive, hstopped⟩ := s.m.coreSwitchback.mintDrive_mnt
    refine ⟨_, (run_awake s _ hawake).trans (by rw [if_pos (by simp [hactive, hlock]), htrain, hdrive, hback]), rfl, rfl, rfl, rfl, ?_⟩
    rw [hback] at hstopped
    exact hstopped
  · have hback := Mach.coreSwitchback_of_synthAfter hactive hlock hafter
    rw [Mach.synthRelock_of_start (by simpa [Mach.domUp] using hslice) (by simpa [Tim.source] using hmore) rfl] at hback
    refine ⟨_, (run_awake s _ hawake).trans (by rw [if_pos (by simp [hactive, hlock])]), rfl, ?_⟩
    simp [hback, Tim.source]
  · exact State.run_of_eq (f := fun m => if m.tim.core.active && m.tim.core.lock then m.coreSwitchback.trainingStart.mintDrive else m)
      (if_neg (by rcases hidle with h | h <;> simp [h]))
  · refine ⟨fun hpll => ?_, fun hholding => ?_, rfl, rfl, ?_⟩ <;> simp [Tim.source, hclean, *]
end

section
/-! SUPPORT. Failed relocks, retries and the restart of the slice clocks, and the statement about them (R62, R66 to R69). -/

namespace Sys2Proof.Machine

theorem Mach.synthUnlock_of_locked {m : Mach} (h : m.tim.synthLock = true) : m.synthUnlock =
    (({ m with tim := { m.tim with synthLock := false } } : Mach).synthRelock).logEvent .management 0x0105
      (if m.running then m.qre.qid.toNat else 0) 0 := if_pos h

theorem Mach.synthUnlock_of_unlocked {m : Mach} (h : m.tim.synthLock = false) : m.synthUnlock = m := if_neg (by simp [h])

theorem Mach.sliceRestart_of_gated {m : Mach} (hactive : m.tim.synth.active = true) (hlock : m.tim.synth.lock = true)
    (hgated : m.tim.core.active = true ∨ m.fe.gating = true) :
    m.sliceRestart = ({ m with tim := { m.tim with synth := {} } } : Mach).mintGo := by
  unfold Mach.sliceRestart
  rw [if_pos (by simp [hactive, hlock])]
  dsimp only
  rw [if_pos (by rcases hgated with h | h <;> simp [Mach.mintGo, h])]

theorem Mach.mintGo_mnt (m : Mach) : ∃ mnt, m.mintGo = { m with mnt } := by
  unfold Mach.mintGo
  split
  · exact ⟨m.mnt, rfl⟩
  · exact ⟨_, rfl⟩

theorem Mach.sliceRestart_of_free {m : Mach} (hactive : m.tim.synth.active = true) (hlock : m.tim.synth.lock = true)
    (hcore : m.tim.core.active = false) (hgating : m.fe.gating = false) (hidle : m.running = false) :
    ∃ mnt trm, m.sliceRestart = { m with
      mnt, trm, tim := { m.tim with synth := {}, slices := true, ckoParked := false }
      fe := { m.fe with run := m.fe.run + 1, clkGroups := groupsOf m.fe.mode, clkFreq := m.useN 0x404
                        t0 := m.tim.mono + (refPeriod m.tim - m.tim.refPhase) % refPeriod m.tim } } := by
  obtain ⟨mnt, hgo⟩ := ({ m with tim := { m.tim with synth := {} } } : Mach).mintGo_mnt
  obtain ⟨trm, hrestart⟩ := Mach.restartSlices_of_idle (m := { m with mnt, tim := { m.tim with synth := {} } }) hidle
  refine ⟨mnt, trm, ?_⟩
  unfold Mach.sliceRestart
  rw [if_pos (by simp [hactive, hlock])]
  dsimp only
  rw [hgo, if_neg (by simp [hcore, hgating]), hrestart]
  rfl

/-- A core relock that fails (R69). -/
theorem Mach.relockFail_core {m : Mach} (hactive : m.tim.core.active = true) (hlock : m.tim.core.lock = false)
    (hagain : m.tim.core.again = false) : m.relockFail true = ({ m with tim := { m.tim with
      core := { m.tim.core with
        fails := m.tim.core.fails + 1, active := decide (m.tim.core.fails + 1 < 4) && !m.tim.exhausted
        again := decide (m.tim.core.fails + 1 < 4) && !m.tim.exhausted }
      exhausted := m.tim.exhausted || decide (4 ≤ m.tim.core.fails + 1) } } : Mach).logEvent
        .management 0x0106 1 (m.tim.core.fails + 1) none (if m.tim.core.fails + 1 < 4 then none else some 0) := by
  simp only [Mach.relockFail, if_true, hactive, hlock, hagain, Bool.not_false, Bool.and_self]
  rfl

theorem Mach.relockFail_synth {m : Mach} (hactive : m.tim.synth.active = true) (hlock : m.tim.synth.lock = false)
    (hagain : m.tim.synth.again = false) : m.relockFail false = ({ m with tim := { m.tim with
      synth := { m.tim.synth with
        fails := m.tim.synth.fails + 1, active := decide (m.tim.synth.fails + 1 < 4) && !m.tim.exhausted
        again := decide (m.tim.synth.fails + 1 < 4) && !m.tim.exhausted }
      exhausted := m.tim.exhausted || decide (4 ≤ m.tim.synth.fails + 1) } } : Mach).logEvent
        .management 0x0106 0 (m.tim.synth.fails + 1) none (if m.tim.synth.fails + 1 < 4 then none else some 0) := by
  simp only [Mach.relockFail, Bool.false_eq_true, if_false, hactive, hlock, hagain, Bool.not_false, Bool.and_self, if_true]
  rfl

theorem Mach.relockFail_of_none {m : Mach} {core : Bool} (h : (if core then m.tim.core else m.tim.synth).active = false ∨
    (if core then m.tim.core else m.tim.synth).lock = true ∨ (if core then m.tim.core else m.tim.synth).again = true) :
    m.relockFail core = m := by
  unfold Mach.relockFail
  exact if_neg (by rcases h with h | h | h <;> simp [h])

/-- The timebase as a retry leaves it before it starts a new attempt itself (R69). -/
def Tim.retried (t : Tim) : Tim :=
  { t with exhausted := false, core := t.core.restart, synth := t.synth.restart
           relocks := t.relocks + (if t.core.active && !t.core.lock then 1 else 0) + (if t.synth.active && !t.synth.lock then 1 else 0) }

theorem Mach.relockRetry_one (m : Mach) : m.relockRetry 1 =
    if m.tim.retried.core.active || m.tim.retried.synth.active || !m.domUp 1 then { m with tim := m.tim.retried }
    else if m.tim.retried.holding then ({ m with tim := m.tim.retried } : Mach).coreRelock m.tim.retried.coreCause.toNat
    else if !m.tim.retried.synthLock then ({ m with tim := { m.tim.retried with synthAfter := false } } : Mach).synthRelock
    else { m with tim := m.tim.retried } := rfl

/-- With no relock in progress a retry counts no new attempt of its own. -/
theorem Tim.retried_of_none {t : Tim} (hcore : t.core.active = false) (hsynth : t.synth.active = false) :
    t.retried = { t with exhausted := false, core := { t.core with fails := 0 }, synth := { t.synth with fails := 0 } } := by
  simp [Tim.retried, Relock.restart, hcore, hsynth]

end Sys2Proof.Machine

open Sys2Proof.Machine

/-- Settles O29: a relock gates the slice clocks and its end restarts them; failures count up to the fourth, and a retry counts anew. -/
theorem relocksRetryAndExhaust : Obligations.RelocksRetryAndExhaust := by
  refine ⟨⟨fun s hawake hlock hslice hmore hcore => ?_, fun s hawake hlock hslice hexhausted => ?_, fun s hawake hactive hlock hagain => ?_,
    fun s hidle => ?_, fun s hawake hactive hlock hidle => ?_, fun s hidle => ?_, fun s hlock => ?_⟩,
    fun s hawake hactive hlock hagain => ?_, fun s hawake hactive hlock hagain => ?_, fun m hcore hsynth hmore => ?_,
    fun s hawake hpower hcore hsynth hholding => ?_, fun s hawake hcore hlock hsynth => ?_,
    fun s hawake hpower hslice hcore hsynth hholding hlock => ?_, fun s hawake hcore hsynth hholding hlock => ?_, fun s hidle => ?_, fun s hidle => ?_⟩
  · have hrelock := Mach.synthRelock_of_start (m := { s.m with tim := { s.m.tim with synthLock := false } }) hslice hmore hcore
    have hmem (hidle : s.m.running = false) :=
      Mach.gateSlices_mem_of_idle (m := ({ s.m with tim := { s.m.tim with synthLock := false } } : Mach).mintStop) hidle
    refine ⟨_, (run_awake s (·.synthUnlock) hawake).trans (by rw [Mach.synthUnlock_of_locked hlock, hrelock]), rfl, ?_⟩
    have hstopped := ({ s.m with tim := { s.m.tim with synthLock := false } } : Mach).mintStop.gateSlices_running
    simpa [Mach.running, Mach.mintStop] using And.intro hstopped hmem
  · have hrelock := Mach.synthRelock_of_exhausted (m := { s.m with tim := { s.m.tim with synthLock := false } }) hslice hexhausted
    refine ⟨_, (run_awake s (·.synthUnlock) hawake).trans (by rw [Mach.synthUnlock_of_locked hlock, hrelock]), rfl, ?_⟩
    have hstopped := ({ s.m with tim := { s.m.tim with synthLock := false } } : Mach).mintStop.gateSlices_running
    simpa [Mach.running] using hstopped
  · refine (run_awake s (·.synthLocked) hawake).trans ?_
    simp [Mach.synthLocked, hactive, hlock, hagain]
  · exact State.run_of_eq (f := (·.synthLocked)) (if_neg (by rcases hidle with h | h | h <;> simp [h]))
  · obtain ⟨mnt, hdrive, _⟩ := s.m.sliceRestart.mintDrive_mnt
    have hrun : exec .sliceClockRestart s = .next (s.withEngine { s.m.sliceRestart with mnt }) :=
      (run_awake s _ hawake).trans (by rw [if_pos (by simp [hactive, hlock]), hdrive])
    by_cases hgated : s.m.tim.core.active = true ∨ s.m.fe.gating = true
    · obtain ⟨mnt', hgo⟩ := ({ s.m with tim := { s.m.tim with synth := {} } } : Mach).mintGo_mnt
      rw [Mach.sliceRestart_of_gated hactive hlock hgated, hgo] at hrun
      exact ⟨_, hrun, rfl, fun hcore hgating => absurd hgated (by simp [hcore, hgating]), fun _ => ⟨rfl, rfl, rfl⟩⟩
    · obtain ⟨hcore, hgating⟩ : s.m.tim.core.active = false ∧ s.m.fe.gating = false := by simpa using hgated
      obtain ⟨mnt', trm, hrestart⟩ := Mach.sliceRestart_of_free hactive hlock hcore hgating hidle
      rw [hrestart] at hrun
      exact ⟨_, hrun, rfl, fun _ _ => ⟨rfl, rfl⟩, fun h => absurd h hgated⟩
  · exact State.run_of_eq (f := fun m => if m.tim.synth.active && m.tim.synth.lock then m.sliceRestart.mintDrive else m)
      (if_neg (by rcases hidle with h | h <;> simp [h]))
  · exact State.run_of_eq (f := (·.synthUnlock)) (Mach.synthUnlock_of_unlocked hlock)
  · exact (run_awake s (·.relockFail true) hawake).trans (by rw [Mach.relockFail_core hactive hlock hagain])
  · exact (run_awake s (·.relockFail false) hawake).trans (by rw [Mach.relockFail_synth hactive hlock hagain])
  · simp [Mach.relockAgain, Relock.next, hcore, hsynth, hmore]
  · have hretry : s.m.relockRetry 1 = ({ s.m with tim := s.m.tim.retried } : Mach).coreRelock s.m.tim.coreCause.toNat := by
      rw [Mach.relockRetry_one, Tim.retried_of_none hcore hsynth]; simp [hcore, hsynth, hpower, hholding]
    refine ⟨_, (run_awake s (·.relockRetry 1) hawake).trans (by rw [hretry]), rfl, ?_⟩
    simp [Mach.coreRelock_tim, Tim.retried_of_none hcore hsynth, Tim.source]
  · refine (run_awake s (·.relockRetry 1) hawake).trans ?_
    dsimp only
    rw [Mach.relockRetry_one]
    simp [Tim.retried, Relock.restart, hcore, hlock, hsynth]
  · have hrelock := Mach.synthRelock_of_start (m := { s.m with tim := { s.m.tim.retried with synthAfter := false } }) hslice rfl
      (by rw [Tim.retried_of_none hcore hsynth]; exact hcore)
    have hretry : s.m.relockRetry 1 = ({ s.m with tim := { s.m.tim.retried with synthAfter := false } } : Mach).synthRelock := by
      rw [Mach.relockRetry_one, Tim.retried_of_none hcore hsynth]; simp [hcore, hsynth, hpower, hholding, hlock]
    refine ⟨_, (run_awake s (·.relockRetry 1) hawake).trans (by rw [hretry, hrelock]), rfl, ?_⟩
    simp [Tim.retried_of_none hcore hsynth]
  · refine (run_awake s (·.relockRetry 1) hawake).trans ?_
    dsimp only
    rw [Mach.relockRetry_one, Tim.retried_of_none hcore hsynth]
    simp [hcore, hsynth, hholding, hlock]
  · exact State.run_of_eq (f := (·.relockFail true)) (Mach.relockFail_of_none hidle)
  · exact State.run_of_eq (f := (·.relockFail false)) (Mach.relockFail_of_none hidle)
end

section
/-! SUPPORT. Arming, finishing and stopping a quire, and the statement about them (R447 to R450). -/

namespace Sys2Proof.Machine

theorem Mach.chainFail_cal_eq (m : Mach) (cause : Nat) : ∃ cal, m.chainFail cause = { m with cal } := by
  unfold Mach.chainFail
  (repeat' split)
  all_goals first | exact ⟨_, rfl⟩ | exact ⟨m.cal, rfl⟩

/-- Every detector UNDECIDED (R373). -/
theorem Mach.undecide_all (m : Mach) (e : Fin 64) :
    ((m.undecide fun _ => true).trg.entries[e]).a = .undecided ∧ ((m.undecide fun _ => true).trg.entries[e]).b = .undecided := by
  simp [Mach.undecide, Entry.reset]

/-- The settings in use are those of a quire of no Volume. -/
theorem Mach.quireCfg_volume (m : Mach) : { m.quireCfg with volume := false } = m.quireCfg := by
  unfold Mach.quireCfg
  dsimp only
  split <;> rfl

theorem Mach.armQuire_of_fault {m : Mach} (h : m.armFault m.quireCfg ≠ 0) : m.armQuire none =
    ({ m with qre := { m.qre with armCause := BitVec.ofNat 4 (m.armFault m.quireCfg), armPending := false } } : Mach).logEvent .data
      0x0701 (m.pval 0xC02).toNat (m.armFault m.quireCfg) := by
  simp only [Mach.armQuire, Option.isSome_none, m.quireCfg_volume]
  rw [if_pos (by simpa using h)]
  rfl

/-- What an arm leaves in the quire. -/
structure Qre.ArmedWith (q : Qre) (qid : Word) (cfg : QCfg) : Prop where
  st : q.st = .running
  qid : q.qid = qid
  cfg : q.cfg = cfg
  folios : q.folios = 0
  headers : q.headers = 0
  released : q.released = 0
  cur : q.cur = none

/-- A quire of no Volume armed (R447, R449). -/
theorem Mach.armQuire_of_ok {m : Mach} (h : m.armFault m.quireCfg = 0) : ∃ qre cal hall trg dec store vol tels,
    m.armQuire none = { m.pset 0xC02 (m.pval 0xC02 + 1) with qre, cal, hall, trg, dec, store, vol, tels } ∧
    qre.ArmedWith (m.pval 0xC02) m.quireCfg ∧ hall.history = [] ∧
    ∀ e : Fin 64, trg.entries[e].a = .undecided ∧ trg.entries[e].b = .undecided := by
  obtain ⟨cal, hfail⟩ := ({ m with cal := m.armCert m.quireCfg } : Mach).chainFail_cal_eq 10
  simp only [Mach.armQuire, Option.isSome_none, m.quireCfg_volume, h, bne_self_eq_false, Bool.false_eq_true, if_false, hfail, Mach.watermark]
  exact ⟨_, _, _, _, _, _, _, _, rfl, ⟨rfl, rfl, rfl, rfl, rfl, rfl, rfl⟩, rfl, Mach.undecide_all _⟩

theorem Mach.armNow_of_alone {m : Mach} (hshed : m.armShed m.quireCfg = false) (hvol : m.volOn = false) : m.armNow = m.armQuire none := by
  simp [Mach.armNow, hshed, Mach.isPrincipal, hvol]

theorem Mach.armNow_of_shed {m : Mach} (hshed : m.armShed m.quireCfg = true) :
    m.armNow = { m with qre := { m.qre with armPending := true, armBy := m.flt.origin } } := if_pos hshed

theorem Mach.qreArm_one (m : Mach) : m.qreArm 1 =
    if m.running then { m with qre := { m.qre with armPending := true, armBy := m.flt.origin } } else m.armNow := rfl

theorem Mach.armLand_one (m : Mach) : m.armLand 1 = { m with qre := { m.qre with
    armPending := m.qre.armPending || m.running, armDue := m.qre.armDue || !m.running, armBy := m.flt.origin } } := by
  cases hrun : m.running <;> simp [Mach.armLand, hrun, bitOf]

theorem Mach.qreStop_two_of_open {m : Mach} (hst : m.qre.st = .running) (hopen : m.qre.cur.isSome = true) :
    m.qreStop 2 = { m with qre := { m.qre with st := .finishing, endCause := 3 } } := by
  change (if m.qre.st == .running then _ else _) = _
  simp [hst, hopen]

theorem Mach.qreStop_two_of_closed {m : Mach} (hst : m.qre.st = .running) (hclosed : m.qre.cur = none) :
    m.qreStop 2 = m.closeQuire 3 := by
  change (if m.qre.st == .running then _ else _) = _
  simp [hst, hclosed]

/-- What QRE_STOP leaves in the quire. -/
theorem Mach.qreStop_one_qre (m : Mach) :
    (m.qreStop 1).qre = { (m.stopQuire 2 m.tim.boundary).qre with armPending := false, volPending := false } := by
  change Mach.qre (match (m.stopQuire 2 m.tim.boundary).vol.arm with | some a => _ | none => _) = _
  split <;> simp

theorem Mach.qreStop_one_of_idle {m : Mach} (hidle : m.running = false) (harm : m.vol.arm = none) :
    m.qreStop 1 = { m with qre := { m.qre with armPending := false, volPending := false } } := by
  change (match (m.stopQuire 2 m.tim.boundary).vol.arm with | some a => _ | none => _) = _
  rw [Mach.stopQuire_of_idle 2 _ hidle, harm]

theorem Mach.stopQuire_qid (m : Mach) (cause x : Nat) : (m.stopQuire cause x).qre.qid = m.qre.qid := by
  unfold Mach.stopQuire Mach.truncate
  split
  · rw [Mach.closeQuire_qre]
    split <;> simp [Mach.endFolio]
  · rfl

theorem Mach.stopQuire_closeCause {m : Mach} (cause x : Nat) (h : m.running = true) :
    (m.stopQuire cause x).qre.closeCause = BitVec.ofNat 4 cause := by
  rw [Mach.stopQuire, if_pos h, Mach.closeQuire_qre]

/-! ### The commands -/

theorem exec_qreArm (s : State) : exec .qreArm s =
    s.run fun m => if m.isMember || m.armRefused [(0xC00, 1)] then m else if s.work < 5 then m.armLand 1 else m.qreArm 1 := rfl

theorem exec_qreFinish {s : State} (hawake : s.awake) (hmember : s.m.isMember = false) :
    exec .qreFinish s = .next (s.withEngine (s.m.qreStop 2)) := by
  change s.run (fun m => if m.isMember then m else m.qreStop 2) = _
  rw [run_awake s _ hawake, hmember]
  rfl

theorem exec_qreStop {s : State} (hawake : s.awake) (hmember : s.m.isMember = false) :
    exec .qreStop s = .next (s.withEngine (s.m.qreStop 1)) := by
  change s.run (fun m => if m.isMember then m else m.qreStop 1) = _
  rw [run_awake s _ hawake, hmember]
  rfl

end Sys2Proof.Machine

open Sys2Proof.Machine

/-- Settles O31: an arm latches the settings in use, or is refused, pending or without effect; a stop closes what runs. -/
theorem quiresArmAndStop : Obligations.QuiresArmAndStop := by
  refine ⟨⟨fun s hawake hwork hvol hallowed hwf => ?_, fun s hawake hwork hmember hallowed => ?_, fun s hnone => ?_⟩,
    fun s hawake hpending => ?_, fun s hnone => ?_, fun s hawake hmember hst => ?_, fun s hawake hmember hrunning => ?_,
    fun s hawake hmember hidle harm => ?_⟩
  · have hmember : s.m.isMember = false := by simp [Mach.isMember, hvol]
    have hrun : exec .qreArm s = .next (s.withEngine (s.m.qreArm 1)) := by
      rw [exec_qreArm, run_awake s _ hawake, if_neg (by rw [hmember, hallowed]; decide), if_neg (by omega)]
    rw [Mach.qreArm_one] at hrun
    refine ⟨fun hidle hshed hok => ?_, fun hidle hshed hfault => ?_, fun hrunning => ?_, fun hshed => ?_⟩
    · obtain ⟨qre, cal, hall, trg, dec, store, vol, tels, harm, harmed, hhall, hentries⟩ := Mach.armQuire_of_ok hok
      rw [hidle, if_neg (by decide), Mach.armNow_of_alone hshed hvol, harm] at hrun
      refine ⟨_, hrun, rfl, harmed.st, harmed.qid, harmed.cfg, harmed.folios, harmed.headers, harmed.released, harmed.cur, ?_, fun a ha => ?_,
        hhall, hentries⟩
      · exact (pval_pset s.m _ _ _ hwf).trans (if_pos rfl)
      · exact (pval_pset s.m _ _ _ hwf).trans (if_neg ha)
    · rw [hidle, if_neg (by decide), Mach.armNow_of_alone hshed hvol, Mach.armQuire_of_fault hfault] at hrun
      exact hrun
    · rw [if_pos hrunning] at hrun
      exact hrun
    · rw [Mach.armNow_of_shed hshed, ite_self] at hrun
      exact hrun
  · rw [exec_qreArm, run_awake s _ hawake, if_neg (by rw [hmember, hallowed]; decide), if_pos hwork, Mach.armLand_one]
  · rw [exec_qreArm]
    exact State.run_of_eq (if_pos (Bool.or_eq_true_iff.mpr hnone))
  · have hrun : exec .pendingArm s = .next (s.withEngine s.m.pendingArm) := run_awake s _ hawake
    rw [Mach.pendingArm, hpending] at hrun
    exact ⟨fun hrunning => by rw [hrun, hrunning]; rfl, fun hidle => by rw [hrun, hidle]; rfl⟩
  · exact State.run_of_eq (f := (·.pendingArm)) (if_neg (by simp [hnone]))
  · have hrun := exec_qreFinish hawake hmember
    refine ⟨fun hopen => by rw [hrun, Mach.qreStop_two_of_open hst hopen], fun hclosed => ?_⟩
    rw [Mach.qreStop_two_of_closed hst hclosed] at hrun
    refine ⟨_, hrun, rfl, Mach.closeQuire_running _ _, ?_, by simp, by simp⟩
    rw [Mach.closeQuire_qre]; rfl
  · have hrun := exec_qreStop hawake hmember
    refine ⟨_, hrun, rfl, ?_, ?_, ?_, ?_, by simp⟩
    · have hstopped := s.m.stopQuire_running 2 s.m.tim.boundary
      rw [Mach.running, Mach.qreStop_one_qre]; exact hstopped
    · rw [Mach.qreStop_one_qre]; exact Mach.stopQuire_closeCause 2 _ hrunning
    · rw [Mach.qreStop_one_qre]
    · rw [Mach.qreStop_one_qre]; exact Mach.stopQuire_qid _ _ _
  · rw [exec_qreStop hawake hmember, Mach.qreStop_one_of_idle hidle harm]
end

section
/-! SUPPORT. DDR5 training, refresh, power-down and self-refresh, and the statement about them (R258, R461 to R471). -/

namespace Sys2Proof.Machine

/-! ### Training -/

theorem Mach.trainingStart_of_due {m : Mach} (hstore : m.domUp 4 = true) (hst : m.store.st = .untrained) (hstep4 : m.boot.step4 = true)
    (hpll : m.boot.onPll = true) : m.trainingStart = m.trainDdr (!m.store.kept) := if_pos (by simp [hstore, hst, hstep4, hpll])

/-- Full training leaves the Ledger and the Vault, and DDR5 at its defaults. -/
theorem Mach.readByte_trainDdr_full (m : Mach) (a : Nat) :
    readByte (m.trainDdr true).mem a = if a < ledgerBase then memDefault a else readByte m.mem a := by
  simp only [Mach.trainDdr, if_true, readByte]
  rw [sget_filter memDefault (fun k => decide (ledgerBase ≤ k)) m.mem a]
  by_cases h : a < ledgerBase
  · rw [if_pos h, if_neg (by simpa using h)]
  · rw [if_neg h, if_pos (by simpa using h)]

theorem Mach.trainingEnd_of_pass {m : Mach} (ws : List (Fin 4 × Fin 15 × Word)) (h : m.store.st = .training) :
    ∃ trn, m.trainingEnd { fail := none, words := ws } = { m with store := { m.store with st := .trained, trn, accessed := true } } := by
  unfold Mach.trainingEnd
  rw [if_neg (by simp [h])]
  exact ⟨_, rfl⟩

theorem Mach.trainingEnd_of_fail {m : Mach} (step : Nat) (subs : BitVec 4) (ws : List (Fin 4 × Fin 15 × Word)) (h : m.store.st = .training) :
    ∃ trn, m.trainingEnd { fail := some (step, subs), words := ws } = ({ m with store := { m.store with
      st := .failed, trn, failStep := BitVec.ofNat 4 step, failSub := subs } } : Mach).logEvent .data 0x0704 step subs.toNat none (some 4) := by
  unfold Mach.trainingEnd
  rw [if_neg (by simp [h])]
  exact ⟨_, rfl⟩

theorem Mach.trainingEnd_of_other {m : Mach} (o : TrainObs) (h : m.store.st ≠ .training) : m.trainingEnd o = m := if_pos (by simpa using h)

/-! ### Commanded training (R463) -/

/-- `QRE.MEMRETRAIN` is quire-bound. -/
theorem rowOf_memRetrain : ∃ r, rowOf 0xC43 = some r ∧ r.cls = .quire := ⟨_, rfl, rfl⟩

theorem quireBound_memRetrain : quireBound 0xC43 = true ∧ valueOk 0xC43 1 = true := ⟨by decide, by decide⟩

theorem Mach.land_memRetrain {m : Mach} (v : Word) (hidle : m.running = false) : m.land 0xC43 v = m.pset 0xC43 v := by
  obtain ⟨r, hrow, hcls⟩ := rowOf_memRetrain
  rw [Mach.land, hrow]
  simp [hcls, hidle, chainDrives]

theorem Mach.useTaps_dec (m : Mach) : ∃ dec, m.useTaps = { m with dec } := by
  unfold Mach.useTaps
  split
  · exact ⟨_, rfl⟩
  · exact ⟨m.dec, rfl⟩

/-- `QRE.MEMRETRAIN` taken into use alone starts training and clears itself (R463). -/
theorem Mach.takeUse_memRetrain (m : Mach) (old : Word) : ∃ qre ctl dec,
    m.takeUse [(0xC43, old)] = (({ m with qre, ctl, dec } : Mach).memRetrain (m.use 0xC43)).pset 0xC43 0 := by
  obtain ⟨dec, htaps⟩ := ({ m with qre := { m.qre with gen := m.qre.gen + 1 }, ctl := { m.ctl with digestDue := true } } : Mach).useTaps_dec
  refine ⟨{ m.qre with gen := m.qre.gen + 1 }, { m.ctl with digestDue := true }, dec, ?_⟩
  unfold Mach.takeUse
  rw [if_neg (by simp)]
  simp only [List.lookup, List.range, List.range.loop, List.foldl, Mach.useFront, List.any]
  simp [htaps]
  rfl

/-- A value landing there with no quire running: it is current, pinned where it can be, and taken into use at once. -/
theorem Mach.landValues_memRetrain {m : Mach} (v : Word) (hidle : m.running = false) (hquire : m.par.quire.lookup 0xC43 = none) :
    m.landValues none true [(0xC43, v)] = (((m.pset 0xC43 v).pin 0xC43).takeUse [(0xC43, m.use 0xC43)]).serve := by
  have hone : m.landOne none 0xC43 v = m.pset 0xC43 v := by
    simp [Mach.landOne, Mach.land_memRetrain v hidle]
  have hquire' : ((m.pset 0xC43 v).pin 0xC43).par.quire.lookup 0xC43 = none := by
    unfold Mach.pin
    split <;> exact hquire
  simp only [Mach.landValues, List.filter_cons, List.filter_nil, quireBound_memRetrain.1, if_true, List.map_cons, List.map_nil,
    List.foldl_cons, List.foldl_nil]
  simp [hone, hquire']

theorem Mach.serve_mem (m : Mach) : m.serve.mem = m.mem := by simp

/-- QRE_MEMRETRAIN with STORE usable and no quire running (R463). -/
theorem Mach.landReg_memRetrain {m : Mach} (hstore : m.domUp 4 = true) (hidle : m.running = false) (hwf : swf resetOf m.par.landed = true)
    (hquire : m.par.quire.lookup 0xC43 = none) (hframe : m.par.frame.lookup 0xC43 = none) :
    (m.landReg 0xC43 1).store.st = .training ∧ (m.landReg 0xC43 1).store.full = true ∧ (m.landReg 0xC43 1).pval 0xC43 = 0 ∧
    ∀ a, ledgerBase ≤ a → readByte (m.landReg 0xC43 1).mem a = readByte m.mem a := by
  obtain ⟨hall, hnote⟩ := m.noteNow_hall_eq
  have hland : m.landReg 0xC43 1 = ((((({ m with hall } : Mach).pset 0xC43 1).pin 0xC43)).takeUse [(0xC43, m.use 0xC43)]).serve := by
    rw [Mach.landReg, if_pos quireBound_memRetrain.2, hnote]
    exact Mach.landValues_memRetrain (m := { m with hall }) 1 hidle hquire
  have hpin : ∃ pins, ((({ m with hall } : Mach).pset 0xC43 1).pin 0xC43) =
      { ({ m with hall } : Mach).pset 0xC43 1 with par := { (m.pset 0xC43 1).par with pins } } := by
    unfold Mach.pin
    split
    · exact ⟨_, rfl⟩
    · exact ⟨m.par.pins, rfl⟩
  obtain ⟨pins, hpin⟩ := hpin
  obtain ⟨qre, ctl, dec, htake⟩ := ((({ m with hall } : Mach).pset 0xC43 1).pin 0xC43).takeUse_memRetrain (m.use 0xC43)
  have huse : ((({ m with hall } : Mach).pset 0xC43 1).pin 0xC43).use 0xC43 = 1 := by
    rw [hpin]
    have hval : (m.pset 0xC43 1).pval 0xC43 = 1 := (pval_pset m _ _ 1 hwf).trans (if_pos rfl)
    simp only [Mach.use, Mach.pset, hquire, hframe]
    exact hval
  rw [huse, Mach.memRetrain, if_pos (by rw [hpin]; simpa [bitOf, Mach.domUp, Mach.pset] using hstore), hpin] at htake
  rw [hland, hpin, htake]
  refine ⟨by simp; rfl, by simp; rfl, ?_, fun a ha => ?_⟩
  · rw [Mach.pval, (Mach.serve_keeps _).1]
    refine (pval_pset _ 0xC43 0xC43 0 ?_).trans (if_pos rfl)
    rw [(Mach.trainDdr_keeps _ true).1]
    exact sput_wf resetOf m.par.landed 0xC43 1 hwf
  · rw [Mach.serve_mem]
    exact (Mach.readByte_trainDdr_full _ a).trans (if_neg (by omega))

end Sys2Proof.Machine

open Sys2Proof.Machine

/-- Settles O35: each command's conditions pick one branch; a commanded training is one that the landing of `QRE.MEMRETRAIN` brings. -/
theorem memoryTrainsAndRests : Obligations.MemoryTrainsAndRests := by
  refine ⟨⟨fun s hawake hstore hst hstep4 hpll => ?_, fun s hnone => ?_, fun s hawake hstore hidle hwaiting hwf hquire hframe => ?_,
    fun ws s hawake hst => ?_, fun step subs ws s hawake hst => ?_, fun o s hst => ?_⟩,
    fun s hawake hup hself => ⟨fun fast => ?_, fun c => ?_, fun htol haccess => ?_, fun hnone => ?_⟩, fun s hdown => ⟨fun fast => ?_, fun c => ?_, ?_⟩,
    fun s hawake hself hup => ?_, fun s hnone => ?_, fun s hrunning => ?_⟩
  · have htrain := Mach.trainingStart_of_due hstore hst hstep4 hpll
    refine ⟨_, (run_awake s (·.trainingStart) hawake).trans (by rw [htrain]), rfl, rfl, rfl, rfl, rfl, rfl, fun hkept => ?_, fun hcleared a => ?_⟩
    · simp [Mach.trainDdr, hkept]
    · rw [hcleared]; exact s.m.readByte_trainDdr_full a
  · refine State.run_of_eq (f := (·.trainingStart)) (if_neg ?_)
    rcases hnone with h | h | h | h <;> simp [h]
  · exact ⟨_, run_awake s (·.landReg 0xC43 1) hawake, rfl, Mach.landReg_memRetrain hstore hidle hwf hquire hframe⟩
  · obtain ⟨trn, hend⟩ := Mach.trainingEnd_of_pass ws hst
    exact ⟨_, (run_awake s (·.trainingEnd _) hawake).trans (by rw [hend]), rfl⟩
  · obtain ⟨trn, hend⟩ := Mach.trainingEnd_of_fail step subs ws hst
    exact ⟨trn, (run_awake s (·.trainingEnd _) hawake).trans (by rw [hend])⟩
  · exact State.run_of_eq (f := (·.trainingEnd o)) (Mach.trainingEnd_of_other o hst)
  · exact (run_awake s (·.refresh fast) hawake).trans (by rw [Mach.refresh, if_pos (by simp [hup, hself])])
  · refine ⟨_, (run_awake s (·.powerDown c.val) hawake).trans (by rw [Mach.powerDown, if_pos (by simp [hup, hself])]), rfl, fun e => ?_⟩
    rw [vset_get]
    by_cases he : e = c
    · simp [he]
    · rw [if_neg (fun h => he (Fin.ext h.symm))]; simp [he]
  · exact (run_awake s (·.selfRefresh) hawake).trans (by rw [Mach.selfRefresh, if_pos (by simp [hup, hself, htol, haccess])])
  · exact State.run_of_eq (f := (·.selfRefresh)) (if_neg (by rcases hnone with h | h <;> simp [h]))
  · exact State.run_of_eq (f := (·.refresh fast)) (if_neg (by rcases hdown with h | h <;> simp [h]))
  · exact State.run_of_eq (f := (·.powerDown c.val)) (if_neg (by rcases hdown with h | h <;> simp [h]))
  · exact State.run_of_eq (f := (·.selfRefresh)) (if_neg (by rcases hdown with h | h <;> simp [h]))
  · exact (run_awake s (·.selfRefreshExit) hawake).trans (by rw [Mach.selfRefreshExit, if_pos (by simp [hup, hself])])
  · exact State.run_of_eq (f := (·.selfRefreshExit)) (if_neg (by rcases hnone with h | h <;> simp [h]))
  · simp [Mach.tolerant, hrunning]
end

section
/-! SUPPORT. Overload, settling windows and the restart of a mode change, and the statement about them (R281 to R291). -/

namespace Sys2Proof.Machine

/-- What an event can change: the counters and queues of the faults, what the sessions saw of them, and the spine's EVENT queue. -/
theorem Mach.logEvent_eq (m : Mach) (plane : Plane) (code a b : Nat) (origin : Option Master) (cls : Option Nat) :
    ∃ ctl flt spn, m.logEvent plane code a b origin cls = { m with ctl, flt, spn } := by
  have hkeeps := m.logEvent_keeps plane code a b origin cls
  generalize m.logEvent plane code a b origin cls = n at hkeeps
  refine ⟨n.ctl, n.flt, n.spn, ?_⟩
  cases n
  simp_all

/-! ### Overload (R281, R282, R284) -/

theorem Mach.overloadFire_of_same {m : Mach} {k : Fin 4} {p n : Int} (h : (m.fe.front[k].powered && m.overloads k.val p n) = m.fe.front[k].firing) :
    m.overloadFire k.val p n = m := by
  unfold Mach.overloadFire
  rw [vget_eq, if_pos (by simpa using h)]

theorem Mach.overloadFire_of_release {m : Mach} {k : Fin 4} {p n : Int} (hfiring : m.fe.front[k].firing = true)
    (hoff : m.fe.front[k].powered = false ∨ m.overloads k.val p n = false) :
    m.overloadFire k.val p n = m.modFront k.val fun f => { f with firing := false } := by
  have hon : (m.fe.front[k].powered && m.overloads k.val p n) = false := by rcases hoff with h | h <;> rw [h] <;> simp
  unfold Mach.overloadFire
  rw [vget_eq]
  dsimp only
  rw [hon, hfiring]
  rfl

/-- The input as the fire leaves it; `say` tells whether OVERLOAD is logged. -/
def Front.fired (f : Front) (say : Bool) (now : Nat) : Front :=
  { f with firing := true, isOver := true, ovlS := true, ovlH := true, cnt := f.cnt + 1, lastLog := if say then some now else f.lastLog }

/-- Whether a fire at this beat is logged (R284). -/
def Mach.saysOverload (m : Mach) (f : Front) : Bool :=
  m.boot.acqReady && (match f.lastLog with | none => true | some b => decide (b + 1048576 ≤ m.tim.beats))

theorem Mach.overloadFire_of_fire {m : Mach} {k : Fin 4} {p n : Int} (hpowered : m.fe.front[k].powered = true)
    (hfiring : m.fe.front[k].firing = false) (hover : m.overloads k.val p n = true) : ∃ cal flt ctl spn,
    m.overloadFire k.val p n = { m with
      fe := { m.fe with front := vmod m.fe.front k.val fun f => f.fired (m.saysOverload m.fe.front[k]) m.tim.beats }
      trm := { m.trm with bad := m.trm.bad || (servedMask m.fe.mode).getLsbD k.val }
      hall := { m.hall with seen := m.hall.seen ||| 0x100 }, cal, flt, ctl, spn } := by
  have hsay (say : Bool) (h : say = m.saysOverload m.fe.front[k]) : ∃ cal flt ctl spn,
      (let m1 := m.modFront k.val fun f => { f with firing := true, isOver := true, ovlS := true, ovlH := true, cnt := f.cnt + 1
                                                    lastLog := if say then some m.tim.beats else f.lastLog }
       let m2 := (m1.spoil k).note 0x100
       let m3 := if m2.cal.pointOf.1 != 0 && m2.cal.pointOf.2.1 == k.val then m2.chainFail 13 else m2
       if say then m3.logEvent .data 0x0501 (k.val + 1) 0 else m3) = { m with
        fe := { m.fe with front := vmod m.fe.front k.val fun f => f.fired (m.saysOverload m.fe.front[k]) m.tim.beats }
        trm := { m.trm with bad := m.trm.bad || (servedMask m.fe.mode).getLsbD k.val }
        hall := { m.hall with seen := m.hall.seen ||| 0x100 }, cal, flt, ctl, spn } := by
    subst h
    extract_lets m1 m2 m3
    have hcal : ∃ cal, m3 = { m2 with cal } := by
      rcases Bool.eq_false_or_eq_true (m2.cal.pointOf.1 != 0 && m2.cal.pointOf.2.1 == k.val) with h | h
      · obtain ⟨cal, hfail⟩ := m2.chainFail_cal_eq 13
        exact ⟨cal, by simp only [m3, h, if_true, hfail]⟩
      · exact ⟨m2.cal, by simp only [m3, h]; rfl⟩
    obtain ⟨cal, hcal⟩ := hcal
    split
    · obtain ⟨ctl, flt, spn, hlog⟩ := m3.logEvent_eq .data 0x0501 (k.val + 1) 0 none none
      exact ⟨cal, flt, ctl, spn, by rw [hlog, hcal]; rfl⟩
    · exact ⟨cal, m.flt, m.ctl, m.spn, by rw [hcal]; rfl⟩
  unfold Mach.overloadFire
  rw [vget_eq]
  dsimp only
  rw [hpowered, hfiring, hover]
  exact hsay _ rfl

theorem Mach.modFront_other (m : Mach) (k : Fin 4) (f : Front → Front) {j : Fin 4} (h : j ≠ k) : (m.modFront k.val f).fe.front[j] = m.fe.front[j] := by
  exact (vmod_get m.fe.front k.val f j).trans (if_neg fun h' => h (Fin.ext h'.symm))

theorem Mach.modFront_same (m : Mach) (k : Fin 4) (f : Front → Front) : (m.modFront k.val f).fe.front[k] = f m.fe.front[k] := by
  exact (vmod_get m.fe.front k.val f k).trans (if_pos rfl)

/-! ### The restart after a mode change (R291) -/

theorem Mach.modeRestart_of_due {m : Mach} (hgating : m.fe.gating = true) (hdue : m.fe.restartAt ≤ m.tim.beats) :
    m.modeRestart = if m.tim.core.active || m.tim.synth.active || !m.tim.synthLock || !m.domUp 3 then { m with fe := { m.fe with gating := false } }
      else ({ m with fe := { m.fe with gating := false } } : Mach).restartSlices := if_pos (by simp [hgating, hdue])

theorem Mach.modeRestart_of_not_due {m : Mach} (h : m.fe.gating = false ∨ m.tim.beats < m.fe.restartAt) : m.modeRestart = m :=
  if_neg (by rcases h with h | h <;> simp [h])

end Sys2Proof.Machine

open Sys2Proof.Machine

/-- Settles O37: each command changes the one input it names, and the restart is the slice clocks' own. -/
theorem overloadSettlingAndModeRestart : Obligations.OverloadSettlingAndModeRestart := by
  refine ⟨fun k p n s hawake hpowered hfiring hover => ?_, fun k p n s hawake hfiring hoff => ?_, fun k p n s hsame => ?_,
    fun k s hawake hfiring => ?_, fun k s hfiring => ?_, fun s hawake => ?_,
    fun s hawake hgating hdue hslice hsynthLock hcore hsynth hidle => ?_, fun s hawake hgating hdue hlocked => ?_, fun s hnone => ?_⟩
  · obtain ⟨cal, flt, ctl, spn, hfire⟩ := Mach.overloadFire_of_fire hpowered hfiring hover
    refine ⟨_, (run_awake s (·.overloadFire k.val p n) hawake).trans (by rw [hfire]), rfl, ?_⟩
    simp only [vmod_get, if_true, Front.fired]
    refine ⟨trivial, trivial, trivial, trivial, trivial, fun hacq => ?_, fun hacq hlast => ?_, fun j hj => if_neg fun h => hj (Fin.ext h.symm)⟩
    · exact if_neg (by rw [Mach.saysOverload, hacq]; exact Bool.false_ne_true)
    · exact if_pos (by rw [Mach.saysOverload, hacq, hlast]; rfl)
  · refine ⟨_, (run_awake s (·.overloadFire k.val p n) hawake).trans (by rw [Mach.overloadFire_of_release hfiring hoff]), rfl, ?_⟩
    exact ⟨s.m.modFront_same k _, fun j hj => s.m.modFront_other k _ hj⟩
  · exact State.run_of_eq (f := (·.overloadFire k.val p n)) (Mach.overloadFire_of_same hsame)
  · obtain ⟨hall, hnote⟩ := s.m.noteNow_hall_eq
    refine ⟨_, (run_awake s (·.overloadEnd k.val) hawake).trans (by rw [Mach.overloadEnd, vget_eq, hfiring, hnote, if_neg Bool.false_ne_true]), rfl, ?_⟩
    exact ⟨({ s.m with hall } : Mach).modFront_same k _, fun j hj => ({ s.m with hall } : Mach).modFront_other k _ hj⟩
  · exact State.run_of_eq (f := (·.overloadEnd k.val)) (if_pos (by rw [vget_eq]; exact hfiring))
  · refine ⟨_, run_awake s (·.settlingEnd) hawake, rfl, fun k => ⟨fun b hb hle => ?_, fun hwait => ?_⟩⟩
    · refine (vmap_get _ _ k).trans ?_
      rw [hb]
      exact if_pos hle
    · refine (vmap_get _ _ k).trans ?_
      rcases hwait with hnone | ⟨b, hb, hlt⟩
      · rw [hnone]
      · rw [hb]
        exact if_neg (Nat.not_le.mpr hlt)
  · obtain ⟨trm, hrestart⟩ := Mach.restartSlices_of_idle (m := { s.m with fe := { s.m.fe with gating := false } }) hidle
    refine ⟨_, (run_awake s (·.modeRestart) hawake).trans (by
      rw [Mach.modeRestart_of_due hgating hdue, if_neg (by simp [hcore, hsynth, hsynthLock, hslice]), hrestart]), rfl, rfl⟩
  · refine (run_awake s (·.modeRestart) hawake).trans ?_
    rw [Mach.modeRestart_of_due hgating hdue, if_pos]
    rcases hlocked with h | h | h | h <;> simp [h]
  · exact State.run_of_eq (f := (·.modeRestart)) (Mach.modeRestart_of_not_due hnone)
end

section
/-! SUPPORT. A trigger attempt, and the statement about it (R399 to R417). -/

namespace Sys2Proof.Machine

/-- A folio opened is the quire's next, of the stamp and mask given (R414). -/
theorem Mach.openFolio_qre (m : Mach) (first : Int) (stamp : BitVec 96) (mask : BitVec 64) (winner source : Nat) : ∃ qre,
    m.openFolio first stamp mask winner source = { m with qre } ∧ qre.folios = m.qre.folios + 1 ∧
    ∃ f, qre.cur = some f ∧ f.qid = m.qre.qid ∧ f.idx = m.qre.folios ∧ f.stamp = stamp ∧ f.mask = mask ∧ f.cfg = m.qre.cfg := by
  unfold Mach.openFolio
  extract_lets q c f isOver q1 q2 lost
  refine ⟨_, rfl, ?_⟩
  cases isOver <;> exact ⟨rfl, f, rfl, rfl, rfl, rfl, rfl, rfl⟩

section
variable {m : Mach} {d : Detection} {mask : BitVec 64}

theorem Mach.attempt_of_not_running (hvol : m.qre.cfg.volume = false) (hst : m.qre.st ≠ .running) : m.attempt d mask = (m, 1) := by
  rw [Mach.attempt, if_neg (by simp [hvol]), if_pos (by simpa using hst)]

theorem Mach.attempt_of_inside (hvol : m.qre.cfg.volume = false) (hst : m.qre.st = .running) (hprev : m.qre.cfg.trigIndex d.inst < m.qre.lastEnd) :
    m.attempt d mask = ({ m with trg := { m.trg with busyRej := m.trg.busyRej + 1 } }, 2) := by
  rw [Mach.attempt, if_neg (by simp [hvol]), if_neg (by simp [hst])]
  exact if_pos hprev

/-- The attempt counted for the holdoff (R413). -/
def Mach.heldCount (m : Mach) : Mach := { m with trg := { m.trg with holdCnt := min (m.trg.holdCnt + 1) (2 ^ 25 - 1) } }

/-- The checks behind the folio's own: the holdoff and the credit. -/
theorem Mach.attempt_of_outside (hvol : m.qre.cfg.volume = false) (hst : m.qre.st = .running)
    (hprev : m.qre.lastEnd ≤ m.qre.cfg.trigIndex d.inst) (hcur : m.qre.cur = none) : ∃ first : Int, ∃ seq,
    m.attempt d mask =
      if !m.heldCount.holdoffOver d.stamp then ({ m.heldCount with trg := { m.heldCount.trg with holdRej := m.trg.holdRej + 1 } }, 3)
      else if m.trg.credits = 0 then ({ m.heldCount with trg := { m.heldCount.trg with rateRej := m.trg.rateRej + 1 } }, 4)
      else (({ m with trg := { m.trg with credits := m.trg.credits - 1, accept := m.trg.accept + 1, holdCnt := 0, lastAcc := some d.stamp,
                                          seq } } : Mach).openFolio first d.stamp mask d.entry d.src, 0) := by
  refine ⟨m.qre.cfg.trigIndex d.inst - 64 * m.qre.cfg.pre, if (m.heldCount.entryCfg d.entry).gated then
    vset m.trg.seq (m.heldCount.entryCfg d.entry).seq none else m.trg.seq, ?_⟩
  rw [Mach.attempt, if_neg (by simp [hvol]), if_neg (by simp [hst])]
  dsimp only
  rw [if_neg (Int.not_lt.mpr hprev), show (if m.qre.cur.isSome then m.folioEnd else m) = m from if_neg (by simp [hcur]), if_neg (by simp [hst])]
  simp only [hvol]
  rfl

end

end Sys2Proof.Machine

open Sys2Proof.Machine

/-- Settles O42: with no Volume quire the checks of R413 are tried in order, and the last branch is the acceptance. -/
theorem triggersAreAcceptedOrRejected : Obligations.TriggersAreAcceptedOrRejected := by
  intro m d mask hvol
  refine ⟨fun hidle => ?_, fun hst hprev => Mach.attempt_of_inside hvol hst hprev, fun hst hprev hcur => ?_⟩
  · exact Mach.attempt_of_not_running hvol fun hst => by simp [Mach.running, hst] at hidle
  · obtain ⟨first, seq, hattempt⟩ := Mach.attempt_of_outside (mask := mask) hvol hst hprev hcur
    refine ⟨fun hheld => hattempt.trans (if_pos (by rw [Bool.not_eq_true']; exact hheld)), fun hover hnone => ?_, fun hover hcredit => ?_⟩
    · exact hattempt.trans ((if_neg (by rw [Bool.not_eq_true', Bool.not_eq_false]; exact hover)).trans (if_pos hnone))
    · obtain ⟨qre, hopen, hfolios, hcurrent⟩ := Mach.openFolio_qre { m with trg := { m.trg with
        credits := m.trg.credits - 1, accept := m.trg.accept + 1, holdCnt := 0, lastAcc := some d.stamp, seq } } first d.stamp mask d.entry d.src
      refine ⟨_, hattempt.trans ((if_neg (by rw [Bool.not_eq_true', Bool.not_eq_false]; exact hover)).trans ((if_neg (by omega)).trans (by rw [hopen]))), ?_⟩
      exact ⟨rfl, rfl, rfl, hfolios, hcurrent, rfl, rfl⟩
end

section
/-! SUPPORT. The Ledger's folios: the counterexample to the statement about them (R481). -/

namespace Sys2Proof.Machine

/-- An engine out of reset with DDR5 trained, one folio in the Ledger's backlog and a commit of the SPI master sealed. -/
def badFolioAtSealedCommit : Mach :=
  { boot.inReset := false, pwr.dom := Vector.replicate 8 .usable, store.st := .trained
    ldg.backlog := [{ qid := 0, idx := 0, addr := 0, size := 0, armGen := 0 }]
    ctl.spi.commit := some { changes := [], landing := 0, num := 1 } }

/-- Taking the folio with an uncorrectable error raises STORE, and the sealed commit takes note of the raise (R746). -/
theorem ledgerTake_badFolioAtSealedCommit_ctl_ne : (badFolioAtSealedCommit.ledgerTake true none).ctl ≠ badFolioAtSealedCommit.ctl := by decide

end Sys2Proof.Machine

open Sys2Proof.Machine

/-- Refutes O43: the take of a folio is said to change nothing but the Ledger, the store's counts, the log and the spine, but the alert
of a bad folio is also noted in a sealed commit, which is part of the control port. -/
theorem not_ledgerAccumulatesFolios : ¬ Obligations.LedgerAccumulatesFolios := by
  intro h
  obtain ⟨⟨htake, _⟩, _⟩ := h
  obtain ⟨t, hexec, hframe, _⟩ := htake true none _ [] { m := badFolioAtSealedCommit } rfl rfl rfl rfl (by decide) (by decide)
  cases (run_awake { m := badFolioAtSealedCommit } (·.ledgerTake true none) rfl).symm.trans hexec
  exact ledgerTake_badFolioAtSealedCommit_ctl_ne (congrArg (·.m.ctl) hframe)
end

section
/-! SUPPORT. The histogram's decay: the counterexample to the statement about pages and the histogram (R495). -/

namespace Sys2Proof.Machine

/-- An engine at a decay pass whose memory lists two histogram cells with falling addresses, which no step leaves (O4). -/
def decayOfUnorderedMemory : Mach := { boot.inReset := false, ldg.decaying := true, mem := [(cellAddr 0 1, 5), (cellAddr 0 0, 1)] }

/-- The cell behind the larger address keeps its count of 1. -/
theorem decayEnd_decayOfUnorderedMemory_cell : readNat decayOfUnorderedMemory.decayEnd.mem (cellAddr 0 0) 2 ≠
    readNat decayOfUnorderedMemory.mem (cellAddr 0 0) 2 -
      max 1 (readNat decayOfUnorderedMemory.mem (cellAddr 0 0) 2 >>> decayOfUnorderedMemory.pnat 0xD46) := by decide

end Sys2Proof.Machine

open Sys2Proof.Machine

/-- Refutes O44: its decay clause is about every memory, and in one that is not in its canonical form the write of a cell's default
does not reach the listed byte. -/
theorem not_pagesAndHistogramClear : ¬ Obligations.PagesAndHistogramClear := by
  intro h
  obtain ⟨_, _, _, hdecay, _⟩ := h
  obtain ⟨t, hexec, _, hcells, _⟩ := hdecay { m := decayOfUnorderedMemory } rfl rfl (by decide)
  cases (run_awake { m := decayOfUnorderedMemory } (·.decayEnd) rfl).symm.trans hexec
  exact decayEnd_decayOfUnorderedMemory_cell (hcells 0 0 (by decide) (by decide))
end

section
/-! SUPPORT. Training of a Spine port: the counterexample to the statement about it (R547 to R549). -/

namespace Sys2Proof.Machine

/-- An engine whose port 0 is in TRAIN at step 0, which no attempt starts at, with every lane seen and ready. -/
def portTrainingAtStepZero : Mach :=
  { boot.inReset := false
    spn.port := Vector.replicate 3 { st := .train, step := 0, lanes := Vector.replicate 4 { seen := true, ready := true } } }

/-- A training frame of lane 0 that asks for nothing. -/
def quietFrame : FrameObs := { lane := 0, request := 0, status := 0, inverted := false }

/-- The frame leaves every lane of the port seen and ready, and its step 0. -/
theorem trainFrame_portTrainingAtStepZero :
    ((portTrainingAtStepZero.trainFrame 0 quietFrame).portOf 0).allLanes 0 (·.ready) = true ∧
    ((portTrainingAtStepZero.trainFrame 0 quietFrame).portOf 0).allLanes 0 (·.seen) = true ∧
    ((portTrainingAtStepZero.trainFrame 0 quietFrame).portOf 0).step ≠ 3 := by decide

end Sys2Proof.Machine

open Sys2Proof.Machine

/-- Refutes O47: its clause on a training frame takes every step up to 2 to step 3 once all lanes are ready, but only steps 1 and 2 of
an attempt can end; at step 0 nothing does. -/
theorem not_portsTrainAndMeet : ¬ Obligations.PortsTrainAndMeet := by
  intro h
  obtain ⟨_, hframe, _⟩ := h
  obtain ⟨t, hexec, _, _, _, hthree, _⟩ := hframe 0 quietFrame { m := portTrainingAtStepZero } rfl (by decide) (by decide) (by decide) (by decide)
  cases (run_awake { m := portTrainingAtStepZero } (·.trainFrame 0 quietFrame) rfl).symm.trans hexec
  obtain ⟨hready, hseen, hstep⟩ := trainFrame_portTrainingAtStepZero
  exact hstep (hthree hready hseen)
end

section
/-! SUPPORT. The link layer's retry, and the statement about it (R544, R545, R562, R565, R567, R568). -/

namespace Sys2Proof.Machine

/-! ### One port of the Spine -/

theorem Mach.portOf_eq (m : Mach) (p : Fin 3) : m.portOf p.val = m.spn.port[p] := vget_eq _ p

theorem Mach.portUp_eq (m : Mach) (p : Fin 3) : m.portUp p.val = (m.spn.port[p].st == .up) := by rw [Mach.portUp, vget_eq]

theorem Mach.modPort_get (m : Mach) (p : Fin 3) (f : Port → Port) (q : Fin 3) :
    (m.modPort p.val f).spn.port[q] = if p = q then f m.spn.port[q] else m.spn.port[q] := by
  refine (vmod_get m.spn.port p.val f q).trans ?_
  simp only [Fin.ext_iff]

theorem Mach.modPort_same (m : Mach) (p : Fin 3) (f : Port → Port) : (m.modPort p.val f).spn.port[p] = f m.spn.port[p] :=
  (m.modPort_get p f p).trans (if_pos rfl)

theorem Mach.modPort_other (m : Mach) {p q : Fin 3} (f : Port → Port) (h : q ≠ p) : (m.modPort p.val f).spn.port[q] = m.spn.port[q] :=
  (m.modPort_get p f q).trans (if_neg h.symm)

/-- Only what is done to the port as it stands counts. -/
theorem Mach.modPort_congr {m : Mach} {p : Fin 3} {f g : Port → Port} (h : f m.spn.port[p] = g m.spn.port[p]) :
    m.modPort p.val f = m.modPort p.val g := by simp only [Mach.modPort, vmod, vget_eq, h]

theorem Mach.modPort_modPort (m : Mach) (p : Fin 3) (f g : Port → Port) : (m.modPort p.val f).modPort p.val g = m.modPort p.val fun x => g (f x) := by
  have hvec (v : Vector Port 3) : vmod (vmod v p.val f) p.val g = vmod v p.val fun x => g (f x) := by
    ext j hj
    have hget := vmod_get v p.val f ⟨j, hj⟩
    have hgets := (vmod_get (vmod v p.val f) p.val g ⟨j, hj⟩).trans (by rw [hget])
    have hboth := vmod_get v p.val (fun x => g (f x)) ⟨j, hj⟩
    refine hgets.trans (Eq.trans ?_ hboth.symm)
    split <;> rfl
  simp only [Mach.modPort, hvec]

/-! ### What waits in a port -/

theorem Port.unacked_pumpFrom (x : Port) (stuck : List Nat) (q : List Packet) : ∃ more, (x.pumpFrom stuck q).unacked = x.unacked ++ more := by
  induction q generalizing x stuck with
  | nil => exact ⟨[], (List.append_nil _).symm⟩
  | cons k q ih =>
    rw [Port.pumpFrom]
    split
    · exact ih x (k.cls :: stuck)
    · obtain ⟨more, hmore⟩ := ih (x.transmit k) stuck
      exact ⟨(x.next, k) :: more, hmore.trans (List.append_assoc x.unacked [(x.next, k)] more)⟩

theorem Port.pump_of_empty {x : Port} (h : x.txq = []) : x.pump = x := by
  rw [Port.pump]
  split
  · rw [h, Port.pumpFrom, ← h]
  · rfl

theorem Port.unacked_pump {x : Port} {k : Packet} {rest : List Packet} (hst : x.st = .up) (htxq : x.txq = k :: rest) (hmay : x.maySend k = true) :
    ∃ more, x.pump.unacked = x.unacked ++ (x.next, k) :: more := by
  have hmay' : Port.maySend { x with txq := [] } k = true := hmay
  obtain ⟨more, hmore⟩ := (Port.transmit { x with txq := [] } k).unacked_pumpFrom [] rest
  refine ⟨more, ?_⟩
  rw [Port.pump, if_pos (by simp [hst]), htxq, Port.pumpFrom, if_neg (by simp [hmay']), hmore]
  exact List.append_assoc x.unacked [(x.next, k)] more

/-- The packets that a LINKACK leaves: the first is the one it names. -/
theorem Port.dropWhile_ne_nil {l : List (BitVec 12 × Packet)} {next : BitVec 12} (h : ∃ e ∈ l, e.1 = next) :
    (l.dropWhile fun e => e.1 != next) ≠ [] := by
  obtain ⟨e, hmem, hnext⟩ := h
  induction l with
  | nil => exact absurd hmem List.not_mem_nil
  | cons x l ih =>
    rw [List.dropWhile_cons]
    by_cases hx : x.1 = next
    · rw [if_neg (fun hne => bne_iff_ne.mp hne hx)]
      exact List.cons_ne_nil _ _
    · rw [if_pos (bne_iff_ne.mpr hx)]
      rcases List.mem_cons.mp hmem with rfl | hmem
      · exact absurd hnext hx
      · exact ih hmem

/-! ### The flits -/

section
variable {m : Mach} {p : Fin 3}

theorem Mach.replay_of_empty (h : m.spn.port[p].unacked = []) : m.replay p.val = m := by
  rw [Mach.replay, m.portOf_eq]; exact if_pos (by rw [h]; rfl)

theorem Mach.replay_of_few (h : m.spn.port[p].unacked ≠ []) (hfew : m.spn.port[p].replays < 4) :
    m.replay p.val = m.modPort p.val fun x => { x with replays := x.replays + 1, replayed := x.replayed + 1 } := by
  rw [Mach.replay, m.portOf_eq]
  exact (if_neg (by simpa using h)).trans (if_neg (by omega))

theorem Mach.replay_of_many (h : m.spn.port[p].unacked ≠ []) (hmany : 4 ≤ m.spn.port[p].replays) : m.replay p.val = m.linkDown p.val 3 := by
  rw [Mach.replay, m.portOf_eq]
  exact (if_neg (by simpa using h)).trans (if_pos hmany)

theorem Mach.replayTimeout_of_up (h : m.spn.port[p].st = .up) : m.replayTimeout p.val = m.replay p.val :=
  if_pos (by rw [m.portUp_eq, h]; rfl)

theorem Mach.replayTimeout_of_empty (h : m.spn.port[p].unacked = []) : m.replayTimeout p.val = m := by
  rw [Mach.replayTimeout]
  split
  · exact Mach.replay_of_empty h
  · rfl

/-- The packets before the one that a LINKACK names are acknowledged, and progress ends the count of replays (R565). -/
def Port.acknowledged (x : Port) (next : BitVec 12) : Port :=
  { x with unacked := x.unacked.dropWhile (fun e => e.1 != next)
           replays := if (x.unacked.dropWhile fun e => e.1 != next).length < x.unacked.length then 0 else x.replays }

theorem Mach.linkAck_of_known {nak : Bool} {next : BitVec 12} (hst : m.spn.port[p].st = .up)
    (hknown : next = m.spn.port[p].next ∨ ∃ e ∈ m.spn.port[p].unacked, e.1 = next) : m.linkAck p.val nak next =
      if nak then (m.modPort p.val fun x => (x.acknowledged next).pump).replay p.val else m.modPort p.val fun x => (x.acknowledged next).pump := by
  have hmod := Mach.modPort_congr (m := m) (p := p) (g := fun x => (x.acknowledged next).pump)
    (f := fun x => Port.pump { x with
      unacked := m.spn.port[p].unacked.dropWhile (fun e => e.1 != next)
      replays := if (m.spn.port[p].unacked.dropWhile fun e => e.1 != next).length < x.unacked.length then 0 else x.replays }) rfl
  rw [Mach.linkAck, if_neg (by rw [m.portUp_eq, hst]; decide), m.portOf_eq]
  rw [← hmod]
  refine if_neg ?_
  rw [Bool.not_eq_true', Bool.not_eq_false, Bool.or_eq_true, List.any_eq_true]
  simpa using hknown

theorem Mach.streams_of_up (h : m.spn.port[p].st = .up) : m.streams p.val = true := by
  rw [Mach.streams, m.portOf_eq, h]; rfl

theorem Mach.uncorrectable_of_streams (h : m.streams p.val = true) : m.uncorrectable p.val =
    if m.spn.port[p].st == .up && !m.spn.port[p].discarding then (m.modPort p.val fun x => { x with unc := x.unc + 1 }).modPort p.val Port.nak
    else m.modPort p.val fun x => { x with unc := x.unc + 1 } := by
  rw [Mach.uncorrectable, if_neg (by simp [h]), m.portUp_eq, m.portOf_eq]

end

end Sys2Proof.Machine

open Sys2Proof.Machine

/-- Settles O48: each flit changes its port alone, and what it does to the port as it stands is the statement's. -/
theorem linkRetryKeepsItsWord : Obligations.LinkRetryKeepsItsWord := by
  refine ⟨fun p s => State.run_of_eq (f := (·.idleFlit)) rfl, fun p fp fn fc s hawake hup => ?_, fun x k rest => Port.unacked_pump,
    fun p next s hawake hup hknown => ?_, fun p next s hawake hup htxq hknown hfew => ?_, fun p s hawake hup hsome hfew => ?_,
    fun p s hawake hup hsome hmany => ?_, fun p s hnone => State.run_of_eq (f := (·.replayTimeout p.val)) (Mach.replayTimeout_of_empty hnone),
    fun p s hawake hup hdisc => ?_, fun p s hawake hup hdisc => ⟨?_, ?_⟩, fun p s hawake hstreams => ?_, fun p s hawake hstreams hnone => ?_,
    fun p s hawake hup hdisc => ?_, fun p fp fn fc nak next s hidle => ?_⟩
  · exact (run_awake s (·.creditFlit p.val fp fn fc) hawake).trans (by rw [Mach.creditFlit, s.m.portUp_eq, hup, if_neg (by decide)])
  · exact (run_awake s (·.linkAck p.val false next) hawake).trans (by rw [Mach.linkAck_of_known hup hknown]; rfl)
  · refine (run_awake s (·.linkAck p.val true next) hawake).trans ?_
    have hpump := Mach.modPort_congr (m := s.m) (p := p) (f := fun x => (x.acknowledged next).pump) (g := (·.acknowledged next))
      (Port.pump_of_empty htxq)
    have hport := s.m.modPort_same p (·.acknowledged next)
    rw [Mach.linkAck_of_known hup (.inr hknown), if_pos rfl, hpump, Mach.replay_of_few, s.m.modPort_modPort]
    · rfl
    · rw [hport]
      exact Port.dropWhile_ne_nil hknown
    · rw [hport]
      dsimp only [Port.acknowledged]
      split <;> omega
  · exact (run_awake s (·.replayTimeout p.val) hawake).trans (by rw [Mach.replayTimeout_of_up hup, Mach.replay_of_few hsome hfew])
  · exact (run_awake s (·.replayTimeout p.val) hawake).trans (by rw [Mach.replayTimeout_of_up hup, Mach.replay_of_many hsome hmany])
  · refine (run_awake s (·.discardPkt p.val) hawake).trans ?_
    rw [Mach.discardPkt, s.m.portUp_eq, s.m.portOf_eq, hup, hdisc, if_pos (by decide)]
    rfl
  · refine (run_awake s (·.nakRepeat p.val) hawake).trans ?_
    rw [Mach.nakRepeat, s.m.portUp_eq, s.m.portOf_eq, hup, hdisc, if_pos (by decide), Mach.modPort_congr]
    rw [Port.nak, hdisc]
  · refine State.run_of_eq (f := (·.discardPkt p.val)) ?_
    rw [Mach.discardPkt, s.m.portUp_eq, s.m.portOf_eq, hup, hdisc, if_neg (by decide)]
  · exact (run_awake s (·.badFlit p.val) hawake).trans (by rw [Mach.badFlit, if_pos hstreams])
  · refine (run_awake s (·.uncorrectable p.val) hawake).trans ?_
    rw [Mach.uncorrectable_of_streams hstreams, if_neg]
    rcases hnone with h | h
    · rw [Bool.and_eq_true, beq_iff_eq]
      exact fun hup => h hup.1
    · rw [h]
      simp
  · refine (run_awake s (·.uncorrectable p.val) hawake).trans ?_
    rw [Mach.uncorrectable_of_streams (Mach.streams_of_up hup), hup, hdisc, if_pos (by decide), s.m.modPort_modPort]
    rfl
  · have hdown : s.m.portUp p.val = false := by rw [s.m.portUp_eq, hidle]; rfl
    have hstill : s.m.streams p.val = false := by rw [Mach.streams, s.m.portOf_eq, hidle]; rfl
    exact ⟨State.run_of_eq (f := (·.creditFlit p.val fp fn fc)) (if_pos (by simp [hdown])),
      State.run_of_eq (f := (·.linkAck p.val nak next)) (if_pos (by simp [hdown])),
      State.run_of_eq (f := (·.replayTimeout p.val)) (if_neg (by simp [hdown])),
      State.run_of_eq (f := (·.discardPkt p.val)) (if_neg (by simp [hdown])),
      State.run_of_eq (f := (·.nakRepeat p.val)) (if_neg (by simp [hdown])),
      State.run_of_eq (f := (·.badFlit p.val)) (if_neg (by simp [hstill])),
      State.run_of_eq (f := (·.uncorrectable p.val)) (if_pos (by simp [hstill]))⟩
end

section
/-! SUPPORT. Link-down: the counterexample to the statement about it (R575). -/

namespace Sys2Proof.Machine

/-- An engine whose ports are in HELLO with electrical idle held, which no step of the training leaves. -/
def helloPortsHeld : Mach := { boot.inReset := false, spn.port := Vector.replicate 3 { st := .hello, hold := true } }

/-- A held port has no step to fail: it stays in HELLO. -/
theorem lossOfSignal_helloPortsHeld_st : (helloPortsHeld.lossOfSignal none).spn.port[(0 : Fin 3)].st = .hello := by decide

end Sys2Proof.Machine

open Sys2Proof.Machine

/-- Refutes O49: without SPN_REFCLK no port is said to be in UP or HELLO, but a port in HELLO whose idle is held is left as it is. -/
theorem not_linkDownClearsThePort : ¬ Obligations.LinkDownClearsThePort := by
  intro h
  obtain ⟨_, _, _, _, hnone, _⟩ := h
  obtain ⟨t, hexec, _, _, hports, _⟩ := hnone { m := helloPortsHeld } rfl
  cases (run_awake { m := helloPortsHeld } (·.lossOfSignal none) rfl).symm.trans hexec
  exact (hports 0).2 lossOfSignal_helloPortsHeld_st
end

section
/-! SUPPORT. Packets received, and the statement about them (R557 to R570, R573, R590 to R593). -/

namespace Sys2Proof.Machine

/-! ### What sending leaves of a port -/

theorem Port.pumpFrom_eq (x : Port) (stuck : List Nat) (q : List Packet) : ∃ avail unacked next txq,
    x.pumpFrom stuck q = { x with avail, unacked, next, txq } := by
  induction q generalizing x stuck with
  | nil => exact ⟨_, _, _, _, rfl⟩
  | cons k q ih =>
    rw [Port.pumpFrom]
    split
    · obtain ⟨avail, unacked, next, txq, h⟩ := ih x (k.cls :: stuck)
      rw [h]
      exact ⟨_, _, _, _, rfl⟩
    · obtain ⟨avail, unacked, next, txq, h⟩ := ih (x.transmit k) stuck
      rw [h]
      exact ⟨_, _, _, _, rfl⟩

theorem Port.pump_eq (x : Port) : ∃ avail unacked next txq, x.pump = { x with avail, unacked, next, txq } := by
  rw [Port.pump]
  split
  · exact Port.pumpFrom_eq { x with txq := [] } [] x.txq
  · exact ⟨_, _, _, _, rfl⟩

/-- Sending a packet leaves what the port has received as it is. -/
theorem Mach.sendPkt_port (m : Mach) (p : Fin 3) (k : Packet) : ∃ avail unacked next txq,
    (m.sendPkt p.val k).spn.port[p] = { m.spn.port[p] with avail, unacked, next, txq } := by
  rw [Mach.sendPkt]
  split
  · rw [m.modPort_same p]
    exact ({ m.spn.port[p] with txq := m.spn.port[p].txq ++ [k] } : Port).pump_eq
  · exact ⟨_, _, _, _, rfl⟩

theorem Mach.sendPkt_spn (m : Mach) (p : Nat) (k : Packet) : ∃ spn, m.sendPkt p k = { m with spn } := by
  rw [Mach.sendPkt]
  split
  · exact ⟨_, rfl⟩
  · exact ⟨m.spn, rfl⟩

theorem Mach.sendPkt_expect (m : Mach) (p : Fin 3) (k : Packet) : (m.sendPkt p.val k).spn.port[p].expect = m.spn.port[p].expect := by
  obtain ⟨avail, unacked, next, txq, h⟩ := m.sendPkt_port p k
  rw [h]

theorem Mach.sendPkt_rxRec (m : Mach) (p : Fin 3) (k : Packet) : (m.sendPkt p.val k).spn.port[p].rxRec = m.spn.port[p].rxRec := by
  obtain ⟨avail, unacked, next, txq, h⟩ := m.sendPkt_port p k
  rw [h]

theorem Mach.acceptPkt_port (m : Mach) (p : Fin 3) (cls n : Nat) : (m.acceptPkt p.val cls n).spn.port[p] = m.spn.port[p].accept cls n :=
  m.modPort_same p _

/-- The answers to a read, sent one behind the other, leave the rest of the engine and the port's count. -/
theorem Mach.foldl_sendPkt {α : Type} (p : Fin 3) (k : α → Packet) (l : List α) (m : Mach) : ∃ spn,
    (l.foldl (fun m x => m.sendPkt p.val (k x)) m) = { m with spn } ∧ spn.port[p].expect = m.spn.port[p].expect := by
  induction l generalizing m with
  | nil => exact ⟨_, rfl, rfl⟩
  | cons x l ih =>
    obtain ⟨spn, hrest, hexpect⟩ := ih (m.sendPkt p.val (k x))
    obtain ⟨spn', hsend⟩ := m.sendPkt_spn p.val (k x)
    refine ⟨spn, ?_, hexpect.trans (m.sendPkt_expect p (k x))⟩
    rw [List.foldl_cons, hrest, hsend]

/-- A packet that reads the memory as it goes reads the same memory throughout. -/
theorem Mach.foldl_readData (p : Nat) (tag : BitVec 16) (last : Nat × Nat → Bool) (l : List (Nat × Nat)) (m : Mach) :
    l.foldl (fun m k => m.sendPkt p (.readData tag k.1 (readBytes m.mem k.1 k.2) (last k) 0)) m =
      l.foldl (fun n k => n.sendPkt p (.readData tag k.1 (readBytes m.mem k.1 k.2) (last k) 0)) m := by
  suffices h : ∀ n : Mach, n.mem = m.mem → l.foldl (fun m k => m.sendPkt p (.readData tag k.1 (readBytes m.mem k.1 k.2) (last k) 0)) n =
      l.foldl (fun n k => n.sendPkt p (.readData tag k.1 (readBytes m.mem k.1 k.2) (last k) 0)) n from h m rfl
  intro n hmem
  induction l generalizing n with
  | nil => rfl
  | cons k l ih =>
    rw [List.foldl_cons, List.foldl_cons, hmem]
    obtain ⟨spn, hsend⟩ := n.sendPkt_spn p (.readData tag k.1 (readBytes m.mem k.1 k.2) (last k) 0)
    exact ih _ (by rw [hsend]; exact hmem)

/-! ### The pieces of a read (R569) -/

theorem readPieces_within (fuel a n : Nat) : ∀ k ∈ readPieces fuel a n, 1 ≤ k.2 ∧ k.1 % 256 + k.2 ≤ 256 := by
  induction fuel generalizing a n with
  | zero => simp [readPieces]
  | succ fuel ih =>
    rw [readPieces]
    split
    · simp
    · intro k hk
      rcases List.mem_cons.mp hk with rfl | hk
      · dsimp only; omega
      · exact ih _ _ k hk

/-- With a piece for the first boundary and one for each 256 bytes, the pieces are the range, each byte once. -/
theorem readPieces_flatMap (fuel a n : Nat) (h : n = 0 ∨ n + a % 256 ≤ 256 * fuel) :
    (readPieces fuel a n).flatMap (fun k => (List.range k.2).map (k.1 + ·)) = (List.range n).map (a + ·) := by
  induction fuel generalizing a n with
  | zero => obtain rfl : n = 0 := by omega
            rfl
  | succ fuel ih =>
    rw [readPieces]
    split
    · next hn => subst hn; rfl
    · next hn =>
      rw [List.flatMap_cons, ih _ _ (by omega)]
      obtain ⟨k, hk⟩ : ∃ k, k = min n (256 - a % 256) := ⟨_, rfl⟩
      obtain ⟨r, rfl⟩ : ∃ r, n = k + r := ⟨n - k, by omega⟩
      rw [← hk, Nat.add_sub_cancel_left, List.range_add]
      simp [Nat.add_assoc]

/-! ### The packets -/

section
variable {m : Mach} {p : Fin 3} {tag : BitVec 16} {addr : BitVec 64} {data : List Byte} {n : Nat}

theorem Mach.writePacket_of_body (hup : m.spn.port[p].st = .up) (htakes : m.takes p.val = true) (hbody : bodyOk addr.toNat data.length = true) :
    m.writePacket p.val tag addr data = (if m.rangeStatus addr.toNat data.length true = 0 then
      ((m.acceptPkt p.val 0 data.length).poke addr.toNat data).touchDdr addr.toNat data.length else m.acceptPkt p.val 0 data.length).sendPkt p.val
        (.writeAck tag (BitVec.ofNat 3 (m.rangeStatus addr.toNat data.length true))) := by
  rw [Mach.writePacket, if_neg (by rw [m.portUp_eq, hup]; decide), if_neg (by simp [hbody])]
  exact if_neg (by rw [Bool.not_eq_true', Bool.not_eq_false]; exact htakes)

/-- The request accepted and its range touched (R569). -/
def Mach.readTouched (m : Mach) (p a n : Nat) : Mach :=
  if m.inDdr a n && m.ddrUp then (m.acceptPkt p 1 8).touchDdr a n else m.acceptPkt p 1 8

theorem Mach.readTouched_eq (m : Mach) (p : Fin 3) (a n : Nat) : ∃ store, m.readTouched p.val a n = { m.acceptPkt p.val 1 8 with store } := by
  rw [Mach.readTouched]
  split
  · exact ⟨_, rfl⟩
  · exact ⟨m.store, rfl⟩

theorem Mach.readRequest_of_good (hup : m.spn.port[p].st = .up) (htakes : m.takes p.val = true) (hn : 1 ≤ n) (hn' : n ≤ 4096)
    (hgood : m.rangeStatus addr.toNat n false = 0) : m.readRequest p.val tag addr n none =
      (readPieces 18 addr.toNat n).foldl (fun m k => m.sendPkt p.val (.readData tag k.1 (readBytes m.mem k.1 k.2) (k.1 + k.2 == addr.toNat + n) 0))
        (m.readTouched p.val addr.toNat n) := by
  have htakes' : (m.acceptPkt p.val 1 8).takes p.val = true := htakes
  have hgood' : (m.acceptPkt p.val 1 8).rangeStatus addr.toNat n false = 0 := hgood
  rw [Mach.readRequest, if_neg (by rw [m.portUp_eq, hup]; decide), if_neg (by simp; omega)]
  simp only [htakes', hgood', Option.isSome_none, Bool.and_false, Bool.not_true, Bool.false_eq_true, if_false, bne_self_eq_false]
  rfl

theorem Mach.readRequest_of_refused (hup : m.spn.port[p].st = .up) (htakes : m.takes p.val = true) (hn : 1 ≤ n) (hn' : n ≤ 4096)
    (hrefused : m.rangeStatus addr.toNat n false ≠ 0) : m.readRequest p.val tag addr n none =
      (m.readTouched p.val addr.toNat n).sendPkt p.val (.readData tag addr.toNat [] true (BitVec.ofNat 2 (m.rangeStatus addr.toNat n false))) := by
  have htakes' : (m.acceptPkt p.val 1 8).takes p.val = true := htakes
  have hrefused' : ((m.acceptPkt p.val 1 8).rangeStatus addr.toNat n false != 0) = true := by rw [bne_iff_ne]; exact hrefused
  rw [Mach.readRequest, if_neg (by rw [m.portUp_eq, hup]; decide), if_neg (by simp; omega)]
  simp only [htakes', hrefused', Option.isSome_none, Bool.and_false, Bool.not_true, Bool.false_eq_true, if_false, if_true]
  rfl

theorem Mach.readRequest_of_ecc (i : Nat) (hup : m.spn.port[p].st = .up) (htakes : m.takes p.val = true) (hn : 1 ≤ n) (hn' : n ≤ 4096)
    (hgood : m.rangeStatus addr.toNat n false = 0) : m.readRequest p.val tag addr n (some i) =
      ((m.readTouched p.val addr.toNat n).readEcc (addr.toNat + i)).sendPkt p.val (.readData tag addr.toNat [] true 3) := by
  have htakes' : (m.acceptPkt p.val 1 8).takes p.val = true := htakes
  have hgood' : (m.acceptPkt p.val 1 8).rangeStatus addr.toNat n false = 0 := hgood
  rw [Mach.readRequest, if_neg (by rw [m.portUp_eq, hup]; decide), if_neg (by simp; omega)]
  simp only [htakes', hgood', Option.isSome_some, Bool.not_true, Bool.false_eq_true, if_false, decide_true, Bool.and_self, if_true]
  rfl

theorem Mach.keyIn_of_sender {qid : Word} (hup : m.spn.port[p].st = .up) (htakes : m.takes p.val = true)
    (hqid : m.spn.port[p].sender.qid = some qid) : ∃ port, m.keyIn p.val qid = { m with spn := { m.spn with port, keyReqOk := m.spn.keyReqOk + 1 } } ∧
      port[p] = { m.spn.port[p].accept 0 8 with sender := { m.spn.port[p].sender with force := true } } := by
  refine ⟨vmod m.spn.port p.val fun x => { x.accept 0 8 with sender := { x.sender with force := true } }, ?_,
    (vmod_get _ _ _ p).trans (if_pos rfl)⟩
  rw [Mach.keyIn, if_neg (by simp [htakes]), Mach.keyRequest, if_neg (by rw [m.portUp_eq, hup]; decide)]
  dsimp only
  rw [Mach.portOf_eq, Mach.acceptPkt_port, if_pos (by simpa [Port.accept] using hqid), Mach.acceptPkt, m.modPort_modPort]
  rfl

theorem Mach.keyIn_of_other {qid : Word} (hup : m.spn.port[p].st = .up) (htakes : m.takes p.val = true)
    (hqid : m.spn.port[p].sender.qid ≠ some qid) : ∃ port, m.keyIn p.val qid = { m with spn := { m.spn with port, keyReqNo := m.spn.keyReqNo + 1 } } ∧
      port[p] = m.spn.port[p].accept 0 8 := by
  refine ⟨vmod m.spn.port p.val fun x => x.accept 0 8, ?_, (vmod_get _ _ _ p).trans (if_pos rfl)⟩
  rw [Mach.keyIn, if_neg (by simp [htakes]), Mach.keyRequest, if_neg (by rw [m.portUp_eq, hup]; decide)]
  dsimp only
  rw [Mach.portOf_eq, Mach.acceptPkt_port, if_neg (by simpa [Port.accept] using hqid)]
  rfl

theorem Mach.folioIn_of_body {first last : Bool} (hup : m.spn.port[p].st = .up) (htakes : m.takes p.val = true) (hbody : bodyOk 0 data.length = true) :
    m.folioIn p.val tag data first last = m.folioPacket p.val tag data first last := by
  rw [Mach.folioIn, if_neg (by simp [hbody]), if_neg (by simp [htakes])]

theorem Mach.modPort_of_eq {f : Port → Port} (h : f m.spn.port[p] = m.spn.port[p]) : m.modPort p.val f = m := by
  have hvec : vmod m.spn.port p.val f = m.spn.port := by
    ext j hj
    refine (vmod_get m.spn.port p.val f ⟨j, hj⟩).trans ?_
    split
    · next heq =>
      obtain rfl : p = ⟨j, hj⟩ := Fin.ext heq
      exact h
    · rfl
  simp only [Mach.modPort, hvec]

/-- A record in progress breaks off: none is left (R596). -/
theorem Mach.breakRecord_eq (m : Mach) (p : Fin 3) : ∃ rxBad, m.breakRecord p.val = m.modPort p.val fun x => { x with rxRec := none, rxBad } := by
  rw [Mach.breakRecord, m.portOf_eq]
  split
  · next hnone =>
    refine ⟨m.spn.port[p].rxBad, ?_⟩
    refine (Mach.modPort_of_eq ?_).symm
    rw [← hnone]
  · next r hsome =>
    split
    · exact ⟨m.spn.port[p].rxBad, Mach.modPort_congr rfl⟩
    · refine ⟨m.spn.port[p].rxBad + 1, ?_⟩
      rw [Mach.badRecord, m.modPort_modPort]
      exact Mach.modPort_congr rfl

theorem Mach.breakRecord_rxRec (m : Mach) (p : Fin 3) : (m.breakRecord p.val).spn.port[p].rxRec = none := by
  obtain ⟨rxBad, h⟩ := m.breakRecord_eq p
  rw [h, m.modPort_same p]

theorem Mach.folioPacket_of_closed {first last : Bool} (hup : m.spn.port[p].st = .up)
    (hclosed : bitOf (m.pval 0xF80) (4 + p.val) = false ∨ m.ddrUp = false) : m.folioPacket p.val tag data first last =
      ((m.acceptPkt p.val 0 data.length).breakRecord p.val).sendPkt p.val (.writeAck tag (if bitOf (m.pval 0xF80) (4 + p.val) then 3 else 2)) := by
  rw [Mach.folioPacket, if_neg (by rw [m.portUp_eq, hup]; decide)]
  dsimp only
  rw [show (m.acceptPkt p.val 0 data.length).pval = m.pval from rfl, show (m.acceptPkt p.val 0 data.length).ddrUp = m.ddrUp from rfl]
  cases hbit : bitOf (m.pval 0xF80) (4 + p.val) with
  | false => rfl
  | true =>
    rw [hbit] at hclosed
    rw [hclosed.resolve_left (by decide)]
    rfl

/-- The record that a first packet opens: the receive slots are those of the port (R593). -/
def Mach.opensRecord (m : Mach) (p : Nat) (data : List Byte) : RxRec :=
  { base := m.pnat (0xF91 + 16 * p) % 2 ^ 16 * 2 ^ 32 + m.pnat (0xF90 + 16 * p), slots := m.pnat (0xF92 + 16 * p), buf := data, count := data.length }

theorem Mach.folioPacket_of_first (hup : m.spn.port[p].st = .up) (hopen : bitOf (m.pval 0xF80) (4 + p.val) = true) (hddr : m.ddrUp = true)
    (hshort : data.length < 40) : m.folioPacket p.val tag data true false =
      (((m.acceptPkt p.val 0 data.length).sendPkt p.val (.writeAck tag 0)).breakRecord p.val).modPort p.val fun x =>
        { x with rxRec := some (m.opensRecord p.val data) } := by
  obtain ⟨spn, hsend⟩ := (m.acceptPkt p.val 0 data.length).sendPkt_spn p.val (.writeAck tag 0)
  have hval : ((m.acceptPkt p.val 0 data.length).sendPkt p.val (.writeAck tag 0)).pnat = m.pnat := by rw [hsend]; rfl
  rw [Mach.folioPacket, if_neg (by rw [m.portUp_eq, hup]; decide)]
  dsimp only
  rw [show (m.acceptPkt p.val 0 data.length).pval = m.pval from rfl, show (m.acceptPkt p.val 0 data.length).ddrUp = m.ddrUp from rfl, hopen, hddr]
  simp only [Bool.not_true, Bool.false_eq_true, if_false, if_true, Mach.portOf_eq, Mach.modPort_same, List.nil_append, Nat.zero_add,
    Bool.not_false, Bool.true_and, decide_eq_true_eq, Nat.not_le.mpr hshort, Mach.modPort_modPort, hval]
  rfl

theorem Mach.folioPacket_of_none {last : Bool} (hup : m.spn.port[p].st = .up) (hopen : bitOf (m.pval 0xF80) (4 + p.val) = true) (hddr : m.ddrUp = true)
    (hnone : m.spn.port[p].rxRec = none) : m.folioPacket p.val tag data false last =
      (m.acceptPkt p.val 0 data.length).sendPkt p.val (.writeAck tag 0) := by
  rw [Mach.folioPacket, if_neg (by rw [m.portUp_eq, hup]; decide)]
  dsimp only
  rw [show (m.acceptPkt p.val 0 data.length).pval = m.pval from rfl, show (m.acceptPkt p.val 0 data.length).ddrUp = m.ddrUp from rfl, hopen, hddr]
  simp only [Bool.not_true, Bool.false_eq_true, if_false, Mach.portOf_eq]
  rw [Mach.sendPkt_rxRec, Mach.acceptPkt_port]
  simp only [Port.accept, hnone]

end

/-! ### EVENT packets (R573) -/

section
variable {m : Mach} {e : EventPkt}

theorem Packet.words_event (e : EventPkt) : (Packet.event e).words = 4 := by simp [Packet.words, Packet.len, wordsOf]

theorem Port.transmit_event (x : Port) (e : EventPkt) : x.transmit (.event e) =
    { x with avail := x.avail.sub 0 4, unacked := x.unacked ++ [(x.next, .event e)], next := x.next + 1 } := by
  rw [Port.transmit, Packet.words_event]
  rfl

theorem Mach.eventSend_of_free {rest : List EventPkt} (hevq : m.spn.evq = e :: rest) (hup : m.spn.port[(0 : Fin 3)].st = .up)
    (htxq : m.spn.port[(0 : Fin 3)].txq = []) (hmay : m.spn.port[(0 : Fin 3)].maySend (.event e) = true) :
    m.eventSend = ({ m with spn := { m.spn with evq := rest } } : Mach).modPort 0 fun x => x.transmit (.event e) := by
  rw [Mach.eventSend, hevq]
  have hport : m.portOf 0 = m.spn.port[(0 : Fin 3)] := m.portOf_eq 0
  have hportUp : m.portUp 0 = true := (m.portUp_eq 0).trans (by rw [hup]; rfl)
  exact if_pos (by rw [hport, hportUp, htxq, hmay]; rfl)

theorem Mach.eventSend_of_busy (hevq : m.spn.evq.head? = some e)
    (hbusy : m.spn.port[(0 : Fin 3)].txq.any (fun k => k.cls == 0) = true ∨ m.spn.port[(0 : Fin 3)].avail.p < 4) : m.eventSend = m := by
  obtain ⟨rest, hevq⟩ := List.head?_eq_some_iff.mp hevq
  rw [Mach.eventSend, hevq]
  refine if_neg ?_
  have hport : m.portOf 0 = m.spn.port[(0 : Fin 3)] := m.portOf_eq 0
  rw [hport]
  rcases hbusy with h | h
  · rw [h]; simp
  · have hmay : m.spn.port[(0 : Fin 3)].maySend (.event e) = false := by
      have hwords : ¬ (Packet.event e).words ≤ m.spn.port[(0 : Fin 3)].avail.get (Packet.event e).cls := by
        rw [Packet.words_event]
        exact Nat.not_le.mpr h
      rw [Port.maySend, decide_eq_false hwords]
      rfl
    rw [hmay]; simp

theorem Mach.eventSend_of_none (hnone : m.spn.evq = [] ∨ m.spn.port[(0 : Fin 3)].st ≠ .up) : m.eventSend = m := by
  cases hevq : m.spn.evq with
  | nil => rw [Mach.eventSend, hevq]
  | cons e rest =>
    rw [Mach.eventSend, hevq]
    have hdown : m.portUp 0 = false := (m.portUp_eq 0).trans (by simpa using hnone.resolve_left (by simp [hevq]))
    exact if_neg (by simp [hdown])

end

end Sys2Proof.Machine

open Sys2Proof.Machine

/-- Settles O50: a packet that is taken is accepted first, and sending its answer leaves what the port has received. -/
theorem packetsAreActedOn : Obligations.PacketsAreActedOn := by
  refine ⟨⟨fun p tag addr data s hawake hup htakes hbody hin hddr hwf => ?_, fun p tag addr data s hawake hup htakes hbody hout => ?_,
    fun p tag addr n s hawake hup htakes hn hn' => ?_, fun a n hn => ⟨readPieces_within 18 a n, readPieces_flatMap 18 a n (by omega)⟩,
    fun p tag addr n i s hawake hup htakes hn hn' hgood => ?_, fun p qid s hawake hup htakes => ?_,
    fun p tag addr data n ecc qid first last s hawake hup => ⟨fun hbody => ?_, fun hn => ?_, fun hbody => ?_⟩,
    fun p type s hawake hup => ?_, fun p type tag addr data n ecc qid s hdown => ?_⟩,
    fun e rest s hawake hevq hup htxq hmay => ?_, fun e s hbusy hevq => ?_, fun s hnone => ?_,
    fun p tag data first last s hawake hup htakes hbody hclosed => ?_, fun p tag data last s hawake hup htakes hbody hopen hddr hshort hlast => ?_,
    fun p tag data last s hawake hup htakes hbody hopen hddr hnone => ?_⟩
  · have hstatus : s.m.rangeStatus addr.toNat data.length true = 0 := by simp [Mach.rangeStatus, hin, hddr]
    obtain ⟨spn, hsend⟩ := ((((s.m.acceptPkt p.val 0 data.length).poke addr.toNat data).touchDdr addr.toNat data.length)).sendPkt_spn p.val
      (.writeAck tag 0)
    refine ⟨_, (run_awake s (·.writePacket p.val tag addr data) hawake).trans (by
      rw [Mach.writePacket_of_body hup htakes hbody, hstatus, if_pos rfl]; rfl), rfl, fun i hi => ?_, fun a ha => ?_, ?_⟩
    · rw [hsend, List.getD_eq_getElem?_getD, List.getElem?_eq_getElem hi, Option.getD_some]
      exact readByte_writeBytes_inside s.m.mem addr.toNat i data hwf hi
    · rw [hsend]
      exact readByte_writeBytes_outside s.m.mem addr.toNat a data hwf ha
    · rw [Mach.sendPkt_expect]
      exact congrArg Port.expect (s.m.acceptPkt_port p 0 data.length)
  · refine (run_awake s (·.writePacket p.val tag addr data) hawake).trans ?_
    have hstatus : s.m.rangeStatus addr.toNat data.length true = if s.m.inDdr addr.toNat data.length then 3
        else if inLedger addr.toNat data.length || inVault addr.toNat data.length then 2 else 1 := by
      rcases hout with h | h <;> simp [Mach.rangeStatus, h]
    rw [Mach.writePacket_of_body hup htakes hbody, if_neg (by rw [hstatus]; (repeat' split) <;> decide), hstatus]
    congr 5
    split
    · rfl
    · split <;> rfl
  · obtain ⟨store, htouch⟩ := s.m.readTouched_eq p addr.toNat n
    have haccept : (s.m.acceptPkt p.val 1 8).spn.port[p].expect = s.m.spn.port[p].expect + 1 := congrArg Port.expect (s.m.acceptPkt_port p 1 8)
    by_cases hgood : s.m.rangeStatus addr.toNat n false = 0
    · obtain ⟨spn, hsend, hexpect⟩ := Mach.foldl_sendPkt p (fun k => .readData tag k.1 (readBytes s.m.mem k.1 k.2) (k.1 + k.2 == addr.toNat + n) 0)
        (readPieces 18 addr.toNat n) (s.m.readTouched p.val addr.toNat n)
      have hmem : (s.m.readTouched p.val addr.toNat n).mem = s.m.mem := by rw [htouch]; rfl
      have hread : s.m.readRequest p.val tag addr n none = { s.m.readTouched p.val addr.toNat n with spn } := by
        rw [Mach.readRequest_of_good hup htakes hn hn' hgood, Mach.foldl_readData, hmem, hsend]
      refine ⟨_, (run_awake s (·.readRequest p.val tag addr n none) hawake).trans (by rw [hread]), by rw [htouch]; rfl, ?_,
        fun _ => hsend.symm, fun hrefused => absurd hgood hrefused⟩
      rw [hexpect, htouch]
      exact haccept
    · obtain ⟨spn, hsend⟩ := (s.m.readTouched p.val addr.toNat n).sendPkt_spn p.val (.readData tag addr.toNat [] true
        (BitVec.ofNat 2 (s.m.rangeStatus addr.toNat n false)))
      refine ⟨_, (run_awake s (·.readRequest p.val tag addr n none) hawake).trans (by
        rw [Mach.readRequest_of_refused hup htakes hn hn' hgood]), by rw [hsend, htouch]; rfl, ?_, fun h => absurd h hgood, fun _ => rfl⟩
      rw [Mach.sendPkt_expect, htouch]
      exact haccept
  · refine (run_awake s (·.readRequest p.val tag addr n (some i)) hawake).trans ?_
    rw [Mach.readRequest_of_ecc i hup htakes hn hn' hgood, Mach.readTouched]
    have htouch : (s.m.inDdr addr.toNat n && s.m.ddrUp) = s.m.inDdr addr.toNat n := by
      cases hin : s.m.inDdr addr.toNat n with
      | false => rfl
      | true => cases hddr : s.m.ddrUp with
        | false => simp [Mach.rangeStatus, hin, hddr] at hgood
        | true => rfl
    rw [htouch]
  · by_cases hqid : s.m.spn.port[p].sender.qid = some qid
    · obtain ⟨port, hkey, hport⟩ := Mach.keyIn_of_sender hup htakes hqid
      refine ⟨_, (run_awake s (·.keyIn p.val qid) hawake).trans (by rw [hkey]), ?_⟩
      exact ⟨rfl, congrArg Port.expect hport, fun _ => ⟨congrArg Port.sender hport, rfl, rfl⟩, fun h => absurd hqid h⟩
    · obtain ⟨port, hkey, hport⟩ := Mach.keyIn_of_other hup htakes hqid
      refine ⟨_, (run_awake s (·.keyIn p.val qid) hawake).trans (by rw [hkey]), ?_⟩
      exact ⟨rfl, congrArg Port.expect hport, fun h => absurd h hqid, fun _ => ⟨(congrArg Port.sender hport :), rfl, rfl⟩⟩
  · refine (run_awake s (·.writePacket p.val tag addr data) hawake).trans ?_
    rw [Mach.writePacket, if_neg (by rw [s.m.portUp_eq, hup]; decide), if_pos (by simp [hbody])]
  · refine (run_awake s (·.readRequest p.val tag addr n ecc) hawake).trans ?_
    rw [Mach.readRequest, if_neg (by rw [s.m.portUp_eq, hup]; decide), if_pos (by simpa using hn)]
  · refine (run_awake s (·.folioIn p.val tag data first last) hawake).trans ?_
    rw [Mach.folioIn, if_pos (by rw [s.m.portUp_eq, hup, hbody]; rfl)]
  · refine (run_awake s (·.malformed p.val type) hawake).trans ?_
    rw [Mach.malformed, if_neg (by rw [s.m.portUp_eq, hup]; decide), Mach.badPacket, s.m.modPort_modPort]
    simp only [Fin.ext_iff]
    rfl
  · have hport : s.m.portUp p.val = false := by rw [s.m.portUp_eq]; simpa using hdown
    exact ⟨State.run_of_eq (f := (·.writePacket p.val tag addr data)) (if_pos (by simp [hport])),
      State.run_of_eq (f := (·.readRequest p.val tag addr n ecc)) (if_pos (by simp [hport])),
      State.run_of_eq (f := (·.keyIn p.val qid)) ((if_neg (by simp [hport])).trans (if_pos (by simp [hport]))),
      State.run_of_eq (f := (·.malformed p.val type)) (if_pos (by simp [hport]))⟩
  · refine (run_awake s (·.eventSend) hawake).trans ?_
    simp only [Mach.eventSend_of_free hevq hup htxq hmay, Port.transmit_event]
  · exact State.run_of_eq (f := (·.eventSend)) (Mach.eventSend_of_busy hevq hbusy)
  · exact State.run_of_eq (f := (·.eventSend)) (Mach.eventSend_of_none hnone)
  · refine ⟨_, (run_awake s (·.folioIn p.val tag data first last) hawake).trans (by
      rw [Mach.folioIn_of_body hup htakes hbody, Mach.folioPacket_of_closed hup hclosed]), rfl, ?_, ?_⟩
    · obtain ⟨rxBad, hbreak⟩ := (s.m.acceptPkt p.val 0 data.length).breakRecord_eq p
      obtain ⟨spn, hsend⟩ := ((s.m.acceptPkt p.val 0 data.length).breakRecord p.val).sendPkt_spn p.val
        (.writeAck tag (if bitOf (s.m.pval 0xF80) (4 + p.val) then 3 else 2))
      rw [hsend, hbreak]
      rfl
    · rw [Mach.sendPkt_rxRec, Mach.breakRecord_rxRec]
  · subst hlast
    have hfirst := (run_awake s (·.folioIn p.val tag data true false) hawake).trans
      (by rw [Mach.folioIn_of_body hup htakes hbody, Mach.folioPacket_of_first hup hopen hddr hshort])
    have hrec := congrArg Port.rxRec ((((s.m.acceptPkt p.val 0 data.length).sendPkt p.val (.writeAck tag 0)).breakRecord p.val).modPort_same p
      fun x => { x with rxRec := some (s.m.opensRecord p.val data) })
    refine ⟨_, hfirst, ?_, rfl, s.m.opensRecord p.val data, hrec, rfl, rfl, rfl, rfl, rfl⟩
    rw [hrec]
  · refine (run_awake s (·.folioIn p.val tag data false last) hawake).trans ?_
    rw [Mach.folioIn_of_body hup htakes hbody, Mach.folioPacket_of_none hup hopen hddr hnone]
end

section
/-! SUPPORT. Scan-out's frames: the counterexample to the statement about them (R629). -/

namespace Sys2Proof.Machine

/-- An engine that scans out in mode 1, with mode 5 waiting, which the panel does not permit; its parameters are listed with falling
addresses, which no step leaves (O5). -/
def unorderedModeWaiting : Mach :=
  { boot.inReset := false, dsp.st := .running, par.landed := [(0x2602, 0xFF), (0x2601, 5)], par.frame := [(0x2601, 0)] }

/-- The refused mode stays in `DSP.MODE`. -/
theorem frameEnd_unorderedModeWaiting_mode : unorderedModeWaiting.frameEnd.pval 0x2601 ≠ w32 unorderedModeWaiting.dsp.mode := by decide

end Sys2Proof.Machine

open Sys2Proof.Machine

/-- Refutes O51: its clause on a refused mode is about every parameter store, and in one that is not in its canonical form writing the
mode in use, a reset value, does not reach the refused value. -/
theorem not_framesFlipsAndModesTurn : ¬ Obligations.FramesFlipsAndModesTurn := by
  intro h
  obtain ⟨_, _, _, _, _, _, _, _, _, hrefused, _⟩ := h
  obtain ⟨t, hexec, _, _, hmode, _⟩ := hrefused { m := unorderedModeWaiting } rfl rfl rfl (by decide) (by decide) (by decide)
  cases (run_awake { m := unorderedModeWaiting } (·.frameEnd) rfl).symm.trans hexec
  exact frameEnd_unorderedModeWaiting_mode hmode
end

section
/-! SUPPORT. Calibration points and the calibration chain: the counterexamples to the statements about them (R661, R686). -/

namespace Sys2Proof.Machine

/-- A calibration point in progress in an engine whose log takes no record, with a commit of the SPI master sealed. -/
def pointAtFullLog : Mach :=
  { boot.inReset := false, asy.started := true, asy.point := some { set := 0, point := 1, left := 1, k := 0 }, flt.tokens := 0
    ctl.spi.commit := some { changes := [], landing := 0, num := 1 } }

/-- A new point ends the one in progress, which is logged; the dropped record raises LOG, and the sealed commit takes note of the raise
(R746). -/
theorem calCmd_pointAtFullLog_ctl_ne : ((pointAtFullLog.calCmd (w32 8)).serve).ctl ≠ pointAtFullLog.ctl := by decide

/-- A chain whose closing point is over, with a commanded memory training waiting to be taken into use. -/
def chainEndingWithTrainingWaiting : Mach :=
  { boot.inReset := false, cal.st := .running, par.landed := [(0xC43, 1)], par.quire := [(0xC43, 0)] }

theorem runResult_chainEndingWithTrainingWaiting :
    runResult chainEndingWithTrainingWaiting.cal (chainEndingWithTrainingWaiting.useN 0x840)
      ((chainEndingWithTrainingWaiting.cal.cur :: chainEndingWithTrainingWaiting.cal.res).reverse) = .inl 16 := by decide

/-- The run's end takes the waiting values into use, and `QRE.MEMRETRAIN` clears itself (R463). -/
theorem calCompute_chainEndingWithTrainingWaiting_landed_ne :
    chainEndingWithTrainingWaiting.calCompute.par.landed ≠ chainEndingWithTrainingWaiting.par.landed := by decide

end Sys2Proof.Machine

open Sys2Proof.Machine

/-- Refutes O54: a calibration point is said to leave the control port as it was, but the end of the point before it is logged, and a
dropped record's alert is noted in a sealed commit. -/
theorem not_calibrationWiresAndHeaterFollow : ¬ Obligations.CalibrationWiresAndHeaterFollow := by
  intro h
  obtain ⟨hpoint, _⟩ := h
  obtain ⟨⟨t, hexec, hframe, _⟩, _⟩ := hpoint 0 0 { m := pointAtFullLog } rfl rfl
  cases (run_awake { m := pointAtFullLog } (fun m => (m.calCmd (w32 8)).serve) rfl).symm.trans hexec
  exact calCmd_pointAtFullLog_ctl_ne (congrArg (·.m.ctl) hframe)

/-- Refutes O55: a run that fails at its closing point is said to change no landed parameter, but its end takes the waiting values into
use, of which `QRE.MEMRETRAIN` clears itself. -/
theorem not_chainRunsAndSeals : ¬ Obligations.ChainRunsAndSeals := by
  intro h
  obtain ⟨⟨_, _, _, _, _, _, _, hfails, _⟩, _⟩ := h
  obtain ⟨t, hexec, _, _, _, _, hlanded, _⟩ := hfails 16 { m := chainEndingWithTrainingWaiting } rfl rfl rfl (by decide)
    runResult_chainEndingWithTrainingWaiting
  cases (run_awake { m := chainEndingWithTrainingWaiting } (·.calCompute) rfl).symm.trans hexec
  exact calCompute_chainEndingWithTrainingWaiting_landed_ne hlanded
end

section
/-! SUPPORT. Leaving reset: the counterexample to the statement about the start-up sequence (R94, R130). -/

namespace Sys2Proof.Machine

/-- An engine in reset with every domain but KEEP off: CORE too, which a reset of this model leaves switching on. -/
def resetWithCoreOff : Mach := { pwr.dom := Vector.ofFn fun i => if i.val < 1 then .usable else .off }

/-- Leaving reset leaves CORE as it stood. -/
theorem resetRelease_resetWithCoreOff_dom : (resetWithCoreOff.resetRelease [] false).pwr.dom ≠ vset resetWithCoreOff.pwr.dom 1 .switching := by decide

end Sys2Proof.Machine

open Sys2Proof.Machine

/-- Refutes O12: with every domain but KEEP off it has the release start CORE's switch-on, but CORE is switching on from the reset itself,
and the release starts nothing. -/
theorem not_startUpRunsInOrder : ¬ Obligations.StartUpRunsInOrder := by
  intro h
  obtain ⟨⟨hrelease, _⟩, _⟩ := h
  obtain ⟨t, hexec, _, _, hcore⟩ := hrelease [] { m := resetWithCoreOff } rfl rfl
  cases hexec
  exact resetRelease_resetWithCoreOff_dom (hcore rfl rfl rfl (by decide) (by decide) (by decide)).1
end

section
/-! SUPPORT. Events, their records and their alerts, and the statement about them (R745 to R756). -/

namespace Sys2Proof.Machine

/-! ### Raises and records -/

theorem Mach.sendEvent_flt (m : Mach) (e : EventPkt) : (m.sendEvent e).flt = m.flt := by
  unfold Mach.sendEvent
  (repeat' split) <;> rfl

theorem Mach.sendEvent_spn (m : Mach) (e : EventPkt) : ∃ spn, m.sendEvent e = { m with spn } := by
  unfold Mach.sendEvent
  split
  · split <;> exact ⟨_, rfl⟩
  · exact ⟨m.spn, rfl⟩

/-- A raise in the fault registers: the class's bit, its count and the last raise (R745). -/
theorem Mach.raise_flt (m : Mach) (cls code seq : Nat) : ∃ lastCode lastClass lastBeat lastSeq eventSent, (m.raise cls code seq).flt =
    { m.flt with alert := m.flt.alert ||| (1 <<< cls), count := vmod m.flt.count cls (· + 1), lastCode, lastClass, lastBeat, lastSeq, eventSent } := by
  unfold Mach.raise
  extract_lets f m1
  split
  · exact ⟨_, _, _, _, _, rfl⟩
  · exact ⟨_, _, _, _, _, Mach.sendEvent_flt _ _⟩

theorem Mach.queueRec_eq (m : Mach) (r : LogRec) : ∃ queue lastSeq next, (m.queueRec r).2 =
    { m with flt := { m.flt with queue, tokens := m.flt.tokens - 1, lastSeq, next } } ∧ queue.length = m.flt.queue.length + 1 := by
  refine ⟨_, _, _, rfl, ?_⟩
  simp only [List.length_zipWith, List.length_append, List.length_map, List.length_take, List.length_drop, List.length_cons, List.length_nil]
  omega

/-- What waits of dropped records enters the log without a raise, and counts as dropped still (R755). -/
theorem Mach.flushDropped_eq (m : Mach) : ∃ queue tokens lastSeq next sinceDrop, m.flushDropped =
    { m with flt := { m.flt with queue, tokens, lastSeq, next, sinceDrop } } := by
  unfold Mach.flushDropped
  split
  · exact ⟨_, _, _, _, _, rfl⟩
  · split
    · obtain ⟨queue, lastSeq, next, hqueue, -⟩ := m.queueRec_eq { m.record .management 0x0002 m.flt.sinceDrop 0 none none with origin := 0 }
      exact ⟨queue, _, lastSeq, next, 0, by rw [hqueue]⟩
    · exact ⟨_, _, _, _, _, rfl⟩

theorem Mach.logEvent_of_free {m : Mach} (plane : Plane) (code a b : Nat) (origin : Option Master) (cls : Option Nat) (hdrop : m.flt.sinceDrop = 0)
    (hfree : m.logFree = true) : m.logEvent plane code a b origin cls =
      (m.queueRec (m.record plane code a b origin cls)).2.raiseOf cls code (m.queueRec (m.record plane code a b origin cls)).1 := by
  unfold Mach.logEvent
  rw [m.flushDropped_of_noneDropped hdrop]
  exact if_pos hfree

/-- An event that is dropped raises its class, and LOG where it is the first (R756). -/
theorem Mach.logEvent_of_full {m : Mach} (plane : Plane) (code a b : Nat) (origin : Option Master) (c : Nat) (hdrop : m.flt.sinceDrop = 0)
    (hfull : m.logFree = false) : m.logEvent plane code a b origin (some c) = { (m.raise c code 0).raise 10 0x0002 with
      flt := { ((m.raise c code 0).raise 10 0x0002).flt with
        dropped := ((m.raise c code 0).raise 10 0x0002).flt.dropped + 1, sinceDrop := ((m.raise c code 0).raise 10 0x0002).flt.sinceDrop + 1 } } := by
  obtain ⟨_, _, _, _, _, hraise⟩ := m.raise_flt c code 0
  have hsince : (m.raise c code 0).flt.sinceDrop = 0 := by rw [hraise]; exact hdrop
  unfold Mach.logEvent
  rw [m.flushDropped_of_noneDropped hdrop]
  refine (if_neg (by rw [hfull]; decide)).trans ?_
  simp only [Mach.raiseOf, hsince, if_true]

/-! ### Alert bits -/

theorem alertBit_getLsbD (c : Fin 11) (i : Nat) : ((1 : BitVec 11) <<< c.val).getLsbD i = decide (i = c.val) := by
  by_cases hi : i < 11
  · revert c
    obtain ⟨i, rfl⟩ : ∃ j : Fin 11, i = j.val := ⟨⟨i, hi⟩, rfl⟩
    revert i
    decide
  · rw [BitVec.getLsbD_of_ge _ _ (by omega)]
    exact (decide_eq_false (by omega)).symm

/-- The class's bit as the model writes it. -/
theorem alertBit_eq (c : Fin 11) : ((1 <<< c.val : Nat) : BitVec 11) = (1 : BitVec 11) <<< c.val := by
  revert c
  decide

theorem Mach.raise_alert (m : Mach) (c : Fin 11) (code seq i : Nat) : (m.raise c.val code seq).flt.alert.getLsbD i =
    (m.flt.alert.getLsbD i || decide (i = c.val)) := by
  obtain ⟨_, _, _, _, _, h⟩ := m.raise_flt c.val code seq
  rw [h]
  exact (BitVec.getLsbD_or ..).trans (by rw [alertBit_eq, alertBit_getLsbD])

/-- The raises of FLT.TEST: of the classes listed, those that the word names (R749). -/
theorem Mach.foldl_raise_alert (v : Word) (seq : Nat) (l : List Nat) (hl : ∀ n ∈ l, n < 11) (m : Mach) (i : Nat) :
    (l.foldl (fun m n => if bitOf v n then m.raise n 0x0004 seq else m) m).flt.alert.getLsbD i =
      (m.flt.alert.getLsbD i || (decide (i ∈ l) && bitOf v i)) := by
  induction l generalizing m with
  | nil => simp
  | cons n l ih =>
    rw [List.foldl_cons, ih fun k hk => hl k (List.mem_cons_of_mem n hk)]
    by_cases hn : bitOf v n = true
    · rw [if_pos hn, m.raise_alert ⟨n, hl n List.mem_cons_self⟩]
      by_cases hi : i = n
      · subst hi; simp [hn]
      · simp [hi]
    · rw [if_neg hn]
      by_cases hi : i = n
      · subst hi; simp [hn]
      · simp [hi]

theorem Mach.raise_eq (m : Mach) (cls code seq : Nat) : ∃ flt ctl spn, m.raise cls code seq = { m with flt, ctl, spn } ∧ flt.queue = m.flt.queue ∧
    flt.tokens = m.flt.tokens ∧ flt.dropped = m.flt.dropped ∧ flt.sinceDrop = m.flt.sinceDrop := by
  have hkeeps := m.raise_keeps cls code seq
  obtain ⟨_, _, _, _, _, hflt⟩ := m.raise_flt cls code seq
  generalize m.raise cls code seq = n at hkeeps hflt
  refine ⟨n.flt, n.ctl, n.spn, ?_, by rw [hflt], by rw [hflt], by rw [hflt], by rw [hflt]⟩
  cases n
  simp_all

theorem Mach.foldl_raise_eq (v : Word) (seq : Nat) (l : List Nat) (m : Mach) : ∃ flt ctl spn,
    l.foldl (fun m n => if bitOf v n then m.raise n 0x0004 seq else m) m = { m with flt, ctl, spn } ∧ flt.queue = m.flt.queue := by
  induction l generalizing m with
  | nil => exact ⟨_, _, _, rfl, rfl⟩
  | cons n l ih =>
    rw [List.foldl_cons]
    split
    · obtain ⟨flt, ctl, spn, hfold, hqueue⟩ := ih (m.raise n 0x0004 seq)
      obtain ⟨flt', ctl', spn', hraise, hqueue', -⟩ := m.raise_eq n 0x0004 seq
      rw [hraise] at hfold hqueue ⊢
      exact ⟨flt, ctl, spn, hfold, hqueue.trans hqueue'⟩
    · exact ih m

/-! ### FLT.TEST -/

/-- One token more, to the most the bucket holds (R754). -/
def Mach.tokenAdded (m : Mach) : Mach := { m with flt := { m.flt with tokens := min (m.flt.tokens + 1) 2000 } }

theorem bitOf_setWidth_of_lt (v : BitVec 11) {n : Nat} (hn : n < 11) : bitOf (v.setWidth 32) n = v.getLsbD n := by
  unfold bitOf
  rw [BitVec.getLsbD_setWidth]
  simp [show n < 32 by omega]

theorem Mach.fltTest_of_free {m : Mach} (k : Option Master) (v : Word) (hdrop : m.flt.sinceDrop = 0) (hfree : m.logFree = true) :
    ∃ flt ctl spn, m.fltTest k v = { m with flt, ctl, spn } ∧ flt.queue.length = m.flt.queue.length + 1 ∧
      ∀ i, flt.alert.getLsbD i = (m.flt.alert.getLsbD i || (decide (i ∈ List.range 11) && bitOf v i)) := by
  obtain ⟨queue, lastSeq, next, hrec, hlen⟩ := m.queueRec_eq (m.record .management 0x0004 v.toNat 0 k none)
  have htest : m.fltTest k v = (List.range 11).foldl (fun n c => if bitOf v c then n.raise c 0x0004 (m.queueRec (m.record .management 0x0004 v.toNat 0 k none)).1 else n)
      (m.queueRec (m.record .management 0x0004 v.toNat 0 k none)).2 := by
    unfold Mach.fltTest
    rw [m.flushDropped_of_noneDropped hdrop]
    simp only [hfree, if_true]
  generalize (m.queueRec (m.record .management 0x0004 v.toNat 0 k none)).1 = seq at htest
  rw [hrec] at htest
  generalize hstart : ({ m with flt := { m.flt with queue, tokens := m.flt.tokens - 1, lastSeq, next } } : Mach) = start at htest
  have halert := Mach.foldl_raise_alert v seq (List.range 11) (fun n hn => List.mem_range.mp hn) start
  obtain ⟨flt, ctl, spn, hfold, hqueue⟩ := Mach.foldl_raise_eq v seq (List.range 11) start
  rw [hfold] at htest halert
  subst hstart
  exact ⟨flt, ctl, spn, htest, (congrArg List.length hqueue).trans hlen, halert⟩

theorem Mach.fltTest_eq (m : Mach) (k : Option Master) (v : Word) : ∃ flt ctl spn, m.fltTest k v = { m with flt, ctl, spn } ∧
    ∀ n, n < 11 → bitOf v n = true → flt.alert.getLsbD n = true := by
  obtain ⟨seq, start, htest, flt₁, ctl₁, spn₁, hstart⟩ : ∃ seq start, m.fltTest k v =
      (List.range 11).foldl (fun n c => if bitOf v c then n.raise c 0x0004 seq else n) start ∧ ∃ flt ctl spn, start = { m with flt, ctl, spn } := by
    obtain ⟨_, _, _, _, _, hflush⟩ := m.flushDropped_eq
    by_cases hfree : m.flushDropped.logFree = true
    · obtain ⟨_, _, _, hrec, -⟩ := m.flushDropped.queueRec_eq (m.flushDropped.record .management 0x0004 v.toNat 0 k none)
      refine ⟨_, _, by unfold Mach.fltTest; simp only [hfree, if_true]; rfl, ?_⟩
      rw [hrec, hflush]
      exact ⟨_, _, _, rfl⟩
    · obtain ⟨_, _, _, hevent⟩ := m.flushDropped.logEvent_eq .management 0x0004 v.toNat 0 k none
      refine ⟨0, m.flushDropped.logEvent .management 0x0004 v.toNat 0 k, by unfold Mach.fltTest; simp only [hfree]; rfl, ?_⟩
      rw [hevent, hflush]
      exact ⟨_, _, _, rfl⟩
  have halert := Mach.foldl_raise_alert v seq (List.range 11) (fun n hn => List.mem_range.mp hn) start
  obtain ⟨flt, ctl, spn, hfold, -⟩ := Mach.foldl_raise_eq v seq (List.range 11) start
  rw [hfold] at htest halert
  subst hstart
  exact ⟨flt, ctl, spn, htest, fun n hn hv => (halert n).trans (by simp [hn, hv])⟩

/-! ### The ring entry -/

theorem LogRec.bytes_length (r : LogRec) : r.bytes.length = 32 := by simp [LogRec.bytes, leBytes_length]

/-- The record at the head of the queue written into its entry; it is the last written one (R753). -/
def Mach.headWritten (m : Mach) (r : LogRec) (rest : List LogRec) : Mach :=
  { m.poke (logAddr (logEntry r.num)) r.bytes with flt := { m.flt with queue := rest, written := r.num } }

theorem Mach.logWrite_of_head {m : Mach} {r : LogRec} {rest : List LogRec} (hfound : m.flt.found = true) (hqueue : m.flt.queue = r :: rest) :
    ∃ spn, m.logWrite = ({ m.headWritten r rest with spn } : Mach).flushDropped := by
  have hwrite : m.logWrite = (if bitOf ((m.headWritten r rest).pval 0x2A47) 0 then
      (m.headWritten r rest).sendEvent { source := 3, code := r.code, arg := r.a, beat := r.beat } else m.headWritten r rest).flushDropped := by
    rw [Mach.logWrite, hfound, hqueue]
    rfl
  rw [hwrite]
  generalize m.headWritten r rest = x
  split
  · obtain ⟨spn, hsend⟩ := x.sendEvent_spn { source := 3, code := r.code, arg := r.a, beat := r.beat }
    exact ⟨spn, by rw [hsend]⟩
  · exact ⟨x.spn, rfl⟩

/-- R753: what waits at the head is written into its ring entry, and leaves the queue. -/
theorem Mach.logWrite_eq {m : Mach} {r : LogRec} {rest : List LogRec} (hfound : m.flt.found = true) (hqueue : m.flt.queue = r :: rest) :
    ∃ mem flt spn, m.logWrite = { m with mem, flt, spn } ∧ mem = writeBytes m.mem (logAddr (logEntry r.num)) r.bytes ∧ flt.written = r.num ∧
      (m.flt.sinceDrop = 0 → flt.queue = rest) := by
  obtain ⟨spn, hwrite⟩ := Mach.logWrite_of_head hfound hqueue
  rw [hwrite]
  unfold Mach.headWritten Mach.poke
  generalize writeBytes m.mem (logAddr (logEntry r.num)) r.bytes = mem
  obtain ⟨queue, tokens, lastSeq, next, sinceDrop, hflush⟩ :=
    ({ m with mem, flt := { m.flt with queue := rest, written := r.num }, spn } : Mach).flushDropped_eq
  refine ⟨mem, _, spn, hflush, rfl, rfl, fun hdrop => ?_⟩
  exact congrArg (·.flt.queue) (hflush.symm.trans (Mach.flushDropped_of_noneDropped _ hdrop))

theorem Mach.logWrite_of_none {m : Mach} (h : m.flt.found = false ∨ m.flt.queue = []) : m.logWrite = m := by
  unfold Mach.logWrite
  rcases h with h | h
  · rw [h]
  · rw [h]; cases m.flt.found <;> rfl

end Sys2Proof.Machine

open Sys2Proof.Machine

/-- Settles O58: a record enters the queue, a raise sets its class's bit, and neither touches more than the faults, the sessions' sealed
commits and the EVENT queue. -/
theorem eventsAreRecordedAndRaised : Obligations.EventsAreRecordedAndRaised := by
  refine ⟨fun m plane code a b origin c hdrop => ⟨fun hfree => ?_, fun hfull => ?_, ?_⟩, fun r rest s hawake hfound hqueue => ?_, fun s hnone => ?_,
    fun s hawake hdrop => ?_, fun k v s hawake hdrop hfree => ?_, fun s hawake => ?_, fun k v s hawake => ?_, fun v raised s hawake => ?_⟩
  · obtain ⟨queue, lastSeq, next, hrec, hlen⟩ := m.queueRec_eq (m.record plane code a b origin (some c.val))
    obtain ⟨_, _, _, _, _, hraise⟩ := Mach.raise_flt (m.queueRec (m.record plane code a b origin (some c.val))).2 c.val code
      (m.queueRec (m.record plane code a b origin (some c.val))).1
    have hevent := congrArg Mach.flt (Mach.logEvent_of_free plane code a b origin (some c.val) hdrop hfree)
    rw [Mach.raiseOf, hraise, hrec] at hevent
    rw [hevent]
    exact ⟨hlen, rfl, rfl, congrArg (m.flt.alert ||| ·) (alertBit_eq c), (vmod_get m.flt.count c.val _ c).trans (if_pos rfl)⟩
  · have hevent := congrArg Mach.flt (Mach.logEvent_of_full plane code a b origin c.val hdrop hfull)
    obtain ⟨flt, ctl, spn, hraise, hqueue, -, hdropped, -⟩ := m.raise_eq c.val code 0
    obtain ⟨flt', ctl', spn', hraise', hqueue', -, hdropped', -⟩ := (m.raise c.val code 0).raise_eq 10 0x0002 0
    have halert (i : Nat) := (m.raise c.val code 0).raise_alert 10 0x0002 0 i
    have hclass (i : Nat) := m.raise_alert c code 0 i
    rw [hevent]
    refine ⟨?_, ?_, (halert c.val).trans ?_, (halert 10).trans ?_⟩
    · rw [hraise', hraise] at *; exact hqueue'.trans hqueue
    · rw [hraise', hraise] at *; exact congrArg (· + 1) (hdropped'.trans hdropped)
    · rw [hclass]; simp
    · exact Bool.or_eq_true_iff.mpr (.inr (decide_eq_true rfl))
  · obtain ⟨ctl, flt, spn, hevent⟩ := m.logEvent_eq plane code a b origin (some c.val)
    rw [hevent]
  · obtain ⟨mem, flt, spn, hwrite, hmem, hwritten, hrest⟩ := Mach.logWrite_eq hfound hqueue
    have hexec := run_awake s (·.logWrite) hawake
    rw [hwrite] at hexec
    refine ⟨_, hexec, rfl, hwritten, hrest, hmem, fun a ha => (congrArg (readByte · a) hmem).trans ?_⟩
    exact readByte_writeBytes_other s.m.mem _ a r.bytes (by rwa [LogRec.bytes_length])
  · exact State.run_of_eq (f := (·.logWrite)) (Mach.logWrite_of_none hnone)
  · exact (run_awake s (·.logToken) hawake).trans (congrArg (Host.Outcome.next <| s.withEngine ·) (Mach.flushDropped_of_noneDropped (Mach.tokenAdded s.m) hdrop))
  · obtain ⟨flt, ctl, spn, htest, hqueue, halert⟩ := Mach.fltTest_of_free (some k) (v.setWidth 32) hdrop hfree
    refine ⟨_, (run_awake s (·.fltTest (some k) (v.setWidth 32)) hawake).trans (by rw [htest]), rfl, BitVec.eq_of_getLsbD_eq fun i hi => ?_, hqueue⟩
    rw [BitVec.getLsbD_or]
    exact (halert i).trans (by rw [bitOf_setWidth_of_lt v hi]; simp [hi])
  · obtain ⟨queue, tokens, lastSeq, next, sinceDrop, hflush⟩ :=
      (Mach.tokenAdded s.m).flushDropped_eq
    exact ⟨_, (run_awake s (·.logToken) hawake).trans (congrArg (Host.Outcome.next <| s.withEngine ·) hflush), rfl, rfl, rfl⟩
  · obtain ⟨flt, ctl, spn, htest, halert⟩ := s.m.fltTest_eq (some k) (v.setWidth 32)
    refine ⟨_, (run_awake s (·.fltTest (some k) (v.setWidth 32)) hawake).trans (by rw [htest]), rfl, fun n hn => ?_⟩
    have hlt := BitVec.lt_of_getLsbD hn
    exact halert n hlt ((bitOf_setWidth_of_lt v hlt).trans hn)
  · exact (run_awake s (·.alertClear (v.setWidth 32) raised) hawake).trans (by rw [Mach.alertClear, BitVec.setWidth_setWidth_of_le _ (by decide), BitVec.setWidth_eq])
end

section
/-! SUPPORT. The Vault's operations, its scrub and its powered time, and the statement about them (R214 to R216, R224 to R228, R245). -/

namespace Sys2Proof.Machine

/-! ### The directory -/

theorem Nv.governing_of_none {nv : Nv} (h : nv.dir = none) : nv.dirA.ok = false ∧ nv.dirB.ok = false := by
  unfold Nv.dir Nv.governing at h
  cases hA : nv.dirA.ok <;> cases hB : nv.dirB.ok <;> simp [hA, hB] at h ⊢
  split at h <;> simp_all

theorem Nv.dirA_of_governing {nv : Nv} (h : nv.governing = some false) : nv.dirA.ok = true ∧ nv.dir = some nv.dirA := by
  refine ⟨?_, by rw [Nv.dir, h]⟩
  unfold Nv.governing at h
  cases hA : nv.dirA.ok <;> cases hB : nv.dirB.ok <;> simp_all

theorem Nv.dirB_of_governing {nv : Nv} (h : nv.governing = some true) : nv.dirB.ok = true ∧ nv.dir = some nv.dirB := by
  refine ⟨?_, by rw [Nv.dir, h]⟩
  unfold Nv.governing at h
  cases hA : nv.dirA.ok <;> cases hB : nv.dirB.ok <;> simp_all

theorem Nv.dir_of_newerA {nv : Nv} (hA : nv.dirA.ok = true) (hgen : nv.dirB.gen ≤ nv.dirA.gen) : nv.dir = some nv.dirA := by
  have hgov : nv.governing = some false := by
    rw [Nv.governing, hA, decide_eq_false (by omega : ¬ nv.dirA.gen < nv.dirB.gen)]
    cases nv.dirB.ok <;> rfl
  rw [Nv.dir, hgov]

theorem Nv.dir_of_newerB {nv : Nv} (hB : nv.dirB.ok = true) (hgen : nv.dirA.gen < nv.dirB.gen) : nv.dir = some nv.dirB := by
  have hgov : nv.governing = some true := by
    rw [Nv.governing, hB, decide_eq_true hgen]
    cases nv.dirA.ok <;> rfl
  rw [Nv.dir, hgov]

theorem Nv.dir_of_onlyA {nv : Nv} (hA : nv.dirA.ok = true) (hB : nv.dirB.ok = false) : nv.dir = some nv.dirA := by
  rw [Nv.dir, Nv.governing, hA, hB]
  rfl

/-- Recording a section rewrites the copy that does not govern, and that copy governs then (R212). -/
theorem Nv.dir_record (nv : Nv) (sec : Nat) (b : Option Bool) : ∃ d active, (nv.record sec b).dir = some d ∧ d.active = vset active sec b := by
  cases hgov : nv.governing with
  | none =>
    have hdir : nv.dir = none := by rw [Nv.dir, hgov]
    have hbad := (Nv.governing_of_none hdir).2
    refine ⟨_, _, (congrArg Nv.dir (?_ : nv.record sec b = _)).trans (Nv.dir_of_onlyA
      (nv := { nv with dirA := { ok := true, gen := 1, active := vset (Vector.replicate 34 none) sec b } }) rfl hbad), rfl⟩
    rw [Nv.record, hdir]
  | some g =>
    cases g with
    | false =>
      obtain ⟨hok, hdir⟩ := Nv.dirA_of_governing hgov
      refine ⟨_, _, (congrArg Nv.dir (?_ : nv.record sec b = _)).trans (Nv.dir_of_newerB
        (nv := { nv with dirB := { nv.dirA with gen := nv.dirA.gen + 1, active := vset nv.dirA.active sec b } }) hok (Nat.lt_succ_self _)), rfl⟩
      rw [Nv.record, hdir, hgov]
      rfl
    | true =>
      obtain ⟨hok, hdir⟩ := Nv.dirB_of_governing hgov
      refine ⟨_, _, (congrArg Nv.dir (?_ : nv.record sec b = _)).trans (Nv.dir_of_newerA
        (nv := { nv with dirA := { nv.dirB with gen := nv.dirB.gen + 1, active := vset nv.dirB.active sec b } }) hok (Nat.le_succ _)), rfl⟩
      rw [Nv.record, hdir, hgov]
      rfl

theorem Nv.active_record (nv : Nv) (sec : Fin 34) (b : Option Bool) : (nv.record sec.val b).active sec.val = b := by
  obtain ⟨d, active, hdir, hactive⟩ := nv.dir_record sec.val b
  rw [Nv.active, hdir]
  dsimp only
  rw [hactive, vget_eq]
  exact (vset_get active sec.val b sec).trans (if_pos rfl)

theorem Mach.activateBank_eq (m : Mach) (sec : Nat) (b : Bool) (bytes : List Byte) : ∃ copyB baseBank polBank mintBank mintCode slots,
    m.activateBank sec b bytes = { m with vlt := { m.vlt with nv := m.vlt.nv.record sec (some b), copyB, baseBank, polBank, mintBank, mintCode, slots } } := by
  unfold Mach.activateBank Mach.slotValid
  (repeat' split) <;> exact ⟨_, _, _, _, _, _, rfl⟩

/-! ### Uncorrectable words -/

theorem Mach.vaultEcc_vlt (m : Mach) (bad : List Nat) :
    (m.vaultEcc bad).vlt = { m.vlt with eccUnc := m.vlt.eccUnc + BitVec.ofNat 16 bad.length } := by
  unfold Mach.vaultEcc
  induction bad generalizing m with
  | nil => simp
  | cons o bad ih =>
    rw [List.foldl_cons, ih]
    have hone : BitVec.ofNat 16 (o :: bad).length = 1 + BitVec.ofNat 16 bad.length := by
      rw [List.length_cons, Nat.add_comm, BitVec.ofNat_add]
      rfl
    rw [hone, ← BitVec.add_assoc]
    simp only [Mach.logEvent_keeps]

theorem Mach.slotsHit_vlt (m : Mach) (bad : List Nat) : ∃ slots, (m.slotsHit bad).vlt = { m.vlt with slots } := by
  unfold Mach.slotsHit
  generalize List.range 32 = l
  induction l generalizing m with
  | nil => exact ⟨_, rfl⟩
  | cons n l ih =>
    rw [List.foldl_cons]
    split
    · dsimp only
      split
      · exact ih (m.slotValid n false)
      · exact ih m
    · exact ih m

theorem Mach.imagesHit_vlt (m : Mach) (bad : List Nat) : ∃ baseBank polBank mintBank mintCode,
    (m.imagesHit bad).vlt = { m.vlt with baseBank, polBank, mintBank, mintCode } := by
  unfold Mach.imagesHit
  dsimp only
  split
  · simp only [Mach.chooseBank_keeps]
    exact ⟨_, _, _, _, rfl⟩
  · exact ⟨_, _, _, _, rfl⟩

/-- Uncorrectable words are counted; of the Vault's state beyond that, what is taken as valid changes alone (R216). -/
theorem Mach.hits_vlt (m : Mach) (bad : List Nat) : ∃ slots baseBank polBank mintBank mintCode,
    ((((m.vaultEcc bad).slotsHit bad).checkCerts false bad).imagesHit bad).vlt =
      { m.vlt with eccUnc := m.vlt.eccUnc + BitVec.ofNat 16 bad.length, slots, baseBank, polBank, mintBank, mintCode } := by
  obtain ⟨baseBank, polBank, mintBank, mintCode, himages⟩ := (((m.vaultEcc bad).slotsHit bad).checkCerts false bad).imagesHit_vlt bad
  obtain ⟨slots, hslots⟩ := (m.vaultEcc bad).slotsHit_vlt bad
  refine ⟨slots, baseBank, polBank, mintBank, mintCode, himages.trans ?_⟩
  simp only [Mach.checkCerts_keeps, hslots, Mach.vaultEcc_vlt]

/-- Uncorrectable words change the Vault's state, the certificates and the log (R216). -/
theorem Mach.hits_eq (m : Mach) (bad : List Nat) : ∃ vlt cal flt ctl spn,
    (((m.vaultEcc bad).slotsHit bad).checkCerts false bad).imagesHit bad = { m with vlt, cal, flt, ctl, spn } := by
  have hecc := m.vaultEcc_keeps bad
  have hslots := (m.vaultEcc bad).slotsHit_keeps bad
  have hcerts := ((m.vaultEcc bad).slotsHit bad).checkCerts_keeps false bad
  have himages := (((m.vaultEcc bad).slotsHit bad).checkCerts false bad).imagesHit_keeps bad
  generalize (((m.vaultEcc bad).slotsHit bad).checkCerts false bad).imagesHit bad = n at himages
  refine ⟨n.vlt, n.cal, n.flt, n.ctl, n.spn, ?_⟩
  cases n
  simp_all

theorem Mach.vaultHit_nv (m : Mach) (bad : List Nat) : (m.vaultHit bad).vlt.nv = m.vlt.nv := by
  unfold Mach.vaultHit
  split
  · rfl
  · obtain ⟨_, _, _, _, _, hhits⟩ := m.hits_vlt bad
    rw [hhits]

/-- A scrub's end in the Vault's state (R215). -/
theorem Mach.scrubbed_eq {m : Mach} (corrected : Nat) (bad : List Nat) (hscrub : m.vlt.scrubbing = true) : ∃ vlt cal flt ctl spn,
    m.scrubbed corrected bad = { m with vlt, cal, flt, ctl, spn } ∧ vlt.scrubbing = false ∧ vlt.nv.scrubs = m.vlt.nv.scrubs + 1 ∧
    vlt.nv.scrubEnd = m.vlt.powered ∧ vlt.eccUnc = m.vlt.eccUnc + BitVec.ofNat 16 bad.length := by
  unfold Mach.scrubbed
  rw [hscrub, if_neg (by decide)]
  dsimp only
  generalize hstart : ({ m with vlt := { m.vlt with
      scrubbing := false, eccCorr := m.vlt.eccCorr + BitVec.ofNat 16 corrected
      nv := { m.vlt.nv with corrected := BitVec.ofNat 16 corrected, scrubs := m.vlt.nv.scrubs + 1, scrubEnd := m.vlt.powered } } } : Mach) = start
  obtain ⟨_, _, _, _, _, hhits⟩ := start.hits_vlt bad
  obtain ⟨ctl, flt, spn, hevent⟩ := ((((start.vaultEcc bad).slotsHit bad).checkCerts false bad).imagesHit bad).logEvent_eq .management 0x0401 corrected bad.length none none
  rw [hevent, hhits]
  obtain ⟨vlt, cal, flt', ctl', spn', hframe⟩ := start.hits_eq bad
  rw [hframe, ← hstart]
  exact ⟨_, _, _, _, _, rfl, rfl, rfl, rfl, rfl⟩

/-! ### The control word -/

theorem vaultWord_op (op : Fin 4) (kind : Fin 16) (slot : Fin 32) : fld (w32 (op.val + 16 * kind.val + 256 * slot.val)) 0 2 = op.val := by
  simp only [fld, nfld, w32, BitVec.toNat_ofNat, Nat.shiftRight_eq_div_pow]
  omega

theorem vaultWord_kind (op : Fin 4) (kind : Fin 16) (slot : Fin 32) : fld (w32 (op.val + 16 * kind.val + 256 * slot.val)) 4 4 = kind.val := by
  simp only [fld, nfld, w32, BitVec.toNat_ofNat, Nat.shiftRight_eq_div_pow]
  omega

theorem vaultWord_slot (op : Fin 4) (kind : Fin 16) (slot : Fin 32) : fld (w32 (op.val + 16 * kind.val + 256 * slot.val)) 8 5 = slot.val := by
  simp only [fld, nfld, w32, BitVec.toNat_ofNat, Nat.shiftRight_eq_div_pow]
  omega

theorem exec_vaultProgram {s : State} (kind : Fin 16) (slot : Fin 32) (hawake : s.awake) :
    exec (.vaultProgram kind slot) s = .next (s.withEngine s.m.vaultProgram) := by
  refine (run_awake s (·.vaultCtl (w32 (1 + 16 * kind.val + 256 * slot.val))) hawake).trans ?_
  unfold Mach.vaultCtl
  rw [show fld (w32 (1 + 16 * kind.val + 256 * slot.val)) 0 2 = 1 from vaultWord_op 1 kind slot]
  rfl

/-- The erase of the section that the word names. -/
def Mach.vaultEraseOf (m : Mach) (kind slot : Nat) : Mach :=
  if m.vlt.op.isSome then m.vaultRefuse 2 11
  else match secOf kind slot with
    | none => m.vaultRefuse 2 7
    | some sec => if m.slotBusy sec then m.vaultRefuse 2 10 else m.vaultStart 2 (.erase sec)

theorem exec_vaultErase {s : State} (kind : Fin 16) (slot : Fin 32) (hawake : s.awake) :
    exec (.vaultErase kind slot) s = .next (s.withEngine (s.m.vaultEraseOf kind.val slot.val)) := by
  refine (run_awake s (·.vaultCtl (w32 (2 + 16 * kind.val + 256 * slot.val))) hawake).trans ?_
  unfold Mach.vaultCtl
  rw [show fld (w32 (2 + 16 * kind.val + 256 * slot.val)) 0 2 = 2 from vaultWord_op 2 kind slot]
  change Host.Outcome.next (s.withEngine (s.m.vaultErase _)) = _
  unfold Mach.vaultErase
  rw [show fld (w32 (2 + 16 * kind.val + 256 * slot.val)) 4 4 = kind.val from vaultWord_kind 2 kind slot,
    show fld (w32 (2 + 16 * kind.val + 256 * slot.val)) 8 5 = slot.val from vaultWord_slot 2 kind slot]
  rfl

theorem exec_vaultExport {s : State} (hawake : s.awake) : exec .vaultExport s = .next (s.withEngine s.m.vaultExport) :=
  run_awake s (·.vaultCtl 3) hawake

/-! ### Starts and refusals -/

theorem Mach.vaultRefuse_busy {m : Mach} (op : Nat) (hbusy : m.vlt.op.isSome = true) :
    m.vaultRefuse op 11 = { m with vlt := { m.vlt with cause := 11 } } := by
  unfold Mach.vaultRefuse
  simp [hbusy]

theorem Mach.vaultRefuse_of_idle {m : Mach} (op cause : Nat) (hidle : m.vlt.op = none) (hread : ¬ (op = 1 ∧ cause ∈ [4, 9, 10])) :
    m.vaultRefuse op cause = { m with vlt := { m.vlt with st := 3, lastOp := BitVec.ofNat 4 op, cause := BitVec.ofNat 8 cause } } := by
  unfold Mach.vaultRefuse
  have hnot : (op == 1 && (cause == 4 || cause == 9 || cause == 10)) = false := by
    rw [Bool.eq_false_iff]
    intro h
    simp at h hread
    omega
  rw [hnot, hidle]
  rfl

theorem Mach.programFault_busy {m : Mach} (hbusy : m.vlt.op.isSome = true) : m.programFault = 11 := by
  unfold Mach.programFault
  exact if_pos hbusy

theorem Mach.vaultProgram_refused {m : Mach} (hfault : m.programFault ≠ 0) : m.vaultProgram = m.vaultRefuse 1 m.programFault := by
  unfold Mach.vaultProgram
  exact if_pos (bne_iff_ne.mpr hfault)

theorem Mach.vaultProgram_started {m : Mach} (hfault : m.programFault = 0) : ∃ sec store, m.vaultProgram =
    { m with
      vlt := { m.vlt with
        st := 1, lastOp := 1, cause := 0
        op := some (.program sec (readBytes m.mem m.vaultSrc (imgNum (readBytes m.mem m.vaultSrc 64) 24 4))) }
      store } := by
  unfold Mach.vaultProgram
  rw [hfault]
  exact ⟨_, _, rfl⟩

/-- A refused program that is not busy: its length where its image was read (R225, R248). -/
theorem Mach.vaultRefuse_program {m : Mach} (cause : Nat) (hidle : m.vlt.op = none) : m.vaultRefuse 1 cause =
    { m with vlt := { m.vlt with
        st := 3, lastOp := 1, cause := BitVec.ofNat 8 cause
        len := if cause ∈ [4, 9, 10] then w32 (readNat m.mem (m.vaultSrc + 24) 4) else m.vlt.len } } := by
  by_cases hread : cause ∈ [4, 9, 10]
  · unfold Mach.vaultRefuse
    have hyes : ((1 : Nat) == 1 && (cause == 4 || cause == 9 || cause == 10)) = true := by
      simpa [or_assoc] using hread
    rw [hyes, if_pos hread]
    rfl
  · rw [if_neg hread]
    exact Mach.vaultRefuse_of_idle 1 cause hidle fun h => hread h.2

theorem Mach.vaultEraseOf_none {m : Mach} {kind slot : Nat} (hidle : m.vlt.op = none) (hsec : secOf kind slot = none) :
    m.vaultEraseOf kind slot = m.vaultRefuse 2 7 := by
  rw [Mach.vaultEraseOf, if_neg (by rw [hidle]; decide), hsec]

theorem Mach.vaultEraseOf_some {m : Mach} {kind slot sec : Nat} (hidle : m.vlt.op = none) (hsec : secOf kind slot = some sec) :
    m.vaultEraseOf kind slot = if m.slotBusy sec then m.vaultRefuse 2 10 else m.vaultStart 2 (.erase sec) := by
  rw [Mach.vaultEraseOf, if_neg (by rw [hidle]; decide), hsec]

/-! ### Ends -/

theorem Mach.vaultDone_program {m : Mach} {sec : Nat} {bytes : List Byte} (e : VaultEnd) (bad : List Nat) (hop : m.vlt.op = some (.program sec bytes)) :
    m.vaultDone e bad = if e == .uncorrectable then m.vaultEnd 3 14 bytes.length
      else if e == .readback || !bad.isEmpty then ((m.writeBank sec (m.vlt.nv.active sec == some false) bytes).vaultHit bad).vaultEnd 3 12 bytes.length
      else ((m.writeBank sec (m.vlt.nv.active sec == some false) bytes).activateBank sec (m.vlt.nv.active sec == some false) bytes).vaultEnd 2 0 bytes.length := by
  unfold Mach.vaultDone
  rw [hop]
  dsimp only
  rcases hactive : m.vlt.nv.active sec with _ | _ | _ <;> rfl

theorem Mach.vaultDone_exporting {m : Mach} {dst : Nat} {bytes : List Byte} (e : VaultEnd) (bad : List Nat) (hop : m.vlt.op = some (.exporting dst bytes)) :
    m.vaultDone e bad = if e == .uncorrectable then m.vaultEnd 3 14 bytes.length
      else (((m.poke dst bytes).touchDdr dst bytes.length).vaultHit bad).vaultEnd 2 0 bytes.length := by
  unfold Mach.vaultDone
  rw [hop]

/-- A bank's write reaches that bank alone (R226). -/
theorem Mach.writeBank_other (m : Mach) (sec : Nat) (b : Bool) (bytes : List Byte) (a : Nat) (hlen : bytes.length ≤ bankSize sec)
    (ha : a < vaultBase + bankOffset sec b ∨ vaultBase + bankOffset sec b + bankSize sec ≤ a) :
    readByte (m.writeBank sec b bytes).mem a = readByte m.mem a := by
  refine (readByte_writeBytes_other _ _ a bytes (by omega)).trans ((readByte_clearBytes ..).trans (if_neg ?_))
  omega

theorem Mach.writeBank_eq (m : Mach) (sec : Nat) (b : Bool) (bytes : List Byte) : ∃ mem, m.writeBank sec b bytes = { m with mem } := ⟨_, rfl⟩

end Sys2Proof.Machine

open Sys2Proof.Machine

/-- Settles O59: an operation's end rewrites the directory copy that does not govern; words found uncorrectable change what counts as valid,
never the directory. -/
theorem vaultOperationsStartAndEnd : Obligations.VaultOperationsStartAndEnd := by
  refine ⟨fun kind slot s hawake => ⟨fun hfault hidle => ?_, fun hok => ?_⟩, fun kind slot s hawake hidle => ⟨fun hsec => ?_, fun sec hsec hbusy => ?_, fun sec hsec hfree => ?_⟩,
    fun s hawake hidle => ⟨fun hddr => ?_, fun hddr hrange => ?_, fun hddr hrange => ?_⟩, fun s hawake hbusy kind slot => ⟨?_, ?_, ?_⟩,
    fun e bad s hidle => ?_, fun sec bytes s hawake hop hlen => ?_, fun sec bytes bad s hawake hop => ⟨?_, ?_⟩, fun sec e bad s hawake hop => ?_,
    fun dst bytes s hawake hop => ⟨?_, ?_⟩, fun s hawake hscrub => ⟨fun hdue => ?_, fun hearly => ?_, fun corrected bad => ?_⟩, fun s hawake => ?_,
    fun corrected bad s hawake hscrub => ?_, fun s hawake => ?_⟩
  · rw [exec_vaultProgram kind slot hawake, Mach.vaultProgram_refused hfault, Mach.vaultRefuse_program _ hidle]
  · obtain ⟨sec, store, hstart⟩ := Mach.vaultProgram_started hok
    exact ⟨_, (exec_vaultProgram kind slot hawake).trans (by rw [hstart]), rfl, sec, rfl⟩
  · rw [exec_vaultErase kind slot hawake, Mach.vaultEraseOf_none hidle hsec, Mach.vaultRefuse_of_idle 2 7 hidle (by decide), ← hidle]
    rfl
  · rw [exec_vaultErase kind slot hawake, Mach.vaultEraseOf_some hidle hsec, if_pos hbusy, Mach.vaultRefuse_of_idle 2 10 hidle (by decide), ← hidle]
    rfl
  · rw [exec_vaultErase kind slot hawake, Mach.vaultEraseOf_some hidle hsec, if_neg (by rw [hfree]; decide)]
    rfl
  · rw [exec_vaultExport hawake, Mach.vaultExport, hidle, hddr, Mach.vaultRefuse_of_idle 3 2 hidle (by decide)]
    rfl
  · rw [exec_vaultExport hawake, Mach.vaultExport, hidle, hddr, hrange, Mach.vaultRefuse_of_idle 3 1 hidle (by decide)]
    rfl
  · rw [exec_vaultExport hawake, Mach.vaultExport, hidle, hddr, hrange]
    rfl
  · have hfault := Mach.programFault_busy hbusy
    rw [exec_vaultProgram kind slot hawake, Mach.vaultProgram_refused (by rw [hfault]; decide), hfault, Mach.vaultRefuse_busy 1 hbusy]
  · rw [exec_vaultErase kind slot hawake, Mach.vaultEraseOf, if_pos hbusy, Mach.vaultRefuse_busy 2 hbusy]
  · rw [exec_vaultExport hawake, Mach.vaultExport, if_pos hbusy, Mach.vaultRefuse_busy 3 hbusy]
  · exact State.run_of_eq (f := (·.vaultDone e bad)) (by simp only [Mach.vaultDone, hidle])
  · obtain ⟨copyB, baseBank, polBank, mintBank, mintCode, slots, hactivate⟩ :=
      (s.m.writeBank sec.val (s.m.vlt.nv.active sec.val == some false) bytes).activateBank_eq sec.val (s.m.vlt.nv.active sec.val == some false) bytes
    have hdone : s.m.vaultDone .good [] = ((s.m.writeBank sec.val (s.m.vlt.nv.active sec.val == some false) bytes).activateBank sec.val
        (s.m.vlt.nv.active sec.val == some false) bytes).vaultEnd 2 0 bytes.length := Mach.vaultDone_program .good [] hop
    have hother := s.m.writeBank_other sec.val (s.m.vlt.nv.active sec.val == some false) bytes
    obtain ⟨mem, hbank⟩ := s.m.writeBank_eq sec.val (s.m.vlt.nv.active sec.val == some false) bytes
    rw [hactivate, hbank] at hdone
    rw [hbank] at hother
    exact ⟨_, (run_awake s (·.vaultDone .good []) hawake).trans (by rw [hdone]), rfl, rfl, rfl, rfl, Nv.active_record _ sec _, fun a ha => hother a hlen ha⟩
  · exact (run_awake s (·.vaultDone .uncorrectable bad) hawake).trans (by rw [Mach.vaultDone_program .uncorrectable bad hop]; rfl)
  · obtain ⟨mem, hbank⟩ := s.m.writeBank_eq sec.val (s.m.vlt.nv.active sec.val == some false) bytes
    have hdone : s.m.vaultDone .readback bad = ((s.m.writeBank sec.val (s.m.vlt.nv.active sec.val == some false) bytes).vaultHit bad).vaultEnd 3 12 bytes.length := Mach.vaultDone_program .readback bad hop
    have hnv := (s.m.writeBank sec.val (s.m.vlt.nv.active sec.val == some false) bytes).vaultHit_nv bad
    refine ⟨_, (run_awake s (·.vaultDone .readback bad) hawake).trans (by rw [hdone]), rfl, rfl, rfl, rfl, ?_⟩
    exact congrArg (·.active sec.val) (hnv.trans (by rw [hbank]))
  · obtain ⟨slots, copyB, hdone⟩ : ∃ slots copyB, s.m.vaultDone e bad = { s.m with vlt := { s.m.vlt with
        nv := s.m.vlt.nv.record sec.val none, slots, copyB, op := none, st := 2, cause := 0, len := w32 s.m.vlt.len.toNat } } := by
      simp only [Mach.vaultDone, hop]
      split <;> exact ⟨_, _, rfl⟩
    exact ⟨_, (run_awake s (·.vaultDone e bad) hawake).trans (by rw [hdone]), rfl, rfl, rfl, Nv.active_record _ sec none⟩
  · exact (run_awake s (·.vaultDone .uncorrectable []) hawake).trans (by rw [Mach.vaultDone_exporting .uncorrectable [] hop]; rfl)
  · have hdone : s.m.vaultDone .good [] = ((s.m.poke dst bytes).touchDdr dst bytes.length).vaultEnd 2 0 bytes.length := Mach.vaultDone_exporting .good [] hop
    have hexec := run_awake s (·.vaultDone .good []) hawake
    rw [hdone] at hexec
    exact ⟨_, hexec, rfl, rfl, rfl⟩
  · exact (run_awake s (·.scrubStart) hawake).trans (by rw [Mach.scrubStart, hscrub, decide_eq_true hdue]; rfl)
  · exact State.run_of_eq (f := (·.scrubStart)) (by rw [Mach.scrubStart, decide_eq_false (by omega)]; simp)
  · exact State.run_of_eq (f := (·.scrubbed corrected bad)) (by rw [Mach.scrubbed, hscrub]; rfl)
  · exact (run_awake s (·.scrubNow 1) hawake).trans rfl
  · obtain ⟨vlt, cal, flt, ctl, spn, hdone, hend, hcount, hat, hecc⟩ := Mach.scrubbed_eq corrected bad hscrub
    exact ⟨_, (run_awake s (·.scrubbed corrected bad) hawake).trans (by rw [hdone]), rfl, hend, hcount, hat, hecc⟩
  · exact ⟨_, run_awake s (·.poweredSecond) hawake, rfl, rfl⟩
end

section
/-! SUPPORT. The messages of a Volume, and the statement about them (R709, R714, R728, R732 to R735, R738, R741). -/

namespace Sys2Proof.Machine

/-! ### What brings the Volume's state up to date -/

theorem Mach.volGo_vol (m : Mach) (st : VolSt) : (m.volGo st).vol = { m.vol with st } := by
  unfold Mach.volGo
  split
  next h => subst h; rfl
  · simp [Mach.modVol]

theorem Mach.sendDigest_vol (m : Mach) : m.sendDigest.vol = m.vol := by
  unfold Mach.sendDigest Mach.toPrincipal
  (repeat' split) <;> simp

theorem Mach.volStep_vol (m : Mach) : ∃ st, m.volStep.vol = { m.vol with st } := by
  unfold Mach.volStep
  (repeat' split) <;> first | exact ⟨_, m.volGo_vol _⟩ | exact ⟨_, (Mach.sendDigest_vol _).trans (m.volGo_vol _)⟩ | exact ⟨m.vol.st, rfl⟩

theorem Mach.volAdrift_vol (m : Mach) : ∃ adrift aligned adrifts, m.volAdrift.vol = { m.vol with adrift, aligned, adrifts } := by
  unfold Mach.volAdrift
  dsimp only
  split
  · exact ⟨false, m.vol.aligned, m.vol.adrifts, by simp [Mach.modVol]⟩
  · split
    · exact ⟨_, _, _, rfl⟩
    · exact ⟨true, false, m.vol.adrifts + 1, by simp [Mach.modVol]⟩

theorem Mach.volState_vol (m : Mach) : ∃ st adrift aligned adrifts, m.volState.vol = { m.vol with st, adrift, aligned, adrifts } := by
  obtain ⟨_, h1⟩ := m.volStep_vol
  obtain ⟨st, h2⟩ := m.volStep.volStep_vol
  obtain ⟨adrift, aligned, adrifts, h3⟩ := m.volStep.volStep.volAdrift_vol
  exact ⟨st, adrift, aligned, adrifts, h3.trans (by rw [h2, h1])⟩

theorem Mach.bcast_spn (m : Mach) (op f2 f4 : Nat) : ∃ spn, m.bcast op f2 f4 = { m with spn } := by
  unfold Mach.bcast
  split
  · exact Mach.sendPkt_spn m 1 _
  · exact ⟨m.spn, rfl⟩

theorem Mach.toPrincipal_spn (m : Mach) (op f2 f4 : Nat) : ∃ spn, m.toPrincipal op f2 f4 = { m with spn } := by
  unfold Mach.toPrincipal
  split
  · exact Mach.sendPkt_spn m 1 _
  · exact ⟨m.spn, rfl⟩

/-- The principal's check after a READY ends no exchange of digests and readiness (R733). -/
theorem Mach.armCheck_eq (m : Mach) : ∃ arm armSt absent goBeat spn, m.armCheck =
    { m with vol := { m.vol with arm, armSt, absent, goBeat }, spn } := by
  unfold Mach.armCheck Mach.armGo
  split
  · exact ⟨_, _, _, _, _, rfl⟩
  next r harm =>
    split
    · obtain ⟨spn, hbcast⟩ := m.bcast_spn 0x46 (0 : BitVec 8).toNat (ofInt (m.volBeat + 32) 32)
      refine ⟨none, 2, 0, some (BitVec.ofInt 32 (m.volBeat + 32), r.qid, 0), spn, ?_⟩
      exact congrArg (Mach.modVol · _) hbcast
    · exact ⟨_, _, _, _, _, rfl⟩

theorem Mach.volState_armCheck_vol (m : Mach) : m.volState.armCheck.vol.posn = m.vol.posn ∧ m.volState.armCheck.vol.present = m.vol.present := by
  obtain ⟨_, _, _, _, hstate⟩ := m.volState_vol
  have hposn : m.volState.vol.posn = m.vol.posn := by rw [hstate]
  have hpresent : m.volState.vol.present = m.vol.present := by rw [hstate]
  obtain ⟨_, _, _, _, _, harm⟩ := m.volState.armCheck_eq
  rw [harm]
  exact ⟨hposn, hpresent⟩

theorem Mach.armCheck_of {m n : Mach} {Q : Vector Posn 8 → Prop} (hn : ∃ vol spn, n = { m with vol, spn } ∧ Q vol.posn) :
    ∃ vol spn, n.armCheck = { m with vol, spn } ∧ Q vol.posn := by
  obtain ⟨vol, spn, rfl, hq⟩ := hn
  obtain ⟨_, _, _, _, _, harm⟩ := ({ m with vol, spn } : Mach).armCheck_eq
  exact ⟨_, _, harm, hq⟩

theorem presentBit_getLsbD (x : BitVec 8) (o : Fin 8) : (x ||| (1 <<< o.val)).getLsbD o.val = true := by
  rw [BitVec.getLsbD_or, Bool.or_eq_true]
  right
  revert o
  decide

/-! ### JOIN -/

theorem Mach.joined_of_vol {m n : Mach} (heast : n.vol.east = m.vol.east) (hwest : n.vol.west = m.vol.west) (i : Nat) : n.joined i = m.joined i := by
  rw [Mach.joined, Mach.joined, heast, hwest]

theorem Mach.volState_joined (m : Mach) (i : Nat) : m.volState.joined i = m.joined i := by
  obtain ⟨_, _, _, _, h⟩ := m.volState_vol
  exact Mach.joined_of_vol (by rw [h]) (by rw [h]) i

theorem volPort_cases {p : Fin 3} (hp : p ≠ 0) : p = 1 ∨ p = 2 := by
  revert p
  decide

theorem Mach.volJoin_joined (m : Mach) {p : Fin 3} (hp : p ≠ 0) : (m.volJoin p.val).joined p.val = true := by
  unfold Mach.volJoin
  extract_lets m1 m2
  rw [Mach.volState_joined]
  have hvol : m2.vol.east = m1.vol.east ∧ m2.vol.west = m1.vol.west := by
    unfold m2
    split <;> exact ⟨rfl, rfl⟩
  rw [Mach.joined_of_vol hvol.1 hvol.2]
  rcases volPort_cases hp with rfl | rfl <;> simp [Mach.joined, m1, Mach.modVol]

theorem Mach.volLeave_joined (m : Mach) {p : Fin 3} (hp : p ≠ 0) : (m.volLeave p.val).joined p.val = false := by
  unfold Mach.volLeave
  split
  next h => rw [Mach.volState_joined]; simpa using h
  · extract_lets m1 m2
    rw [Mach.volState_joined]
    have hvol : m2.vol = m1.vol := by
      unfold m2
      split <;> simp
    rw [Mach.joined_of_vol (congrArg Vol.east hvol) (congrArg Vol.west hvol)]
    rcases volPort_cases hp with rfl | rfl <;> simp [Mach.joined, m1, Mach.modVol]

/-- Check 3 of R709 on JOIN. -/
theorem Mach.joinMsg_joined {m : Mach} {p : Fin 3} {pos size : Nat} (hp : p ≠ 0) (hup : m.portUp p.val = true) (hhello : m.helloJoins p.val = true)
    (hon : m.volOn = true) : (m.joinMsg p.val pos size).joined p.val = decide (size = m.volSize ∧ pos = m.neighbour p.val) := by
  have hval : p.val ≠ 0 := fun h => hp (Fin.ext h)
  have hhello' : (m.acceptPkt p.val 1 8).helloJoins p.val = true := by
    refine (?_ : _ = m.helloJoins p.val).trans hhello
    simp only [Mach.helloJoins, Mach.portOf_eq, Mach.acceptPkt_port]
    rfl
  unfold Mach.joinMsg
  rw [if_neg (by simp [hup, hval])]
  dsimp only
  rw [if_neg (by rw [hhello', show (m.acceptPkt p.val 1 8).volOn = true from hon]; decide)]
  by_cases hfits : size = m.volSize ∧ pos = m.neighbour p.val
  · rw [if_pos (by simp [hfits]), decide_eq_true hfits]
    exact Mach.volJoin_joined _ hp
  · rw [if_neg (by simpa using hfits), decide_eq_false hfits]
    exact Mach.volLeave_joined _ hp

theorem Mach.joinMsg_par (m : Mach) (i pos size : Nat) : (m.joinMsg i pos size).par = m.par := by
  unfold Mach.joinMsg
  (repeat' split) <;> simp

/-! ### A message taken -/

section
variable {m : Mach} {v : VMsg} (op f2 f4 : Nat)

theorem Mach.volMsg_of_down (act : Mach → Mach) (hdown : m.portUp v.port.val = false) : m.volMsg v op f2 f4 act = m := by
  unfold Mach.volMsg
  rw [hdown]
  rfl

/-- A message meant for this engine is acted on, and besides that only the Spine's ports move (R713). -/
theorem Mach.volMsg_of_mine {act : Mach → Mach} {P : Mach → Prop} (hport : v.port ≠ 0) (hup : m.portUp v.port.val = true)
    (hjoined : m.joined v.port.val = true) (horigin : v.origin.val ≠ m.volPos) (hmine : v.bcast = true ∨ v.target.val = m.volPos)
    (hspn : ∀ n spn, P n → P { n with spn }) (hact : ∀ spn, P (act { m with spn })) : P (m.volMsg v op f2 f4 act) := by
  obtain ⟨spn, haccept⟩ : ∃ spn, m.acceptPkt v.port.val 1 8 = { m with spn } := ⟨_, rfl⟩
  have hnot : ¬ ((!m.portUp v.port.val) = true ∨ v.port = 0) := by simp [hup, hport]
  have hhere : (!({ m with spn } : Mach).joined v.port.val || decide (v.origin.val = ({ m with spn } : Mach).volPos)) = false := by
    rw [show ({ m with spn } : Mach).joined v.port.val = true from hjoined, decide_eq_false (show ¬ v.origin.val = ({ m with spn } : Mach).volPos from horigin)]
    rfl
  have hmeant : (v.bcast || v.target.val == ({ m with spn } : Mach).volPos) = true := by
    rcases hmine with h | h
    · rw [h]; rfl
    · rw [beq_iff_eq.mpr (show v.target.val = ({ m with spn } : Mach).volPos from h), Bool.or_true]
  unfold Mach.volMsg
  rw [if_neg (by simpa using hnot), haccept]
  dsimp only
  rw [if_neg (by rw [hhere]; decide), if_pos hmeant]
  split
  · obtain ⟨spn', hsend⟩ := (act { m with spn }).sendPkt_spn 1 (.ctrl false (volBody v.origin.val v.target.val v.bcast op f2 f4))
    rw [hsend]
    exact hspn _ _ (hact spn)
  · exact hact spn

/-- A message that acts on the Volume's state. -/
theorem Mach.volMsg_eq {act : Mach → Mach} {n : Mach} (hport : v.port ≠ 0) (hup : m.portUp v.port.val = true)
    (hjoined : m.joined v.port.val = true) (horigin : v.origin.val ≠ m.volPos) (hmine : v.bcast = true ∨ v.target.val = m.volPos)
    (hact : ∀ spn, ∃ spn', act { m with spn } = { n with spn := spn' }) : ∃ spn, m.volMsg v op f2 f4 act = { n with spn } :=
  Mach.volMsg_of_mine (P := fun t => ∃ spn, t = { n with spn }) op f2 f4 hport hup hjoined horigin hmine
    (fun _ spn ⟨_, h⟩ => ⟨spn, by rw [h]⟩) hact

end

/-- At once, a Volume quire without an open folio closes with cause 8 (R741). -/
theorem Mach.volumeStop_of_running {m : Mach} (hrun : m.running = true) (hcur : m.qre.cur = none) : m.volumeStop = m.closeQuire 8 := by
  rw [Mach.volumeStop, if_pos hrun, hcur]
  rfl

end Sys2Proof.Machine

open Sys2Proof.Machine

/-- Settles O56: a message meant for this engine is its action with only the Spine's ports moved besides; what brings the Volume's state up to
date keeps each position's entry. -/
theorem volumeMessagesAreActedOn : Obligations.VolumeMessagesAreActedOn := by
  refine ⟨fun v s hawake hport hup hjoined horigin hmine => ⟨fun d hprin => ?_, fun bits d hprin => ?_, fun qid hmember => ?_, fun qid left a hreq => ?_,
    fun left a hreq => ?_, fun qid hreq => ?_, fun qid hreq => ?_, fun beat => ?_, fun beat hrun hvolume => ?_, fun beat hrun hvolume hcur => ?_,
    fun idx x hmember hst hvolume hcur => ?_⟩, fun v s hawake hport hup hjoined => ?_, fun v s hdown => ?_, fun p pos size s hawake hp hup hhello hon => ?_⟩
  · obtain ⟨hdigest, hpresent, hpar, hmem⟩ : (s.m.digestMsg v d).vol.posn[v.origin].digest = d ∧
        (s.m.digestMsg v d).vol.present.getLsbD v.origin.val = true ∧ (s.m.digestMsg v d).par = s.m.par ∧ (s.m.digestMsg v d).mem = s.m.mem := by
      refine Mach.volMsg_of_mine (P := fun t => t.vol.posn[v.origin].digest = d ∧ t.vol.present.getLsbD v.origin.val = true ∧ t.par = s.m.par ∧
        t.mem = s.m.mem) _ _ _ hport hup hjoined horigin hmine (fun _ _ h => h) fun spn => ?_
      rw [if_pos (show ({ s.m with spn } : Mach).isPrincipal = true from hprin)]
      refine ⟨?_, ?_, by simp [Mach.modVol], by simp [Mach.modVol]⟩
      · rw [(Mach.volState_armCheck_vol _).1]
        exact congrArg Posn.digest ((vmod_get ..).trans (if_pos rfl))
      · rw [(Mach.volState_armCheck_vol _).2]
        exact presentBit_getLsbD ..
    exact ⟨_, run_awake s (·.digestMsg v d) hawake, rfl, hdigest, hpresent, hpar, hmem⟩
  · obtain ⟨vol, spn, hmsg, hdigest, hready⟩ : ∃ vol spn, s.m.readyMsg v bits d = { s.m with vol, spn } ∧ vol.posn[v.origin].digest = d ∧
        vol.posn[v.origin].ready = bits := by
      refine Mach.volMsg_of_mine (P := fun t => ∃ vol spn, t = { s.m with vol, spn } ∧ vol.posn[v.origin].digest = d ∧ vol.posn[v.origin].ready = bits)
        _ _ _ hport hup hjoined horigin hmine (fun n spn ⟨vol, _, h, hposn⟩ => ⟨vol, spn, by rw [h], hposn⟩) fun spn => ?_
      have hdigest (f : Posn → Posn) (hf : ∀ y, (f y).digest = d ∧ (f y).ready = bits) :
          (vmod s.m.vol.posn v.origin.val f)[v.origin].digest = d ∧ (vmod s.m.vol.posn v.origin.val f)[v.origin].ready = bits := by
        rw [vmod_get, if_pos rfl]
        exact hf _
      dsimp only
      rw [if_neg (by rw [show ({ s.m with spn } : Mach).isPrincipal = true from hprin]; decide)]
      split
      · refine Mach.armCheck_of (Q := fun posn => posn[v.origin].digest = d ∧ posn[v.origin].ready = bits) ⟨_, _, rfl, ?_⟩
        split <;> exact hdigest _ fun _ => ⟨rfl, rfl⟩
      · split
        · exact ⟨_, _, rfl, hdigest _ fun _ => ⟨rfl, rfl⟩⟩
        · exact ⟨_, _, rfl, hdigest _ fun _ => ⟨rfl, rfl⟩⟩
    exact ⟨_, (run_awake s (·.readyMsg v bits d) hawake).trans (by rw [hmsg]), rfl, hdigest, hready⟩
  · obtain ⟨spn, hmsg⟩ : ∃ spn, s.m.armReq v qid = { s.m with vol := { s.m.vol with req := some qid, sentReady := some s.m.readiness }, spn } := by
      refine Mach.volMsg_eq (n := { s.m with vol := { s.m.vol with req := some qid, sentReady := some s.m.readiness } }) _ _ _ hport hup hjoined horigin hmine fun spn => ?_
      rw [if_pos (show ({ s.m with spn } : Mach).isMember = true from hmember)]
      exact Mach.toPrincipal_spn ({ s.m with vol := { s.m.vol with req := some qid, sentReady := some s.m.readiness }, spn } : Mach) _ _ _
    exact ⟨_, (run_awake s (·.armReq v qid) hawake).trans (by rw [hmsg]), rfl, rfl⟩
  · obtain ⟨spn, hmsg⟩ : ∃ spn, s.m.armGoMsg v left a =
        { s.m with vol := { s.m.vol with req := none, sentReady := none, goBeat := some (a, qid, left) }, spn } := by
      refine Mach.volMsg_eq (n := { s.m with vol := { s.m.vol with req := none, sentReady := none, goBeat := some (a, qid, left) } }) _ _ _
        hport hup hjoined horigin hmine fun spn => ⟨spn, ?_⟩
      simp only [hreq]
      rfl
    exact ⟨_, (run_awake s (·.armGoMsg v left a) hawake).trans (by rw [hmsg]), rfl⟩
  · obtain ⟨spn, hmsg⟩ : ∃ spn, s.m.armGoMsg v left a = { s.m with spn } :=
      Mach.volMsg_eq _ _ _ hport hup hjoined horigin hmine fun spn => ⟨spn, by simp only [hreq]⟩
    exact ⟨_, (run_awake s (·.armGoMsg v left a) hawake).trans (by rw [hmsg]), rfl⟩
  · obtain ⟨spn, hmsg⟩ : ∃ spn, s.m.armCancel v qid = { s.m with spn } :=
      Mach.volMsg_eq _ _ _ hport hup hjoined horigin hmine fun spn => ⟨spn, if_neg hreq⟩
    exact ⟨_, (run_awake s (·.armCancel v qid) hawake).trans (by rw [hmsg]), rfl⟩
  · obtain ⟨spn, hmsg⟩ : ∃ spn, s.m.armCancel v qid = { s.m with vol := { s.m.vol with req := none, sentReady := none }, spn } :=
      Mach.volMsg_eq (n := { s.m with vol := { s.m.vol with req := none, sentReady := none } }) _ _ _ hport hup hjoined horigin hmine
        fun spn => ⟨spn, if_pos hreq⟩
    exact ⟨_, (run_awake s (·.armCancel v qid) hawake).trans (by rw [hmsg]), rfl⟩
  · obtain ⟨spn, hmsg⟩ : ∃ spn, s.m.rcalMsg v beat = { s.m with vol := { s.m.vol with rcal := some (s.m.nearBeat beat).toNat, ring := [] }, spn } :=
      Mach.volMsg_eq (n := { s.m with vol := { s.m.vol with rcal := some (s.m.nearBeat beat).toNat, ring := [] } }) _ _ _ hport hup hjoined horigin hmine
        fun spn => ⟨spn, rfl⟩
    exact ⟨_, (run_awake s (·.rcalMsg v beat) hawake).trans (by rw [hmsg]), rfl⟩
  · obtain ⟨spn, hmsg⟩ : ∃ spn, s.m.vstop v false beat = { s.m with vol := { s.m.vol with stopBeat := some beat }, spn } :=
      Mach.volMsg_eq (n := { s.m with vol := { s.m.vol with stopBeat := some beat } }) _ _ _ hport hup hjoined horigin hmine
        fun spn => ⟨spn, by
          rw [show ({ s.m with spn } : Mach).running = true from hrun, show ({ s.m with spn } : Mach).qre.cfg.volume = true from hvolume]
          rfl⟩
    exact ⟨_, (run_awake s (·.vstop v false beat) hawake).trans (by rw [hmsg]), rfl⟩
  · obtain ⟨hend, hcause, hpar, hmem⟩ : (s.m.vstop v true beat).running = false ∧ (s.m.vstop v true beat).qre.closeCause = 8 ∧
        (s.m.vstop v true beat).par = s.m.par ∧ (s.m.vstop v true beat).mem = s.m.mem := by
      refine Mach.volMsg_of_mine (P := fun t => t.running = false ∧ t.qre.closeCause = 8 ∧ t.par = s.m.par ∧ t.mem = s.m.mem)
        _ _ _ hport hup hjoined horigin hmine (fun _ _ h => h) fun spn => ?_
      rw [show ({ s.m with spn } : Mach).running = true from hrun, show ({ s.m with spn } : Mach).qre.cfg.volume = true from hvolume, if_neg (by decide), if_pos rfl,
        Mach.volumeStop_of_running (m := { s.m with spn }) hrun hcur]
      exact ⟨Mach.closeQuire_running _ _, by rw [Mach.closeQuire_qre]; rfl, by simp, by simp⟩
    exact ⟨_, run_awake s (·.vstop v true beat) hawake, rfl, hend, hcause, hpar, hmem⟩
  · obtain ⟨hpar, hmem, hfolio⟩ : (s.m.vtrig v idx x).par = s.m.par ∧ (s.m.vtrig v idx x).mem = s.m.mem ∧
        (((s.m.vtrig v idx x).qre.cur.isSome = true ∧ (s.m.vtrig v idx x).vol.trigMiss = s.m.vol.trigMiss) ∨
          ((s.m.vtrig v idx x).qre.cur = none ∧ (s.m.vtrig v idx x).vol.trigMiss = s.m.vol.trigMiss + 1)) := by
      refine Mach.volMsg_of_mine (P := fun t => t.par = s.m.par ∧ t.mem = s.m.mem ∧ ((t.qre.cur.isSome = true ∧ t.vol.trigMiss = s.m.vol.trigMiss) ∨
        (t.qre.cur = none ∧ t.vol.trigMiss = s.m.vol.trigMiss + 1))) _ _ _ hport hup hjoined horigin hmine (fun _ _ h => h) fun spn => ?_
      have hgo : (!(({ s.m with spn } : Mach).isMember && ({ s.m with spn } : Mach).qre.st == .running && ({ s.m with spn } : Mach).qre.cfg.volume)) = false := by
        rw [show ({ s.m with spn } : Mach).isMember = true from hmember, show ({ s.m with spn } : Mach).qre.st = .running from hst,
          show ({ s.m with spn } : Mach).qre.cfg.volume = true from hvolume]
        rfl
      have hcur' : ({ s.m with spn } : Mach).qre.cur = none := hcur
      have hst' : (({ s.m with spn } : Mach).qre.st != .running) = false := by rw [show ({ s.m with spn } : Mach).qre.st = .running from hst]; rfl
      have hpar : ({ s.m with spn } : Mach).par = s.m.par := rfl
      have hmem : ({ s.m with spn } : Mach).mem = s.m.mem := rfl
      have hmiss : ({ s.m with spn } : Mach).vol.trigMiss = s.m.vol.trigMiss := rfl
      rw [← hpar, ← hmem, ← hmiss]
      generalize ({ s.m with spn } : Mach) = m at *
      dsimp only
      rw [if_neg (by rw [hgo]; decide), hcur']
      simp only [Option.isSome_none, Bool.false_eq_true, if_false, hst']
      generalize BitVec.ofInt 96 _ = stamp
      generalize m.qre.cfg.firstOf _ = first
      obtain ⟨qre, hopen, -, f, hf, -⟩ := ({ m with qre := { m.qre with folios := ((m.qre.folios : Int) + (idx - BitVec.ofNat 16 m.qre.folios).toInt).toNat } } : Mach).openFolio_qre first stamp 0 0 7
      rw [hopen, hf]
      split
      · dsimp only
        split
        · exact ⟨rfl, rfl, .inr ⟨rfl, rfl⟩⟩
        · exact ⟨by simp [Mach.modVol], by simp [Mach.modVol], .inr ⟨by simp [Mach.modVol], by simp [Mach.modVol]⟩⟩
      · exact ⟨rfl, rfl, .inl ⟨congrArg Option.isSome hf, rfl⟩⟩
    exact ⟨_, run_awake s (·.vtrig v idx x) hawake, rfl, hpar, hmem, hfolio⟩
  · have hmsg : s.m.unknownMsg v = (s.m.acceptPkt v.port.val 1 8).modVol fun x => { x with badMsg := x.badMsg + 1 } := by
      unfold Mach.unknownMsg
      rw [if_neg (by simp [hup, hport])]
      exact if_pos hjoined
    exact ⟨_, (run_awake s (·.unknownMsg v) hawake).trans (by rw [hmsg]), rfl⟩
  · have hdrop (op f2 f4 : Nat) (act : Mach → Mach) := Mach.volMsg_of_down (v := v) op f2 f4 act hdown
    refine ⟨State.run_of_eq (f := (·.unknownMsg v)) (by rw [Mach.unknownMsg, hdown]; rfl), fun d => State.run_of_eq (f := (·.digestMsg v d)) (hdrop ..),
      fun q => ⟨State.run_of_eq (f := (·.armReq v q)) (hdrop ..), State.run_of_eq (f := (·.armCancel v q)) (hdrop ..), State.run_of_eq (f := (·.rcalMsg v q)) (hdrop ..)⟩,
      fun b q => ⟨State.run_of_eq (f := (·.readyMsg v b q)) (hdrop ..), State.run_of_eq (f := (·.vtrig v b q)) (hdrop ..)⟩,
      fun l q => State.run_of_eq (f := (·.armGoMsg v l q)) (hdrop ..), fun atOnce q => State.run_of_eq (f := (·.vstop v atOnce q)) (hdrop ..)⟩
  · exact ⟨_, run_awake s (·.joinMsg p.val pos.val size.toNat) hawake, rfl, Mach.joinMsg_joined hp hup hhello hon, Mach.joinMsg_par ..⟩
end

section
/-! SUPPORT. A Volume's exchanges, alignment, arms and stops, and the statement about them (R712, R716 to R725, R734, R735, R740). -/

namespace Sys2Proof.Machine

/-- A command of an engine out of reset, by what its work leaves. -/
theorem State.run_to {s : State} {f : Mach → Mach} {n : Mach} (hawake : s.awake) (h : f s.m = n) : s.run f = .next (s.withEngine n) :=
  (run_awake s f hawake).trans (by rw [h])

/-! ### Exchanges on the hops -/

theorem Mach.volAdrift_eq (m : Mach) : ∃ adrift aligned adrifts ctl flt hall spn,
    m.volAdrift = { m with vol := { m.vol with adrift, aligned, adrifts }, ctl, flt, hall, spn } := by
  obtain ⟨adrift, aligned, adrifts, hvol⟩ := m.volAdrift_vol
  have hkeeps := m.volAdrift_keeps
  generalize m.volAdrift = n at hvol hkeeps
  refine ⟨adrift, aligned, adrifts, n.ctl, n.flt, n.hall, n.spn, ?_⟩
  cases n
  simp_all

theorem Mach.hopDone_of_noEcho {m : Mach} (h : m.vol.echo = none) : m.hopDone = m := by
  unfold Mach.hopDone
  rw [h]
  cases m.vol.sentAt <;> rfl

theorem Mach.hopDone_of_noTurn {m : Mach} (h : m.vol.turn = none) : m.hopDone = m := by
  unfold Mach.hopDone
  rw [h]
  cases m.vol.sentAt <;> cases m.vol.echo <;> rfl

/-- The exchange's end on the east hop (R717). -/
theorem Mach.hopDone_of_match {m : Mach} {n t0 n1 n2 turn : Nat} {t1 t4 : Int} (hsent : m.vol.sentAt = some (n, t0)) (hecho : m.vol.echo = some (n1, t1, t4))
    (hturn : m.vol.turn = some (n2, turn)) (hn1 : n % 65536 = n1 % 65536) (hn2 : n % 65536 = n2) : ∃ spn, m.hopDone =
      { m with vol := { m.vol with hopDly := BitVec.ofInt 32 (((t4 - t1) - turn).fdiv 2), echo := none, turn := none }, spn } := by
  unfold Mach.hopDone
  rw [hsent, hecho, hturn]
  dsimp only
  rw [if_pos ⟨hn1, hn2⟩]
  exact Mach.sendPkt_spn _ 1 _

/-- A SYNC on the west port timestamped (R717). -/
theorem Mach.syncFlit_west {m : Mach} {count time : Nat} {sent seen : Int} (hup : m.portUp 2 = true) (hjoined : m.joined 2 = true) :
    ∃ spn, m.syncFlit 2 false count time sent seen = { m with vol := { m.vol with got := some (count, time, seen) }, spn } := by
  unfold Mach.syncFlit
  rw [if_neg (by rw [hup, hjoined]; decide), if_pos (by decide)]
  exact Mach.sendPkt_spn _ 2 _

theorem Mach.syncFlit_east {m : Mach} {count time : Nat} {sent seen : Int} (hup : m.portUp 1 = true) (hjoined : m.joined 1 = true)
    (hturn : m.vol.turn = none) : m.syncFlit 1 true count time sent seen = { m with vol := { m.vol with echo := some (count, sent, seen) } } := by
  unfold Mach.syncFlit
  rw [if_neg (by rw [hup, hjoined]; decide), if_neg (by decide), if_pos (by decide)]
  exact Mach.hopDone_of_noTurn (m := { m with vol := { m.vol with echo := some (count, sent, seen) } }) hturn

theorem Mach.syncFlit_of_down {m : Mach} {i count time : Nat} {echo : Bool} {sent seen : Int} (h : m.portUp i = false ∨ m.joined i = false) :
    m.syncFlit i echo count time sent seen = m := by
  unfold Mach.syncFlit
  rw [if_pos (by rcases h with h | h <;> simp [h])]

theorem Mach.syncFlit_of_other (m : Mach) {p : Fin 3} {count time : Nat} {echo : Bool} {sent seen : Int} (hwest : ¬ (p = 2 ∧ echo = false))
    (heast : ¬ (p = 1 ∧ echo = true)) : m.syncFlit p.val echo count time sent seen = m := by
  have hwest' : ¬ (p.val = 2 ∧ (!echo) = true) := fun h => hwest ⟨Fin.ext h.1, by simpa using h.2⟩
  have heast' : ¬ (p.val = 1 ∧ echo = true) := fun h => heast ⟨Fin.ext h.1, h.2⟩
  unfold Mach.syncFlit
  split
  · rfl
  · rw [if_neg (by simpa using hwest'), if_neg (by simpa using heast')]

/-- VTURN on the joined east port. -/
theorem Mach.vturn_east {m : Mach} {count turn : Nat} (hup : m.portUp 1 = true) (hjoined : m.joined 1 = true) : ∃ spn,
    m.vturn 1 count turn = ({ m with vol := { m.vol with turn := some (count, turn) }, spn } : Mach).hopDone := by
  obtain ⟨spn, haccept⟩ : ∃ spn, m.acceptPkt 1 1 8 = { m with spn } := ⟨_, rfl⟩
  refine ⟨spn, ?_⟩
  unfold Mach.vturn
  rw [if_neg (by rw [hup]; decide), haccept]
  dsimp only
  rw [if_pos (by rw [show ({ m with spn } : Mach).joined 1 = true from hjoined]; decide)]
  rfl

theorem Mach.vturn_of_down {m : Mach} {i count turn : Nat} (h : m.portUp i = false ∨ i = 0) : m.vturn i count turn = m := by
  unfold Mach.vturn
  rw [if_pos (by rcases h with h | h <;> simp [h])]

theorem Mach.vhop_of_down {m : Mach} {i xd : Nat} {theta : Int} (h : m.portUp i = false ∨ i = 0) : m.vhop i theta xd = m := by
  unfold Mach.vhop
  rw [if_pos (by rcases h with h | h <;> simp [h])]

/-- VHOP on the joined west port of a member gives one estimate (R718). -/
theorem Mach.vhop_west {m : Mach} {theta : Int} {xd n : Nat} {x t2 : Int} (hup : m.portUp 2 = true) (hjoined : m.joined 2 = true)
    (hgot : m.vol.got = some (n, x, t2)) (hpos : m.volPos ≠ 0) : ∃ ring spn, m.vhop 2 theta xd =
      ({ m with
        vol := { m.vol with
          ests := ((t2 - (x + xd) + theta * 64) :: m.vol.ests).take 256, offset := meanOf (((t2 - (x + xd) + theta * 64) :: m.vol.ests).take 256), ring
          exch := min 256 (m.vol.exch + 1), lastExch := m.tim.beats, got := none, hopUp := some (n, x - theta * 64) }
        spn } : Mach).volAdrift := by
  obtain ⟨spn, haccept⟩ : ∃ spn, m.acceptPkt 2 1 8 = { m with spn } := ⟨_, rfl⟩
  unfold Mach.vhop
  rw [if_neg (by rw [hup]; decide), haccept]
  dsimp only
  rw [hgot]
  dsimp only
  rw [if_pos (by rw [show ({ m with spn } : Mach).joined 2 = true from hjoined]; decide)]
  simp only [show ({ m with spn } : Mach).volPos = m.volPos from rfl, if_neg hpos]
  exact ⟨_, spn, rfl⟩

/-! ### Alignment -/

/-- Step 1 of R720. -/
theorem Mach.alignStart_of_hop {m : Mach} (theta : Int) (ring : Bool) (hhop : m.vol.hopUp.isSome = true) : ∃ a, m.alignStart theta ring =
    { m with vol := { m.vol with align := some a } } ∧ a.k = m.tim.beats ∧ a.theta = theta ∧ a.set = false ∧ a.ring = ring ∧ a.c < 1024 := by
  obtain ⟨⟨n, base⟩, hup⟩ := Option.isSome_iff_exists.mp hhop
  unfold Mach.alignStart
  rw [hup]
  exact ⟨_, rfl, rfl, rfl, rfl, rfl, Nat.mod_lt _ (by decide)⟩

/-- What a mark after an alignment leaves of it (R720). -/
def Vol.marked (v : Vol) (bad : Bool) : Vol :=
  { v with
    align := none, markBad := bad, aligned := !bad, everAligned := v.everAligned || !bad
    aligns := if bad then v.aligns else v.aligns + 1 }

/-- Whether a mark is off by more than 1,000 ps (R720, R722). -/
def Mach.markOff (m : Mach) (diff : Int) : Bool := decide (1000 < (diff - (fld (m.pval 0x2904) 0 16 : Nat)).natAbs)

/-- The mark that follows an alignment's time set (R720). -/
theorem Mach.vsyncMark_of_set {m : Mach} {a : Align} (diff : Int) (hmember : m.isMember = true) (halign : m.vol.align = some a) (hset : a.set = true)
    (hring : a.ring = false) : ∃ ctl flt spn, m.vsyncMark diff =
      ({ m with vol := m.vol.marked (m.markOff diff), ctl, flt, spn } : Mach).volAdrift := by
  unfold Mach.vsyncMark
  rw [if_neg (by rw [hmember]; decide), halign]
  dsimp only
  rw [hset, hring, if_neg (by decide), if_neg Bool.false_ne_true]
  change ∃ ctl flt spn, (if m.markOff diff = true then
    ({ m with vol := m.vol.marked (m.markOff diff) } : Mach).logEvent .management 0x0D05 (satInt (diff - (fld (m.pval 0x2904) 0 16 : Nat)) 32) 0 none (some 8)
    else ({ m with vol := m.vol.marked (m.markOff diff) } : Mach).logEvent .management 0x0D04 (satInt a.theta 32) a.c none none).volAdrift = _
  split
  · obtain ⟨ctl, flt, spn, hevent⟩ := ({ m with vol := m.vol.marked (m.markOff diff) } : Mach).logEvent_eq .management 0x0D05
      (satInt (diff - (fld (m.pval 0x2904) 0 16 : Nat)) 32) 0 none (some 8)
    exact ⟨ctl, flt, spn, congrArg Mach.volAdrift hevent⟩
  · obtain ⟨ctl, flt, spn, hevent⟩ := ({ m with vol := m.vol.marked (m.markOff diff) } : Mach).logEvent_eq .management 0x0D04 (satInt a.theta 32) a.c none none
    exact ⟨ctl, flt, spn, congrArg Mach.volAdrift hevent⟩

theorem Mach.vsyncMark_of_aligned {m : Mach} (diff : Int) (hmember : m.isMember = true) (halign : m.vol.align = none) (hever : m.vol.everAligned = true) :
    m.vsyncMark diff = ({ m with vol := { m.vol with markBad := decide (1000 < (diff - (fld (m.pval 0x2904) 0 16 : Nat)).natAbs) } } : Mach).volAdrift := by
  unfold Mach.vsyncMark
  rw [if_neg (by rw [hmember]; decide), halign]
  exact if_pos hever

theorem Mach.vsyncMark_of_none {m : Mach} (diff : Int) (h : m.isMember = false ∨ ∃ a, m.vol.align = some a ∧ a.set = false) : m.vsyncMark diff = m := by
  unfold Mach.vsyncMark
  split
  · rfl
  next hmember =>
    obtain ⟨a, halign, hset⟩ := h.resolve_left (by simpa using hmember)
    rw [halign]
    dsimp only
    rw [if_pos (by rw [hset]; decide)]

/-! ### Ring calibration and the arm wait -/

theorem Mach.ringCal_of_formed {m : Mach} (hprin : m.isPrincipal = true) (hst : m.vol.st = .formed) (hidle : m.running = false) : ∃ spn,
    m.ringCal 1 = { m with vol := { m.vol with rcal := some (m.volBeat + 64).toNat, ring := [] }, spn } := by
  unfold Mach.ringCal
  rw [if_pos (by rw [hprin, hst, hidle]; decide)]
  obtain ⟨spn, hbcast⟩ := m.bcast_spn 0x4A 0 (ofInt (m.volBeat + 64) 32)
  exact ⟨spn, congrArg (Mach.modVol · _) hbcast⟩

theorem Mach.ringCalAlign_of_principal {m : Mach} {b : Nat} (hrcal : m.vol.rcal = some b) (hdue : (b : Int) + 4096 ≤ m.volBeat)
    (hprin : m.isPrincipal = true) (hring : m.vol.ring ≠ []) : ∃ ctl flt spn, m.ringCalAlign =
      { m with vol := { m.vol with rcal := none, closure := BitVec.ofInt 32 (meanOf m.vol.ring) }, ctl, flt, spn } := by
  unfold Mach.ringCalAlign
  rw [hrcal]
  dsimp only
  rw [if_neg (by omega), if_neg (by simpa using hring), if_pos hprin]
  split
  · exact Mach.logEvent_eq ({ m with vol := { m.vol with rcal := none, closure := BitVec.ofInt 32 (meanOf m.vol.ring) } } : Mach) ..
  · exact ⟨_, _, _, rfl⟩

theorem Mach.not_principal_of_member {m : Mach} (h : m.isMember = true) : m.isPrincipal = false := by
  rw [Mach.isMember, Bool.and_eq_true, bne_iff_ne] at h
  rw [Mach.isPrincipal, beq_eq_false_iff_ne.mpr h.2, Bool.and_false]

theorem Mach.ringCalAlign_of_member {m : Mach} {b : Nat} (hrcal : m.vol.rcal = some b) (hdue : (b : Int) + 4096 ≤ m.volBeat)
    (hmember : m.isMember = true) (hring : m.vol.ring ≠ []) (halign : m.vol.align = none) (hidle : m.running = false) :
    m.ringCalAlign = ({ m with vol := { m.vol with rcal := none } } : Mach).alignStart (meanOf m.vol.ring) true := by
  unfold Mach.ringCalAlign
  rw [hrcal]
  dsimp only
  rw [if_neg (by omega), if_neg (by simpa using hring), if_neg (by rw [Mach.not_principal_of_member hmember]; decide)]
  exact if_pos (by rw [hmember, halign, hidle]; rfl)

theorem Mach.ringCalAlign_of_early {m : Mach} (h : m.vol.rcal = none ∨ ∃ b, m.vol.rcal = some b ∧ m.volBeat < (b : Int) + 4096) : m.ringCalAlign = m := by
  unfold Mach.ringCalAlign
  rcases h with h | ⟨b, h, hearly⟩
  · rw [h]
  · rw [h]
    exact if_pos hearly

section
variable {m : Mach} {r : VolArm}

theorem Mach.armGo_of_arm (left : BitVec 8) (a : Int) (harm : m.vol.arm = some r) : ∃ spn, m.armGo left a =
    { m with vol := { m.vol with arm := none, armSt := 2, absent := left, goBeat := some (BitVec.ofInt 32 a, r.qid, left) }, spn } := by
  unfold Mach.armGo
  rw [harm]
  obtain ⟨spn, hbcast⟩ := m.bcast_spn 0x46 left.toNat (ofInt a 32)
  exact ⟨spn, congrArg (Mach.modVol · _) hbcast⟩

theorem Mach.armExpiry_of_absent (harm : m.vol.arm = some r) (hprin : m.isPrincipal = true)
    (hdue : (r.k : Int) + m.vol.beatOfs + fld (m.pval 0x2903) 0 16 ≤ m.volBeat) (hmode : bitOf (m.pval 0x2900) 1 = true) : ∃ left absent ctl flt spn,
      m.armExpiry = { m with vol := { m.vol with arm := none, armSt := 2, absent, goBeat := some (BitVec.ofInt 32 (m.volBeat + 32), r.qid, left) }, ctl, flt, spn } := by
  unfold Mach.armExpiry
  rw [harm]
  dsimp only
  rw [if_neg (by rw [hprin, decide_eq_false (by omega)]; decide), if_pos hmode]
  generalize BitVec.ofNat 8 _ = left
  obtain ⟨spn, hgo⟩ := Mach.armGo_of_arm left (m.volBeat + 32) harm
  rw [hgo]
  obtain ⟨ctl, flt, spn, hevent⟩ := ({ m with vol := { m.vol with
    arm := none, armSt := 2, absent := left, goBeat := some (BitVec.ofInt 32 (m.volBeat + 32), r.qid, left) }, spn } : Mach).logEvent_eq .management 0x0D0A left.toNat 0 none none
  exact ⟨left, left, ctl, flt, spn, hevent⟩

theorem Mach.refuseArm_eq (m : Mach) (qid : Word) (cause : Nat) : ∃ ctl flt spn, m.refuseArm qid cause =
    { m with qre := { m.qre with armCause := BitVec.ofNat 4 cause, armPending := false }, ctl, flt, spn } :=
  Mach.logEvent_eq ({ m with qre := { m.qre with armCause := BitVec.ofNat 4 cause, armPending := false } } : Mach) ..

theorem Mach.armExpiry_of_cancel (harm : m.vol.arm = some r) (hprin : m.isPrincipal = true)
    (hdue : (r.k : Int) + m.vol.beatOfs + fld (m.pval 0x2903) 0 16 ≤ m.volBeat) (hmode : bitOf (m.pval 0x2900) 1 = false) : ∃ qre ctl flt spn,
      m.armExpiry = { m with vol := { m.vol with arm := none, armSt := 3 }, qre, ctl, flt, spn } ∧ qre.armCause = 6 := by
  unfold Mach.armExpiry
  rw [harm]
  dsimp only
  rw [if_neg (by rw [hprin, decide_eq_false (by omega)]; decide), if_neg (by rw [hmode]; decide)]
  obtain ⟨spn, hbcast⟩ := m.bcast_spn 0x47 0 r.qid.toNat
  rw [hbcast]
  obtain ⟨ctl, flt, spn', hrefuse⟩ := ({ m with
    vol := { m.vol with arm := none, armSt := 3 }, spn, qre := { m.qre with volPending := false } } : Mach).refuseArm_eq r.qid 6
  obtain ⟨ctl, flt, spn, hevent⟩ := ({ m with
    vol := { m.vol with arm := none, armSt := 3 }, ctl, flt, spn := spn'
    qre := { m.qre with volPending := false, armCause := BitVec.ofNat 4 6, armPending := false } } : Mach).logEvent_eq .management 0x0D09
      (BitVec.ofNat 8 ((((m.members.filter fun p => !m.readyMembers.contains p)).map (2 ^ ·)).sum)).toNat 0 none (some 8)
  exact ⟨_, ctl, flt, spn, (congrArg (Mach.logEvent · .management 0x0D09 _ 0 none (some 8)) hrefuse).trans hevent, rfl⟩

end

/-! ### Volume arms and stops -/

/-- A Volume quire armed (R735). -/
theorem Mach.armQuire_volume_of_ok {m : Mach} (qid : Word) (h : m.armFault { m.quireCfg with volume := true } = 0) :
    ∃ qre cal hall trg dec store vol tels, m.armQuire (some qid) = { m.pset 0xC02 (qid + 1) with qre, cal, hall, trg, dec, store, vol, tels } ∧
      qre.st = .running ∧ qre.qid = qid ∧ qre.cfg.volume = true ∧ vol.goBeat = m.vol.goBeat := by
  obtain ⟨cal, hfail⟩ := ({ m with cal := m.armCert { m.quireCfg with volume := true } } : Mach).chainFail_cal_eq 10
  simp only [Mach.armQuire, Option.isSome_some, h, bne_self_eq_false, Bool.false_eq_true, if_false, hfail, Mach.watermark]
  exact ⟨_, _, _, _, _, _, _, _, rfl, rfl, rfl, rfl, rfl⟩

section
variable {m : Mach} {a qid : Word} {left : BitVec 8}

theorem Mach.volumeArm_of_ok (hgo : m.vol.goBeat = some (a, qid, left)) (hbeat : BitVec.ofInt 32 m.volBeat = a) (hleft : left.getLsbD m.volPos = false)
    (hidle : m.running = false) (hshed : m.armShed m.quireCfg = false) (hfault : m.armFault { m.quireCfg with volume := true } = 0) :
    ∃ par qre cal hall trg dec store vol tels, m.volumeArm = { m with par, qre, cal, hall, trg, dec, store, vol, tels } ∧
      qre.st = .running ∧ qre.qid = qid ∧ qre.cfg.volume = true ∧ vol.goBeat = none := by
  obtain ⟨qre, cal, hall, trg, dec, store, vol, tels, harm, hst, hqid, hvolume, hvol⟩ :=
    Mach.armQuire_volume_of_ok (m := { m with vol := { m.vol with goBeat := none } }) qid hfault
  unfold Mach.volumeArm
  rw [hgo]
  dsimp only
  rw [if_neg (by simp [hbeat]), if_neg (by rw [hleft]; decide)]
  have hmay : (({ m with vol := { m.vol with goBeat := none } } : Mach).running ||
      ({ m with vol := { m.vol with goBeat := none } } : Mach).armShed ({ m with vol := { m.vol with goBeat := none } } : Mach).quireCfg) = false :=
    Bool.or_eq_false_iff.mpr ⟨hidle, hshed⟩
  simp only [Mach.modVol, hmay, Bool.false_eq_true, if_false, harm, hst, hvolume]
  rw [if_neg (by simp)]
  exact ⟨_, _, _, _, _, _, _, _, _, rfl, hst, hqid, hvolume, hvol⟩

theorem Mach.volumeArm_of_refused (hgo : m.vol.goBeat = some (a, qid, left)) (hbeat : BitVec.ofInt 32 m.volBeat = a) (hleft : left.getLsbD m.volPos = false)
    (h : m.running = true ∨ m.armShed m.quireCfg = true) : ∃ qre vol ctl flt spn, m.volumeArm = { m with qre, vol, ctl, flt, spn } ∧
      qre.st = m.qre.st ∧ qre.qid = m.qre.qid ∧ vol.goBeat = none := by
  unfold Mach.volumeArm
  rw [hgo]
  dsimp only
  rw [if_neg (by simp [hbeat]), if_neg (by rw [hleft]; decide)]
  have hmay : (({ m with vol := { m.vol with goBeat := none } } : Mach).running ||
      ({ m with vol := { m.vol with goBeat := none } } : Mach).armShed ({ m with vol := { m.vol with goBeat := none } } : Mach).quireCfg) = true :=
    Bool.or_eq_true_iff.mpr h
  obtain ⟨ctl, flt, spn, hrefuse⟩ := ({ m with vol := { m.vol with goBeat := none } } : Mach).refuseArm_eq (m.pval 0xC02) 0
  rw [show (m.modVol fun v => { v with goBeat := none }) = { m with vol := { m.vol with goBeat := none } } from rfl, if_pos hmay,
    show ({ m with vol := { m.vol with goBeat := none } } : Mach).pval 0xC02 = m.pval 0xC02 from rfl, hrefuse]
  split
  · obtain ⟨spn', hsend⟩ := Mach.toPrincipal_spn _ _ _ _
    exact ⟨_, _, _, _, spn', hsend, rfl, rfl, rfl⟩
  · exact ⟨_, _, _, _, _, rfl, rfl, rfl, rfl⟩

end

theorem Mach.volumeStopBeat_of_due {m : Mach} {b : Word} (hstop : m.vol.stopBeat = some b) (hbeat : BitVec.ofInt 32 m.volBeat = b)
    (hrun : m.running = true) (hvolume : m.qre.cfg.volume = true) (hcur : m.qre.cur = none) :
    m.volumeStopBeat = ({ m with vol := { m.vol with stopBeat := none } } : Mach).closeQuire 8 := by
  rw [← Mach.volumeStop_of_running (m := { m with vol := { m.vol with stopBeat := none } }) hrun hcur]
  unfold Mach.volumeStopBeat
  rw [hstop]
  dsimp only
  rw [if_neg (by simp [hbeat])]
  exact if_pos (Bool.and_eq_true_iff.mpr ⟨hrun, hvolume⟩)

/-! ### New settings of a Volume -/

theorem Mach.volLeave_idle {m : Mach} (i : Nat) (hidle : m.running = false) : (m.volLeave i).qre = m.qre ∧ (m.volLeave i).dec = m.dec := by
  unfold Mach.volLeave
  split
  · simp
  · extract_lets m1 m2
    have hsame : m2 = m1 := if_neg (by rw [show m1.running = false from hidle]; simp)
    rw [hsame]
    simp [m1, Mach.modVol]

theorem Mach.linkDown_idle {m : Mach} {i : Nat} (hi : i ≠ 0) (cause : Nat) (hidle : m.running = false) :
    (m.linkDown i cause).qre = m.qre ∧ (m.linkDown i cause).dec = m.dec := by
  unfold Mach.linkDown
  split
  · exact ⟨rfl, rfl⟩
  · extract_lets m1 m2 m3 m4
    have hm4 : m4.qre = m.qre ∧ m4.dec = m.dec := by
      have hm3 : m3 = m2 := rfl
      simp [m4, hm3, m2, m1]
    have hrun : m4.running = false := by rw [Mach.running, hm4.1]; exact hidle
    rw [(m4.volLeave_idle i hrun).1, (m4.volLeave_idle i hrun).2]
    exact hm4

theorem Mach.volConfig_idle {m : Mach} (r : Nat) (v : Word) (hidle : m.running = false) :
    (m.volConfig r v).par = (m.pset (0x2900 + r) v).par ∧ (m.volConfig r v).dec = m.dec := by
  unfold Mach.volConfig
  extract_lets a old changed m1 m2 m3 start
  split
  · exact ⟨rfl, rfl⟩
  · have hstart (n : Mach) (i : Nat) : ∃ spn, start n i = { n with spn } := by
      unfold start
      split <;> exact ⟨_, rfl⟩
    have hm2 : m2.dec = m.dec ∧ m2.par = m1.par := by
      have hone := Mach.linkDown_idle (m := m1) (i := 1) (by decide) 6 hidle
      have hrun : (m1.linkDown 1 6).running = false := by rw [Mach.running, hone.1]; exact hidle
      have htwo := Mach.linkDown_idle (m := m1.linkDown 1 6) (i := 2) (by decide) 6 hrun
      exact ⟨htwo.2.trans hone.2, by simp [m2]⟩
    obtain ⟨spn, hs1⟩ := hstart m3 1
    obtain ⟨spn', hs2⟩ := hstart (start m3 1) 2
    rw [hs2, hs1]
    simp only [Mach.volState_keeps]
    exact ⟨hm2.2, hm2.1⟩

/-- New settings end every alignment (R712). -/
theorem Mach.volConfig_vol {m : Mach} (r : Nat) (v : Word)
    (hchanged : (if r = 0 then bitOf (m.pval (0x2900 + r)) 0 != bitOf v 0 else m.pval (0x2900 + r) != v) = true) :
    (m.volConfig r v).vol.everAligned = false ∧ (m.volConfig r v).vol.align = none ∧ (m.volConfig r v).vol.east = false ∧
      (m.volConfig r v).vol.west = false := by
  unfold Mach.volConfig
  extract_lets a old changed m1 m2 m3 start
  have hstart (n : Mach) (i : Nat) : ∃ spn, start n i = { n with spn } := by
    unfold start
    split <;> exact ⟨_, rfl⟩
  rw [if_neg (by rw [show changed = true from hchanged]; decide)]
  obtain ⟨spn, hs1⟩ := hstart m3 1
  obtain ⟨spn', hs2⟩ := hstart (start m3 1) 2
  obtain ⟨_, _, _, _, hstate⟩ := (start (start m3 1) 2).volState_vol
  rw [hstate, hs2, hs1]
  exact ⟨rfl, rfl, rfl, rfl⟩

theorem Mach.pin_eq (m : Mach) (a : Nat) : ∃ pins, m.pin a = { m with par := { m.par with pins } } := by
  unfold Mach.pin
  split
  · exact ⟨_, rfl⟩
  · exact ⟨m.par.pins, rfl⟩

theorem volSettings_plain (r : Fin 3) : quireBound (0x2900 + r.val) = false ∧ ¬ (0x2000 ≤ 0x2900 + r.val ∧ 0x2900 + r.val < 0x2600) := by
  refine ⟨?_, by omega⟩
  revert r
  decide

/-- A register landing alone that no quire binds: besides what it does, only its pin moves and requests are served. -/
theorem Mach.landReg_one {m : Mach} {a : Nat} {v : Word} (hok : valueOk a v = true) (hbound : quireBound a = false)
    (hrange : ¬ (0x2600 ≤ a ∧ a < 0x2700)) (hwaiting : ∀ hall, (({ m with hall } : Mach).landOne none a v).dec.waiting = false) : ∃ hall pins,
      m.landReg a v = ({ ({ m with hall } : Mach).landOne none a v with par := { (({ m with hall } : Mach).landOne none a v).par with pins } } : Mach).serve := by
  obtain ⟨hall, hnote⟩ := m.noteNow_hall_eq
  obtain ⟨pins, hpin⟩ := (({ m with hall } : Mach).landOne none a v).pin_eq a
  have hdsp : (decide (0x2600 ≤ a) && decide (a < 0x2700)) = false := by simp; omega
  refine ⟨hall, pins, ?_⟩
  rw [Mach.landReg, if_pos hok, hnote]
  simp only [Mach.landValues, List.filter_cons, List.filter_nil, hbound, hdsp, Bool.false_eq_true, if_false, List.map_cons, List.map_nil, List.any_nil,
    List.isEmpty_nil, List.foldl_cons, List.foldl_nil, hpin, if_true]
  exact congrArg Mach.serve (Mach.takeUse_nil (hwaiting hall))

/-- A Volume setting landing: besides it and what its change ends, only the pins move. -/
theorem Mach.landReg_volConfig {m : Mach} (r : Fin 3) {v : Word} (hok : valueOk (0x2900 + r.val) v = true) (hidle : m.running = false)
    (hwaiting : m.dec.waiting = false) : ∃ hall pins, m.landReg (0x2900 + r.val) v =
      ({ ({ m with hall } : Mach).volConfig r.val v with par := { (({ m with hall } : Mach).volConfig r.val v).par with pins } } : Mach).serve := by
  have hone (hall : Hall) : ({ m with hall } : Mach).landOne none (0x2900 + r.val) v = ({ m with hall } : Mach).volConfig r.val v := by
    unfold Mach.landOne
    rw [if_neg (volSettings_plain r).2, if_pos (by omega), Nat.add_sub_cancel_left]
  obtain ⟨hall, pins, hland⟩ := Mach.landReg_one hok (volSettings_plain r).1 (by omega) fun hall => by
    rw [hone hall]
    exact (congrArg (·.waiting) (Mach.volConfig_idle (m := { m with hall }) r.val v hidle).2).trans hwaiting
  exact ⟨hall, pins, hland.trans (by rw [hone hall])⟩

/-- The Volume settings written (R712). -/
theorem Mach.volSettings_landed {m : Mach} (r : Fin 3) {v : Word} (hok : valueOk (0x2900 + r.val) v = true) (hidle : m.running = false)
    (hwaiting : m.dec.waiting = false) : (m.landReg (0x2900 + r.val) v).par.landed = (m.pset (0x2900 + r.val) v).par.landed ∧
      ((if r = 0 then bitOf (m.pval 0x2900) 0 ≠ bitOf v 0 else m.pval (0x2900 + r.val) ≠ v) →
        (m.landReg (0x2900 + r.val) v).vol.everAligned = false ∧ (m.landReg (0x2900 + r.val) v).vol.align = none ∧
        (m.landReg (0x2900 + r.val) v).vol.east = false ∧ (m.landReg (0x2900 + r.val) v).vol.west = false) := by
  obtain ⟨hall, pins, hland⟩ := Mach.landReg_volConfig r hok hidle hwaiting
  rw [hland]
  simp only [Mach.serve_keeps]
  refine ⟨by rw [(Mach.volConfig_idle (m := { m with hall }) r.val v hidle).1]; rfl, fun hchanged => Mach.volConfig_vol (m := { m with hall }) r.val v ?_⟩
  change (if r.val = 0 then bitOf (m.pval (0x2900 + r.val)) 0 != bitOf v 0 else m.pval (0x2900 + r.val) != v) = true
  by_cases hr : r = 0
  · subst hr
    exact bne_iff_ne.mpr hchanged
  · rw [if_neg hr] at hchanged
    rw [if_neg (fun h : r.val = 0 => hr (Fin.ext h))]
    exact bne_iff_ne.mpr hchanged

end Sys2Proof.Machine

open Sys2Proof.Machine

/-- Settles O57: each message and each beat of a Volume changes its own entries of the Volume's state; what follows it, ADRIFT and the
ports, keeps them. -/
theorem volumesExchangeAndAlign : Obligations.VolumesExchangeAndAlign := by
  refine ⟨⟨fun count time sent seen s hawake hup hjoined => ?_, fun p echo count time sent seen s hdown => ?_,
    fun count time sent seen s hawake hup hjoined hturn => ?_, fun p echo count time sent seen s hwest heast => ?_,
    fun count turn s hawake hup hjoined hecho => ?_, fun count turn n t0 n1 t1 t4 s hawake hup hjoined hsent hecho hn1 hn2 => ?_,
    fun p count turn s hdown => ?_, fun theta xd n x t2 s hawake hup hjoined hgot hpos => ?_, fun p theta xd s hdown => ?_,
    fun diff a s hawake hmember halign hset hring => ?_, fun diff s hawake hmember halign hever => ?_, fun diff s hnone => ?_⟩,
    fun near s hawake hmember hst hever halign hexch hnear hidle hhold hclk hhop => ?_, fun near s hnone => ?_, fun s hawake hprin hst hidle => ?_,
    fun s hnone => ?_, fun b s hawake hrcal hdue hprin hring => ?_, fun b s hawake hrcal hdue hmember hring halign hidle hhop => ?_, fun s hearly => ?_,
    fun r s hawake harm hprin hdue => ?_, fun s hnone => ?_,
    fun a qid left s hawake hgo => ⟨fun hbeat => ?_, fun hbeat hleft => ?_, fun hbeat hleft hidle hshed hfault => ?_, fun hbeat hleft hnot => ?_⟩,
    fun s hnone => ?_, fun b s hawake hstop => ⟨fun hbeat => ?_, fun hbeat hrun hvolume hcur => ?_⟩, fun s hnone => ?_,
    fun r v s hawake hidle hok hwaiting hwf => ?_, fun r v s hrefused => ?_⟩
  · obtain ⟨spn, hsync⟩ := Mach.syncFlit_west (count := count.toNat) (time := time.toNat) (sent := sent) (seen := seen) hup hjoined
    exact ⟨_, State.run_to (f := (·.syncFlit 2 false count.toNat time.toNat sent seen)) hawake hsync, rfl⟩
  · exact State.run_of_eq (f := (·.syncFlit p.val echo count.toNat time.toNat sent seen)) (Mach.syncFlit_of_down hdown)
  · exact State.run_to (f := (·.syncFlit 1 true count.toNat time.toNat sent seen)) hawake (Mach.syncFlit_east hup hjoined hturn)
  · exact State.run_of_eq (f := (·.syncFlit p.val echo count.toNat time.toNat sent seen)) (Mach.syncFlit_of_other _ hwest heast)
  · obtain ⟨spn, hturn⟩ := Mach.vturn_east (count := count.toNat) (turn := turn.toNat) hup hjoined
    exact ⟨_, State.run_to (f := (·.vturn 1 count.toNat turn.toNat)) hawake (hturn.trans (Mach.hopDone_of_noEcho hecho)), rfl⟩
  · obtain ⟨spn, hturn⟩ := Mach.vturn_east (count := count.toNat) (turn := turn.toNat) hup hjoined
    obtain ⟨spn', hdone⟩ := Mach.hopDone_of_match (m := { s.m with vol := { s.m.vol with turn := some (count.toNat, turn.toNat) }, spn }) hsent hecho rfl hn1 hn2
    exact ⟨_, State.run_to (f := (·.vturn 1 count.toNat turn.toNat)) hawake (hturn.trans hdone), rfl⟩
  · exact State.run_of_eq (f := (·.vturn p.val count.toNat turn.toNat)) (Mach.vturn_of_down (hdown.imp id (congrArg Fin.val)))
  · obtain ⟨ring, spn, hhop⟩ := Mach.vhop_west (theta := theta.toInt) (xd := xd.toNat) hup hjoined hgot hpos
    obtain ⟨_, _, _, _, _, _, _, hadrift⟩ := Mach.volAdrift_eq ({ s.m with
      vol := { s.m.vol with
        ests := ((t2 - (x + xd.toNat) + theta.toInt * 64) :: s.m.vol.ests).take 256
        offset := meanOf (((t2 - (x + xd.toNat) + theta.toInt * 64) :: s.m.vol.ests).take 256), ring
        exch := min 256 (s.m.vol.exch + 1), lastExch := s.m.tim.beats, got := none, hopUp := some (n, x - theta.toInt * 64) }
      spn } : Mach)
    exact ⟨_, State.run_to (f := (·.vhop 2 theta.toInt xd.toNat)) hawake (hhop.trans hadrift), rfl, rfl, rfl, rfl, rfl, rfl⟩
  · exact State.run_of_eq (f := (·.vhop p.val theta.toInt xd.toNat)) (Mach.vhop_of_down (hdown.imp id (congrArg Fin.val)))
  · obtain ⟨ctl, flt, spn, hmark⟩ := Mach.vsyncMark_of_set diff hmember halign hset hring
    obtain ⟨_, _, _, _, _, _, _, hadrift⟩ := Mach.volAdrift_eq ({ s.m with vol := s.m.vol.marked (s.m.markOff diff), ctl, flt, spn } : Mach)
    refine ⟨_, State.run_to (f := (·.vsyncMark diff)) hawake (hmark.trans hadrift), rfl, rfl, rfl, rfl, ?_⟩
    change (if s.m.markOff diff then s.m.vol.aligns else s.m.vol.aligns + 1) = s.m.vol.aligns + (if s.m.markOff diff then 0 else 1)
    cases s.m.markOff diff
    · rfl
    · exact (BitVec.add_zero _).symm
  · obtain ⟨_, _, _, _, _, _, _, hadrift⟩ := Mach.volAdrift_eq ({ s.m with vol := { s.m.vol with markBad := s.m.markOff diff } } : Mach)
    exact ⟨_, State.run_to (f := (·.vsyncMark diff)) hawake ((Mach.vsyncMark_of_aligned diff hmember halign hever).trans hadrift), rfl, rfl, hever⟩
  · exact State.run_of_eq (f := (·.vsyncMark diff)) (Mach.vsyncMark_of_none diff hnone)
  · obtain ⟨a, hstart, hk, htheta, hset, hring, hc⟩ := Mach.alignStart_of_hop s.m.vol.offset false hhop
    have hgo : s.m.volumeAlign near = s.m.alignStart s.m.vol.offset false := by
      unfold Mach.volumeAlign
      rw [if_pos]
      rw [hmember, hst, hever, halign, hidle, hhold, hclk, decide_eq_true hexch]
      rcases hnear with h | h <;> simp [h]
    exact ⟨_, State.run_to (f := (·.volumeAlign near)) hawake (hgo.trans hstart), rfl, a, rfl, hk, htheta, hset, hring, hc⟩
  · refine State.run_of_eq (f := (·.volumeAlign near)) (if_neg ?_)
    rcases hnone with h | h | h | h | h | h
    · simp [h]
    · simp [h]
    · simp [decide_eq_false (Nat.not_le.mpr h)]
    · simp [h]
    · simp [h]
    · simp [h]
  · obtain ⟨spn, hcal⟩ := Mach.ringCal_of_formed hprin hst hidle
    have hask : (!s.m.isPrincipal || s.m.running || s.m.vol.st != .formed) = false := by rw [hprin, hidle, hst]; rfl
    exact ⟨_, State.run_to (f := fun m => if !m.isPrincipal || m.running || m.vol.st != .formed then m else m.ringCal 1) hawake
      ((if_neg (Bool.eq_false_iff.mp hask)).trans hcal), rfl⟩
  · refine State.run_of_eq (f := fun m => if !m.isPrincipal || m.running || m.vol.st != .formed then m else m.ringCal 1) (if_pos ?_)
    rcases hnone with h | h | h <;> simp [h]
  · obtain ⟨ctl, flt, spn, hend⟩ := Mach.ringCalAlign_of_principal hrcal hdue hprin hring
    exact ⟨_, State.run_to (f := (·.ringCalAlign)) hawake hend, rfl⟩
  · obtain ⟨a, hstart, hk, htheta, hset, hring', -⟩ :=
      Mach.alignStart_of_hop (m := { s.m with vol := { s.m.vol with rcal := none } }) (meanOf s.m.vol.ring) true hhop
    exact ⟨_, State.run_to (f := (·.ringCalAlign)) hawake ((Mach.ringCalAlign_of_member hrcal hdue hmember hring halign hidle).trans hstart), rfl,
      a, rfl, hk, htheta, hset, hring'⟩
  · exact State.run_of_eq (f := (·.ringCalAlign)) (Mach.ringCalAlign_of_early hearly)
  · cases hmode : bitOf (s.m.pval 0x2900) 1 with
    | false =>
      obtain ⟨qre, ctl, flt, spn, hend, hcause⟩ := Mach.armExpiry_of_cancel harm hprin hdue hmode
      exact ⟨_, State.run_to (f := (·.armExpiry)) hawake hend, rfl, rfl, rfl, rfl, fun _ => ⟨rfl, rfl, hcause⟩, fun h => absurd h (by decide)⟩
    | true =>
      obtain ⟨left, absent, ctl, flt, spn, hend⟩ := Mach.armExpiry_of_absent harm hprin hdue hmode
      exact ⟨_, State.run_to (f := (·.armExpiry)) hawake hend, rfl, rfl, rfl, rfl, fun h => absurd h (by decide), fun _ => ⟨rfl, left, rfl⟩⟩
  · refine State.run_of_eq (f := (·.armExpiry)) ?_
    unfold Mach.armExpiry
    split
    · rfl
    next r harm => exact if_pos (by rw [(hnone.resolve_left (by rw [harm]; exact Option.some_ne_none r))]; rfl)
  · refine State.run_of_eq (f := (·.volumeArm)) ?_
    unfold Mach.volumeArm
    rw [hgo]
    exact if_pos (bne_iff_ne.mpr hbeat)
  · refine (run_awake s (·.volumeArm) hawake).trans ?_
    unfold Mach.volumeArm
    rw [hgo]
    dsimp only
    rw [if_neg (by simp [hbeat]), if_pos hleft]
    rfl
  · obtain ⟨par, qre, cal, hall, trg, dec, store, vol, tels, harm, hst, hqid, hvolume, hbeat⟩ := Mach.volumeArm_of_ok hgo hbeat hleft hidle hshed hfault
    exact ⟨_, State.run_to (f := (·.volumeArm)) hawake harm, rfl, hst, hqid, hvolume, hbeat, rfl⟩
  · obtain ⟨qre, vol, ctl, flt, spn, harm, hst, hqid, hbeat⟩ := Mach.volumeArm_of_refused hgo hbeat hleft hnot
    exact ⟨_, State.run_to (f := (·.volumeArm)) hawake harm, rfl, hst, hqid, hbeat, rfl⟩
  · exact State.run_of_eq (f := (·.volumeArm)) (by rw [Mach.volumeArm, hnone])
  · refine State.run_of_eq (f := (·.volumeStopBeat)) ?_
    unfold Mach.volumeStopBeat
    rw [hstop]
    exact if_pos (bne_iff_ne.mpr hbeat)
  · refine ⟨_, State.run_to (f := (·.volumeStopBeat)) hawake (Mach.volumeStopBeat_of_due hstop hbeat hrun hvolume hcur), rfl,
      Mach.closeQuire_running _ _, ?_, ?_, ?_⟩
    · exact congrArg Qre.closeCause (Mach.closeQuire_qre _ _)
    · simp
    · simp
  · exact State.run_of_eq (f := (·.volumeStopBeat)) (by rw [Mach.volumeStopBeat, hnone])
  · obtain ⟨hlanded, hvol⟩ := Mach.volSettings_landed r hok hidle hwaiting
    have hvalue (b : Nat) : (s.m.landReg (0x2900 + r.val) v).pval b = if b = 0x2900 + r.val then v else s.m.pval b :=
      (congrArg (sget resetOf · b) hlanded).trans (pval_pset s.m _ _ v hwf)
    have hallowed : s.m.volRefused [(0x2900 + r.val, v)] = false := by simp [Mach.volRefused, hidle]
    refine ⟨_, (run_awake s (fun m => if m.volRefused [(0x2900 + r.val, v)] then m else m.landReg (0x2900 + r.val) v) hawake).trans
      (by rw [hallowed]), rfl, (hvalue _).trans (if_pos rfl), fun b hb => (hvalue b).trans (if_neg hb), hvol⟩
  · exact State.run_of_eq (f := fun m => if m.volRefused [(0x2900 + r.val, v)] then m else m.landReg (0x2900 + r.val) v) (if_pos hrefused)
end

section
/-! SUPPORT. The Assay's requests, conversions, windows and settings, and the statement about them (R646 to R658, R675 to R677). -/

namespace Sys2Proof.Machine

/-! ### Requests -/

/-- One request: it is dropped and counted, or waits (R648). -/
theorem Mach.request_eq (m : Mach) (j : Nat) : ∃ reqs accs missed, m.request j = { m with asy := { m.asy with reqs, accs, missed } } := by
  unfold Mach.request Mach.modAcc
  (repeat' split) <;> exact ⟨_, _, _, rfl⟩

theorem Mach.requests_eq (m : Mach) (p : Nat → Bool) : ∃ reqs accs missed, m.requests p = { m with asy := { m.asy with reqs, accs, missed } } := by
  unfold Mach.requests
  generalize (List.range 32).filter p = l
  induction l generalizing m with
  | nil => exact ⟨_, _, _, rfl⟩
  | cons j l ih =>
    obtain ⟨_, _, _, hone⟩ := m.request_eq j
    obtain ⟨reqs, accs, missed, hrest⟩ := ih (m.request j)
    exact ⟨reqs, accs, missed, by rw [List.foldl_cons, hrest, hone]⟩

/-- Of an accumulator a request changes the dropped requests alone. -/
theorem Mach.request_acc (m : Mach) (j : Nat) (i : Fin 32) : ∃ dropped, (m.request j).asy.accs[i] = { m.asy.accs[i] with dropped } ∧
    (i.val ≠ j → (m.request j).asy.accs[i] = m.asy.accs[i]) := by
  unfold Mach.request
  split
  · exact ⟨_, rfl, fun _ => rfl⟩
  · split
    · have hacc := vmod_get m.asy.accs j (fun a => { a with dropped := min (a.dropped + 1) 255 }) i
      by_cases hi : j = i.val
      · exact ⟨_, hacc.trans (if_pos hi), fun h => absurd hi.symm h⟩
      · exact ⟨_, hacc.trans (if_neg hi), fun _ => hacc.trans (if_neg hi)⟩
    · exact ⟨_, rfl, fun _ => rfl⟩

theorem filter_range_single (j : Fin 32) (p : Nat → Bool) (hp : ∀ i, i < 32 → p i = decide (i = j.val)) : (List.range 32).filter p = [j.val] := by
  rw [List.filter_congr fun i hi => hp i (List.mem_range.mp hi)]
  clear hp
  revert j
  decide

theorem Mach.requests_single {m : Mach} {p : Nat → Bool} (j : Fin 32) (hp : ∀ i, i < 32 → p i = decide (i = j.val)) :
    m.requests p = m.request j.val := by
  rw [Mach.requests, filter_range_single j p hp]
  rfl

theorem Mach.requests_none {m : Mach} {p : Nat → Bool} (hp : ∀ i, i < 32 → p i = false) : m.requests p = m := by
  rw [Mach.requests, List.filter_eq_nil_iff.mpr fun i hi => by rw [hp i (List.mem_range.mp hi)]; decide]
  rfl

/-- The request of one accumulator that converts continuously. -/
theorem Mach.continuous_single (m : Mach) (j : Fin 32) : m.continuous (· == j.val) = m ∨ m.continuous (· == j.val) = m.request j.val := by
  unfold Mach.continuous
  by_cases hsource : m.accSource j.val = 3
  · refine .inr (Mach.requests_single j fun i _ => ?_)
    by_cases hi : i = j.val
    · simp [hi, hsource]
    · simp [hi]
  · refine .inl (Mach.requests_none fun i _ => ?_)
    by_cases hi : i = j.val
    · simp [hi, hsource]
    · simp [hi]

/-! ### Requests served -/

/-- Whether accumulator j has a request or a conversion. -/
def Asy.holds (a : Asy) (j : Nat) : Bool := a.busyWith j || a.reqs.any fun r => r.job == .acc j

theorem Asy.holds_iff (a : Asy) (j : Nat) : a.holds j = true ↔ a.busyWith j = true ∨ (a.reqs.any fun r => r.job == .acc j) = true := by
  rw [Asy.holds, Bool.or_eq_true]

/-- What serving leaves of the Assay: a request becomes a conversion, and a conversion held goes on (R650 to R653). -/
structure Asy.ServedTo (a b : Asy) : Prop where
  eq : ∃ reqs sar1 sar2 int held1 held2 firstInt low, b = { a with reqs, sar1, sar2, int, held1, held2, firstInt, low }
  holds : ∀ j, a.holds j = true → b.holds j = true

theorem Asy.ServedTo.refl (a : Asy) : a.ServedTo a := ⟨⟨_, _, _, _, _, _, _, _, rfl⟩, fun _ h => h⟩

theorem Asy.ServedTo.trans {a b c : Asy} (hab : a.ServedTo b) (hbc : b.ServedTo c) : a.ServedTo c := by
  obtain ⟨⟨_, _, _, _, _, _, _, _, rfl⟩, hb⟩ := hab
  obtain ⟨⟨_, _, _, _, _, _, _, _, rfl⟩, hc⟩ := hbc
  exact ⟨⟨_, _, _, _, _, _, _, _, rfl⟩, fun j h => hc j (hb j h)⟩

/-- A request's removal leaves those of every other job. -/
theorem reqs_filter_any {reqs : List AsyReq} {r : AsyReq} {j : Nat} (hother : r.job ≠ .acc j) (h : (reqs.any fun q => q.job == .acc j) = true) :
    ((reqs.filter fun q => q.job != r.job).any fun q => q.job == .acc j) = true := by
  obtain ⟨q, hq, hjob⟩ := List.any_eq_true.mp h
  refine List.any_eq_true.mpr ⟨q, List.mem_filter.mpr ⟨hq, ?_⟩, hjob⟩
  rw [beq_iff_eq] at hjob
  rw [hjob, bne_iff_ne]
  exact hother.symm

theorem Mach.startConv_serves {m : Mach} {r : AsyReq} {f : Asy → Asy} (hf : ∃ sar1 sar2 int firstInt, f m.asy = { m.asy with sar1, sar2, int, firstInt })
    (hjob : ∀ j, r.job = .acc j → (f m.asy).busyWith j = true) (hbusy : ∀ j, m.asy.busyWith j = true → (f m.asy).busyWith j = true) :
    m.asy.ServedTo (m.startConv r f).asy := by
  refine ⟨?_, fun j hj => (Asy.holds_iff ..).mpr ?_⟩
  · obtain ⟨_, _, _, _, hf⟩ := hf
    exact ⟨_, _, _, _, _, _, _, _, by rw [Mach.startConv, hf]⟩
  · by_cases hother : r.job = .acc j
    · exact .inl (hjob j hother)
    · exact ((Asy.holds_iff ..).mp hj).imp (hbusy j) (reqs_filter_any hother)

theorem Asy.busyWith_iff (a : Asy) (j : Nat) : a.busyWith j = true ↔
    ∃ c, (a.sar1 = some c ∨ a.sar2 = some c ∨ a.int = some c ∨ a.held1 = some c ∨ a.held2 = some c) ∧ c.job = .acc j := by
  simp only [Asy.busyWith, List.any_eq_true, List.mem_cons, List.not_mem_nil, or_false]
  constructor
  · rintro ⟨o, ho, hjob⟩
    cases o with
    | none => cases hjob
    | some c => exact ⟨c, Or.imp Eq.symm (Or.imp Eq.symm (Or.imp Eq.symm (Or.imp Eq.symm Eq.symm))) ho, beq_iff_eq.mp hjob⟩
  · rintro ⟨c, hc, hjob⟩
    exact ⟨some c, Or.imp Eq.symm (Or.imp Eq.symm (Or.imp Eq.symm (Or.imp Eq.symm Eq.symm))) hc, beq_iff_eq.mpr hjob⟩

/-- A free converter takes a conversion. -/
theorem Asy.busyWith_of_le {a b : Asy} {j : Nat} (h1 : a.sar1 = none ∨ b.sar1 = a.sar1) (h2 : a.sar2 = none ∨ b.sar2 = a.sar2)
    (h3 : a.int = none ∨ b.int = a.int) (h4 : b.held1 = a.held1 ∨ b.sar1 = a.held1) (h5 : b.held2 = a.held2 ∨ b.sar2 = a.held2)
    (h : a.busyWith j = true) : b.busyWith j = true := by
  rw [Asy.busyWith_iff] at h ⊢
  obtain ⟨c, hc, hjob⟩ := h
  refine ⟨c, ?_, hjob⟩
  rcases hc with hc | hc | hc | hc | hc
  · exact .inl ((h1.resolve_left (by rw [hc]; exact Option.some_ne_none c)).trans hc)
  · exact .inr (.inl ((h2.resolve_left (by rw [hc]; exact Option.some_ne_none c)).trans hc))
  · exact .inr (.inr (.inl ((h3.resolve_left (by rw [hc]; exact Option.some_ne_none c)).trans hc)))
  · exact h4.elim (fun h => .inr (.inr (.inr (.inl (h.trans hc))))) fun h => .inl (h.trans hc)
  · exact h5.elim (fun h => .inr (.inr (.inr (.inr (h.trans hc))))) fun h => .inr (.inl (h.trans hc))

theorem Asy.resume_serves {a b : Asy} (heq : ∃ sar1 sar2 held1 held2, b = { a with sar1, sar2, held1, held2 })
    (h1 : a.sar1 = none ∨ b.sar1 = a.sar1) (h2 : a.sar2 = none ∨ b.sar2 = a.sar2)
    (h4 : b.held1 = a.held1 ∨ b.sar1 = a.held1) (h5 : b.held2 = a.held2 ∨ b.sar2 = a.held2) : a.ServedTo b := by
  obtain ⟨_, _, _, _, rfl⟩ := heq
  exact ⟨⟨_, _, _, _, _, _, _, _, rfl⟩, fun j hj => (Asy.holds_iff ..).mpr (((Asy.holds_iff ..).mp hj).imp_left
    (Asy.busyWith_of_le h1 h2 (.inr rfl) h4 h5))⟩

/-- A burst held goes on where it may and its converter is free; else what else can be served. -/
theorem Mach.resume_serves {m n : Mach} {wait : Bool} {other : Option Mach}
    (h : (if wait && m.asy.sar1.isNone && m.asy.held1.isSome then some { m with asy := { m.asy with sar1 := m.asy.held1, held1 := none } }
      else if wait && m.asy.sar2.isNone && m.asy.held2.isSome then some { m with asy := { m.asy with sar2 := m.asy.held2, held2 := none } }
      else other) = some n) (hother : other = some n → m.asy.ServedTo n.asy) : m.asy.ServedTo n.asy := by
  split at h
  next hheld =>
    obtain rfl := Option.some.inj h
    simp only [Bool.and_eq_true, Option.isNone_iff_eq_none] at hheld
    exact Asy.resume_serves ⟨_, _, _, _, rfl⟩ (.inl hheld.1.2) (.inr rfl) (.inr rfl) (.inl rfl)
  · split at h
    next hheld =>
      obtain rfl := Option.some.inj h
      simp only [Bool.and_eq_true, Option.isNone_iff_eq_none] at hheld
      exact Asy.resume_serves ⟨_, _, _, _, rfl⟩ (.inr rfl) (.inl hheld.1.2) (.inl rfl) (.inr rfl)
    · exact hother h

theorem Mach.serveOne_serves {m n : Mach} (h : m.serveOne = some n) : m.asy.ServedTo n.asy := by
  unfold Mach.serveOne at h
  dsimp only at h
  rcases hreq : (if m.asy.int.isNone then m.asy.first fun r => r.cls == 1 else none) with _ | r
  · rw [hreq] at h
    dsimp only at h
    rcases hfirst : (m.asy.first fun r => r.cls != 1) with _ | r
    · rw [hfirst] at h
      exact Mach.resume_serves h fun h => by cases h
    · rw [hfirst] at h
      refine Mach.resume_serves h fun h => ?_
      dsimp only at h
      split at h
      · split at h
        next hfree =>
          obtain rfl := Option.some.inj h
          rw [Bool.and_eq_true, Option.isNone_iff_eq_none, Option.isNone_iff_eq_none] at hfree
          exact Mach.startConv_serves ⟨_, _, _, _, rfl⟩ (fun j hj => (Asy.busyWith_iff ..).mpr ⟨_, .inl rfl, hj⟩) fun j =>
            Asy.busyWith_of_le (.inl hfree.1) (.inl hfree.2) (.inr rfl) (.inl rfl) (.inl rfl)
        · cases h
      · split at h
        next hfree =>
          obtain rfl := Option.some.inj h
          rw [Option.isNone_iff_eq_none] at hfree
          exact Mach.startConv_serves ⟨_, _, _, _, rfl⟩ (fun j hj => (Asy.busyWith_iff ..).mpr ⟨_, .inl rfl, hj⟩) fun j =>
            Asy.busyWith_of_le (.inl hfree) (.inr rfl) (.inr rfl) (.inl rfl) (.inl rfl)
        · split at h
          next hfree =>
            obtain rfl := Option.some.inj h
            rw [Option.isNone_iff_eq_none] at hfree
            exact Mach.startConv_serves ⟨_, _, _, _, rfl⟩ (fun j hj => (Asy.busyWith_iff ..).mpr ⟨_, .inr (.inl rfl), hj⟩) fun j =>
              Asy.busyWith_of_le (.inr rfl) (.inl hfree) (.inr rfl) (.inl rfl) (.inl rfl)
          · cases h
  · rw [hreq] at h
    obtain rfl := Option.some.inj h
    have hint : m.asy.int = none := Classical.byContradiction fun hint => by
      rw [if_neg (by simpa using hint)] at hreq
      cases hreq
    exact Mach.startConv_serves ⟨_, _, _, _, rfl⟩ (fun j hj => (Asy.busyWith_iff ..).mpr ⟨_, .inr (.inr (.inl rfl)), hj⟩) fun j =>
      Asy.busyWith_of_le (.inr rfl) (.inr rfl) (.inl hint) (.inl rfl) (.inl rfl)

theorem Mach.serveN_serves (k : Nat) (m : Mach) : m.asy.ServedTo (Mach.serveN k m).asy := by
  induction k generalizing m with
  | zero => exact .refl _
  | succ k ih =>
    unfold Mach.serveN
    split
    next n h => exact (Mach.serveOne_serves h).trans (ih n)
    · exact .refl _

theorem Mach.serve_serves (m : Mach) : m.asy.ServedTo m.serve.asy := by
  unfold Mach.serve
  split
  · exact m.serveN_serves 3
  · exact .refl _

theorem Mach.serve_asy (m : Mach) : m.serve = { m with asy := m.serve.asy } := by
  unfold Mach.serve
  split
  · exact Mach.serveN_keeps 3 m
  · rfl

theorem Mach.serve_eq (m : Mach) : ∃ reqs sar1 sar2 int held1 held2 firstInt low,
    m.serve = { m with asy := { m.asy with reqs, sar1, sar2, int, held1, held2, firstInt, low } } := by
  obtain ⟨_, _, _, _, _, _, _, _, heq⟩ := m.serve_serves.eq
  exact ⟨_, _, _, _, _, _, _, _, m.serve_asy.trans (by rw [heq])⟩

/-! ### A start's request (R646, R648, R649) -/

theorem Mach.modAccs_get (m : Mach) (f : Nat → Accu → Accu) (i : Fin 32) : (m.modAccs f).asy.accs[i] = f i.val m.asy.accs[i] := by
  simp [Mach.modAccs]

section
variable {m : Mach} {j : Fin 32} (hstarted : m.asy.started = true) (hon : m.accOn j.val = true) (hfree : m.suspended j.val = false)
include hstarted hon hfree

theorem Mach.request_of_waiting (hwait : (m.asy.reqs.any fun r => r.job == .acc j.val) = true) : m.request j.val =
    { m with asy := { m.asy with missed := m.asy.missed + 1, accs := vmod m.asy.accs j.val fun a => { a with dropped := min (a.dropped + 1) 255 } } } := by
  unfold Mach.request
  rw [if_neg (by rw [hstarted, hon, hfree]; decide), if_pos hwait]
  rfl

theorem Mach.request_of_none (hwait : (m.asy.reqs.any fun r => r.job == .acc j.val) = false) : ∃ r : AsyReq, r.job = .acc j.val ∧
    m.request j.val = { m with asy := { m.asy with reqs := m.asy.reqs ++ [r] } } := by
  unfold Mach.request
  rw [if_neg (by rw [hstarted, hon, hfree]; decide), if_neg (by rw [hwait]; decide)]
  exact ⟨_, rfl, rfl⟩

/-- One request served: dropped and counted, or held by the Assay. -/
theorem Mach.request_served : ∃ asy, (m.request j.val).serve = { m with asy } ∧
    ((m.asy.reqs.any fun r => r.job == .acc j.val) = true → asy.missed = m.asy.missed + 1 ∧
      asy.accs = vmod m.asy.accs j.val fun a => { a with dropped := min (a.dropped + 1) 255 }) ∧
    ((m.asy.reqs.any fun r => r.job == .acc j.val) = false → asy.missed = m.asy.missed ∧ asy.accs = m.asy.accs ∧
      (asy.busyWith j.val = true ∨ (asy.reqs.any fun r => r.job == .acc j.val) = true)) := by
  have hserved := (m.request j.val).serve_serves
  have hserve := (m.request j.val).serve_asy
  obtain ⟨_, _, _, _, _, _, _, _, heq⟩ := hserved.eq
  cases hwait : m.asy.reqs.any fun r => r.job == .acc j.val with
  | true =>
    have hreq := Mach.request_of_waiting hstarted hon hfree hwait
    refine ⟨((m.request j.val).serve).asy, hserve.trans (by rw [hreq]), fun _ => ?_, fun h => absurd h (by decide)⟩
    rw [heq, hreq]
    exact ⟨rfl, rfl⟩
  | false =>
    obtain ⟨r, hjob, hreq⟩ := Mach.request_of_none hstarted hon hfree hwait
    refine ⟨((m.request j.val).serve).asy, hserve.trans (by rw [hreq]), fun h => absurd h (by decide), fun _ => ⟨?_, ?_, ?_⟩⟩
    · rw [heq, hreq]
    · rw [heq, hreq]
    · refine (Asy.holds_iff ..).mp (hserved.holds j.val ((Asy.holds_iff ..).mpr (.inr ?_)))
      rw [hreq]
      exact List.any_eq_true.mpr ⟨r, List.mem_append_right _ List.mem_cons_self, beq_iff_eq.mpr hjob⟩

end

theorem wordBit (j : Fin 32) : ∀ i, i < 32 → bitOf ((1 : Word) <<< j.val) i = decide (i = j.val) := by
  revert j
  decide

theorem Mach.kick_single {m : Mach} (j : Fin 32) (hkick : m.asy.kick = 0) : (m.kickLanded ((1 : Word) <<< j.val)).kicks =
    (({ m with asy := { m.asy with kick := 0 } } : Mach).request j.val).serve := by
  refine congrArg Mach.serve (Mach.requests_single j fun i hi => ?_)
  rw [← wordBit j i hi]
  unfold Mach.kickLanded
  dsimp only
  rw [hkick]
  exact congrArg (bitOf · i) BitVec.zero_or

/-- The starts of accumulator j alone whose delay is over. -/
theorem Mach.assayRequest_single {m : Mach} {j : Fin 32} (hstarts : 0 < m.asy.accs[j].starts) : m.assayRequest ((1 : Word) <<< j.val) =
    ((m.modAccs fun i a => if decide (i = j.val) then { a with starts := a.starts - 1 } else a).request j.val).serve := by
  have hdue (i : Nat) (hi : i < 32) : (((1 : Word) <<< j.val).getLsbD i && decide (0 < (vget m.asy.accs i).starts)) = decide (i = j.val) := by
    rw [show ((1 : Word) <<< j.val).getLsbD i = decide (i = j.val) from wordBit j i hi]
    by_cases hij : i = j.val
    · subst hij
      rw [vget_eq, decide_eq_true hstarts, Bool.and_true]
    · simp [hij]
  have hmod : (m.modAccs fun i a => if ((1 : Word) <<< j.val).getLsbD i && decide (0 < (vget m.asy.accs i).starts) then { a with starts := a.starts - 1 } else a) =
      m.modAccs fun i a => if decide (i = j.val) then { a with starts := a.starts - 1 } else a := by
    have haccs : (m.asy.accs.mapIdx fun i a => if ((1 : Word) <<< j.val).getLsbD i && decide (0 < (vget m.asy.accs i).starts) then { a with starts := a.starts - 1 } else a) =
        m.asy.accs.mapIdx fun i a => if decide (i = j.val) then { a with starts := a.starts - 1 } else a := by
      ext1 i hi
      simp only [Vector.getElem_mapIdx, hdue i hi]
    unfold Mach.modAccs
    rw [haccs]
  unfold Mach.assayRequest
  dsimp only
  rw [hmod, Mach.requests_single j hdue]

theorem Mach.assayRequest_none {m : Mach} {js : BitVec 32} (hnone : ∀ j : Fin 32, js.getLsbD j.val = true → m.asy.accs[j].starts = 0) :
    m.assayRequest js = m.serve := by
  have hdue (i : Nat) (hi : i < 32) : (js.getLsbD i && decide (0 < (vget m.asy.accs i).starts)) = false := by
    rw [Bool.and_eq_false_iff]
    by_cases hbit : js.getLsbD i = true
    · right
      rw [vget_eq m.asy.accs ⟨i, hi⟩, hnone ⟨i, hi⟩ hbit]
      rfl
    · exact .inl (by simpa using hbit)
  have hmod : (m.modAccs fun i a => if js.getLsbD i && decide (0 < (vget m.asy.accs i).starts) then { a with starts := a.starts - 1 } else a) = m := by
    have haccs : (m.asy.accs.mapIdx fun i a => if js.getLsbD i && decide (0 < (vget m.asy.accs i).starts) then { a with starts := a.starts - 1 } else a) = m.asy.accs := by
      ext1 i hi
      simp only [Vector.getElem_mapIdx, hdue i hi, Bool.false_eq_true, if_false]
    unfold Mach.modAccs
    rw [haccs]
  unfold Mach.assayRequest
  dsimp only
  rw [hmod, Mach.requests_none hdue]

/-! ### A conversion's end (R655) -/

theorem Mach.wireNext_eq (m : Mach) : ∃ wire wireDue, m.wireNext = { m with asy := { m.asy with wire, wireDue } } := by
  unfold Mach.wireNext
  dsimp only
  split
  · exact ⟨_, _, rfl⟩
  · exact ⟨m.asy.wire, m.asy.wireDue, rfl⟩

theorem Asy.setConv_eq (a : Asy) (v : Fin 3) (c : Option Conv) : ∃ sar1 sar2 int, a.setConv v c = { a with sar1, sar2, int } := by
  unfold Asy.setConv
  (repeat' split) <;> exact ⟨_, _, _, rfl⟩

theorem Asy.yield_eq (a : Asy) (v : Fin 3) (c : Conv) : ∃ sar1 sar2 int held1 held2, a.yield v c = { a with sar1, sar2, int, held1, held2 } := by
  unfold Asy.yield
  split
  · obtain ⟨_, _, _, hset⟩ := a.setConv_eq v (some c)
    exact ⟨_, _, _, _, _, hset⟩
  · split <;> exact ⟨_, _, _, _, _, rfl⟩

section
variable (m : Mach) (j : Fin 32) (c : Conv) (r : Int)

theorem Mach.addResult_eq : ∃ accs, m.addResult j.val c r = { m with asy := { m.asy with accs } } := ⟨_, rfl⟩

theorem Mach.addResult_other {i : Fin 32} (hi : i ≠ j) : (m.addResult j.val c r).asy.accs[i] = m.asy.accs[i] :=
  (vmod_get ..).trans (if_neg fun h => hi (Fin.ext h.symm))

/-- A result in the middle of a window (R654). -/
theorem Mach.addResult_within (hlen : m.asy.accs[j].n + 1 < m.accLen j.val) : ∃ flags lo hi, (m.addResult j.val c r).asy.accs[j] =
    { m.asy.accs[j] with sum := m.asy.accs[j].sum + r, n := m.asy.accs[j].n + 1, flags, lo, hi } :=
  ⟨_, _, _, ((vmod_get ..).trans (if_pos rfl)).trans (if_pos hlen)⟩

/-- The result that completes a window (R655). -/
theorem Mach.addResult_last (hlen : m.accLen j.val ≤ m.asy.accs[j].n + 1) : ∃ flags lo hi replaced fl, (m.addResult j.val c r).asy.accs[j] =
    { m.asy.accs[j] with
      sum := 0, n := 0, flags, lo, hi, done := some (roundDiv (m.asy.accs[j].sum + r) (m.accLen j.val), fl), replaced } :=
  ⟨_, _, _, _, _, ((vmod_get ..).trans (if_pos rfl)).trans (if_neg (Nat.not_lt.mpr hlen))⟩

end

/-- The request that may follow a result keeps the windows. -/
theorem Mach.continuous_acc (m : Mach) (j : Fin 32) (b : Bool) : ∃ reqs accs missed,
    (if b then m.continuous (· == j.val) else m) = { m with asy := { m.asy with reqs, accs, missed } } ∧
    ∀ i : Fin 32, ∃ dropped, accs[i] = { m.asy.accs[i] with dropped } ∧ (i ≠ j → accs[i] = m.asy.accs[i]) := by
  have hsame : ∃ reqs accs missed, m = { m with asy := { m.asy with reqs, accs, missed } } ∧
      ∀ i : Fin 32, ∃ dropped, accs[i] = { m.asy.accs[i] with dropped } ∧ (i ≠ j → accs[i] = m.asy.accs[i]) :=
    ⟨_, _, _, rfl, fun _ => ⟨_, rfl, fun _ => rfl⟩⟩
  cases b with
  | false => exact hsame
  | true =>
    rw [if_pos rfl]
    rcases m.continuous_single j with h | h
    · rw [h]
      exact hsame
    · rw [h]
      obtain ⟨reqs, accs, missed, hreq⟩ := m.request_eq j.val
      refine ⟨reqs, accs, missed, hreq, fun i => ?_⟩
      obtain ⟨dropped, hacc, hother⟩ := m.request_acc j.val i
      rw [hreq] at hacc hother
      exact ⟨dropped, hacc, fun hi => hother fun h => hi (Fin.ext h)⟩

/-- The converter's next step is noted, and the result added. -/
theorem Mach.conversionEnd_adds {m : Mach} (coef : Mach) {v : Fin 3} {c : Conv} {j : Fin 32} (o : ConvObs) (hconv : m.asy.conv v = some c)
    (hdrop : c.drop = false) (hjob : c.job = .acc j.val) : ∃ (m1 : Mach) (b : Bool),
      (∃ sar1 sar2 int held1 held2 low, m1 = { m with asy := { m.asy with sar1, sar2, int, held1, held2, convs := m.asy.convs + 1, low } }) ∧
      m.conversionEnd coef v o = (if b then (m1.addResult j.val c (coef.result c.input c.cls o.u)).continuous (· == j.val)
        else m1.addResult j.val c (coef.result c.input c.cls o.u)).wireNext.serve := by
  unfold Mach.conversionEnd
  rw [hconv]
  dsimp only
  rw [hdrop, hjob, if_neg Bool.false_ne_true]
  dsimp only
  by_cases hlast : c.left ≤ 1
  · rw [if_pos hlast]
    obtain ⟨_, _, _, hset⟩ := m.asy.setConv_eq v none
    exact ⟨_, _, ⟨_, _, _, _, _, _, by dsimp only; rw [hset]⟩, rfl⟩
  · rw [if_neg hlast]
    obtain ⟨_, _, _, _, _, hyield⟩ := m.asy.yield_eq v { c with left := c.left - 1, clocks := m.sarClocks }
    rw [hdrop, hjob] at hyield
    exact ⟨_, _, ⟨_, _, _, _, _, _, by dsimp only; rw [hyield]⟩, rfl⟩

/-- A conversion of accumulator j ends: its result is added, and a request may follow (R655). -/
theorem Mach.conversionEnd_of_acc {m : Mach} (coef : Mach) {v : Fin 3} {c : Conv} {j : Fin 32} (o : ConvObs) (hconv : m.asy.conv v = some c)
    (hdrop : c.drop = false) (hjob : c.job = .acc j.val) : ∃ asy, m.conversionEnd coef v o = { m with asy } ∧ asy.convs = m.asy.convs + 1 ∧
      (∀ i : Fin 32, i ≠ j → asy.accs[i] = m.asy.accs[i]) ∧
      (m.asy.accs[j].n + 1 < m.accLen j.val → asy.accs[j].n = m.asy.accs[j].n + 1 ∧
        asy.accs[j].sum = m.asy.accs[j].sum + coef.result c.input c.cls o.u) ∧
      (m.accLen j.val ≤ m.asy.accs[j].n + 1 → asy.accs[j].n = 0 ∧ asy.accs[j].sum = 0 ∧
        ∃ f, asy.accs[j].done = some (roundDiv (m.asy.accs[j].sum + coef.result c.input c.cls o.u) (m.accLen j.val), f)) := by
  obtain ⟨m1, b, ⟨sar1, sar2, int, held1, held2, low, rfl⟩, hend⟩ := Mach.conversionEnd_adds coef o hconv hdrop hjob
  generalize coef.result c.input c.cls o.u = r at hend ⊢
  have hothers {i : Fin 32} (hi : i ≠ j) := Mach.addResult_other ({ m with asy := { m.asy with
    sar1, sar2, int, held1, held2, convs := m.asy.convs + 1, low } } : Mach) j c r hi
  have hwithin := Mach.addResult_within ({ m with asy := { m.asy with sar1, sar2, int, held1, held2, convs := m.asy.convs + 1, low } } : Mach) j c r
  have hlast := Mach.addResult_last ({ m with asy := { m.asy with sar1, sar2, int, held1, held2, convs := m.asy.convs + 1, low } } : Mach) j c r
  obtain ⟨accs, hadd⟩ := Mach.addResult_eq ({ m with asy := { m.asy with sar1, sar2, int, held1, held2, convs := m.asy.convs + 1, low } } : Mach) j c r
  rw [hadd] at hend hwithin hlast
  simp only [hadd] at hothers
  obtain ⟨reqs, accs', missed, hcont, hacc⟩ := Mach.continuous_acc ({ m with asy := { m.asy with
    sar1, sar2, int, held1, held2, convs := m.asy.convs + 1, low, accs } } : Mach) j b
  rw [hcont] at hend
  obtain ⟨wire, wireDue, hwire⟩ := Mach.wireNext_eq ({ m with asy := { m.asy with
    sar1, sar2, int, held1, held2, convs := m.asy.convs + 1, low, accs := accs', reqs, missed } } : Mach)
  obtain ⟨_, _, _, _, _, _, _, _, hserve⟩ := Mach.serve_eq ({ m with asy := { m.asy with
    sar1, sar2, int, held1, held2, convs := m.asy.convs + 1, low, accs := accs', reqs, missed, wire, wireDue } } : Mach)
  refine ⟨_, hend.trans ((congrArg Mach.serve hwire).trans hserve), rfl, fun i hi => ?_, fun hlen => ?_, fun hlen => ?_⟩
  · obtain ⟨_, -, hsame⟩ := hacc i
    exact (hsame hi).trans (hothers hi)
  · obtain ⟨_, hj, -⟩ := hacc j
    obtain ⟨_, _, _, hacc⟩ := hwithin hlen
    dsimp only at hacc hj ⊢
    rw [hj, hacc]
    exact ⟨rfl, rfl⟩
  · obtain ⟨_, hj, -⟩ := hacc j
    obtain ⟨_, _, _, _, f, hacc⟩ := hlast hlen
    dsimp only at hacc hj ⊢
    rw [hj, hacc]
    exact ⟨rfl, rfl, f, rfl⟩

/-! ### Start, stop and settings (R658, R675, R676) -/

theorem Mach.foldl_emptyWindow (l : List Nat) (m : Mach) : ∃ accs, l.foldl Mach.emptyWindow m = { m with asy := { m.asy with accs } } := by
  induction l generalizing m with
  | nil => exact ⟨_, rfl⟩
  | cons j l ih =>
    obtain ⟨accs, h⟩ := ih (m.emptyWindow j)
    exact ⟨accs, h⟩

theorem Mach.startsOf_eq (m : Mach) (p : Nat → Bool) : ∃ accs, m.startsOf p = { m with asy := { m.asy with accs } } := by
  unfold Mach.startsOf
  split <;> exact ⟨_, rfl⟩

theorem Mach.isoCheck_asy (m : Mach) : m.isoCheck.asy = m.asy := by simp

/-- What a start leaves running: the Assay itself and the zero points held. -/
def Asy.SameRun (a b : Asy) : Prop := b.started = a.started ∧ b.u0 = a.u0

theorem Mach.foldl_emptyWindow_run (l : List Nat) (m : Mach) : m.asy.SameRun (l.foldl Mach.emptyWindow m).asy := by
  obtain ⟨_, h⟩ := Mach.foldl_emptyWindow l m
  rw [h]
  exact ⟨rfl, rfl⟩

theorem Mach.startsOf_run (m : Mach) (p : Nat → Bool) : m.asy.SameRun (m.startsOf p).asy := by
  obtain ⟨_, h⟩ := m.startsOf_eq p
  rw [h]
  exact ⟨rfl, rfl⟩

theorem Mach.requests_run (m : Mach) (p : Nat → Bool) : m.asy.SameRun (m.requests p).asy := by
  obtain ⟨_, _, _, h⟩ := m.requests_eq p
  rw [h]
  exact ⟨rfl, rfl⟩

theorem Mach.serve_run (m : Mach) : m.asy.SameRun m.serve.asy := by
  obtain ⟨_, _, _, _, _, _, _, _, h⟩ := m.serve_eq
  rw [h]
  exact ⟨rfl, rfl⟩

theorem Asy.SameRun.trans {a b c : Asy} (hab : a.SameRun b) (hbc : b.SameRun c) : a.SameRun c := ⟨hbc.1.trans hab.1, hbc.2.trans hab.2⟩

/-- The Assay's start where its conditions hold (R676). -/
theorem Mach.asyStart_of_ready {m : Mach} (hstopped : m.asy.started = false) (hread : m.boot.readIn = true) (hctl : bitOf (m.pval 0x27D0) 0 = true)
    (hstage : m.pwr.stage < 6) : m.asyStart.asy.started = true ∧ ∀ x : Fin 8, m.asyStart.asy.u0[x] = none := by
  obtain ⟨m1, hm1, hstart⟩ : ∃ m1 : Mach, (m1.asy.started = true ∧ m1.asy.u0 = Vector.replicate 8 none) ∧
      m.asyStart = (((((List.range 32).foldl Mach.emptyWindow m1).beatStarts).continuous fun _ => true).serve).isoCheck :=
    ⟨_, ⟨rfl, rfl⟩, if_neg (by rw [hstopped, hread, hctl, decide_eq_false (by omega)]; decide)⟩
  have hrun : m1.asy.SameRun (((((List.range 32).foldl Mach.emptyWindow m1).beatStarts).continuous fun _ => true).serve).asy :=
    (((Mach.foldl_emptyWindow_run (List.range 32) m1).trans (Mach.startsOf_run _ _)).trans (Mach.requests_run _ _)).trans (Mach.serve_run _)
  rw [hstart, (Mach.isoCheck_asy _)]
  refine ⟨hrun.1.trans hm1.1, fun x => ?_⟩
  have hzero := hrun.2.trans hm1.2
  exact (congrArg (·[x]) hzero).trans (by simp)

theorem Mach.asyStart_of_not {m : Mach} (h : m.asy.started = true ∨ m.boot.readIn = false ∨ bitOf (m.pval 0x27D0) 0 = false ∨ 6 ≤ m.pwr.stage) :
    m.asyStart = m := by
  refine if_pos ?_
  rcases h with h | h | h | h
  · simp [h]
  · simp [h]
  · simp [h]
  · simp [decide_eq_true h]

/-- The Assay's stop (R675). -/
theorem Mach.asyStop_of_started {m : Mach} (hstarted : m.asy.started = true) : m.asyStop.asy.started = false ∧ m.asyStop.asy.reqs = [] ∧
    m.asyStop.asy.sar1 = none ∧ m.asyStop.asy.sar2 = none ∧ m.asyStop.asy.int = none ∧
    ∀ j : Fin 32, m.asyStop.asy.accs[j].n = 0 ∧ m.asyStop.asy.accs[j].sum = 0 := by
  unfold Mach.asyStop
  rw [if_neg (by rw [hstarted]; decide)]
  simp only [Mach.isoCheck_keeps]
  refine ⟨trivial, trivial, trivial, trivial, trivial, fun j => ?_⟩
  rw [vmap_get]
  exact ⟨rfl, rfl⟩

theorem Mach.asyStop_dec (m : Mach) : m.asyStop.dec = m.dec := by simp [Mach.asyStop]

/-- Whether an address is in a row of values taken into use at once. -/
def atOnce (a : Nat) : Bool := (rowOf a).any fun r => r.cls == .beat

theorem atOnce_asyCtl : atOnce 0x27D0 = true := by decide

theorem atOnce_asySettings (j : Fin 32) : atOnce (0x2700 + 4 * j.val) = true ∧ atOnce (0x2780 + j.val) = true := by
  revert j
  decide

theorem rowOf_of_atOnce {a : Nat} (h : atOnce a = true) : ∃ r, rowOf a = some r ∧ r.cls = .beat := by
  obtain ⟨r, hrow, hcls⟩ := (Option.any_eq_true ..).mp h
  exact ⟨r, hrow, beq_iff_eq.mp hcls⟩

theorem Mach.land_of_atOnce {a : Nat} (h : atOnce a = true) (m : Mach) (v : Word) : m.land a v = m.pset a v := by
  obtain ⟨r, hrow, hcls⟩ := rowOf_of_atOnce h
  rw [Mach.land, hrow]
  simp only [hcls]

theorem quireBound_of_atOnce {a : Nat} (h : atOnce a = true) : quireBound a = false := by
  obtain ⟨r, hrow, hcls⟩ := rowOf_of_atOnce h
  simp [quireBound, hrow, hcls]

theorem Mach.landOne_asyCtl (m : Mach) (k : Option Master) (v : Word) : m.landOne k 0x27D0 v = (m.pset 0x27D0 v).asyCtl := by
  simp [Mach.landOne, Mach.land_of_atOnce atOnce_asyCtl]

theorem Mach.landOne_asyCfg (m : Mach) (k : Option Master) (j : Fin 32) (v : Word) :
    m.landOne k (0x2700 + 4 * j.val) v = ((m.pset (0x2700 + 4 * j.val) v).cfgLanded j.val).isoCheck := by
  unfold Mach.landOne
  simp only [Mach.land_of_atOnce (atOnce_asySettings j).1]
  iterate 15 rw [if_neg (by omega)]
  rw [if_pos (by omega), show (0x2700 + 4 * j.val - 0x2700) / 4 = j.val by omega]

theorem Mach.landOne_asyTime (m : Mach) (k : Option Master) (j : Fin 32) (v : Word) :
    m.landOne k (0x2780 + j.val) v = (m.pset (0x2780 + j.val) v).cfgLanded j.val := by
  unfold Mach.landOne
  simp only [Mach.land_of_atOnce (atOnce_asySettings j).2]
  iterate 16 rw [if_neg (by omega)]
  rw [if_pos (by omega), Nat.add_sub_cancel_left]

/-- New settings empty their accumulator (R658). -/
theorem Mach.cfgLanded_acc (m : Mach) (j : Fin 32) : (m.cfgLanded j.val).asy.accs[j].n = 0 ∧ (m.cfgLanded j.val).asy.accs[j].sum = 0 ∧
    (m.cfgLanded j.val).asy.accs[j].lo = none ∧ (m.cfgLanded j.val).asy.accs[j].starts = 0 := by
  unfold Mach.cfgLanded
  dsimp only
  generalize hn : ((m.haltAcc j.val).modAcc j.val fun a => { a with starts := 0, lo := none, hi := none, lastFlags := 0, latched := a.latched && m.accOn j.val }) = n
  have hacc : ∃ acc : Accu, n.asy.accs[j] = { acc with starts := 0, lo := none, sum := 0, n := 0 } := by
    rw [← hn]
    have hhalt : (m.haltAcc j.val).asy.accs[j] = { m.asy.accs[j] with sum := 0, n := 0, flags := m.windowFlags (m.accInput j.val) } :=
      (vmod_get ..).trans (if_pos rfl)
    refine ⟨{ m.asy.accs[j] with
      flags := m.windowFlags (m.accInput j.val), hi := none, lastFlags := 0, latched := m.asy.accs[j].latched && m.accOn j.val }, ?_⟩
    exact ((vmod_get ..).trans (if_pos rfl)).trans (by rw [hhalt])
  obtain ⟨reqs, accs, missed, hcont, hsame⟩ := n.continuous_acc j true
  obtain ⟨dropped, hdropped, -⟩ := hsame j
  rw [if_pos rfl] at hcont
  obtain ⟨acc, hacc⟩ := hacc
  rw [hcont]
  dsimp only
  rw [hdropped, hacc]
  exact ⟨rfl, rfl, rfl, rfl⟩

theorem Mach.cfgLanded_dec (m : Mach) (j : Nat) : (m.cfgLanded j).dec = m.dec := by
  unfold Mach.cfgLanded
  simp [Mach.haltAcc]

theorem Mach.trackers_get (m : Mach) (j : Fin 32) : m.trackers.asy.accs[j] =
    if bitOf m.asy.trkClr j.val then
      { m.asy.accs[j] with loCopy := m.asy.accs[j].lo.getD 0x7FFFFFFF, hiCopy := m.asy.accs[j].hi.getD (-0x80000000), lo := none, hi := none }
    else { m.asy.accs[j] with loCopy := m.asy.accs[j].lo.getD 0x7FFFFFFF, hiCopy := m.asy.accs[j].hi.getD (-0x80000000) } :=
  m.modAccs_get _ j

/-- A register landing that changes no other value. -/
theorem Mach.landReg_values {m : Mach} {a : Nat} {v : Word} (hok : valueOk a v = true) (honce : atOnce a = true) (hrange : ¬ (0x2600 ≤ a ∧ a < 0x2700))
    (hwaiting : m.dec.waiting = false) (hwf : swf resetOf m.par.landed = true)
    (hkeeps : ∀ hall, (({ m with hall } : Mach).landOne none a v).dec = m.dec ∧ (({ m with hall } : Mach).landOne none a v).par = (m.pset a v).par ∧
      (({ m with hall } : Mach).landOne none a v).mem = m.mem) :
    (∀ b, (m.landReg a v).pval b = if b = a then v else m.pval b) ∧ (m.landReg a v).mem = m.mem ∧
      ∃ (n : Mach) (hall : Hall), m.landReg a v = n.serve ∧ n.asy = (({ m with hall } : Mach).landOne none a v).asy := by
  obtain ⟨hall, pins, hland⟩ := Mach.landReg_one hok (quireBound_of_atOnce honce) hrange fun hall => (congrArg (·.waiting) (hkeeps hall).1).trans hwaiting
  obtain ⟨-, hpar, hmem⟩ := hkeeps hall
  refine ⟨fun b => ?_, ?_, ⟨_, hall, hland, rfl⟩⟩
  · have hlanded : (m.landReg a v).par.landed = (m.pset a v).par.landed := by
      rw [hland]
      simp only [Mach.serve_keeps, hpar]
    exact (congrArg (sget resetOf · b) hlanded).trans (pval_pset m _ _ v hwf)
  · rw [hland]
    simp only [Mach.serve_keeps, hmem]

theorem Mach.asyCtl_dec (m : Mach) : m.asyCtl.dec = m.dec := by
  unfold Mach.asyCtl
  split
  · simp
  · exact m.asyStop_dec

/-- `ASY.CTL` landing: the Assay starts or stops by it (R675, R676). -/
theorem Mach.landReg_asyCtl {m : Mach} {v : Word} (hok : valueOk 0x27D0 v = true) (hwaiting : m.dec.waiting = false) (hwf : swf resetOf m.par.landed = true) :
    (∀ b, (m.landReg 0x27D0 v).pval b = if b = 0x27D0 then v else m.pval b) ∧ (m.landReg 0x27D0 v).mem = m.mem ∧
    (bitOf v 0 = true → m.boot.readIn = true → m.pwr.stage < 6 → (m.landReg 0x27D0 v).asy.started = true) ∧
    (bitOf v 0 = false → m.asy.started = true → (m.landReg 0x27D0 v).asy.started = false ∧ (m.landReg 0x27D0 v).asy.reqs = [] ∧
      (m.landReg 0x27D0 v).asy.sar1 = none ∧ (m.landReg 0x27D0 v).asy.sar2 = none ∧ (m.landReg 0x27D0 v).asy.int = none ∧
      ∀ j : Fin 32, (m.landReg 0x27D0 v).asy.accs[j].n = 0 ∧ (m.landReg 0x27D0 v).asy.accs[j].sum = 0) := by
  obtain ⟨hvalue, hmem, n, hall, hland, hasy⟩ := Mach.landReg_values hok atOnce_asyCtl (by decide) hwaiting hwf fun hall => by
    rw [Mach.landOne_asyCtl]
    exact ⟨Mach.asyCtl_dec _, by simp, by simp⟩
  have hctl : bitOf ((({ m with hall } : Mach).pset 0x27D0 v).pval 0x27D0) 0 = bitOf v 0 := by
    rw [pval_pset ({ m with hall } : Mach) _ _ v hwf, if_pos rfl]
  rw [Mach.landOne_asyCtl, Mach.asyCtl, hctl] at hasy
  refine ⟨hvalue, hmem, fun hbit hread hstage => ?_, fun hbit hstarted => ?_⟩
  · rw [if_pos hbit] at hasy
    rw [hland, n.serve_run.1, hasy]
    cases hstarted : m.asy.started with
    | true => exact (congrArg (·.asy.started) (Mach.asyStart_of_not (m := ({ m with hall } : Mach).pset 0x27D0 v) (.inl hstarted))).trans hstarted
    | false => exact (Mach.asyStart_of_ready (m := ({ m with hall } : Mach).pset 0x27D0 v) hstarted hread (hctl.trans hbit) hstage).1
  · rw [if_neg (by rw [hbit]; decide)] at hasy
    have hstop := Mach.asyStop_of_started (m := ({ m with hall } : Mach).pset 0x27D0 v) hstarted
    rw [← hasy] at hstop
    have hserve : n.serve = n := if_neg (by rw [hstop.1]; decide)
    rw [hland, hserve]
    exact hstop

/-- A setting of accumulator j landing (R658). -/
theorem Mach.landReg_emptied {m : Mach} {a : Nat} {v : Word} (j : Fin 32) (hok : valueOk a v = true) (honce : atOnce a = true)
    (hrange : ¬ (0x2600 ≤ a ∧ a < 0x2700)) (hwaiting : m.dec.waiting = false) (hwf : swf resetOf m.par.landed = true)
    (hland : ∀ hall, (({ m with hall } : Mach).landOne none a v).asy = ((({ m with hall } : Mach).pset a v).cfgLanded j.val).asy ∧
      (({ m with hall } : Mach).landOne none a v).dec = ((({ m with hall } : Mach).pset a v).cfgLanded j.val).dec ∧
      (({ m with hall } : Mach).landOne none a v).par = ((({ m with hall } : Mach).pset a v).cfgLanded j.val).par ∧
      (({ m with hall } : Mach).landOne none a v).mem = ((({ m with hall } : Mach).pset a v).cfgLanded j.val).mem) :
    (∀ b, (m.landReg a v).pval b = if b = a then v else m.pval b) ∧ (m.landReg a v).mem = m.mem ∧
      (m.landReg a v).asy.accs[j].n = 0 ∧ (m.landReg a v).asy.accs[j].sum = 0 ∧ (m.landReg a v).asy.accs[j].lo = none ∧
      (m.landReg a v).asy.accs[j].starts = 0 := by
  obtain ⟨hvalue, hmem, n, hall, hreg, hasy⟩ := Mach.landReg_values hok honce hrange hwaiting hwf fun hall => by
    obtain ⟨-, hdec, hpar, hmem⟩ := hland hall
    exact ⟨hdec.trans (Mach.cfgLanded_dec _ _), hpar.trans (by simp), hmem.trans (by simp)⟩
  have hacc := Mach.cfgLanded_acc (({ m with hall } : Mach).pset a v) j
  rw [← (hland hall).1, ← hasy] at hacc
  obtain ⟨_, _, _, _, _, _, _, _, hserve⟩ := n.serve_eq
  refine ⟨hvalue, hmem, ?_⟩
  rw [hreg, hserve]
  exact hacc

end Sys2Proof.Machine

open Sys2Proof.Machine

/-- Settles O53: a request served is a conversion or waits still, serving leaves the windows alone, and a result changes its own window. -/
theorem assayRequestsAndWindowsWork : Obligations.AssayRequestsAndWindowsWork := by
  refine ⟨fun s hawake hstopped hread hctl hstage => ?_, fun v s hawake hbit hok hread hstage hwaiting hwf => ?_, fun v s hbit => ?_, fun s hnot => ?_,
    fun v s hawake hstarted hbit hok hwaiting hwf => ?_, fun v s hbit => ?_, fun j s hawake hstarted hon hfree hkick => ⟨?_, fun hstarts => ?_⟩,
    fun js s hawake hnone => ?_, fun c o s hconv => ?_, fun c o j k s hawake hconv hdrop hjob => ?_, fun v s hawake hwork => ?_, fun v s hawake hwork => ?_,
    fun j time v s hawake hwaiting hwf => ?_⟩
  · obtain ⟨hstarted, hzero⟩ := Mach.asyStart_of_ready hstopped hread hctl hstage
    exact ⟨_, State.run_to (f := (·.asyStart)) hawake rfl, rfl, hstarted, hzero, by simp, by simp, by simp⟩
  · obtain ⟨hvalue, hmem, hstart, -⟩ := Mach.landReg_asyCtl hok hwaiting hwf
    exact ⟨_, State.run_to (f := (·.assayStart (some v))) hawake (if_pos hbit), rfl, hstart hbit hread hstage, (hvalue _).trans (if_pos rfl),
      fun b hb => (hvalue b).trans (if_neg hb), hmem⟩
  · exact State.run_of_eq (f := (·.assayStart (some v))) (if_neg (by rw [hbit]; decide))
  · exact State.run_of_eq (f := (·.asyStart)) (Mach.asyStart_of_not hnot)
  · obtain ⟨hvalue, hmem, -, hstop⟩ := Mach.landReg_asyCtl hok hwaiting hwf
    obtain ⟨hstopped, hreqs, hsar1, hsar2, hint, haccs⟩ := hstop hbit hstarted
    exact ⟨_, State.run_to (f := fun m => if bitOf v 0 then m else m.landReg 0x27D0 v) hawake (if_neg (by rw [hbit]; decide)), rfl, hstopped, hreqs, hsar1,
      hsar2, hint, haccs, (hvalue _).trans (if_pos rfl), fun b hb => (hvalue b).trans (if_neg hb), hmem⟩
  · exact State.run_of_eq (f := fun m => if bitOf v 0 then m else m.landReg 0x27D0 v) (if_pos hbit)
  · obtain ⟨asy, hserved, hwaits, hruns⟩ := Mach.request_served (m := { s.m with asy := { s.m.asy with kick := 0 } }) (j := j) hstarted hon hfree
    refine ⟨_, State.run_to (f := fun m => (m.kickLanded ((1 : BitVec 32) <<< j.val)).kicks) hawake ((Mach.kick_single j hkick).trans hserved), rfl, fun h => ?_, hruns⟩
    obtain ⟨hmissed, haccs⟩ := hwaits h
    refine ⟨hmissed, ?_⟩
    dsimp only
    rw [haccs, vmod_get, if_pos rfl]
  · obtain ⟨asy, hserved, hwaits, hruns⟩ := Mach.request_served (m := s.m.modAccs fun i a => if decide (i = j.val) then { a with starts := a.starts - 1 } else a)
      (j := j) hstarted hon hfree
    have hmod (i : Fin 32) := s.m.modAccs_get (fun i a => if decide (i = j.val) then { a with starts := a.starts - 1 } else a) i
    have hj : (s.m.modAccs fun i a => if decide (i = j.val) then { a with starts := a.starts - 1 } else a).asy.accs[j] =
        { s.m.asy.accs[j] with starts := s.m.asy.accs[j].starts - 1 } := (hmod j).trans (if_pos (decide_eq_true rfl))
    have hother {i : Fin 32} (hi : i ≠ j) : (s.m.modAccs fun i a => if decide (i = j.val) then { a with starts := a.starts - 1 } else a).asy.accs[i] =
        s.m.asy.accs[i] := (hmod i).trans (if_neg (by simpa using fun h => hi (Fin.ext h)))
    refine ⟨_, State.run_to (f := (·.assayRequest ((1 : BitVec 32) <<< j.val))) hawake ((Mach.assayRequest_single hstarts).trans hserved), rfl, ?_⟩
    dsimp only
    cases hwait : s.m.asy.reqs.any fun r => r.job == .acc j.val with
    | true =>
      obtain ⟨hmissed, haccs⟩ := hwaits hwait
      have hget (i : Fin 32) := vmod_get (s.m.modAccs fun i a => if decide (i = j.val) then { a with starts := a.starts - 1 } else a).asy.accs j.val
        (fun a => { a with dropped := min (a.dropped + 1) 255 }) i
      rw [haccs]
      refine ⟨(congrArg Accu.starts (hget j)).trans ?_, fun i hi => (hget i).trans ((if_neg fun h => hi (Fin.ext h.symm)).trans (hother hi)),
        fun _ => ⟨hmissed, (congrArg Accu.dropped (hget j)).trans ?_⟩, fun h => absurd h (by decide)⟩
      · rw [if_pos rfl, hj]
      · rw [if_pos rfl, hj]
    | false =>
      obtain ⟨hmissed, haccs, hholds⟩ := hruns hwait
      rw [haccs, hj]
      exact ⟨rfl, fun i hi => hother hi, fun h => absurd h (by decide), fun _ => ⟨hmissed, rfl, hholds⟩⟩
  · obtain ⟨_, _, _, _, _, _, _, _, hserve⟩ := s.m.serve_eq
    exact ⟨_, State.run_to (f := (·.assayRequest js)) hawake ((Mach.assayRequest_none hnone).trans hserve), rfl, rfl, rfl⟩
  · exact State.run_of_eq (f := fun m => m.conversionEnd (s.before.getD s.m) c o) (by rw [Mach.conversionEnd, hconv])
  · obtain ⟨asy, hend, hconvs, hothers, hwithin, hlast⟩ := Mach.conversionEnd_of_acc (s.before.getD s.m) o hconv hdrop hjob
    exact ⟨_, State.run_to (f := fun m => m.conversionEnd (s.before.getD s.m) c o) hawake hend, rfl, hconvs, hothers, hwithin, hlast⟩
  · exact State.run_to (f := fun m => if s.work < 9 then m.trkClear v else (m.trkClear v).trackers) hawake (if_pos hwork)
  · refine ⟨_, State.run_to (f := fun m => if s.work < 9 then m.trkClear v else (m.trkClear v).trackers) hawake (if_neg (by omega)), rfl, fun j => ?_⟩
    have hget := (s.m.trkClear v).trackers_get j
    refine ⟨?_, ?_, fun hbit => ?_⟩
    · exact (congrArg Accu.loCopy hget).trans (by split <;> rfl)
    · exact (congrArg Accu.n hget).trans (by split <;> rfl)
    · have hclr : bitOf (s.m.trkClear v).asy.trkClr j.val = true := by
        simp only [Mach.trkClear, bitOf, BitVec.getLsbD_or] at hbit ⊢
        rw [hbit, Bool.or_true]
      rw [if_pos hclr] at hget
      exact ⟨congrArg Accu.lo hget, congrArg Accu.hi hget⟩
  · intro a hok
    have hland : ∀ hall, (({ s.m with hall } : Mach).landOne none a v).asy = ((({ s.m with hall } : Mach).pset a v).cfgLanded j.val).asy ∧
        (({ s.m with hall } : Mach).landOne none a v).dec = ((({ s.m with hall } : Mach).pset a v).cfgLanded j.val).dec ∧
        (({ s.m with hall } : Mach).landOne none a v).par = ((({ s.m with hall } : Mach).pset a v).cfgLanded j.val).par ∧
        (({ s.m with hall } : Mach).landOne none a v).mem = ((({ s.m with hall } : Mach).pset a v).cfgLanded j.val).mem := by
      intro hall
      cases time with
      | true =>
        rw [show a = 0x2780 + j.val from rfl, Mach.landOne_asyTime]
        exact ⟨rfl, rfl, rfl, rfl⟩
      | false =>
        rw [show a = 0x2700 + 4 * j.val from rfl, Mach.landOne_asyCfg]
        simp
    have honce : atOnce a = true := by
      cases time
      · exact (atOnce_asySettings j).1
      · exact (atOnce_asySettings j).2
    have hrange : ¬ (0x2600 ≤ a ∧ a < 0x2700) := by
      cases time <;> simp only [a, Bool.false_eq_true, if_false, if_true] <;> omega
    obtain ⟨hvalue, hmem, hn, hsum, hlo, hstarts⟩ := Mach.landReg_emptied j hok honce hrange hwaiting hwf hland
    exact ⟨_, State.run_to (f := (·.landReg a v)) hawake rfl, rfl, (hvalue _).trans (if_pos rfl), fun b hb => (hvalue b).trans (if_neg hb),
      hn, hsum, hlo, hstarts, hmem⟩
end

section
/-! SUPPORT. Shedding stages entered and left, power domains that switch off and on, rails that return, and the statement about them
(R92 to R96, R104 to R131). -/

namespace Sys2Proof.Machine

/-! ### Nothing running and nothing waiting in the control port -/

/-- Stage 6 leaves no quire running, nothing staged over SPI and no commit of the host (R112). -/
structure Mach.Quiet (m : Mach) : Prop where
  idle : m.running = false
  staging : (m.session .spi).staging = []
  commit : (m.session .host).commit = none

namespace Mach.Quiet

variable {m n : Mach}

theorem same (h : m.Quiet) (hs : (n.qre, n.ctl.spi, n.ctl.host) = (m.qre, m.ctl.spi, m.ctl.host)) : n.Quiet := by
  obtain ⟨hidle, hstaging, hcommit⟩ := h
  obtain ⟨hqre, hspi, hhost⟩ : n.qre = m.qre ∧ n.ctl.spi = m.ctl.spi ∧ n.ctl.host = m.ctl.host := by simpa using hs
  refine ⟨by rw [← hidle, Mach.running, Mach.running, hqre], ?_, ?_⟩
  · rw [Mach.session, hspi]; exact hstaging
  · rw [Mach.session, hhost]; exact hcommit

theorem ite {c : Prop} [Decidable c] (ht : m.Quiet) (hf : n.Quiet) : (if c then m else n).Quiet := by
  split
  · exact ht
  · exact hf

theorem foldl {α : Type} {f : Mach → α → Mach} (hf : ∀ m x, m.Quiet → (f m x).Quiet) (l : List α) (h : m.Quiet) : (l.foldl f m).Quiet := by
  induction l generalizing m with
  | nil => exact h
  | cons x t ih => exact ih (hf m x h)

theorem raised (h : m.Quiet) (classes : List Nat) (hqre : n.qre = m.qre) (hctl : n.ctl = m.ctl.noteRaises classes) : n.Quiet := by
  obtain ⟨hidle, hstaging, hcommit⟩ := h
  obtain ⟨hs, _⟩ := m.ctl.spi.noteRaises_keeps classes
  obtain ⟨_, _, _, _, _, hc, _⟩ := m.ctl.host.noteRaises_keeps classes
  refine ⟨by rw [← hidle, Mach.running, Mach.running, hqre], ?_, ?_⟩
  · rw [Mach.session, hctl]; exact hs.trans hstaging
  · rw [Mach.session, hctl, ← Option.isSome_eq_false_iff.trans Option.isNone_iff_eq_none]
    exact hc.trans (by rw [show m.ctl.host.commit = none from hcommit]; rfl)

theorem logEvent (h : m.Quiet) (plane : Plane) (code a b : Nat) (origin : Option Master) (cls : Option Nat) :
    (m.logEvent plane code a b origin cls).Quiet := by
  obtain ⟨classes, hctl⟩ := m.logEvent_ctl plane code a b origin cls
  exact h.raised classes (by simp) hctl

theorem chainFail (h : m.Quiet) (cause : Nat) : (m.chainFail cause).Quiet := ite (h.same (by rfl)) h

theorem dropInserts (h : m.Quiet) (k : Option Master) : (m.dropInserts k).Quiet := by
  unfold Mach.dropInserts
  exact ite h (logEvent (h.same (by rfl)) ..)

theorem discard (h : m.Quiet) (k : Master) : (m.discard k).Quiet := by
  obtain ⟨hidle, hstaging, hcommit⟩ := h
  cases k
  · exact ⟨hidle, rfl, hcommit⟩
  · exact ⟨hidle, hstaging, rfl⟩

theorem forfeit (h : m.Quiet) (n cause : Nat) : (m.forfeit n cause).Quiet := same (h.logEvent ..) (by rfl)

theorem sessionReset (h : m.Quiet) (k : Master) (cause : Nat) : (m.sessionReset k cause).Quiet := by
  unfold Mach.sessionReset
  exact (foldl (fun _ _ hx => ite (hx.forfeit _ _) hx) _ (h.discard k)).dropInserts _

theorem sealFails (h : m.Quiet) (cause : Nat) : (m.sealFails cause).Quiet := by
  unfold Mach.sealFails
  split
  · exact h
  unfold Mach.certLost
  exact ite (logEvent (h.same (by rfl)) ..) (h.same (by rfl))

/-! ### The Assay stopped -/

theorem isoLog (h : m.Quiet) (arisen : BitVec 4) : (m.isoLog arisen).Quiet :=
  foldl (fun _ _ hx => ite (logEvent (hx.same (by rfl)) ..) hx) _ h

theorem noteNow (h : m.Quiet) : m.noteNow.Quiet := ite h (h.same (by rfl))

theorem isoGo (h : m.Quiet) (st : IsoSt) : (m.isoGo st).Quiet := by
  unfold Mach.isoGo
  split
  · exact h
  have h2 := fun iso => logEvent (m := { m.noteNow with iso }) (h.noteNow.same (by rfl)) .management 0x0B05 st.code 0 none none
  exact ite (chainFail (h2 _) 15) (h2 _)

theorem isoCheck (h : m.Quiet) : m.isoCheck.Quiet := by
  unfold Mach.isoCheck
  split
  · exact h
  have h1 := fun iso => isoLog (m := { m with iso }) (h.same (by rfl)) (m.isoCauses &&& ~~~m.iso.causes)
  exact ite (isoGo (h1 _) .fault) (ite (isoGo (h1 _) .warming) (h1 _))

theorem continuous (h : m.Quiet) (p : Nat → Bool) : (m.continuous p).Quiet := by
  obtain ⟨reqs, accs, missed, heq⟩ := m.requests_eq fun j => p j && m.accSource j == 3
  rw [Mach.continuous, heq]
  exact h.same (by rfl)

theorem resumeSet (h : m.Quiet) (x : Nat) : (m.resumeSet x).Quiet := by
  unfold Mach.resumeSet
  exact continuous (foldl (fun _ _ hx => hx.same (by rfl)) _ (h.same (by rfl))) _

theorem pointFail (h : m.Quiet) (cause : Nat) : (m.pointFail cause).Quiet := by
  unfold Mach.pointFail
  split
  · exact h
  · exact resumeSet (logEvent (h.same (by rfl)) ..) _

theorem asyStop (h : m.Quiet) : m.asyStop.Quiet := by
  unfold Mach.asyStop
  exact ite h (isoCheck (same ((h.chainFail 18).pointFail 3) (by rfl)))

/-! ### Ports and the Mint -/

theorem telIrq (h : m.Quiet) (c k : Nat) : (m.telIrq c k false).Quiet := by
  unfold Mach.telIrq
  simp only [Bool.and_false, Bool.false_eq_true, if_false]
  exact ite (h.same (by simp)) (h.same (by rfl))

theorem telFail (h : m.Quiet) (c cause : Nat) : (m.telFail c cause).Quiet :=
  ite (h.same (by rfl)) (telIrq (logEvent (h.same (by rfl)) ..) c 2)

theorem telPortDown (h : m.Quiet) (p : Nat) : (m.telPortDown p).Quiet := foldl (fun _ _ hx => ite (hx.telFail _ 7) hx) _ h

theorem volGo (h : m.Quiet) (st : VolSt) : (m.volGo st).Quiet := by
  unfold Mach.volGo
  exact ite h (logEvent (h.same (by rfl)) ..)

theorem volStep (h : m.Quiet) : m.volStep.Quiet := by
  unfold Mach.volStep
  split
  · exact h.volGo _
  split
  · exact h.volGo _
  · exact ite ((h.volGo .formed).same (by simp)) h
  · exact ite h (h.volGo _)
  · exact ite (h.volGo _) h

theorem volAdrift (h : m.Quiet) : m.volAdrift.Quiet := by
  unfold Mach.volAdrift
  exact ite (h.noteNow.same (by rfl)) (ite h (logEvent (h.same (by rfl)) ..))

theorem volState (h : m.Quiet) : m.volState.Quiet := h.volStep.volStep.volAdrift

theorem volLeave (h : m.Quiet) (i : Nat) : (m.volLeave i).Quiet := by
  unfold Mach.volLeave
  split
  · exact h.volState
  extract_lets m1 m2
  have h1 : m1.Quiet := h.same (by rfl)
  have hsame : m2 = m1 := if_neg (by rw [h1.idle]; simp)
  exact (hsame ▸ h1 : m2.Quiet).volState

theorem linkDown (h : m.Quiet) (i cause : Nat) : (m.linkDown i cause).Quiet := by
  unfold Mach.linkDown
  split
  · exact h
  extract_lets m1 m2 ctl m3 m4
  have h1 : m1.Quiet := h.same (by simp [m1])
  have h2 : m2.Quiet := h1.logEvent ..
  have h3 : m3.Quiet := ite (sessionReset (h2.same (by rfl)) _ _) h2
  have h4 : m4.Quiet := h3.telPortDown i
  exact ite h4 (h4.volLeave i)

theorem portsSettle (h : m.Quiet) (cause : Nat) : (m.portsSettle cause).Quiet := by
  refine foldl (fun m i hx => ?_) _ h
  have hdown : (m.linkDown i cause).Quiet := hx.linkDown i cause
  have hmod := fun f => same (n := (m.linkDown i cause).modPort i f) hdown rfl
  exact ite (ite (hx.same (by rfl)) hx) (ite hdown (ite hdown (hmod _)))

theorem trimGo (h : m.Quiet) (st : TrimSt) : (m.trimGo st).Quiet := by
  unfold Mach.trimGo
  exact ite h (logEvent (h.noteNow.same (by rfl)) ..)

theorem pilotLoss (h : m.Quiet) : m.pilotLoss.Quiet := by
  have hgo : ((m.logEvent .data 0x0505 0 0).trimGo .unsettled).Quiet := (h.logEvent ..).trimGo .unsettled
  exact ite (hgo.same (by rfl)) h

theorem driveCode (h : m.Quiet) (c : BitVec 14) : (m.driveCode c).Quiet := ite h (h.same (by rfl))

theorem mintDrive (h : m.Quiet) : m.mintDrive.Quiet :=
  ite (h.same (by rfl)) (ite (driveCode (h.same (by rfl)) _) (ite h (ite (driveCode (h.same (by rfl)) _) (h.driveCode _))))

theorem mintUpdate (h : m.Quiet) : m.mintUpdate.Quiet := by
  refine mintDrive ?_
  unfold Mach.mintSettle
  extract_lets st old mnt m1 m2
  refine ite h ?_
  have h1 : m1.Quiet := h.same (by rfl)
  have h2 : m2.Quiet := ite (h1.chainFail 11).mintDrive h1
  exact ite h2.pilotLoss h2

end Mach.Quiet

/-! ### Domains switched off -/

theorem Mach.domOff_pwr (m : Mach) (d cause : Nat) : (m.domOff d cause).pwr = { m.pwr with dom := vset m.pwr.dom d .off } := by
  unfold Mach.domOff
  split
  next hoff => rw [show vset m.pwr.dom d .off = m.pwr.dom from (eq_of_beq hoff) ▸ vset_vget m.pwr.dom d]
  next =>
    dsimp only
    split <;> simp [Mach.setDom, Mach.auxOff, Mach.scanOff]

theorem Mach.domOff_off (m : Mach) (d : Fin 8) (cause : Nat) : (m.domOff d.val cause).pwr.dom[d] = .off := by
  rw [m.domOff_pwr]; exact (vset_get ..).trans (if_pos rfl)

theorem Mach.dspTakeAll_landed (m : Mach) (bad : Bool) : (m.dspTakeAll bad).par.landed = m.par.landed := by
  unfold Mach.dspTakeAll Mach.dspTake
  dsimp only
  (repeat' split) <;> simp

@[simp] theorem Mach.scanOff_landed (m : Mach) : m.scanOff.par.landed = m.par.landed := by
  unfold Mach.scanOff
  split
  · rfl
  · exact Mach.dspTakeAll_landed _ false

@[simp] theorem Mach.domOff_landed (m : Mach) (d cause : Nat) : (m.domOff d cause).par.landed = m.par.landed := by
  unfold Mach.domOff
  split
  · rfl
  · dsimp only
    split <;> simp [Mach.setDom, Mach.auxOff]

/-- Stage 6 switches these domains off with nothing begun in the control port. -/
theorem Mach.Quiet.domOff {m : Mach} (h : m.Quiet) (d : Nat) (cause : Nat) (hd : d ∈ [4, 5, 7, 1]) : (m.domOff d cause).Quiet := by
  unfold Mach.domOff
  refine Mach.Quiet.ite h ?_
  have h1 : (m.setDom d .off).Quiet := h.same (by rfl)
  simp only [List.mem_cons, List.not_mem_nil, or_false] at hd
  obtain rfl | rfl | rfl | rfl := hd
  · exact h1.same (by rfl)
  · exact h1.portsSettle cause
  · exact Mach.Quiet.mintUpdate (h1.same (by rfl))
  · exact h1.same (by rfl)

/-! ### The actions of a stage -/

/-- What the actions of a stage do to the power state: domains go off, and none comes back. -/
structure Pwr.Sheds (p q : Pwr) : Prop where
  rest : q = { p with dom := q.dom, in34Down := q.in34Down, fromStage6 := q.fromStage6, record := q.record, shedOk := q.shedOk }
  off : ∀ d : Fin 8, p.dom[d] = .off → q.dom[d] = .off

namespace Pwr.Sheds

variable {p q r : Pwr}

theorem refl (p : Pwr) : p.Sheds p := ⟨rfl, fun _ => id⟩

theorem trans (h : p.Sheds q) (h' : q.Sheds r) : p.Sheds r := by
  obtain ⟨hq, hoff⟩ := h
  obtain ⟨hr, hoff'⟩ := h'
  exact ⟨by rw [hr, hq], fun d hd => hoff' d (hoff d hd)⟩

theorem domOff (h : p.Sheds q) (d : Nat) : p.Sheds { q with dom := vset q.dom d .off } := by
  refine h.trans ⟨rfl, fun e he => ?_⟩
  rw [vset_get, he, ite_self]

end Pwr.Sheds

theorem Mach.domOff_sheds {m : Mach} {p : Pwr} (h : p.Sheds m.pwr) (d cause : Nat) : p.Sheds (m.domOff d cause).pwr := by
  rw [m.domOff_pwr]; exact h.domOff d

theorem Mach.ldgStop_power (m : Mach) : m.ldgStop.pwr = m.pwr ∧ m.ldgStop.par = m.par := by
  unfold Mach.ldgStop
  dsimp only
  (repeat' split) <;> simp

theorem Mach.asyStop_power (m : Mach) : m.asyStop.pwr = m.pwr ∧ m.asyStop.par = m.par := by
  unfold Mach.asyStop
  split <;> simp

theorem Mach.stageSix_sheds (m : Mach) (rail : Nat) : m.pwr.Sheds (m.stageSix rail).pwr := by
  unfold Mach.stageSix
  extract_lets m1 ctl pwr m2 vlt m3 m4 m5
  have h3 : m3.pwr = m2.pwr := by dsimp only [m3]; split <;> rfl
  have h4 : m4.pwr = { m.pwr with fromStage6 := true } := by
    rw [(Mach.asyStop_power _).1, show (m3.sealFails 9).telAbandon.pwr = (m3.sealFails 9).pwr from rfl]
    simp [h3, m2, pwr, m1]
  have h4' : m.pwr.Sheds m4.pwr := by rw [h4]; exact ⟨rfl, fun _ => id⟩
  have h5 : m.pwr.Sheds m5.pwr := Mach.domOff_sheds (Mach.domOff_sheds (Mach.domOff_sheds (Mach.domOff_sheds h4' 4 7) 5 7) 7 7) 1 7
  have hrecord : ∀ (p : Pwr) record shedOk, p.Sheds { p with record, shedOk } := fun _ _ _ => ⟨rfl, fun _ => id⟩
  exact h5.trans (hrecord ..)

theorem Mach.stageAction_sheds (m : Mach) (k rail : Nat) : m.pwr.Sheds (m.stageAction k rail).pwr := by
  have hquire : m.pwr.Sheds m.shedQuire.pwr := by rw [show m.shedQuire.pwr = m.pwr by simp]; exact .refl _
  unfold Mach.stageAction
  split
  · exact Mach.domOff_sheds (.refl _) 6 7
  · rw [show ∀ x : Mach, (x.portsSettle 7).pwr = x.pwr by simp]; exact .refl _
  · rw [(Mach.ldgStop_power _).1]
    split
    · exact hquire
    · exact .refl _
  · dsimp only [Mach.undecide]
    exact hquire.trans ⟨rfl, fun _ => id⟩
  · rw [show ∀ x : Mach, x.mintUpdate.pwr = x.pwr by simp]
    exact Mach.domOff_sheds (Mach.domOff_sheds hquire 3 7) 2 7
  · exact m.stageSix_sheds rail

@[simp] theorem Mach.stageAction_landed (m : Mach) (k rail : Nat) : (m.stageAction k rail).par.landed = m.par.landed := by
  unfold Mach.stageAction
  split
  · simp
  · simp
  · rw [(Mach.ldgStop_power _).2]
    split <;> simp
  · simp [Mach.undecide]
  · simp
  · unfold Mach.stageSix
    dsimp only
    rw [Mach.domOff_landed, Mach.domOff_landed, Mach.domOff_landed, Mach.domOff_landed, (Mach.asyStop_power _).2]
    dsimp only [Mach.telAbandon]
    split <;> simp

theorem Mach.stageActions_sheds (m : Mach) (ks : List Nat) (rail : Nat) :
    m.pwr.Sheds (ks.foldl (fun m k => m.stageAction k rail) m).pwr ∧
    (ks.foldl (fun m k => m.stageAction k rail) m).par.landed = m.par.landed := by
  induction ks generalizing m with
  | nil => exact ⟨.refl _, rfl⟩
  | cons k ks ih =>
    obtain ⟨hsheds, hlanded⟩ := ih (m.stageAction k rail)
    exact ⟨(m.stageAction_sheds k rail).trans hsheds, hlanded.trans (m.stageAction_landed k rail)⟩

/-- A domain that the action of one of the stages switches off is off once all have acted. -/
theorem Mach.stageActions_off {ks : List Nat} {k : Nat} {d : Fin 8} (rail : Nat) (hk : k ∈ ks)
    (hoff : ∀ m : Mach, (m.stageAction k rail).pwr.dom[d] = .off) (m : Mach) : (ks.foldl (fun m k => m.stageAction k rail) m).pwr.dom[d] = .off := by
  induction ks generalizing m with
  | nil => exact absurd hk List.not_mem_nil
  | cons x ks ih =>
    rcases List.mem_cons.mp hk with rfl | hk
    · exact ((m.stageAction k rail).stageActions_sheds ks rail).1.off d (hoff m)
    · exact ih hk _

theorem Mach.stageAction_one_off (m : Mach) (rail : Nat) : (m.stageAction 1 rail).pwr.dom[(6 : Fin 8)] = .off := m.domOff_off 6 7

theorem Mach.stageAction_five (m : Mach) (rail : Nat) : (m.stageAction 5 rail).pwr.dom[(2 : Fin 8)] = .off ∧
    (m.stageAction 5 rail).pwr.dom[(3 : Fin 8)] = .off := by
  rw [show (m.stageAction 5 rail).pwr = ((m.shedQuire.domOff 3 7).domOff 2 7).pwr from (Mach.mintUpdate_keeps _).2.2.1]
  exact ⟨Mach.domOff_off _ 2 7, (Mach.domOff_sheds (.refl _) 2 7).off 3 (Mach.domOff_off _ 3 7)⟩

/-- The domains that stage 6 itself switches off. -/
theorem Mach.stageSix_dom (m : Mach) (rail : Nat) : ∃ dom, (m.stageSix rail).pwr.dom = vset (vset (vset (vset dom 4 .off) 5 .off) 7 .off) 1 .off := by
  unfold Mach.stageSix
  extract_lets m1 ctl pwr m2 vlt m3 m4 m5
  have h5 : m5.pwr.dom = vset (vset (vset (vset m4.pwr.dom 4 .off) 5 .off) 7 .off) 1 .off := by simp only [m5, Mach.domOff_pwr]
  clear_value m5
  exact ⟨m4.pwr.dom, h5⟩

theorem Mach.stageAction_six (m : Mach) (rail : Nat) : (∀ d : Fin 8, d.val ∈ [1, 4, 5, 7] → (m.stageAction 6 rail).pwr.dom[d] = .off) ∧
    (m.stageAction 6 rail).pwr.record.isSome = true := by
  refine ⟨fun d hd => ?_, rfl⟩
  obtain ⟨dom, hdom⟩ := m.stageSix_dom rail
  change (m.stageSix rail).pwr.dom[d] = .off
  rw [hdom]
  simp only [List.mem_cons, List.not_mem_nil, or_false] at hd
  obtain h | h | h | h := hd <;> simp only [vset_get, h, if_true, ite_self]

/-! ### A quire stopped by a stage -/

theorem Mach.writeHeader_idle {m : Mach} (f : Folio) (h : m.running = false) : (m.writeHeader f).running = false := by
  have hst : (m.writeHeader f).qre.st = if m.qre.st == .closed && (m.qre.pend.drop 1).isEmpty then .idle else m.qre.st := by
    unfold Mach.writeHeader Mach.watermark
    dsimp only
    split <;> simp_all
  unfold Mach.running at h ⊢
  rw [hst]
  split
  · rfl
  · exact h

theorem Mach.shedQuire_running (m : Mach) : m.shedQuire.running = false := by
  unfold Mach.shedQuire Mach.shedHeaders
  exact List.foldlRecOn (motive := fun x : Mach => x.running = false) _ _ (m.stopQuire_running 6 m.tim.mono) fun x hx f _ => Mach.writeHeader_idle _ hx

theorem Mach.linkDown_host (m : Mach) (cause : Nat) :
    (m.linkDown 0 cause).qre = m.qre ∧ (m.linkDown 0 cause).dec = m.dec := by
  unfold Mach.linkDown
  split
  · exact ⟨rfl, rfl⟩
  · simp

theorem Mach.portsSettle_idle {m : Mach} (cause : Nat) (hidle : m.running = false) :
    (m.portsSettle cause).qre = m.qre ∧ (m.portsSettle cause).dec = m.dec := by
  unfold Mach.portsSettle
  refine List.foldlRecOn (motive := fun x : Mach => x.qre = m.qre ∧ x.dec = m.dec) _ _ ⟨rfl, rfl⟩ fun x hx i _ => ?_
  have hx' : x.running = false := by rw [Mach.running, hx.1]; exact hidle
  have hdown : (x.linkDown i cause).qre = m.qre ∧ (x.linkDown i cause).dec = m.dec := by
    rw [← hx.1, ← hx.2]
    by_cases hi : i = 0
    · exact hi ▸ x.linkDown_host cause
    · exact Mach.linkDown_idle hi cause hx'
  dsimp only
  (repeat' split) <;> simp_all

/-- With no quire running a domain that goes off leaves quire and decision as they were. -/
theorem Mach.domOff_idle {m : Mach} (d cause : Nat) (hidle : m.running = false) :
    (m.domOff d cause).qre = m.qre ∧ (m.domOff d cause).dec = m.dec := by
  unfold Mach.domOff
  split
  · exact ⟨rfl, rfl⟩
  dsimp only
  split
  · exact ⟨rfl, rfl⟩
  · simp [Mach.auxOff, Mach.undecide, Mach.setDom]
  · have hgate : (m.setDom 3 .off).mintStop.gateSlices.qre = m.qre ∧ (m.setDom 3 .off).mintStop.gateSlices.dec = m.dec := by
      have hpoint : ∀ x : Mach, x.running = false → x.gateSlices.qre = x.qre ∧ x.gateSlices.dec = x.dec := by
        intro x hx
        unfold Mach.gateSlices
        dsimp only
        rw [Mach.stopQuire_of_idle _ _ (by rw [← hx, Mach.running, Mach.running]; split <;> simp)]
        split <;> simp [Mach.undecide]
      exact hpoint _ hidle
    simpa using hgate
  · exact ⟨rfl, rfl⟩
  · exact Mach.portsSettle_idle (m := m.setDom 5 .off) cause hidle
  · simp [Mach.scanOff, Mach.setDom]
  · simp [Mach.setDom]
  · exact ⟨rfl, rfl⟩

theorem Mach.stageAction_five_idle (m : Mach) (rail : Nat) : (m.stageAction 5 rail).running = false := by
  have hquire := m.shedQuire_running
  have hoff : (m.shedQuire.domOff 3 7).running = false := by rw [Mach.running, (Mach.domOff_idle 3 7 hquire).1]; exact hquire
  rw [Mach.running, show (m.stageAction 5 rail).qre = ((m.shedQuire.domOff 3 7).domOff 2 7).qre from by
    rw [show m.stageAction 5 rail = ((m.shedQuire.domOff 3 7).domOff 2 7).mintUpdate from rfl]; simp, (Mach.domOff_idle 2 7 hoff).1]
  exact hoff

/-- Stage 6, which begins with no quire running, leaves the control port empty (R112). -/
theorem Mach.stageSix_quiet {m : Mach} (rail : Nat) (hidle : m.running = false) : (m.stageSix rail).Quiet := by
  unfold Mach.stageSix
  extract_lets m1 ctl pwr m2 vlt m3 m4 m5
  have h0 : ((m.discard .spi).discard .host).Quiet := ⟨hidle, rfl, rfl⟩
  have h1 : m1.Quiet := h0.dropInserts none
  have h2 : m2.Quiet := h1.same (by rfl)
  have h3 : m3.Quiet := .ite (h2.same (by rfl)) h2
  have hseal : (m3.sealFails 9).telAbandon.Quiet := (h3.sealFails 9).same (by rfl)
  have h4 : m4.Quiet := hseal.asyStop
  have h5 : m5.Quiet := (((h4.domOff 4 7 (by decide)).domOff 5 7 (by decide)).domOff 7 7 (by decide)).domOff 1 7 (by decide)
  clear_value m5
  exact h5.same (by rfl)

/-! ### Domains switched on -/

theorem Mach.pval_of_landed {m n : Mach} (h : n.par.landed = m.par.landed) (a : Nat) : n.pval a = m.pval a := by
  rw [Mach.pval, Mach.pval, h]

/-- What switching domains on does: domains that are to be on and are off switch on, rails found low are absent, and no shedding stage,
count or record changes. -/
structure Mach.Switched (m n : Mach) : Prop where
  par : n.par = m.par
  rest : n.pwr = { m.pwr with
    dom := n.pwr.dom, rails := n.pwr.rails, switchQ := n.pwr.switchQ, checked := n.pwr.checked, heldOff := n.pwr.heldOff }
  dom : ∀ d : Fin 8, n.pwr.dom[d] = m.pwr.dom[d] ∨ m.pwr.dom[d] = .off ∧ m.domWant d.val = true ∧ n.pwr.dom[d] = .switching
  held : ∀ d, m.pwr.heldOff.getLsbD d = true → n.pwr.heldOff.getLsbD d = true
  quiet : m.Quiet → n.Quiet

namespace Mach.Switched

variable {m n l : Mach}

theorem refl (m : Mach) : m.Switched m := ⟨rfl, rfl, fun _ => .inl rfl, fun _ => id, id⟩

theorem fields (h : m.Switched n) : n.pwr.stage = m.pwr.stage ∧ n.pwr.hold = m.pwr.hold ∧ n.pwr.lastRail = m.pwr.lastRail ∧
    n.pwr.lastStage = m.pwr.lastStage ∧ n.pwr.cnt = m.pwr.cnt ∧ n.pwr.record = m.pwr.record ∧ n.pwr.entered = m.pwr.entered := by
  rw [h.rest]; exact ⟨rfl, rfl, rfl, rfl, rfl, rfl, rfl⟩

theorem stageOn (h : m.Switched n) (k : Nat) : n.stageOn k = m.stageOn k := by
  rw [Mach.stageOn, Mach.stageOn, h.fields.1, Mach.pval, Mach.pval, h.par]

/-- No domain becomes wanted. -/
theorem want (h : m.Switched n) (d : Nat) (hn : n.domWant d = true) : m.domWant d = true := by
  have hpval : n.pval 0x501 = m.pval 0x501 := Mach.pval_of_landed (by rw [h.par]) _
  have hheld : n.pwr.heldOff.getLsbD d = false → m.pwr.heldOff.getLsbD d = false := fun hf => by
    cases hm : m.pwr.heldOff.getLsbD d with
    | false => rfl
    | true => exact absurd ((h.held d hm).symm.trans hf) (by decide)
  simp only [Mach.domWant, h.stageOn, hpval, Bool.or_eq_true, Bool.and_eq_true, Bool.not_eq_true'] at hn ⊢
  exact hn.imp_right fun hw => ⟨hw.1, hheld hw.2⟩

theorem trans (h : m.Switched n) (h' : n.Switched l) : m.Switched l := by
  refine ⟨h'.par.trans h.par, by rw [h'.rest, h.rest], fun d => ?_, fun d hd => h'.held d (h.held d hd), fun hq => h'.quiet (h.quiet hq)⟩
  obtain hn | ⟨hoff, hwant, hn⟩ := h.dom d <;> obtain hl | ⟨hoff', hwant', hl⟩ := h'.dom d
  · exact .inl (hl.trans hn)
  · exact .inr ⟨hn ▸ hoff', h.want d.val hwant', hl⟩
  · exact .inr ⟨hoff, hwant, hl.trans hn⟩
  · exact .inr ⟨hoff, hwant, hl⟩

theorem stays (h : m.Switched n) {d : Fin 8} (hd : m.pwr.dom[d] ≠ .off) : n.pwr.dom[d] = m.pwr.dom[d] := by
  obtain hn | ⟨hoff, _⟩ := h.dom d
  · exact hn
  · exact absurd hoff hd

theorem off (h : m.Switched n) {d : Fin 8} (hoff : m.pwr.dom[d] = .off) (hwant : m.domWant d.val = false) : n.pwr.dom[d] = .off := by
  obtain hn | ⟨_, hw, _⟩ := h.dom d
  · exact hn.trans hoff
  · exact absurd (hwant.symm.trans hw) Bool.false_ne_true

/-- A domain is usable afterwards exactly where it was. -/
theorem domUp (h : m.Switched n) (d : Fin 8) : n.domUp d.val = m.domUp d.val := by
  simp only [Mach.domUp, vget_eq]
  obtain hn | ⟨hoff, _, hn⟩ := h.dom d
  · rw [hn]
  · rw [hoff, hn]; rfl

end Mach.Switched

theorem Mach.railAbsent_switched (m : Mach) (r : Nat) : m.Switched (m.railAbsent r) := by
  obtain ⟨hpar, _, hpwr, _⟩ := m.railAbsent_keeps r
  exact ⟨hpar, by rw [hpwr], fun _ => .inl (by rw [hpwr]), fun _ hd => by rw [hpwr]; exact hd, fun h => h.logEvent ..⟩

theorem Mach.railCheck_switched (m : Mach) (d : Nat) : m.Switched (m.railCheck d) := by
  unfold Mach.railCheck
  split
  · exact .refl m
  extract_lets low pwr m1
  have h1 : m.Switched m1 := by
    refine ⟨rfl, rfl, fun _ => .inl rfl, fun e he => ?_, fun h => h.same (by rfl)⟩
    change (if low.isEmpty then m.pwr.heldOff else m.pwr.heldOff ||| (1 <<< d)).getLsbD e = true
    split
    · exact he
    · rw [BitVec.getLsbD_or, he, Bool.true_or]
  refine List.foldlRecOn (motive := fun x : Mach => m.Switched x) _ _ h1 fun x hx r _ => hx.trans ?_
  have hmod : ∀ f, x.Switched (x.modRail r f) := fun f => ⟨rfl, rfl, fun _ => .inl rfl, fun _ => id, fun h => h.same (by rfl)⟩
  dsimp only
  split
  · exact (hmod _).trans (Mach.railAbsent_switched _ r)
  · exact hmod _

theorem Mach.switchOn_switched (m : Mach) (d : Nat) : m.Switched (m.switchOn d) := by
  unfold Mach.switchOn
  extract_lets m1
  have h1 : m.Switched m1 := m.railCheck_switched d
  refine h1.trans ?_
  split
  next h =>
    obtain ⟨hwant, hoff⟩ := Bool.and_eq_true_iff.mp h
    refine ⟨rfl, rfl, fun e => ?_, fun _ => id, fun h => h.same (by rfl)⟩
    simp only [Mach.setDom, vset_get]
    split
    next he =>
      subst he
      rw [vget_eq] at hoff
      exact .inr ⟨eq_of_beq hoff, hwant, rfl⟩
    next => exact .inl rfl
  next => exact .refl m1

theorem Mach.switchNextN_switched (n : Nat) (m : Mach) : m.Switched (Mach.switchNextN n m) := by
  induction n generalizing m with
  | zero => exact .refl m
  | succ n ih =>
    have hq : ∀ q, m.Switched { m with pwr := { m.pwr with switchQ := q } } := fun q =>
      ⟨rfl, rfl, fun _ => .inl rfl, fun _ => id, fun h => h.same (by rfl)⟩
    unfold Mach.switchNextN
    split
    · exact .refl m
    split
    · exact .refl m
    split
    · exact .refl m
    · exact ((hq _).trans (Mach.switchOn_switched _ _)).trans (ih _)

theorem Mach.switchNext_switched (m : Mach) : m.Switched m.switchNext := Mach.switchNextN_switched 8 m

theorem Mach.queueDomains_switched (m : Mach) : m.Switched m.queueDomains := by
  have hq : ∀ q, m.Switched { m with pwr := { m.pwr with switchQ := q } } := fun q =>
    ⟨rfl, rfl, fun _ => .inl rfl, fun _ => id, fun h => h.same (by rfl)⟩
  exact (hq _).trans (Mach.switchNext_switched _)

/-! ### Stages entered -/

/-- Whether stage k is enabled (R107). -/
def Mach.stageEnabled (m : Mach) (k : Nat) : Bool := decide (5 ≤ k) || bitOf (m.pval 0x503) (k - 1)

/-- The highest enabled stage below whose threshold the last `PWR.FILT` samples of rail r all lie, 0 with none (R109). -/
def Mach.shedTop (m : Mach) (r : Nat) (samples : List Nat) : Nat :=
  ((List.range 7).filter fun k => k != 0 && m.railOn r && m.stageEnabled k && decide ((samples.take (m.pnat 0x50B)).length = m.pnat 0x50B) &&
    (samples.take (m.pnat 0x50B)).all fun mv => decide (1000 * mv < m.threshold r k)).getLastD 0

/-- The stages entered on the way up to stage `top`. -/
def Mach.stagesEntered (m : Mach) (top : Nat) : List Nat :=
  (List.range 7).filter fun k => decide (m.pwr.stage < k) && decide (k ≤ top) && m.stageEnabled k

/-- The state with stage `top` in force. -/
def Mach.stageRaised (m : Mach) (top : Nat) : Mach :=
  { m with pwr := { m.pwr with
    stage := top, hold := m.pwr.hold || decide (4 ≤ top), low := if m.pwr.stage = 0 then vmap (fun (x : Rail) => x.mv) m.pwr.rails else m.pwr.low } }

/-- The stages up to `top` recorded as entered at rail r. -/
def Mach.stagesNoted (m : Mach) (top r : Nat) : Mach :=
  (m.stagesEntered top).foldl (fun x k => x.noteEntry k r (m.pwr.stage == 0 && some k == (m.stagesEntered top).head?)) (m.stageRaised top)

/-- The state once the actions of the stages entered have been taken. -/
def Mach.stagesActed (m : Mach) (top r : Nat) : Mach :=
  (m.stagesEntered top).foldl (fun x k => x.stageAction k r) ((m.stagesNoted top r).chainFail 14)

/-- What entering the stages up to `top` at rail r does. -/
def Mach.enterStages (m : Mach) (top r : Nat) : Mach := (m.stagesActed top r).switchNext

theorem Mach.shedEnter_eq (m : Mach) (r : Nat) (samples : List Nat) (m0 : Mach)
    (h0 : m0 = m.railSample r (samples.headD 0) (samples.foldl min (samples.headD 0))) :
    m.shedEnter r samples = if m0.shedTop r samples ≤ m0.pwr.stage then m0 else m0.enterStages (m0.shedTop r samples) r := by
  subst h0; rfl

/-- What a change of one element of a vector leaves of every element. -/
theorem vget_vmod_of_keeps {α β : Type} [Inhabited α] {n : Nat} {f : α → α} (g : α → β) (hg : ∀ x, g (f x) = g x) (v : Vector α n) (i k : Nat) :
    g (vget (vmod v i f) k) = g (vget v k) := by
  by_cases hk : k < n
  · rw [vget_eq _ ⟨k, hk⟩, vget_eq _ ⟨k, hk⟩, vmod_get]
    split
    · exact hg _
    · rfl
  · simp [vget, List.getD, hk]

/-- Samples leave everything but what the monitors keep of them. -/
theorem Mach.railSample_power (m : Mach) (r mv low : Nat) : (m.railSample r mv low).par = m.par ∧
    (∃ rails lows, (m.railSample r mv low).pwr = { m.pwr with rails, low := lows }) ∧ (m.railSample r mv low).railOn = m.railOn := by
  unfold Mach.railSample
  extract_lets m1
  have habsent : ∀ k, (vget m1.pwr.rails k).absent = (vget m.pwr.rails k).absent :=
    vget_vmod_of_keeps Rail.absent (by intro x; rfl) m.pwr.rails r
  have hrail : m1.railOn = m.railOn := funext fun k => by rw [Mach.railOn, Mach.railOn, habsent]; rfl
  split
  · exact ⟨rfl, ⟨_, _, rfl⟩, hrail⟩
  · exact ⟨rfl, ⟨_, _, rfl⟩, hrail⟩

/-- The members of a range that pass a test, the last of them set apart. -/
theorem filter_range_last {p : Nat → Bool} {n top : Nat} (hlt : top < n) (hp : p top = true) (hno : ∀ k, top < k → p k = false) :
    (List.range n).filter p = (List.range top).filter p ++ [top] := by
  obtain ⟨j, rfl⟩ := Nat.exists_eq_add_of_lt hlt
  have hrest : ((List.range j).map (top + 1 + ·)).filter p = [] := List.filter_eq_nil_iff.mpr fun k hk => by
    obtain ⟨i, _, rfl⟩ := List.mem_map.mp hk
    rw [hno _ (by omega)]; decide
  rw [show top + j + 1 = top + 1 + j by omega, List.range_add, List.filter_append, hrest, List.range_succ, List.filter_append]
  simp [hp]

theorem Mach.shedTop_spec {m : Mach} {r : Nat} {samples : List Nat} (h : 0 < m.shedTop r samples) :
    m.shedTop r samples < 7 ∧ m.stageEnabled (m.shedTop r samples) = true := by
  unfold Mach.shedTop at h ⊢
  generalize hks : (List.range 7).filter _ = ks at h ⊢
  have hmem : ks.getLastD 0 ∈ ks := by
    cases ks with
    | nil => exact absurd h (by decide)
    | cons k ks => rw [List.getLastD_cons]; exact List.getLastD_mem_cons ..
  rw [← hks] at hmem
  obtain ⟨hrange, hp⟩ := List.mem_filter.mp hmem
  simp only [Bool.and_eq_true] at hp
  rw [hks] at hp hrange
  exact ⟨List.mem_range.mp hrange, hp.1.1.2⟩

theorem Mach.mem_stagesEntered {m : Mach} {top k : Nat} : k ∈ m.stagesEntered top ↔
    k < 7 ∧ m.pwr.stage < k ∧ k ≤ top ∧ m.stageEnabled k = true := by
  simp [Mach.stagesEntered, and_assoc]

/-- The highest stage is entered last. -/
theorem Mach.stagesEntered_last {m : Mach} {top : Nat} (hstage : m.pwr.stage < top) (hlt : top < 7) (hon : m.stageEnabled top = true) :
    m.stagesEntered top = (List.range top).filter (fun k => decide (m.pwr.stage < k) && decide (k ≤ top) && m.stageEnabled k) ++ [top] := by
  refine filter_range_last hlt (by simp [hstage, hon]) fun k hk => ?_
  simp [show ¬ k ≤ top by omega]

/-- What recording stages entered does to the power state: what stays, and the count. -/
theorem Mach.noteEntries (m : Mach) (ks : List Nat) (r : Nat) (first : Nat → Bool) :
    (ks.foldl (fun x k => x.noteEntry k r (first k)) m).par = m.par ∧
    (∃ cnt lastRail lastStage stgCnt entered entryTime, (ks.foldl (fun x k => x.noteEntry k r (first k)) m).pwr =
      { m.pwr with cnt, lastRail, lastStage, stgCnt, entered, entryTime } ∧ cnt = m.pwr.cnt + w32 ks.length) := by
  induction ks generalizing m with
  | nil => exact ⟨rfl, _, _, _, _, _, _, rfl, (BitVec.add_zero _).symm⟩
  | cons k ks ih =>
    obtain ⟨hpar, cnt, lastRail, lastStage, stgCnt, entered, entryTime, hpwr, hcnt⟩ := ih (m.noteEntry k r (first k))
    refine ⟨hpar.trans (by simp [Mach.noteEntry]), cnt, lastRail, lastStage, stgCnt, entered, entryTime, hpwr.trans (by simp [Mach.noteEntry]), ?_⟩
    have hone : (m.noteEntry k r (first k)).pwr.cnt = m.pwr.cnt + 1 := by simp [Mach.noteEntry]
    rw [hcnt, hone, BitVec.add_assoc, List.length_cons, w32, w32, Nat.add_comm, BitVec.ofNat_add]
    rfl

theorem Mach.noteEntry_last (m : Mach) (k r : Nat) (first : Bool) :
    (m.noteEntry k r first).pwr.lastRail = BitVec.ofNat 4 r ∧ (m.noteEntry k r first).pwr.lastStage = BitVec.ofNat 3 k := by
  simp [Mach.noteEntry]

/-- What entering stages records (R110, R111). -/
theorem Mach.stagesNoted_spec {m : Mach} {top : Nat} (r : Nat) (hstage : m.pwr.stage < top) (hlt : top < 7) (hon : m.stageEnabled top = true) :
    (m.stagesNoted top r).par = m.par ∧ (m.stagesNoted top r).pwr.stage = top ∧
    (m.stagesNoted top r).pwr.hold = (m.pwr.hold || decide (4 ≤ top)) ∧ (m.stagesNoted top r).pwr.lastRail = BitVec.ofNat 4 r ∧
    (m.stagesNoted top r).pwr.lastStage = BitVec.ofNat 3 top ∧ (m.stagesNoted top r).pwr.cnt = m.pwr.cnt + w32 (m.stagesEntered top).length := by
  unfold Mach.stagesNoted
  obtain ⟨hpar, _, _, _, _, _, _, hpwr, hcnt⟩ :=
    (m.stageRaised top).noteEntries (m.stagesEntered top) r fun k => m.pwr.stage == 0 && some k == (m.stagesEntered top).head?
  refine ⟨hpar, by rw [hpwr]; rfl, by rw [hpwr]; rfl, ?_, ?_, by rw [hpwr]; exact hcnt⟩
  · rw [Mach.stagesEntered_last hstage hlt hon, List.foldl_append]
    exact (Mach.noteEntry_last ..).1
  · rw [Mach.stagesEntered_last hstage hlt hon, List.foldl_append]
    exact (Mach.noteEntry_last ..).2

/-- Entering stages up to `top` (R109 to R112). -/
theorem Mach.enterStages_spec {m : Mach} {top : Nat} (r : Nat) (hstage : m.pwr.stage < top) (hlt : top < 7) (hon : m.stageEnabled top = true) :
    (m.enterStages top r).par.landed = m.par.landed ∧ (m.enterStages top r).pwr.stage = top ∧
    (m.enterStages top r).pwr.hold = (m.pwr.hold || decide (4 ≤ top)) ∧ (m.enterStages top r).pwr.lastRail = BitVec.ofNat 4 r ∧
    (m.enterStages top r).pwr.lastStage = BitVec.ofNat 3 top ∧ (m.enterStages top r).pwr.cnt = m.pwr.cnt + w32 (m.stagesEntered top).length := by
  obtain ⟨hpar, hst, hhold, hrail, hlast, hcnt⟩ := Mach.stagesNoted_spec r hstage hlt hon
  obtain ⟨hacted, hlanded⟩ := ((m.stagesNoted top r).chainFail 14).stageActions_sheds (m.stagesEntered top) r
  have hswitched := Mach.switchNext_switched (m.stagesActed top r)
  obtain ⟨f1, f2, f3, f4, f5, _⟩ := hswitched.fields
  have hrest := hacted.rest
  unfold Mach.enterStages
  unfold Mach.stagesActed at f1 f2 f3 f4 f5 hswitched ⊢
  refine ⟨?_, ?_, ?_, ?_, ?_, ?_⟩
  · rw [hswitched.par, hlanded]; simp [hpar]
  · rw [f1, hrest]; simp [hst]
  · rw [f2, hrest]; simp [hhold]
  · rw [f3, hrest]; simp [hrail]
  · rw [f4, hrest]; simp [hlast]
  · rw [f5, hrest]; simp [hcnt]

theorem Mach.stageAction_six_eq (m : Mach) (rail : Nat) : m.stageAction 6 rail = m.stageSix rail := rfl

theorem domain_cases : ∀ d : Fin 8, d.val ≠ 0 → d = 6 ∨ d = 2 ∨ d = 3 ∨ d.val ∈ [1, 4, 5, 7] := by decide

theorem domStage_spec (d : Nat) : domStage d ≤ 6 ∧ (domStage d = 1 ∨ 5 ≤ domStage d) := by
  unfold domStage
  (repeat' split) <;> omega

theorem Mach.domWant_of_shed {m : Mach} {d : Nat} (hd : d ≠ 0) (hshed : m.stageOn (domStage d) = true) : m.domWant d = false := by
  simp [Mach.domWant, hd, hshed]

theorem Mach.stagesActed_stageOn {m : Mach} {top : Nat} (r : Nat) (hstage : m.pwr.stage < top) (hlt : top < 7) (hon : m.stageEnabled top = true) (k : Nat) :
    (m.stagesActed top r).stageOn k = (decide (k ≤ top) && m.stageEnabled k) := by
  obtain ⟨hpar, hst, _⟩ := Mach.stagesNoted_spec r hstage hlt hon
  obtain ⟨hacted, hlanded⟩ := ((m.stagesNoted top r).chainFail 14).stageActions_sheds (m.stagesEntered top) r
  have hst' : (m.stagesActed top r).pwr.stage = top := by
    rw [show (m.stagesActed top r).pwr = _ from hacted.rest]; simp [hst]
  have hpval : (m.stagesActed top r).pval 0x503 = m.pval 0x503 := Mach.pval_of_landed (hlanded.trans (by simp [hpar])) _
  rw [Mach.stageOn, hst', hpval]
  rfl

/-- A domain that an entered stage sheds stays off where it is off once the actions are taken. -/
theorem Mach.enterStages_off {m : Mach} {top : Nat} (r : Nat) (hstage : m.pwr.stage < top) (hlt : top < 7) (hon : m.stageEnabled top = true)
    {d : Fin 8} (hd : d.val ≠ 0) (hle : domStage d.val ≤ top) (hshed : m.stageEnabled (domStage d.val) = true)
    (hoff : (m.stagesActed top r).pwr.dom[d] = .off) : (m.enterStages top r).pwr.dom[d] = .off := by
  refine (Mach.switchNext_switched (m.stagesActed top r)).off hoff (Mach.domWant_of_shed hd ?_)
  rw [Mach.stagesActed_stageOn r hstage hlt hon, hshed, decide_eq_true hle]
  rfl

/-- The scan-out's domain goes off with stage 1 (R112). -/
theorem Mach.enterStages_scan {m : Mach} {top : Nat} (r : Nat) (hstage : m.pwr.stage = 0) (htop : 0 < top) (hlt : top < 7)
    (hon : m.stageEnabled top = true) (hone : m.stageEnabled 1 = true) : (m.enterStages top r).pwr.dom[(6 : Fin 8)] = .off := by
  have hmem : 1 ∈ m.stagesEntered top := Mach.mem_stagesEntered.mpr ⟨by decide, by omega, by omega, hone⟩
  exact Mach.enterStages_off r (by omega) hlt hon (by decide) (show 1 ≤ top by omega) hone
    (Mach.stageActions_off r hmem (fun x => x.stageAction_one_off r) _)

theorem Mach.stageEnabled_of_five_le {m : Mach} {k : Nat} (h : 5 ≤ k) : m.stageEnabled k = true := by simp [Mach.stageEnabled, h]

/-- Stage 6 entered from none leaves KEEP alone powered, the shed record under way and the control port empty (R112, R124). -/
theorem Mach.enterStages_six {m : Mach} (r : Nat) (hstage : m.pwr.stage = 0) (hone : m.stageEnabled 1 = true) :
    (∀ d : Fin 8, d.val ≠ 0 → (m.enterStages 6 r).pwr.dom[d] = .off) ∧ (m.enterStages 6 r).pwr.record.isSome = true ∧ (m.enterStages 6 r).Quiet := by
  have hon : m.stageEnabled 6 = true := Mach.stageEnabled_of_five_le (by decide)
  have hlt : m.pwr.stage < 6 := by omega
  have hmem : ∀ k, 5 ≤ k → k < 7 → k ∈ m.stagesEntered 6 := fun k hk hk' =>
    Mach.mem_stagesEntered.mpr ⟨hk', by omega, by omega, Mach.stageEnabled_of_five_le hk⟩
  have hlast : ∃ x : Mach, x.running = false ∧ m.stagesActed 6 r = x.stageSix r := by
    have hfive : (List.range 6).filter (fun k => decide (m.pwr.stage < k) && decide (k ≤ 6) && m.stageEnabled k) =
        (List.range 5).filter (fun k => decide (m.pwr.stage < k) && decide (k ≤ 6) && m.stageEnabled k) ++ [5] := by
      rw [List.range_succ, List.filter_append]
      simp [hstage, Mach.stageEnabled]
    rw [Mach.stagesActed, Mach.stagesEntered_last hlt (by decide) hon, hfive, List.foldl_append, List.foldl_append,
      List.foldl_cons, List.foldl_nil, List.foldl_cons, List.foldl_nil]
    exact ⟨_, Mach.stageAction_five_idle _ r, Mach.stageAction_six_eq _ r⟩
  obtain ⟨x, hidle, hacted⟩ := hlast
  have hswitched := Mach.switchNext_switched (m.stagesActed 6 r)
  have hscan : (m.stagesActed 6 r).pwr.dom[(6 : Fin 8)] = .off :=
    Mach.stageActions_off r (Mach.mem_stagesEntered.mpr ⟨by decide, by omega, by decide, hone⟩) (fun x => x.stageAction_one_off r) _
  have hfront : (m.stagesActed 6 r).pwr.dom[(2 : Fin 8)] = .off :=
    Mach.stageActions_off r (hmem 5 (by decide) (by decide)) (fun x => (x.stageAction_five r).1) _
  have hslice : (m.stagesActed 6 r).pwr.dom[(3 : Fin 8)] = .off :=
    Mach.stageActions_off r (hmem 5 (by decide) (by decide)) (fun x => (x.stageAction_five r).2) _
  have hrest : ∀ d : Fin 8, d.val ∈ [1, 4, 5, 7] → (m.stagesActed 6 r).pwr.dom[d] = .off := fun d hd =>
    Mach.stageActions_off r (hmem 6 (by decide) (by decide)) (fun x => (x.stageAction_six r).1 d hd) _
  refine ⟨fun d hd => ?_, ?_, hswitched.quiet (hacted ▸ Mach.stageSix_quiet r hidle)⟩
  · obtain ⟨hle, hshed⟩ := domStage_spec d.val
    have hcases : d = 6 ∨ d = 2 ∨ d = 3 ∨ d.val ∈ [1, 4, 5, 7] := domain_cases d hd
    refine Mach.enterStages_off r hlt (by decide) hon hd hle ?_ ?_
    · obtain h | h := hshed
      · rw [h]; exact hone
      · exact Mach.stageEnabled_of_five_le h
    · obtain rfl | rfl | rfl | h := hcases
      · exact hscan
      · exact hfront
      · exact hslice
      · exact hrest d h
  · rw [show m.enterStages 6 r = (m.stagesActed 6 r).switchNext from rfl, hswitched.fields.2.2.2.2.2.1, hacted]
    rfl


/-- Samples by which no stage above the one in force is entered only update the rail; others enter the stages up to the highest crossed. -/
theorem Mach.shedEnter_cases (m : Mach) (r : Nat) (samples : List Nat) :
    ∃ m0 : Mach, m0 = m.railSample r (samples.headD 0) (samples.foldl min (samples.headD 0)) ∧ m0.par = m.par ∧
      (∃ rails lows, m0.pwr = { m.pwr with rails, low := lows }) ∧ m0.stageEnabled = m.stageEnabled ∧
      m.shedEnter r samples = if m.shedTop r samples ≤ m.pwr.stage then m0 else m0.enterStages (m.shedTop r samples) r := by
  obtain ⟨hpar, ⟨rails, lows, hpwr⟩, hrail⟩ := m.railSample_power r (samples.headD 0) (samples.foldl min (samples.headD 0))
  have heq := m.shedEnter_eq r samples _ rfl
  generalize m.railSample r (samples.headD 0) (samples.foldl min (samples.headD 0)) = m0 at hpar hpwr hrail heq ⊢
  have hpval : m0.pval = m.pval := funext fun a => Mach.pval_of_landed (by rw [hpar]) a
  have hon : m0.stageEnabled = m.stageEnabled := funext fun k => by rw [Mach.stageEnabled, Mach.stageEnabled, hpval]
  have htop : m0.shedTop r samples = m.shedTop r samples := by
    have hpnat : m0.pnat = m.pnat := funext fun a => by rw [Mach.pnat, Mach.pnat, hpval]
    have hthreshold : m0.threshold = m.threshold := funext fun r => funext fun k => by rw [Mach.threshold, Mach.threshold, hpnat]
    rw [Mach.shedTop, Mach.shedTop, hon, hrail, hthreshold, hpnat]
  rw [htop, show m0.pwr.stage = m.pwr.stage by rw [hpwr]] at heq
  exact ⟨m0, rfl, hpar, ⟨rails, lows, hpwr⟩, hon, heq⟩

/-! ### Stages left -/

theorem Mach.stageKept_le (m : Mach) : m.stageKept ≤ m.pwr.stage := by
  unfold Mach.stageKept
  generalize hks : (List.range 7).filter _ = ks
  cases ks with
  | nil => exact Nat.zero_le _
  | cons k ks =>
    have hmem : (k :: ks).getLastD 0 ∈ k :: ks := by rw [List.getLastD_cons]; exact List.getLastD_mem_cons ..
    rw [← hks] at hmem
    have hp := (List.mem_filter.mp hmem).2
    rw [hks] at hp
    simp only [Bool.and_eq_true, decide_eq_true_eq] at hp
    exact hp.1.1.2

theorem Mach.slicesBack_power (m : Mach) : m.slicesBack.par = m.par ∧ (∃ in34Down, m.slicesBack.pwr = { m.pwr with in34Down }) := by
  have hup : ∀ x : Mach, x.sliceUp.synthRelock.par = x.par ∧ x.sliceUp.synthRelock.pwr = x.pwr := by simp [Mach.sliceUp]
  unfold Mach.slicesBack
  split
  · dsimp only
    split
    · exact ⟨(hup _).1, _, (hup _).2⟩
    · exact ⟨rfl, _, rfl⟩
  · exact ⟨rfl, _, rfl⟩

theorem Mach.asyStart_power (m : Mach) : m.asyStart.par = m.par ∧ m.asyStart.pwr = m.pwr := by
  unfold Mach.asyStart
  split
  · exact ⟨rfl, rfl⟩
  · simp [Mach.continuous, foldl_keeps]

/-- Leaving stages down to `low` (R121). -/
theorem Mach.leaveStages_power {m : Mach} {low : Nat} (h : low < m.pwr.stage) : (m.leaveStages low).par = m.par ∧
    (m.leaveStages low).pwr.stage = low ∧ (m.leaveStages low).pwr.hold = m.pwr.hold ∧
    (m.leaveStages low).pwr.entered = if low = 0 then 0 else m.pwr.entered := by
  unfold Mach.leaveStages
  extract_lets was gone noted pwr m1 m2
  rw [if_neg (by simpa [was] using h)]
  have h2 : m2.par = m.par ∧ m2.pwr = m1.pwr := by simp [m2, m1, noted, foldl_keeps]
  obtain ⟨hpar, _, hback⟩ := m2.slicesBack_power
  have hq := m2.slicesBack.queueDomains_switched
  simp only [Mach.isoCheck_keeps, Mach.asyStart_power, Mach.mintUpdate_keeps, Mach.portsSettle_keeps]
  refine ⟨by rw [hq.par, hpar, h2.1], ?_, ?_, ?_⟩
  · rw [hq.fields.1, hback, h2.2]
  · rw [hq.fields.2.1, hback, h2.2]
  · rw [hq.fields.2.2.2.2.2.2, hback, h2.2]

/-- Leaving stages goes down to `low`, and does nothing where it is not below the stage in force. -/
theorem Mach.leaveStages_spec {m : Mach} {low : Nat} (h : low ≤ m.pwr.stage) : (m.leaveStages low).par = m.par ∧
    (m.leaveStages low).pwr.stage = low ∧ (m.leaveStages low).pwr.hold = m.pwr.hold ∧ (low = m.pwr.stage → m.leaveStages low = m) ∧
    (low = 0 → m.pwr.stage ≠ 0 → (m.leaveStages low).pwr.entered = 0) := by
  obtain heq | hlt := Nat.eq_or_lt_of_le h
  · have hsame : m.leaveStages low = m := if_pos (Nat.le_of_eq heq.symm)
    rw [hsame]
    exact ⟨rfl, heq.symm, rfl, fun _ => rfl, fun hz hne => absurd (heq.symm.trans hz) hne⟩
  · obtain ⟨hpar, hstage, hhold, hentered⟩ := Mach.leaveStages_power hlt
    exact ⟨hpar, hstage, hhold, fun heq => absurd heq (Nat.ne_of_lt hlt), fun hz _ => by rw [hentered, if_pos hz]⟩

theorem Mach.shedExit_of_free {m : Mach} (hclk : m.tim.clk = 0) (hhold : m.pwr.hold = false) : m.shedExit = m.leaveStages m.stageKept :=
  if_neg (by simp [hclk, hhold])

theorem Mach.shedExit_of_held {m : Mach} (h : m.pwr.hold = true ∨ m.tim.clk ≠ 0) : m.shedExit = m := if_pos (by simpa using h)

theorem Mach.pwrRecover_one {m : Mach} (hhold : m.pwr.hold = true) (hrec : m.recovered 4 = true) :
    m.pwrRecover 1 = ({ m with pwr := { m.pwr with hold := false } } : Mach).shedExit := if_pos (by rw [hhold, hrec]; rfl)

theorem Mach.pwrRecover_of_low {m : Mach} (v : Word) (h : m.pwr.hold = false ∨ m.recovered 4 = false) : m.pwrRecover v = m := by
  refine if_neg ?_
  obtain h | h := h <;> simp [h]

/-! ### A domain becomes usable -/

/-- What waits for domain d starts, the domain usable. -/
def Mach.domStarted (m : Mach) (d : Nat) : Mach :=
  let m1 := m.setDom d .usable
  match d with
  | 1 =>
    let m2 := { m1 with
      ctl := { m1.ctl with keep := [], inKeep := false }, pwr := { m1.pwr with fromStage6 := false }, tim := (m1.tim.source true false).firstWindow }
    (m2.coreRelock (if m.pwr.fromStage6 then 3 else 0)).ldgCoreOn
  | 2 => m1.frontUp
  | 3 => m1.sliceUp.synthRelock
  | 4 => m1.trainingStart
  | 5 => m1.portsSettle 8
  | 6 => m1.scanStart
  | 7 => m1.mintUp
  | _ => m1

theorem Mach.domUsable_of_switching {m : Mach} {d : Nat} (h : vget m.pwr.dom d = .switching) : m.domUsable d = (m.domStarted d).switchNext :=
  if_neg (by rw [h]; decide)

theorem Mach.domUsable_of_other {m : Mach} {d : Nat} (h : vget m.pwr.dom d ≠ .switching) : m.domUsable d = m := if_pos (by simpa using h)

theorem Mach.scanStart_landed (m : Mach) : m.scanStart.par.landed = m.par.landed := by
  unfold Mach.scanStart
  split
  · rfl
  · dsimp only
    split <;> simp

theorem Mach.ldgCoreOn_power (m : Mach) : m.ldgCoreOn.par = m.par ∧ m.ldgCoreOn.pwr = m.pwr ∧ m.ldgCoreOn.boot = m.boot := by
  unfold Mach.ldgCoreOn
  dsimp only
  split <;> simp

theorem Mach.mintUp_power (m : Mach) : m.mintUp.par = m.par ∧ m.mintUp.pwr = m.pwr := by simp [Mach.mintUp]

theorem Mach.sliceUp_power (m : Mach) : m.sliceUp.par = m.par ∧ m.sliceUp.pwr = m.pwr := by simp [Mach.sliceUp]

theorem Mach.frontUp_power (m : Mach) : m.frontUp.par = m.par ∧ m.frontUp.pwr = m.pwr := by simp [Mach.frontUp, Mach.auxHoldStart, Mach.undecide]

/-- What a domain that starts leaves of parameters and domains. -/
theorem Mach.domStarted_power (m : Mach) (d : Nat) : (m.domStarted d).par.landed = m.par.landed ∧
    (m.domStarted d).pwr.dom = vset m.pwr.dom d .usable := by
  unfold Mach.domStarted
  dsimp only
  split
  · rw [(Mach.ldgCoreOn_power _).1, (Mach.ldgCoreOn_power _).2.1, (Mach.coreRelock_keeps _ _).1, (Mach.coreRelock_keeps _ _).2.1]
    exact ⟨rfl, rfl⟩
  · rw [(Mach.frontUp_power _).1, (Mach.frontUp_power _).2]; exact ⟨rfl, rfl⟩
  · rw [(Mach.synthRelock_keeps _).1, (Mach.synthRelock_keeps _).2.1, (Mach.sliceUp_power _).1, (Mach.sliceUp_power _).2]; exact ⟨rfl, rfl⟩
  · rw [(Mach.trainingStart_keeps _).1, (Mach.trainingStart_keeps _).2.2.1]; exact ⟨rfl, rfl⟩
  · rw [(Mach.portsSettle_keeps _ _).1, (Mach.portsSettle_keeps _ _).2.2.1]; exact ⟨rfl, rfl⟩
  · rw [Mach.scanStart_landed, (Mach.scanStart_keeps _).2.1]; exact ⟨rfl, rfl⟩
  · rw [(Mach.mintUp_power _).1, (Mach.mintUp_power _).2]; exact ⟨rfl, rfl⟩
  · exact ⟨rfl, rfl⟩

/-- A domain becomes usable and no other does (R94). -/
theorem Mach.domUsable_spec {m : Mach} {d : Fin 8} (h : m.pwr.dom[d] = .switching) : (m.domUsable d.val).pwr.dom[d] = .usable ∧
    (∀ e : Fin 8, e ≠ d → (m.domUsable d.val).domUp e.val = m.domUp e.val) ∧ (m.domUsable d.val).par.landed = m.par.landed := by
  rw [Mach.domUsable_of_switching ((vget_eq _ d).trans h)]
  obtain ⟨hlanded, hdom⟩ := m.domStarted_power d.val
  have hswitched := (m.domStarted d.val).switchNext_switched
  have hup : (m.domStarted d.val).pwr.dom[d] = .usable := by rw [hdom]; exact (vset_get ..).trans (if_pos rfl)
  refine ⟨(hswitched.stays (by rw [hup]; decide)).trans hup, fun e he => (hswitched.domUp e).trans ?_, by rw [hswitched.par, hlanded]⟩
  simp only [Mach.domUp, hdom, vget_eq, vset_get]
  rw [if_neg fun hde => he (Fin.ext hde.symm)]

theorem Tim.firstWindow_keeps (t : Tim) : t.firstWindow.exhausted = t.exhausted ∧ t.firstWindow.relocks = t.relocks ∧ t.firstWindow.core = t.core := by
  unfold Tim.firstWindow
  split <;> exact ⟨rfl, rfl, rfl⟩

/-- CORE usable starts the core relock (R131, R260). -/
theorem Mach.domUsable_core {m : Mach} (h : m.pwr.dom[(1 : Fin 8)] = .switching) (hexhausted : m.tim.exhausted = false) :
    (m.domUsable 1).tim.core.active = true ∧ (m.domUsable 1).tim.holding = true ∧ (m.domUsable 1).tim.relocks = m.tim.relocks + 1 := by
  rw [Mach.domUsable_of_switching (d := 1) ((vget_eq m.pwr.dom (1 : Fin 8)).trans h), (Mach.switchNext_keeps _).2.1]
  change (Mach.coreRelock _ _).ldgCoreOn.tim.core.active = true ∧ (Mach.coreRelock _ _).ldgCoreOn.tim.holding = true ∧
    (Mach.coreRelock _ _).ldgCoreOn.tim.relocks = m.tim.relocks + 1
  rw [Mach.ldgCoreOn_tim, Mach.coreRelock_tim]
  obtain ⟨hex, hrelocks, _⟩ := (m.tim.source true false).firstWindow_keeps
  change (m.tim.source true false).firstWindow.exhausted = m.tim.exhausted at hex
  change (m.tim.source true false).firstWindow.relocks = m.tim.relocks at hrelocks
  rw [if_neg (by rw [show (m.setDom 1 .usable).tim = m.tim from rfl, hex, hexhausted]; decide)]
  exact ⟨rfl, rfl, congrArg (· + 1) hrelocks⟩

theorem Mach.powerFronts_dacAt (m : Mach) : m.powerFronts.fe.dacAt = m.fe.dacAt := by
  unfold Mach.powerFronts
  refine foldl_keeps (fun x => x.fe.dacAt) _ (fun x k => ?_) _ m
  dsimp only
  (repeat' split) <;> rfl

theorem Mach.frontUp_dacAt (m : Mach) : m.frontUp.fe.dacAt = some m.windowEnd := by
  unfold Mach.frontUp Mach.auxHoldStart Mach.undecide
  dsimp only
  exact Mach.powerFronts_dacAt _

/-- FRONT usable: the input stages settle from this beat on (R131, R263). -/
theorem Mach.domUsable_front {m : Mach} (h : m.pwr.dom[(2 : Fin 8)] = .switching) : (m.domUsable 2).fe.dacAt = some m.windowEnd := by
  rw [Mach.domUsable_of_switching (d := 2) ((vget_eq m.pwr.dom (2 : Fin 8)).trans h), (Mach.switchNext_keeps _).2.2.2.2.2.2.1]
  exact (m.setDom 2 .usable).frontUp_dacAt

theorem Mach.mintUpdate_trm {m : Mach} (htrim : m.trimOn = false) : m.mintUpdate.trm = m.trm := by
  have hsettle : m.mintSettle.trm = m.trm := by
    unfold Mach.mintSettle
    extract_lets st old mnt m1 m2
    have h2 : m2.trm = m.trm := by simp only [m2]; split <;> simp [m1]
    split
    · rfl
    split
    · have hoff : m2.trimOn = false := by rw [Mach.trimOn, h2]; exact htrim
      rw [Mach.pilotLoss, if_neg (by simp [hoff])]
      exact h2
    · exact h2
  rw [Mach.mintUpdate, (Mach.mintDrive_keeps _).2.2.2.2.2.2.2.2.1]
  exact hsettle

theorem Mach.trimIdle_st (m : Mach) : m.trimIdle.trm.st = .idle := by
  unfold Mach.trimIdle Mach.trimGo
  split
  · assumption
  · simp

/-- A synthesizer relock, started or put off, gates the slice clocks (R66). -/
theorem Mach.synthRelock_gates {m : Mach} (hslice : m.domUp 3 = true) : ∃ tim, m.synthRelock = { m.mintStop.gateSlices with tim } ∧ tim.slices = false := by
  unfold Mach.synthRelock
  rw [if_neg (by simp [hslice])]
  dsimp only
  split
  · exact ⟨_, rfl, by simp⟩
  · exact ⟨_, rfl, by simp⟩

theorem Mach.gateSlices_front (m : Mach) : m.gateSlices.fe.cal = (if m.fe.cal == .running then .notRun else m.fe.cal) ∧
    m.gateSlices.trm.st = m.trm.st := by
  unfold Mach.gateSlices
  dsimp only
  split <;> simp [Mach.undecide]

/-- SLICE usable: the synthesizer relock or its wait, a new calibration, and the trim idle (R130, R260, R281). -/
theorem Mach.domUsable_slice {m : Mach} (h : m.pwr.dom[(3 : Fin 8)] = .switching) : (m.domUsable 3).fe.cal = .notRun ∧
    (m.domUsable 3).boot.acqReady = false ∧ (m.domUsable 3).trm.st = .idle ∧ (m.domUsable 3).tim.slices = false := by
  rw [Mach.domUsable_of_switching (d := 3) ((vget_eq m.pwr.dom (3 : Fin 8)).trans h)]
  obtain ⟨_, htim, hboot, _, _, _, hfe, htrm, _⟩ := (m.domStarted 3).switchNext_keeps
  rw [htim, hboot, hfe, htrm, show m.domStarted 3 = (m.setDom 3 .usable).sliceUp.synthRelock from rfl]
  generalize hx : (m.setDom 3 .usable).sliceUp = x
  have hup : x.domUp 3 = true := by
    rw [← hx, Mach.domUp, (Mach.sliceUp_power _).2]
    exact beq_iff_eq.mpr ((vget_eq _ (3 : Fin 8)).trans (vset_get ..))
  obtain ⟨tim, hrelock, hslices⟩ := Mach.synthRelock_gates hup
  have hstart : x.fe.cal = .notRun ∧ x.boot.acqReady = false ∧ x.trm.st = .idle := by
    rw [← hx]
    unfold Mach.sliceUp
    dsimp only
    rw [Mach.mintUpdate_trm (by rw [Mach.trimOn, Mach.trimIdle_st]; rfl), Mach.trimIdle_st]
    simp
  obtain ⟨hcal, hacq, hst⟩ := hstart
  rw [hrelock]
  refine ⟨(Mach.gateSlices_front _).1.trans ?_, ?_, (Mach.gateSlices_front _).2.trans hst, hslices⟩
  · rw [show x.mintStop.fe.cal = .notRun from hcal]; rfl
  · rw [show ({ x.mintStop.gateSlices with tim } : Mach).boot = x.mintStop.boot from (Mach.gateSlices_keeps _).2.2.1]; exact hacq

/-- STORE usable: DDR5 training starts where nothing else holds it back (R260, R461). -/
theorem Mach.domUsable_store {m : Mach} (h : m.pwr.dom[(4 : Fin 8)] = .switching) (hst : m.store.st = .untrained) (hstep4 : m.boot.step4 = true)
    (hpll : m.boot.onPll = true) : (m.domUsable 4).store.st = .training := by
  rw [Mach.domUsable_of_switching (d := 4) ((vget_eq m.pwr.dom (4 : Fin 8)).trans h)]
  obtain ⟨_, _, _, _, _, _, _, _, _, _, _, _, hstore, _⟩ := (m.domStarted 4).switchNext_keeps
  have hup : (m.setDom 4 .usable).domUp 4 = true := beq_iff_eq.mpr ((vget_eq _ (4 : Fin 8)).trans (vset_get ..))
  rw [hstore, show m.domStarted 4 = (m.setDom 4 .usable).trainingStart from rfl, Mach.trainingStart_of_due hup hst hstep4 hpll]
  rfl

/-! ### Domains requested -/

theorem Mach.domWant_of_same {m n : Mach} (hlanded : n.par.landed = m.par.landed) (hstage : n.pwr.stage = m.pwr.stage)
    (hheld : n.pwr.heldOff = m.pwr.heldOff) (d : Nat) : n.domWant d = m.domWant d := by
  simp only [Mach.domWant, Mach.stageOn, Mach.pval_of_landed hlanded, hstage, hheld]

@[simp] theorem Mach.domOff_boot (m : Mach) (d cause : Nat) : (m.domOff d cause).boot = m.boot := by
  unfold Mach.domOff
  split
  · rfl
  · dsimp only
    split <;> simp [Mach.setDom, Mach.auxOff, Mach.scanOff, Mach.undecide]

/-- The domains of a list that are not to be on, switched off. -/
def Mach.unwantedOff (m : Mach) (ds : List Nat) : Mach := ds.foldl (fun m d => if m.domWant d then m else m.domOff d 8) m

/-- What switching the unwanted domains off does (R92). -/
theorem Mach.unwantedOff_spec (m : Mach) (ds : List Nat) : (m.unwantedOff ds).par.landed = m.par.landed ∧ (m.unwantedOff ds).boot = m.boot ∧
    (∃ dom, (m.unwantedOff ds).pwr = { m.pwr with dom }) ∧ (m.running = false → (m.unwantedOff ds).qre = m.qre ∧ (m.unwantedOff ds).dec = m.dec) ∧
    ∀ d : Fin 8, (m.unwantedOff ds).pwr.dom[d] = if d.val ∈ ds ∧ m.domWant d.val = false then .off else m.pwr.dom[d] := by
  induction ds generalizing m with
  | nil => exact ⟨rfl, rfl, ⟨_, rfl⟩, fun _ => ⟨rfl, rfl⟩, fun d => by simp [Mach.unwantedOff]⟩
  | cons x ds ih =>
    have hcons : m.unwantedOff (x :: ds) = (if m.domWant x then m else m.domOff x 8).unwantedOff ds := rfl
    generalize hy : (if m.domWant x then m else m.domOff x 8) = y at hcons
    have hyl : y.par.landed = m.par.landed ∧ y.boot = m.boot := by rw [← hy]; split <;> simp
    have hyp : ∃ dom, y.pwr = { m.pwr with dom } := by
      rw [← hy]; split
      · exact ⟨_, rfl⟩
      · exact ⟨_, m.domOff_pwr x 8⟩
    have hyd : ∀ d : Fin 8, y.pwr.dom[d] = if x = d.val ∧ m.domWant d.val = false then .off else m.pwr.dom[d] := by
      intro d
      rw [← hy]
      by_cases hw : m.domWant x = true
      · rw [if_pos hw, if_neg fun h => by rw [← h.1, hw] at h; exact absurd h.2 (by decide)]
      · rw [if_neg hw, m.domOff_pwr, vset_get]
        by_cases hx : x = d.val
        · rw [if_pos hx, if_pos ⟨hx, by rw [← hx]; simpa using hw⟩]
        · rw [if_neg hx, if_neg fun h => hx h.1]
    obtain ⟨hlanded, hboot, ⟨dom, hpwr⟩, hidle, hdom⟩ := ih y
    obtain ⟨ydom, hypwr⟩ := hyp
    have hwant : ∀ d, y.domWant d = m.domWant d := Mach.domWant_of_same hyl.1 (by rw [hypwr]) (by rw [hypwr])
    rw [hcons]
    refine ⟨hlanded.trans hyl.1, hboot.trans hyl.2, ⟨dom, by rw [hpwr, hypwr]⟩, fun hrun => ?_, fun d => ?_⟩
    · have hyq : y.qre = m.qre ∧ y.dec = m.dec := by
        rw [← hy]; split
        · exact ⟨rfl, rfl⟩
        · exact Mach.domOff_idle x 8 hrun
      obtain ⟨hqre, hdec⟩ := hidle (by rw [Mach.running, hyq.1]; exact hrun)
      exact ⟨hqre.trans hyq.1, hdec.trans hyq.2⟩
    · rw [hdom, hyd, hwant]
      simp only [List.mem_cons]
      by_cases hw : m.domWant d.val = false
      · simp only [hw, and_true]
        by_cases hmem : d.val ∈ ds
        · simp [hmem]
        · simp [hmem, eq_comm]
      · simp [hw]

theorem Mach.railCheck_of_checked {m : Mach} {d : Nat} (h : m.pwr.checked = 255) (hd : d < 8) : m.railCheck d = m := by
  refine if_pos ?_
  rw [h]
  exact (show ∀ d : Fin 8, (255 : BitVec 8).getLsbD d.val = true by decide) ⟨d, hd⟩

/-- Once every domain's rails have been checked, a domain that switches on changes nothing else. -/
theorem Mach.switchOn_of_checked {m : Mach} {d : Nat} (h : m.pwr.checked = 255) (hd : d < 8) :
    m.switchOn d = if m.domWant d && vget m.pwr.dom d == .off then m.setDom d .switching else m := by
  rw [Mach.switchOn, Mach.railCheck_of_checked h hd]

theorem Mach.switchOn_pwr_of_checked {m : Mach} {d : Nat} (h : m.pwr.checked = 255) (hd : d < 8) : ∃ dom, (m.switchOn d).pwr = { m.pwr with dom } := by
  rw [Mach.switchOn_of_checked h hd]
  split
  · exact ⟨_, rfl⟩
  · exact ⟨_, rfl⟩

/-- A wanted domain that is not usable is switching once its turn has come. -/
theorem Mach.switchOn_switching {m : Mach} {d : Fin 8} (h : m.pwr.checked = 255) (hwant : m.domWant d.val = true) (hup : m.pwr.dom[d] ≠ .usable) :
    (m.switchOn d.val).pwr.dom[d] = .switching := by
  rw [Mach.switchOn_of_checked h d.isLt, hwant, vget_eq]
  cases hdom : m.pwr.dom[d] with
  | off => exact (vset_get ..).trans (if_pos rfl)
  | switching => exact hdom
  | usable => exact absurd hdom hup

theorem Mach.switchOns_switched (m : Mach) (ds : List Nat) : m.Switched (ds.foldl Mach.switchOn m) :=
  List.foldlRecOn (motive := fun x : Mach => m.Switched x) _ _ (.refl m) fun x hx d _ => hx.trans (x.switchOn_switched d)

theorem Mach.switchOns_switching {m : Mach} {ds : List Nat} {d : Fin 8} (hds : ∀ e ∈ ds, e < 8) (h : m.pwr.checked = 255) (hd : d.val ∈ ds)
    (hwant : m.domWant d.val = true) (hup : m.pwr.dom[d] ≠ .usable) : (ds.foldl Mach.switchOn m).pwr.dom[d] = .switching := by
  induction ds generalizing m with
  | nil => exact absurd hd List.not_mem_nil
  | cons x ds ih =>
    have hx := hds x List.mem_cons_self
    obtain ⟨dom, hpwr⟩ := Mach.switchOn_pwr_of_checked h hx
    rw [List.foldl_cons]
    rcases List.mem_cons.mp hd with rfl | hmem
    · have hon := Mach.switchOn_switching h hwant hup
      exact (((m.switchOn d.val).switchOns_switched ds).stays (by rw [hon]; decide)).trans hon
    · refine ih (fun e he => hds e (List.mem_cons_of_mem _ he)) (by rw [hpwr]; exact h) hmem ?_ ?_
      · rw [Mach.domWant_of_same (m := m) (by simp) (by rw [hpwr]) (by rw [hpwr])]
        exact hwant
      · obtain hsame | ⟨_, _, hon⟩ := (m.switchOn_switched x).dom d
        · rw [hsame]; exact hup
        · rw [hon]; decide

theorem bitOf_or_three (v : Word) {d : Fin 8} (hd : 2 ≤ d.val) : bitOf (v ||| 3) d.val = bitOf v d.val := by
  have hthree : (3 : Word).getLsbD d.val = false := by revert d; decide
  rw [bitOf, bitOf, BitVec.getLsbD_or, hthree, Bool.or_false]

theorem Mach.bitOf_domen (m : Mach) (hwf : swf resetOf m.par.landed = true) (v : Word) {d : Fin 8} (hd : 2 ≤ d.val) :
    bitOf ((m.pset 0x501 (v ||| 3)).pval 0x501) d.val = bitOf v d.val := by
  rw [pval_pset m _ _ _ hwf, if_pos rfl, bitOf_or_three v hd]

/-- `PWR.DOMEN` with its write's domains off, those newly requested not yet on. -/
def Mach.domsEnded (m : Mach) (v : Word) : Mach := (m.pset 0x501 (v ||| 3)).unwantedOff [6, 5, 7, 3, 2, 4]

/-- The domains that switch on with a write of `PWR.DOMEN`. -/
def Mach.domsBegun (m : Mach) (v : Word) : List Nat := [6, 5, 7, 3, 2, 4].filter fun d =>
  bitOf v d && !bitOf (m.pval 0x501) d && !(m.domsEnded v).pwr.switchQ.contains d && (m.domsEnded v).domUp 1 && (m.domsEnded v).boot.readIn

theorem Mach.domEnable_eq (m : Mach) (v : Word) : m.domEnable v = ((m.domsBegun v).foldl Mach.switchOn (m.domsEnded v)).queueDomains := rfl

theorem Mach.domEnable_switched (m : Mach) (v : Word) : (m.domsEnded v).Switched (m.domEnable v) :=
  ((m.domsEnded v).switchOns_switched _).trans (Mach.queueDomains_switched _)

/-- A write of `PWR.DOMEN` keeps the other parameters, and with no quire running the decision. -/
theorem Mach.domEnable_rest {m : Mach} (v : Word) (hidle : m.running = false) : (m.domEnable v).par.landed = (m.pset 0x501 (v ||| 3)).par.landed ∧
    (m.domEnable v).dec = m.dec := by
  obtain ⟨hlanded, _, _, hrest, _⟩ := (m.pset 0x501 (v ||| 3)).unwantedOff_spec [6, 5, 7, 3, 2, 4]
  refine ⟨by rw [(m.domEnable_switched v).par]; exact hlanded, ?_⟩
  have hdec : (m.domEnable v).dec = (m.domsEnded v).dec := by
    rw [m.domEnable_eq, (Mach.queueDomains_keeps _).2.2.2.2.2.2.2.2.2.2.1]
    exact foldl_keeps Mach.dec _ (fun x d => by simp) _ _
  exact hdec.trans (hrest hidle).2

theorem Mach.mem_domains {d : Fin 8} (hd : 2 ≤ d.val) : d.val ∈ [6, 5, 7, 3, 2, 4] := by revert d; decide

/-- A domain whose request ends, or is absent, is off (R92). -/
theorem Mach.domEnable_off {m : Mach} {v : Word} (hwf : swf resetOf m.par.landed = true) {d : Fin 8} (hd : 2 ≤ d.val) (hbit : bitOf v d.val = false) :
    (m.domEnable v).pwr.dom[d] = .off := by
  obtain ⟨hlanded, _, ⟨dom, hpwr⟩, _, hdom⟩ := (m.pset 0x501 (v ||| 3)).unwantedOff_spec [6, 5, 7, 3, 2, 4]
  have hwant : (m.pset 0x501 (v ||| 3)).domWant d.val = false := by
    have hzero : (d.val == 0) = false := beq_eq_false_iff_ne.mpr (by omega)
    rw [Mach.domWant, m.bitOf_domen hwf v hd, hbit, hzero]
    rfl
  refine (m.domEnable_switched v).off ((hdom d).trans (if_pos ⟨Mach.mem_domains hd, hwant⟩)) ?_
  exact (Mach.domWant_of_same hlanded (by rw [hpwr]) (by rw [hpwr]) d.val).trans hwant

/-- A requested domain is to be on with no stage in force and nothing keeping it off. -/
theorem Mach.domWant_of_free {m : Mach} {d : Nat} (hreq : bitOf (m.pval 0x501) d = true) (hstage : m.pwr.stage = 0)
    (hfree : m.pwr.heldOff.getLsbD d = false) : m.domWant d = true := by
  have hpos : ¬ domStage d ≤ 0 := by
    obtain ⟨_, h | h⟩ := domStage_spec d <;> omega
  rw [Mach.domWant, Mach.stageOn, hreq, hstage, hfree, decide_eq_false hpos]
  simp

/-- A domain newly requested switches on where nothing holds it back (R92, R94). -/
theorem Mach.domEnable_on {m : Mach} {v : Word} (hwf : swf resetOf m.par.landed = true) {d : Fin 8} (hd : 2 ≤ d.val) (hbit : bitOf v d.val = true)
    (hwas : bitOf (m.pval 0x501) d.val = false) (hcore : m.domUp 1 = true) (hread : m.boot.readIn = true) (hq : m.pwr.switchQ = [])
    (hchecked : m.pwr.checked = 255) (hheld : m.pwr.heldOff = 0) (hstage : m.pwr.stage = 0) (hoff : m.pwr.dom[d] = .off) :
    (m.domEnable v).pwr.dom[d] = .switching := by
  obtain ⟨hlanded, hboot, ⟨dom, hpwr⟩, _, hdom⟩ := (m.pset 0x501 (v ||| 3)).unwantedOff_spec [6, 5, 7, 3, 2, 4]
  change (m.domsEnded v).par.landed = _ at hlanded
  change (m.domsEnded v).boot = m.boot at hboot
  change (m.domsEnded v).pwr = { m.pwr with dom } at hpwr
  change ∀ d : Fin 8, (m.domsEnded v).pwr.dom[d] = _ at hdom
  have hwant : (m.domsEnded v).domWant d.val = true := by
    rw [Mach.domWant_of_same hlanded (by rw [hpwr]; rfl) (by rw [hpwr]; rfl)]
    exact Mach.domWant_of_free ((m.bitOf_domen hwf v hd).trans hbit) hstage
      (by rw [show (m.pset 0x501 (v ||| 3)).pwr.heldOff = 0 from hheld]; exact BitVec.getLsbD_zero)
  have hcore' : (m.domsEnded v).domUp 1 = true := by
    have hone : (m.domsEnded v).pwr.dom[(1 : Fin 8)] = m.pwr.dom[(1 : Fin 8)] := (hdom 1).trans (if_neg (by simp))
    rw [← hcore, Mach.domUp, Mach.domUp]
    exact congrArg (· == .usable) ((vget_eq _ (1 : Fin 8)).trans (hone.trans (vget_eq _ (1 : Fin 8)).symm))
  have hoff' : (m.domsEnded v).pwr.dom[d] = .off := by
    rw [hdom]
    split
    · rfl
    · exact hoff
  have hbegun : d.val ∈ m.domsBegun v := by
    refine List.mem_filter.mpr ⟨Mach.mem_domains hd, ?_⟩
    simp [hbit, hwas, hcore', hboot, hread, hpwr, hq]
  have hlt : ∀ e ∈ m.domsBegun v, e < 8 := fun e he => by
    have hmem := (List.mem_filter.mp he).1
    simp only [List.mem_cons, List.not_mem_nil, or_false] at hmem
    omega
  have hon := Mach.switchOns_switching hlt (by rw [hpwr]; exact hchecked) hbegun hwant (by rw [hoff']; decide)
  rw [m.domEnable_eq]
  exact ((Mach.queueDomains_switched _).stays (by rw [hon]; decide)).trans hon

/-- A permitted write of `PWR.DOMEN` lands: besides what it does to the domains, only its pin moves and requests are served. -/
theorem Mach.landReg_domen {m : Mach} {v : Word} (hok : valueOk 0x501 v = true) (hidle : m.running = false) (hwaiting : m.dec.waiting = false) :
    ∃ hall pins, m.landReg 0x501 v =
      ({ ({ m with hall } : Mach).domEnable v with par := { (({ m with hall } : Mach).domEnable v).par with pins } } : Mach).serve := by
  have hone (hall : Hall) : ({ m with hall } : Mach).landOne none 0x501 v = ({ m with hall } : Mach).domEnable v := rfl
  obtain ⟨hall, pins, hland⟩ := Mach.landReg_one hok (by decide) (by decide) fun hall => by
    rw [hone hall, (Mach.domEnable_rest (m := { m with hall }) v hidle).2]
    exact hwaiting
  exact ⟨hall, pins, hland.trans (by rw [hone hall])⟩

/-! ### Rails that return -/

/-- The rails of a list counted again. -/
def railsCounted (v : Vector Rail 9) (rs : List Nat) : Vector Rail 9 := rs.foldl (fun v r => vmod v r fun x => { x with absent := false }) v

theorem railsCounted_get (v : Vector Rail 9) (rs : List Nat) (r : Fin 9) :
    (railsCounted v rs)[r] = if r.val ∈ rs then { v[r] with absent := false } else v[r] := by
  induction rs generalizing v with
  | nil => simp [railsCounted]
  | cons x rs ih =>
    rw [show railsCounted v (x :: rs) = railsCounted (vmod v x fun x => { x with absent := false }) rs from rfl, ih, vmod_get]
    simp only [List.mem_cons]
    by_cases hx : x = r.val
    · simp [hx]
    · simp [hx, Ne.symm hx]

theorem Mach.modRails_eq (m : Mach) (rs : List Nat) : rs.foldl (fun m r => m.modRail r fun x => { x with absent := false }) m =
    { m with pwr := { m.pwr with rails := railsCounted m.pwr.rails rs } } := by
  induction rs generalizing m with
  | nil => rfl
  | cons r rs ih => rw [List.foldl_cons, ih]; rfl

/-- Domains no longer kept off, their rails counted again. -/
def Mach.domsReturned (m : Mach) (ds : List Nat) : Mach :=
  ds.foldl (fun m d => (domRails d).foldl (fun m r => m.modRail r fun x => { x with absent := false })
    { m with pwr := { m.pwr with heldOff := m.pwr.heldOff &&& ~~~((1 : BitVec 8) <<< d) } }) m

theorem heldOff_cleared (h : BitVec 8) (x : Nat) (d : Fin 8) : (h &&& ~~~((1 : BitVec 8) <<< x)).getLsbD d.val = (h.getLsbD d.val && !decide (x = d.val)) := by
  have hlt := d.isLt
  simp only [BitVec.getLsbD_and, BitVec.getLsbD_not, BitVec.getLsbD_shiftLeft]
  by_cases hx : x = d.val
  · simp [hx]
  · by_cases hlt' : d.val < x
    · simp [hlt, hlt', hx]
    · simp [hlt, hx, show d.val - x ≠ 0 by omega]

theorem Mach.domsReturned_spec (m : Mach) (ds : List Nat) : ∃ heldOff rails, m.domsReturned ds = { m with pwr := { m.pwr with heldOff, rails } } ∧
    (∀ d : Fin 8, heldOff.getLsbD d.val = (m.pwr.heldOff.getLsbD d.val && !decide (d.val ∈ ds))) ∧
    ∀ r : Fin 9, rails[r] = if ∃ d ∈ ds, r.val ∈ domRails d then { m.pwr.rails[r] with absent := false } else m.pwr.rails[r] := by
  induction ds generalizing m with
  | nil => exact ⟨_, _, rfl, fun d => by simp, fun r => by simp⟩
  | cons x ds ih =>
    obtain ⟨heldOff, rails, heq, hheld, hrails⟩ := ih { m with pwr := { m.pwr with
      heldOff := m.pwr.heldOff &&& ~~~((1 : BitVec 8) <<< x), rails := railsCounted m.pwr.rails (domRails x) } }
    refine ⟨heldOff, rails, ?_, fun d => ?_, fun r => ?_⟩
    · rw [show m.domsReturned (x :: ds) = _ from congrArg (fun y : Mach => y.domsReturned ds) (Mach.modRails_eq _ (domRails x))]
      exact heq
    · rw [hheld, heldOff_cleared, Bool.and_assoc, ← Bool.not_or]
      simp only [List.mem_cons, Bool.decide_or, eq_comm]
    · rw [hrails, railsCounted_get]
      simp only [List.mem_cons, exists_eq_or_imp]
      by_cases hx : r.val ∈ domRails x
      · simp [hx]
      · simp [hx]

/-- Domains that rails' return brings back (R131). -/
def Mach.domBack (m : Mach) (d : Nat) : Bool := m.pwr.heldOff.getLsbD d && (domRails d).all fun r => vget (vget m.pwr.rails r).above 0 == 64

theorem Mach.railReturn_of_none {m : Mach} (h : (List.range 8).any m.domBack = false) : m.railReturn = m := by
  have hnil : (List.range 8).filter m.domBack = [] := List.filter_eq_nil_iff.mpr fun d hd => by simpa using (List.any_eq_false.mp h) d hd
  exact if_pos (by rw [show (List.range 8).filter (fun d => m.pwr.heldOff.getLsbD d && (domRails d).all fun r =>
    vget (vget m.pwr.rails r).above 0 == 64) = [] from hnil]; rfl)

theorem Mach.railReturn_of_some {m : Mach} (h : (List.range 8).any m.domBack = true) :
    m.railReturn = (m.domsReturned ((List.range 8).filter m.domBack)).queueDomains := by
  refine if_neg fun hnil => ?_
  obtain ⟨d, hd, hback⟩ := List.any_eq_true.mp h
  have hmem : d ∈ (List.range 8).filter m.domBack := List.mem_filter.mpr ⟨hd, hback⟩
  rw [show (List.range 8).filter m.domBack = [] from List.isEmpty_iff.mp hnil] at hmem
  exact List.not_mem_nil hmem

theorem Mach.switchNextN_of_checked {m : Mach} (n : Nat) (h : m.pwr.checked = 255) (hq : ∀ d ∈ m.pwr.switchQ, d < 8) :
    ∃ dom switchQ, (Mach.switchNextN n m).pwr = { m.pwr with dom, switchQ } := by
  induction n generalizing m with
  | zero => exact ⟨_, _, rfl⟩
  | succ n ih =>
    unfold Mach.switchNextN
    split
    · exact ⟨_, _, rfl⟩
    split
    next => exact ⟨_, _, rfl⟩
    next d q hcons =>
      split
      · exact ⟨_, _, rfl⟩
      obtain ⟨dom, hpwr⟩ := Mach.switchOn_pwr_of_checked (m := { m with pwr := { m.pwr with switchQ := q } }) (d := d) h
        (hq d (hcons ▸ List.mem_cons_self))
      obtain ⟨dom', q', hrest⟩ := ih (m := ({ m with pwr := { m.pwr with switchQ := q } } : Mach).switchOn d) (by rw [hpwr]; exact h)
        (by rw [hpwr]; exact fun e he => hq e (hcons ▸ List.mem_cons_of_mem _ he))
      exact ⟨dom', q', by rw [hrest, hpwr]⟩

/-- The domains to switch on, in R121's order. -/
def Mach.domsQueued (m : Mach) : List Nat := [1, 4, 2, 3, 7, 5, 6].filter fun d => m.pwr.switchQ.contains d || (m.domWant d && vget m.pwr.dom d == .off)

theorem Mach.queueDomains_eq (m : Mach) : m.queueDomains = Mach.switchNextN 8 { m with pwr := { m.pwr with switchQ := m.domsQueued } } := rfl

theorem Mach.queueDomains_of_checked {m : Mach} (h : m.pwr.checked = 255) : ∃ dom switchQ, m.queueDomains.pwr = { m.pwr with dom, switchQ } := by
  obtain ⟨dom, q, hpwr⟩ := Mach.switchNextN_of_checked (m := { m with pwr := { m.pwr with switchQ := m.domsQueued } }) 8 h fun d hd => by
    have hmem := (List.mem_filter.mp hd).1
    simp only [List.mem_cons, List.not_mem_nil, or_false] at hmem
    omega
  exact ⟨dom, q, by rw [m.queueDomains_eq, hpwr]⟩

theorem domain_filter : ∀ d : Fin 8, d.val ≠ 0 → [1, 4, 2, 3, 7, 5, 6].filter (fun e => decide (e = d.val)) = [d.val] := by decide

/-- The one domain that is off and wanted switches on, nothing else switching. -/
theorem Mach.queueDomains_single {m : Mach} {d : Fin 8} (hd : d.val ≠ 0) (hchecked : m.pwr.checked = 255)
    (hq : m.pwr.switchQ = []) (hread : m.boot.readIn = true)
    (hwant : m.domWant d.val = true) (hdom : ∀ e : Fin 8, m.pwr.dom[e] = if e = d then .off else .usable) : m.queueDomains.pwr.dom[d] = .switching := by
  have hget : ∀ e < 8, vget m.pwr.dom e = if e = d.val then .off else .usable := fun e he => by
    rw [show vget m.pwr.dom e = _ from vget_eq m.pwr.dom ⟨e, he⟩, hdom]
    simp [Fin.ext_iff]
  have hqueued : m.domsQueued = [d.val] := by
    have hfilter : m.domsQueued = [1, 4, 2, 3, 7, 5, 6].filter fun e => decide (e = d.val) := List.filter_congr fun e he => by
      simp only [List.mem_cons, List.not_mem_nil, or_false] at he
      rw [hq, hget e (by omega)]
      by_cases hed : e = d.val
      · simp [hed, hwant]
      · simp [hed]
    exact hfilter.trans (domain_filter d hd)
  have hnone : ((List.range 8).any fun e => vget m.pwr.dom e == .switching) = false := List.any_eq_false.mpr fun e he => by
    rw [hget e (List.mem_range.mp he)]
    split <;> decide
  rw [m.queueDomains_eq, hqueued]
  have hstep : Mach.switchNextN 8 { m with pwr := { m.pwr with switchQ := [d.val] } } =
      Mach.switchNextN 7 (({ m with pwr := { m.pwr with switchQ := [] } } : Mach).switchOn d.val) :=
    (if_neg (by rw [hnone]; decide)).trans (if_neg (by simp [hread]))
  have hon := Mach.switchOn_switching (m := { m with pwr := { m.pwr with switchQ := [] } }) hchecked hwant (by rw [hdom d, if_pos rfl]; decide)
  rw [hstep]
  exact ((Mach.switchNextN_switched 7 _).stays (by rw [hon]; decide)).trans hon

/-- Rails' return changes the power state, and what records show. -/
theorem Mach.railReturn_eq (m : Mach) : m.railReturn = { m with
    pwr := m.railReturn.pwr, flt := m.railReturn.flt, ctl := m.railReturn.ctl, spn := m.railReturn.spn } := by
  have h := m.railReturn_keeps
  generalize m.railReturn = n at h
  cases n
  simp_all

end Sys2Proof.Machine

open Sys2Proof.Machine

/-- Settles O34, by clauses: the stages' actions only switch domains off, and switching on never touches a domain that an entered stage
sheds; the other clauses follow what each command does to the power state. -/
theorem powerStagesAndDomainsSwitch : Obligations.PowerStagesAndDomainsSwitch := by
  unfold Obligations.PowerStagesAndDomainsSwitch
  refine ⟨⟨?_, ?_, ?_, ?_, ?_, ?_⟩, ?_, ?_, ?_, ?_, ?_⟩
  · intro r samples s hawake m0 run on top
    obtain ⟨x, hx, hpar, ⟨rails, lows, hpwr⟩, hon, heq⟩ := s.m.shedEnter_cases r.val samples
    have htop : s.m.shedTop r.val samples = top := rfl
    have hstage : x.pwr.stage = s.m.pwr.stage := by rw [hpwr]
    rw [htop] at heq
    refine ⟨fun hle => State.run_to (f := (·.shedEnter r.val samples)) hawake ((heq.trans (if_pos hle)).trans hx), fun hlt => ?_⟩
    rw [if_neg (Nat.not_le.mpr hlt)] at heq
    obtain ⟨hlt7, hen⟩ := Mach.shedTop_spec (m := s.m) (r := r.val) (samples := samples) (by omega)
    rw [htop] at hlt7 hen
    obtain ⟨hlanded, hst, hhold, hrail, hlast, hcnt⟩ := Mach.enterStages_spec (m := x) r.val (by rw [hstage]; exact hlt) hlt7 (by rw [hon]; exact hen)
    refine ⟨_, State.run_to (f := (·.shedEnter r.val samples)) hawake heq, rfl, hst, ?_, hrail, hlast, ?_, ?_, ?_, ?_, ?_⟩
    · exact hhold.trans (by rw [hpwr])
    · change (x.enterStages top r.val).pwr.cnt.toNat = (s.m.pwr.cnt.toNat + (s.m.stagesEntered top).length) % 2 ^ 32
      rw [hcnt, show x.stagesEntered top = s.m.stagesEntered top by rw [Mach.stagesEntered, Mach.stagesEntered, hstage, hon],
        show x.pwr.cnt = s.m.pwr.cnt by rw [hpwr], w32, BitVec.toNat_add, BitVec.toNat_ofNat, Nat.add_mod_mod]
    · intro hzero hsix hone
      change top = 6 at hsix
      rw [hsix]
      obtain ⟨hoff, hrecord, hidle, hstaging, hcommit⟩ := Mach.enterStages_six (m := x) r.val (hstage.trans hzero) (by rw [hon]; exact hone)
      exact ⟨hoff, hrecord, hidle, hstaging, hcommit⟩
    · intro hone hzero
      exact Mach.enterStages_scan r.val (hstage.trans hzero) (by omega) hlt7 (by rw [hon]; exact hen) (by rw [hon]; exact hone)
    · change (x.enterStages top r.val).tim.beats = s.m.tim.beats
      rw [← heq, Mach.shedEnter_beats]
    · exact Mach.pval_of_landed (hlanded.trans (by rw [hpar])) _
  · intro s hawake hclk hhold
    obtain ⟨hpar, hstage, _, hsame, hentered⟩ := Mach.leaveStages_spec s.m.stageKept_le
    refine ⟨_, State.run_to (f := (·.shedExit)) hawake (Mach.shedExit_of_free hclk hhold), rfl, hstage, fun h => ?_, hentered,
      Mach.leaveStages_beats .., by rw [hpar]⟩
    rw [hsame h]
  · exact fun s h => State.run_of_eq (f := (·.shedExit)) (Mach.shedExit_of_held h)
  · intro s hawake hhold hrec hclk
    obtain ⟨_, hstage, hfree, _⟩ := Mach.leaveStages_spec (Mach.stageKept_le { s.m with pwr := { s.m.pwr with hold := false } })
    exact ⟨_, State.run_to (f := (·.pwrRecover 1)) hawake ((Mach.pwrRecover_one hhold hrec).trans (Mach.shedExit_of_free hclk rfl)), rfl, hfree, hstage⟩
  · exact fun s hawake hhold hrec hclk => State.run_to (f := (·.pwrRecover 1)) hawake
      ((Mach.pwrRecover_one hhold hrec).trans (Mach.shedExit_of_held (.inr hclk)))
  · exact fun s h => State.run_of_eq (f := (·.pwrRecover 1)) (Mach.pwrRecover_of_low 1 h)
  · exact fun k v s h => State.run_of_eq (f := fun m => if m.domRefused k v then m else m.landReg 0x501 v) (if_pos h)
  · intro k v s hawake hpermitted hok hwf hidle hwaiting
    obtain ⟨hall, pins, hland⟩ := Mach.landReg_domen hok hidle hwaiting
    obtain ⟨hlanded, _⟩ := Mach.domEnable_rest (m := { s.m with hall }) v hidle
    have hpval : ∀ a, (s.m.landReg 0x501 v).pval a = if a = 0x501 then v ||| 3 else s.m.pval a := fun a => by
      rw [hland, ← pval_pset s.m _ _ _ hwf]
      exact Mach.pval_of_landed (by rw [(Mach.serve_keeps _).1]; exact hlanded) a
    have hpwr : (s.m.landReg 0x501 v).pwr = (({ s.m with hall } : Mach).domEnable v).pwr := by rw [hland, (Mach.serve_keeps _).2.2.1]
    refine ⟨_, State.run_to (f := fun m => if m.domRefused k v then m else m.landReg 0x501 v) hawake (if_neg (by rw [hpermitted]; decide)), rfl,
      (hpval _).trans (if_pos rfl), fun a ha => (hpval a).trans (if_neg ha), ?_,
      fun d hd hbit => ?_, fun d hd hbit hwas hcore hread hq hchecked hheld hstage hoff => ?_⟩
    · change (s.m.landReg 0x501 v).tim.beats = s.m.tim.beats
      rw [hland, (Mach.serve_keeps _).2.1]
      exact Mach.domEnable_beats _ v
    · exact (congrArg (fun p : Pwr => p.dom[d]) hpwr).trans (Mach.domEnable_off (m := { s.m with hall }) hwf hd hbit)
    · exact (congrArg (fun p : Pwr => p.dom[d]) hpwr).trans
        (Mach.domEnable_on (m := { s.m with hall }) hwf hd hbit hwas hcore hread hq hchecked hheld hstage hoff)
  · intro d s hawake hswitching
    obtain ⟨hup, hothers, hlanded⟩ := Mach.domUsable_spec hswitching
    refine ⟨_, State.run_to (f := (·.domUsable d.val)) hawake rfl, rfl, hup, hothers, hlanded, Mach.domUsable_beats .., fun hd hexhausted => ?_,
      fun hd => ?_, fun hd => ?_, fun hd hst hstep4 hpll => ?_⟩
    · obtain rfl : d = 1 := Fin.ext hd
      exact Mach.domUsable_core hswitching hexhausted
    · obtain rfl : d = 2 := Fin.ext hd
      exact Mach.domUsable_front hswitching
    · obtain rfl : d = 3 := Fin.ext hd
      exact Mach.domUsable_slice hswitching
    · obtain rfl : d = 4 := Fin.ext hd
      exact Mach.domUsable_store hswitching hst hstep4 hpll
  · exact fun d s h => State.run_of_eq (f := (·.domUsable d.val)) (Mach.domUsable_of_other (by rw [vget_eq]; exact h))
  · intro s hawake back
    change ((List.range 8).any s.m.domBack = false → _) ∧ (_ → (List.range 8).any s.m.domBack = true → _)
    refine ⟨fun hnone => State.run_of_eq (f := (·.railReturn)) (Mach.railReturn_of_none hnone), fun hchecked hsome => ?_⟩
    obtain ⟨heldOff, rails, hreturned, hheld, hrails⟩ := s.m.domsReturned_spec ((List.range 8).filter s.m.domBack)
    have hmem : ∀ d : Fin 8, d.val ∈ (List.range 8).filter s.m.domBack ↔ back d.val = true := fun d => by
      rw [List.mem_filter, List.mem_range]
      exact and_iff_right d.isLt
    have heq := Mach.railReturn_of_some hsome
    rw [hreturned] at heq
    obtain ⟨dom, q, hpwr⟩ := Mach.queueDomains_of_checked (m := { s.m with pwr := { s.m.pwr with heldOff, rails } }) hchecked
    rw [← heq] at hpwr
    refine ⟨_, State.run_to (f := (·.railReturn)) hawake rfl, congrArg s.withEngine s.m.railReturn_eq,
      fun d => ?_, fun r => ?_, fun d hd hback hreq hstage hread hq hdom => ?_⟩
    · change s.m.railReturn.pwr.heldOff.getLsbD d.val = _
      rw [hpwr]
      refine (hheld d).trans ?_
      rw [show decide (d.val ∈ (List.range 8).filter s.m.domBack) = back d.val from Bool.eq_iff_iff.mpr (decide_eq_true_iff.trans (hmem d))]
    · change s.m.railReturn.pwr.rails[r] = _
      rw [hpwr]
      refine (hrails r).trans (ite_of_iff ?_ _ _)
      simp only [List.any_eq_true, List.mem_filter, Bool.and_eq_true, List.contains_iff_mem, and_assoc]
      rfl
    · change s.m.railReturn.pwr.dom[d] = .switching
      rw [heq]
      refine Mach.queueDomains_single (m := { s.m with pwr := { s.m.pwr with heldOff, rails } }) hd hchecked hq hread ?_ hdom
      refine Mach.domWant_of_free hreq hstage ((hheld d).trans ?_)
      rw [decide_eq_true ((hmem d).mpr hback), Bool.not_true, Bool.and_false]

end
